-- ==== Sys2Proof/Word.lean ====
section
/-! DEFINITION. The word types of the MK8 (R9, R11, R16): bytes, the 8- to 64-bit words that wrap, raw FP32 words. -/

namespace Sys2Proof

/-- A byte is 8 bits (R9). -/
abbrev Byte := BitVec 8
/-- 16-bit words: epochs and error codes (R16). -/
abbrev Word16 := BitVec 16
/-- 32-bit words: queue counts, tags, step numbers (R16, R210). -/
abbrev Word32 := BitVec 32
/-- 64-bit words (R16). -/
abbrev Word64 := BitVec 64
/-- The raw bits of an IEEE 754 binary32 value (R21, R25). -/
abbrev F32 := BitVec 32

end Sys2Proof
end

