-- ==== Sys2Proof/Syntax.lean ====
section
/-! DEFINITION. The commands of the block: one constructor of `Instr` for each row of the table of operations and events,
with the operands the environment supplies. Every command carries `dt`, the stamp units (0.25 ns) since the command before
it (assumption log 1); measurements, random draws and firmware choices are operands too (assumption log 2). -/

namespace Sys2Proof

/-- Where an uncorrectable error lies: in the cells of bench, HBM or sill, in the data of a loft line, or in a tag of a loft set
(Table 5-10). -/
inductive MemPart where
  | cell
  | loftData
  | loftTag
deriving DecidableEq, Repr

/-- What a hardware checker finds while a command runs (R125, R161, R194, R461). -/
inductive Diag where
  /-- A mod-7 residue mismatch: column and stage (0 block partial, 1 alignment, 2 drain), R126. -/
  | residue (column stage : Nat)
  /-- A mod-3 residue, compare, CRC or update-compare mismatch of the unit that runs the command (R161, R461). -/
  | mismatch
  /-- The planer compare of R461 inside a haul. -/
  | planer
  /-- An uncorrectable memory error at a physical address: in a memory, or in the loft line or set of an HBM address (R194, R195). -/
  | memory (part : MemPart) (addr : Nat)
deriving DecidableEq, Repr

/-- The path a fabric message arrived on (R281). -/
inductive Via where
  | rafter (link : Nat)
  | purlin (port : Nat)
deriving DecidableEq, Repr

/-- The Cranany header of Table 8-7 but for the type, which the row of the table fixes. -/
structure FabHdr where
  version : Nat
  flags : Nat
  srcDevice : Nat
  dstDevice : Nat
  roleEpoch : Nat
  srcCtx : Nat
  dstCtx : Nat
  srcCtxEpoch : Nat
  dstCtxEpoch : Nat
  mortise : Nat
  length : Nat
  dstAddr : Nat
  stamp : Nat
  seq : Nat
  srcSlot : Nat
  srcQueue : Nat
  msgIndex : Nat
  msgCount : Nat
  value : Nat
  aux : Nat
  code : Nat
  pcrc : Nat
  hcrc : Nat
deriving DecidableEq, Repr

/-- A fabric message as it arrives: whether FCS and UDP checksum held, a reserved type that the header carries in place of the row's,
header, payload (R285). -/
structure FabMsg where
  ok : Bool
  typ : Option Nat
  hdr : FabHdr
  payload : List Byte
deriving DecidableEq, Repr

/-- The host header of Table 11-3 but for the type. -/
structure HostHdr where
  version : Nat
  flags : Nat
  session : Nat
  tag : Nat
  ctx : Nat
  ctxEpoch : Nat
  length : Nat
  addr : Nat
  seq : Nat
  ackSeq : Nat
  stamp : Nat
  value : Nat
  aux : Nat
  code : Nat
  pcrc : Nat
  hcrc : Nat
deriving DecidableEq, Repr

/-- A host message as it arrives: the UDP source address in 16 bytes, an IPv4 one in the last 4 of them, the destination address and UDP
port, whether FCS and UDP checksum held, a reserved type that the header carries in place of the row's, header, payload (R363, R366, R370). -/
structure HostMsg where
  src : List Byte
  dst : Nat
  dstPort : Nat
  ok : Bool
  typ : Option Nat
  hdr : HostHdr
  payload : List Byte
deriving DecidableEq, Repr

/-- The Efyth header of Table 12-2 but for the type. -/
structure EfythHdr where
  version : Nat
  flags : Nat
  seq : Nat
  index : Nat
  sub : Nat
  length : Nat
  offset : Nat
  code : Nat
  device : Nat
  stamp : Nat
deriving DecidableEq, Repr

/-- An Efyth frame: source and destination MAC, whether the FCS held, a reserved type or one that no station sends that the header carries
in place of the row's, header, the bytes after the header (R387, R388, R390). -/
structure EfythMsg where
  src : Nat
  dst : Nat
  ok : Bool
  typ : Option Nat
  hdr : EfythHdr
  payload : List Byte
deriving DecidableEq, Repr

/-- The placer's knowledge of one device of a job (R205, R214): its context there and the epochs in force. -/
structure Peer where
  device : Nat
  ctx : Nat
  ctxEpoch : Nat
  roleEpoch : Nat
deriving DecidableEq, Repr

/-- A phantom tensor command that the placer inserts into a command stream (R205, R308): the directory index of the stream's
section, the item before which it goes, and the 128 bytes of its slot as a number. -/
structure Phantom where
  sect : Nat
  item : Nat
  slot : Nat
deriving DecidableEq, Repr

/-- The choices that the manual leaves to the placer (R1, R205, R213): the device bay of each logical bay, the physical
pages it would rather use, the values of the remote words in order, what it knows of the other devices, and the phantom commands
of the phantom heads in the order of their insertion. -/
structure Placement where
  bayMap : List Nat
  pages : List Nat
  remotes : List Peer
  peers : List Peer
  phantoms : List Phantom
deriving DecidableEq, Repr

/-- What a dictionary write may need beside its value: the placer's choices, and whether a programmed image reads back well. -/
structure Aux where
  place : Placement
  readBack : Bool
deriving DecidableEq, Repr

/-- What OBJECT_WRITE writes: a subindex of an object of the dictionary, or 8 bytes of the control region at an address, by a management
core (Tables 1-5, 13-1, 13-10). -/
inductive WriteTarget where
  | object (idx : Nat)
  | register (core : Nat)
deriving DecidableEq, Repr

/-- An IEEE 1588 Announce message: its domain, and the data set of the master that sends it, which ranks it (R377). -/
structure PtpAnnounce where
  domain : Nat
  rank : List Nat
deriving DecidableEq, Repr

/-- An IEEE 1588 Sync message: its domain, and the offset in ns of the own clock from the master that it shows (R381). -/
structure PtpSync where
  domain : Nat
  offset : Int
deriving DecidableEq, Repr

/-- One sampled occurrence of a performance event (Table 13-11). -/
structure Occurrence where
  bay : Nat
  event : Nat
  addr : Nat
  tag : Nat
  slotIndex : Nat
  ctx : Nat
  queue : Nat
  opcode : Nat
  latency : Nat
deriving DecidableEq, Repr

/-- One ledger window's estimator outputs, in nJ and bytes (R442). Accounts: a context ID, or 4,096 for ballast. -/
structure Estimates where
  /-- (beam die, account, switching energy) -/
  dyn : List (Nat × Nat × Nat)
  /-- leakage, clock trees and idle bays of each beam die -/
  stat : List Nat
  /-- (context, HBM bytes, sill bytes, link bytes) -/
  traffic : List (Nat × Nat × Nat × Nat)
  /-- base_model: everything else -/
  base : Nat
deriving DecidableEq, Repr

/-- The regulator status that the MK8 reads after VR_ALERT_N (R454). -/
inductive VrStatus where
  | overCurrent
  | overTemperature (die : Nat)
  | underVoltage
  | other
deriving DecidableEq, Repr

/-- The fused values of one part (R31, R60, R405, R407, R455, R503 to R505, R509). -/
structure Fuses where
  serial : Nat
  dieRevs : List Nat
  week : Nat
  romVersion : Nat
  romDigest : List Byte
  keyDigest : List Byte
  minSecurity : Nat
  debugLock : Bool
  endorsement : List Byte
  macHost0 : Nat
  macHost1 : Nat
  macMgmt : Nat
  wearBudget : Nat
  wearCaps : List Nat
  spares : List Nat
  /-- enabled physical bays of each beam die, ascending (R31) -/
  bayMap : List (List Nat)
deriving DecidableEq, Repr

/-- What a cold boot finds outside the part (R435, R488, R492, R494): the straps, and the fuse row, flash image region and
persistence banks where they are not those the state holds. -/
structure BootEnv where
  straps : Nat
  /-- RESET_N, PG_SOC and every PG_BEAMn are high -/
  powered : Bool
  rngPass : Bool
  epochDraws : List Nat
  fuses : Option Fuses
  flash : Option (List Byte)
  banks : Option (List Byte × List Byte)
  /-- units out of service that test good at boot (R481), by the keys of their deductions -/
  goodUnits : List Nat
  place : Placement
deriving DecidableEq, Repr

/-- What leads to a firmware fault (R475): an access of a management core, which its rights may refuse (R46), or what the firmware or its
memories find. -/
inductive FwCause where
  | access (addr : Nat) (bytes : Nat) (isWrite : Bool)
  | memory
  | consistency
deriving DecidableEq, Repr

/-- The commands: one constructor per row of the table. -/
inductive Instr where
  /-- OBJECT_WRITE, R396: A write to a dictionary object or register that has no row of its own; it is clamped under R23 and takes effect whole, in arrival order. -/
  | objectWrite (dt : Nat) (target : WriteTarget) (place : Nat) (val : List Byte) (aux : Aux)
  /-- CLAMP_COUNTER_CLEAR, R393: A write of 1 to a 0xNNFF.02 object sets that region's clamp counter to 0. -/
  | clampCounterClear (dt : Nat) (idx : Nat) (v : Nat)
  /-- RESOURCE_REARM, R57: A telemetry or debug function that lost a resource re-arms by itself once the resource is free again. -/
  | resourceRearm (dt : Nat) (unit : Nat)
  /-- REFUSAL_COUNTERS_CLEAR, R61: A write of 1 to 0x2042.01 clears the refusal counters and the last-refusal record. -/
  | refusalCountersClear (dt : Nat) (v : Nat)
  /-- DIE_PATH_LANE_LOSS, R37: A die-to-die path loses a lane; a spare replaces it, or the path is marked down and its traffic is routed around it. -/
  | diePathLaneLoss (dt : Nat) (path : Nat) (spare : Bool)
  /-- PLANER_COUNTERS_CLEAR, R94: A write of 1 to 0x2112.01 clears the planer counters. -/
  | planerCountersClear (dt : Nat) (v : Nat)
  /-- TENSOR_PRODUCT, R122: Opcode 0x10 runs a tile over its K-chunks and passes, accumulating block partials into the accumulator words. -/
  | tensorProduct (dt : Nat) (e : Nat) (diag : Option Diag)
  /-- TILE_EPILOGUE, R122: Once every accumulator holds its last group, the tile is checked, emitted, its record written and it commits. -/
  | tileEpilogue (dt : Nat) (e : Nat) (diag : Option Diag)
  /-- TENSOR_COUNTERS_CLEAR, R131: A write of 1 to 0x2122.01 clears the tensor engine counters. -/
  | tensorCountersClear (dt : Nat) (v : Nat)
  /-- RMS_FORWARD, R141: Opcode 0x20 computes forward RMS normalisation rows. -/
  | rmsForward (dt : Nat) (e : Nat) (diag : Option Diag)
  /-- RMS_BACKWARD, R140: Opcode 0x21 recomputes the forward statistics and computes the RMS normalisation gradients. -/
  | rmsBackward (dt : Nat) (e : Nat) (diag : Option Diag)
  /-- LAYER_FORWARD, R141: Opcode 0x22 computes forward layer normalisation rows. -/
  | layerForward (dt : Nat) (e : Nat) (diag : Option Diag)
  /-- LAYER_BACKWARD, R140: Opcode 0x23 recomputes the forward statistics and computes the layer normalisation gradients. -/
  | layerBackward (dt : Nat) (e : Nat) (diag : Option Diag)
  /-- SOFTMAX_FORWARD, R141: Opcode 0x24 computes forward softmax rows. -/
  | softmaxForward (dt : Nat) (e : Nat) (diag : Option Diag)
  /-- SOFTMAX_BACKWARD, R140: Opcode 0x25 recomputes the softmax and computes its gradient. -/
  | softmaxBackward (dt : Nat) (e : Nat) (diag : Option Diag)
  /-- FP32_ADD, R137: Opcode 0x28 adds src into dst in FP32 in element order. -/
  | fp32Add (dt : Nat) (e : Nat) (diag : Option Diag)
  /-- HAUL, R224: Opcode 0x30 with stick op 0 moves or converts data locally through the planer. -/
  | haul (dt : Nat) (e : Nat) (diag : Option Diag)
  /-- REMOTE_HAUL, R282: A haul on haul engine 0 with the remote bit set sends its data to another device as Cranany messages and awaits the acknowledgement. -/
  | remoteHaul (dt : Nat) (e : Nat) (diag : Option Diag)
  /-- PUSH, R147: A haul with stick op 1 pushes a stick with header and digest onto a sticker segment. -/
  | push (dt : Nat) (e : Nat) (diag : Option Diag)
  /-- POP, R148: A haul with stick op 2 checks and pops the top stick of a segment. -/
  | pop (dt : Nat) (e : Nat) (diag : Option Diag)
  /-- POP_AND_HOLD, R149: A haul with stick op 3 pops a stick and keeps it held in the held table. -/
  | popAndHold (dt : Nat) (e : Nat) (diag : Option Diag)
  /-- READ_HELD, R147: A haul with stick op 4 reads the most recently held stick of a lane and tag. -/
  | readHeld (dt : Nat) (e : Nat) (diag : Option Diag)
  /-- RELEASE, R147: A haul with stick op 5 ends the hold of a held stick. -/
  | release (dt : Nat) (e : Nat) (diag : Option Diag)
  /-- UPDATE, R157: Opcode 0x40 applies the optimizer recipe to a weight tensor's elements in one stack, after its step seal. -/
  | update (dt : Nat) (e : Nat) (diag : Option Diag)
  /-- TRAINING_COUNTERS_CLEAR, R165: A write of 1 to 0x2204.01 clears the training datapath counters. -/
  | trainingCountersClear (dt : Nat) (v : Nat)
  /-- HEAT_HALVING, R183: Every 1 ms of the stamp, every heat counter is halved and copies below the demotion threshold are dropped. -/
  | heatHalving (dt : Nat)
  /-- COPY_COMPLETE, R186: A sill page copy finishes, its directory entry is installed, and the next queued promotion starts. -/
  | copyComplete (dt : Nat) (pkg : Nat) (ue : Bool)
  /-- COPY_POOL_WRITE, R201: A write to 0x3002 resizes a stack's copy pool and drops copies beyond the new size. -/
  | copyPoolWrite (dt : Nat) (stack : Nat) (v : Nat)
  /-- TRANSPARENT_COPIES_WRITE, R199: A write to 0x3003.01 enables copies or disables them and drops every copy. -/
  | transparentCopiesWrite (dt : Nat) (v : Nat)
  /-- PREFETCH_FIRE, R190: A prefetch entry fires once its predecessor has fired and the marker count reaches fire_at. -/
  | prefetchFire (dt : Nat) (bay : Nat)
  /-- PREFETCH_COMPLETE, R191: A prefetch transfer or warm completes and the bay's prefetch-done count advances. -/
  | prefetchComplete (dt : Nat) (bay : Nat) (entry : Nat) (diag : Option Diag)
  /-- PATROL_SCRUB, R196: A patrol scrub pass reads and corrects granules of a memory within its period. -/
  | patrolScrub (dt : Nat) (unit : Nat) (corrected : List Nat) (bad : List Nat)
  /-- PAGE_ZEROING_COMPLETE, R197: The zeroing of a freed HBM or sill page completes and the page becomes free for allocation. -/
  | pageZeroingComplete (dt : Nat) (page : Nat)
  /-- BENCH_ZEROING_COMPLETE, R198: The zeroing of a bay's banks completes and a waiting grant takes effect. -/
  | benchZeroingComplete (dt : Nat) (bay : Nat)
  /-- INVALIDATION_COMPLETE, R173: A translation invalidation completes on every agent, so the named pages may be handed on or zeroed. -/
  | invalidationComplete (dt : Nat) (ctx : Nat)
  /-- MEMORY_COUNTERS_CLEAR, R201: A write of 1 to 0x3013.01 clears the memory counters and the last uncorrectable record. -/
  | memoryCountersClear (dt : Nat) (v : Nat)
  /-- CONTEXT_CREATE, R213: A create block written to 0x3103.01 checks the cut list, places the context and leaves it swapped out. -/
  | contextCreate (dt : Nat) (block : List Byte) (place : Placement)
  /-- CONTEXT_CLOSE, R230: A write to 0x3104.01 puts the context into Closing and starts the drain of its work. -/
  | contextClose (dt : Nat) (id : Nat)
  /-- TEARDOWN_DRAIN_END, R230: The started work of a closing context has drained; close notices go out and translations are invalidated. -/
  | teardownDrainEnd (dt : Nat) (id : Nat)
  /-- TEARDOWN_DRAIN_LIMIT, R230: At 200 µs the work that still runs is aborted with 0x0408 and teardown continues. -/
  | teardownDrainLimit (dt : Nat) (id : Nat)
  /-- TEARDOWN_COMPLETE, R230: Once its pages and banks are zeroed, the context ID becomes undefined. -/
  | teardownComplete (dt : Nat) (id : Nat)
  /-- DOORBELL_TAIL_WRITE, R218: A write to a queue tail location of the doorbell page sets a new tail, clamped to the legal range. -/
  | doorbellTailWrite (dt : Nat) (ctx : Nat) (q : Nat) (v : Nat)
  /-- COMPLETION_HEAD_WRITE, R218: A write to offset 0x2000 of the doorbell page sets a new completion ring head, clamped. -/
  | completionHeadWrite (dt : Nat) (ctx : Nat) (v : Nat)
  /-- COMMAND_START, R239: At a command boundary an engine takes the first ready command across resident contexts and starts it. -/
  | commandStart (dt : Nat) (e : Nat) (ue : Bool)
  /-- NO_OP, R227: Opcode 0x00 does nothing and completes. -/
  | noOp (dt : Nat) (e : Nat)
  /-- LAYER_MARKER, R190: Opcode 0x01 advances the bay's marker count and may mark a swap point. -/
  | layerMarker (dt : Nat) (e : Nat)
  /-- STEP_OPEN, R221: Opcode 0x02 is a barrier that, once admitted, sets the step number and resets the bays' step counts. -/
  | stepOpen (dt : Nat)
  /-- STEP_CLOSE, R151: Opcode 0x03 empties every sticker segment, records the step's slowdown, and may start a scarf image. -/
  | stepClose (dt : Nat) (delays : List (Nat × Nat))
  /-- CONTEXT_COUNTERS_CLEAR, R234: A write of 1 to 0x3111.01 clears the context counters. -/
  | contextCountersClear (dt : Nat) (v : Nat)
  /-- SCHEDULE_TABLE_WRITE, R237: A write to 0x3201.01 stores the schedule table with its entries clamped. -/
  | scheduleTableWrite (dt : Nat) (val : List Byte)
  /-- SCHEDULE_ACTIVATE, R238: A write to 0x3201.02 copies the stored table into the pending table to become active from cycle n. -/
  | scheduleActivate (dt : Nat) (n : Nat)
  /-- CYCLE_START, R235: A 10.24 ms schedule cycle begins; a pending table activates and the ledger writes its cycle report. -/
  | cycleStart (dt : Nat)
  /-- ADMISSION_WAIT_TIMEOUT, R243: A step open has waited longer than 0x3202.04 and source 232 signals. -/
  | admissionWaitTimeout (dt : Nat) (ctx : Nat)
  /-- SLOT_BOUNDARY, R241: A 10 µs slot begins; guarantees change, P2 bays of upcoming guarantees wake, and slot-boundary deadline checks run. -/
  | slotBoundary (dt : Nat)
  /-- PARK, R252: A started command awaiting a remote event has waited the park time; it writes a parked-wait record and frees its engine. -/
  | park (dt : Nat) (ctx : Nat) (q : Nat)
  /-- REMOTE_WAIT_DEADLINE, R256: The deadline timer of the earliest remote wait fires; the wait succeeds on an earlier fill or times out with 0x0410. -/
  | remoteWaitDeadline (dt : Nat)
  /-- SWAP, R259: A runnable swapped-out context is brought in, swapping out swappable contexts oldest first where needed. -/
  | swap (dt : Nat)
  /-- SWAP_COMPLETE, R260: The swap phases finish and the incoming context is granted its banks and becomes resident. -/
  | swapComplete (dt : Nat) (ctx : Nat)
  /-- SCHEDULING_COUNTERS_CLEAR, R263: A write of 1 to 0x3211.01 clears the scheduling counters. -/
  | schedulingCountersClear (dt : Nat) (v : Nat)
  /-- CODEWORD_RECEIVE, R269: A rafter codeword arrives and is accepted, or discarded with a retry request. -/
  | codewordReceive (dt : Nat) (link : Nat) (fecOk : Bool) (corrected : Nat) (seq : Nat) (crc : Nat) (flits : List Nat)
  /-- IDLE_CREDIT_FLIT, R271: A control flit of kind 0x8 returns acknowledgement and VC credits to the sender. -/
  | idleCreditFlit (dt : Nat) (link : Nat) (flit : Nat)
  /-- RETRY_REQUEST, R269: A control flit of kind 0x9 makes the sender resend from the named codeword; at the retry limit the link goes Down. -/
  | retryRequest (dt : Nat) (link : Nat) (flit : Nat)
  /-- SYNC_INTERVAL, R272: At the sync interval a follower sends a sync request to its time leader. -/
  | syncInterval (dt : Nat)
  /-- SYNC_REQUEST, R272: A control flit of kind 0xA reaches the leader, which answers with t1, t2 and t3. -/
  | syncRequest (dt : Nat) (link : Nat) (flit : Nat)
  /-- SYNC_REPLY, R272: A control flit of kind 0xB reaches the follower, which computes its offset and slews its stamp clock. -/
  | syncReply (dt : Nat) (link : Nat) (flit : Nat)
  /-- IDENTIFY, R275: An identify flit is checked and the link becomes Up or Miswired. -/
  | identify (dt : Nat) (link : Nat) (flit : Nat)
  /-- LANE_MAP, R277: A lane-map flit completes the exchange of a lane or link swap onto a spare. -/
  | laneMap (dt : Nat) (link : Nat) (flit : Nat)
  /-- LINK_DOWN_TIMEOUT, R274: After 1 ms in Down a rafter link enters Detect. -/
  | linkDownTimeout (dt : Nat) (link : Nat)
  /-- PARTNER_SIGNAL, R274: A partner signal is present on a link in Detect and training starts. -/
  | partnerSignal (dt : Nat) (link : Nat)
  /-- TRAINING_DONE, R274: Equalisation finishes and the link enters Align, or it fails and the link goes Down. -/
  | trainingDone (dt : Nat) (link : Nat) (ok : Bool)
  /-- ALIGN_DONE, R274: Lanes are deskewed after 16 error-free codewords and the link enters Identify. -/
  | alignDone (dt : Nat) (link : Nat) (laneMap : Nat)
  /-- LINK_SILENCE_TIMEOUT, R298: No codeword arrives for 128 codeword times; the link goes Down and a lost peer enters peer-reset state. -/
  | linkSilenceTimeout (dt : Nat) (link : Nat)
  /-- LANE_LOSS, R277: A lane loses signal or exceeds the error rate and is swapped onto a spare, or the link runs on three lanes or goes Down. -/
  | laneLoss (dt : Nat) (link : Nat) (lane : Nat)
  /-- LEADER_LOSS_TIMEOUT, R273: A follower with no Up link to its leader for 1 ms falls back to IEEE 1588. -/
  | leaderLossTimeout (dt : Nat)
  /-- LINK_RETRAIN, R274: A write to 0x4003.05 sends the named links to Down for retraining. -/
  | linkRetrain (dt : Nat) (mask : Nat)
  /-- LINK_DISABLE_WRITE, R274: A write to 0x4003.04 disables links or returns cleared links to Down. -/
  | linkDisableWrite (dt : Nat) (mask : Nat)
  /-- PORT_STATE_CHANGE, R281: A purlin port changes state after training or loss, and source 192 + p signals. -/
  | portStateChange (dt : Nat) (port : Nat) (st : Nat)
  /-- FABRIC_WRITE, R286: A Cranany message of type 0x01 passes the checks of R285 and lands its payload. -/
  | fabricWrite (dt : Nat) (via : Via) (msg : FabMsg)
  /-- FABRIC_DOORBELL, R286: A Cranany message of type 0x02 writes the doorbell page of the receiving context. -/
  | fabricDoorbell (dt : Nat) (via : Via) (msg : FabMsg)
  /-- FILL_ONLY, R286: A Cranany message of type 0x03 fills the mortise slot that it names. -/
  | fillOnly (dt : Nat) (via : Via) (msg : FabMsg)
  /-- CONTRIBUTION, R316: A Cranany message of type 0x10 delivers a collective chunk, or an abort, to the reduce engine. -/
  | contribution (dt : Nat) (via : Via) (msg : FabMsg)
  /-- PAGE_TRANSFER, R287: A Cranany message of type 0x11 delivers part of a shard page or scarf image page for verification. -/
  | pageTransfer (dt : Nat) (via : Via) (msg : FabMsg)
  /-- ACKNOWLEDGEMENT, R291: A Cranany message of type 0x20 completes the remote haul it answers. -/
  | acknowledgement (dt : Nat) (via : Via) (msg : FabMsg)
  /-- NEGATIVE_ACKNOWLEDGEMENT, R296: A Cranany message of type 0x21 completes the command with its code, or makes the sender resend after a 0x0308. -/
  | negativeAcknowledgement (dt : Nat) (via : Via) (msg : FabMsg)
  /-- SEQ_WINDOW_RESEND, R296: 2 µs after a 0x0308 the sender resends the refused message. -/
  | seqWindowResend (dt : Nat) (ctx : Nat) (q : Nat) (msgIndex : Nat)
  /-- CLOSE_NOTICE, R300: A Cranany message of type 0x30 fills slot 0x0440 of the named context. -/
  | closeNotice (dt : Nat) (via : Via) (msg : FabMsg)
  /-- PEER_RESET_MESSAGE, R299: A Cranany message of type 0x31 puts the named device into peer-reset state and fails commands awaiting it with 0x0303. -/
  | peerResetMessage (dt : Nat) (via : Via) (msg : FabMsg)
  /-- PEER_RESET_HOLD_EXPIRY, R299: The peer-reset hold runs out and peer-reset state ends for that device. -/
  | peerResetHoldExpiry (dt : Nat) (dev : Nat)
  /-- RETRANSMIT_TIMEOUT, R296: A purlin command with no response resends its messages, or at the limit completes with 0x0304. -/
  | retransmitTimeout (dt : Nat) (ctx : Nat) (q : Nat) (slot : Nat)
  /-- RAFTER_COUNTERS_CLEAR, R302: A write of 1 to 0x4011.01 clears the rafter counters. -/
  | rafterCountersClear (dt : Nat) (v : Nat)
  /-- TRANSPORT_COUNTERS_CLEAR, R302: A write of 1 to 0x4113.01 clears the transport counters and the stray log. -/
  | transportCountersClear (dt : Nat) (v : Nat)
  /-- ALL_REDUCE, R311: Opcode 0x50 folds the members' inputs and writes the scaled result on every member. -/
  | allReduce (dt : Nat) (diag : Option Diag)
  /-- REDUCE_SCATTER, R311: Opcode 0x51 folds the inputs and leaves each member its share of the result. -/
  | reduceScatter (dt : Nat) (diag : Option Diag)
  /-- ALL_GATHER, R310: Opcode 0x52 gathers every member's shard in member order on every member. -/
  | allGather (dt : Nat) (diag : Option Diag)
  /-- BROADCAST, R310: Opcode 0x53 copies the root member's elements to every member. -/
  | broadcast (dt : Nat) (diag : Option Diag)
  /-- EXPERT_DISPATCH, R309: Opcode 0x54 routes token rows to experts up to their capacity and drops the rest. -/
  | expertDispatch (dt : Nat) (diag : Option Diag)
  /-- EXPERT_COMBINE, R309: Opcode 0x55 sums the weighted expert outputs of each token. -/
  | expertCombine (dt : Nat) (diag : Option Diag)
  /-- STEP_SEAL, R320: Opcode 0x56 all-reduces the step statistics, writes the statistics record and passes gn and nonfinite to the update engines. -/
  | stepSeal (dt : Nat) (diag : Option Diag)
  /-- BARRIER, R310: Opcode 0x57 completes when every member has reached it. -/
  | barrier (dt : Nat) (diag : Option Diag)
  /-- DOVETAIL_PAIR, R324: A write to 0x4203.02 pairs a guest context with a host context, or is refused with 0x0432. -/
  | dovetailPair (dt : Nat) (host : Nat) (guest : Nat)
  /-- DOVETAIL_UNPAIR, R324: A write of 0xFFFF_FFFF to 0x4203.02 ends the pairing. -/
  | dovetailUnpair (dt : Nat)
  /-- RESHARD, R328: A re-shard block written to 0x4204.01 changes the mapping through a step boundary, a checkpoint and a barrier. -/
  | reshard (dt : Nat) (block : List Byte) (place : Placement)
  /-- MAPPING_COUNTERS_CLEAR, R331: A write of 1 to 0x4211.01 clears the mapping counters. -/
  | mappingCountersClear (dt : Nat) (v : Nat)
  /-- RAISE_JOB, R337: A raise block of mode 0 checks the manifest, zero-fills and maps shards, and waits for the transferred shards. -/
  | raiseJob (dt : Nat) (block : List Byte) (place : Placement)
  /-- RAISE_WEIGHT_SET, R345: A raise block of mode 1 raises a further frozen weight set under a new version. -/
  | raiseWeightSet (dt : Nat) (block : List Byte) (place : Placement)
  /-- RECHECK_PASS, R343: A periodic re-check pass recomputes the SM3 of every page of every Sealed object. -/
  | recheckPass (dt : Nat) (bad : List Nat) (place : Placement)
  /-- WEIGHT_SWITCH, R346: A write to 0x4306.01 switches a context to a raised weight version, or is refused with 0x0443. -/
  | weightSwitch (dt : Nat) (ctx : Nat) (version : Nat)
  /-- CHECKPOINT_REQUEST, R351: A write to 0x4303.02 asks for a scarf image at the context's next step close. -/
  | checkpointRequest (dt : Nat) (ctx : Nat)
  /-- CHECKPOINT_COMMIT, R354: A write to 0x4303.05 commits step n's image. -/
  | checkpointCommit (dt : Nat) (ctx : Nat) (step : Nat)
  /-- RESTORE, R358: A restore block aborts the context's work and reads and writes back the image of the named step. -/
  | restore (dt : Nat) (block : List Byte) (place : Placement)
  /-- RESTORE_COMPLETE, R358: Every image page has been restored; the step, epoch and version are set and source 245 signals. -/
  | restoreComplete (dt : Nat) (ctx : Nat) (localBad : Bool) (holder : Option (List (List Byte)))
  /-- RAISING_COUNTERS_CLEAR, R361: A write of 1 to 0x4311.01 clears the raising and checkpoint counters. -/
  | raisingCountersClear (dt : Nat) (v : Nat)
  /-- SESSION_OPEN, R366: A host message of type 0x40 opens a management or context session, or is refused. -/
  | sessionOpen (dt : Nat) (port : Nat) (draw : Nat) (msg : HostMsg)
  /-- SESSION_CLOSE, R366: A host message of type 0x42 closes the session. -/
  | sessionClose (dt : Nat) (port : Nat) (msg : HostMsg)
  /-- HOST_ACKNOWLEDGEMENT, R369: A host message of type 0x43 acknowledges events up to ack_seq. -/
  | hostAcknowledgement (dt : Nat) (port : Nat) (msg : HostMsg)
  /-- DICTIONARY_READ, R371: A host message of type 0x48 reads a dictionary object and gets a reply. -/
  | dictionaryRead (dt : Nat) (port : Nat) (msg : HostMsg)
  /-- DICTIONARY_WRITE, R371: A host message of type 0x49 writes a dictionary object. -/
  | dictionaryWrite (dt : Nat) (port : Nat) (msg : HostMsg) (aux : Aux)
  /-- HOST_DOORBELL, R371: A host message of type 0x4C writes a doorbell page and raises source 320 + (ctx mod 32). -/
  | hostDoorbell (dt : Nat) (port : Nat) (msg : HostMsg)
  /-- HOST_WRITE, R371: A host message of type 0x50 writes device memory within the session's rights. -/
  | hostWrite (dt : Nat) (port : Nat) (msg : HostMsg)
  /-- HOST_READ_REQUEST, R368: A host message of type 0x51 is answered with read-data messages in address order. -/
  | hostReadRequest (dt : Nat) (port : Nat) (msg : HostMsg) (diag : Option Diag)
  /-- HOST_PAGE_TRANSFER, R373: A host message of type 0x53 writes part of a shard leaf for verification. -/
  | hostPageTransfer (dt : Nat) (port : Nat) (msg : HostMsg)
  /-- SESSION_TIMEOUT, R366: A session with no host message for 0x4805.01 closes and source 216 signals. -/
  | sessionTimeout (dt : Nat) (session : Nat)
  /-- EVENT_RESEND, R369: An unacknowledged event is resent after 0x4805.02; the session closes after 16 sends. -/
  | eventResend (dt : Nat) (session : Nat) (seq : Nat)
  /-- HOST_PORT_STATE_CHANGE, R365: A host port changes state and source 208 or 209 signals. -/
  | hostPortStateChange (dt : Nat) (port : Nat) (st : Nat)
  /-- ARP_REQUEST, R363: An ARP request for the device's own address is answered with the port's MAC address. -/
  | arpRequest (dt : Nat) (port : Nat) (target : Nat) (mac : Nat)
  /-- NEIGHBOR_SOLICITATION, R363: An IPv6 Neighbor Discovery request for the device's own address is answered. -/
  | neighborSolicitation (dt : Nat) (port : Nat) (target : Nat) (mac : Nat)
  /-- PTP_ANNOUNCE, R377: An IEEE 1588 Announce message enters the comparison that chooses the master. -/
  | ptpAnnounce (dt : Nat) (port : Nat) (msg : PtpAnnounce)
  /-- PTP_SYNC, R381: An accepted IEEE 1588 Sync steers a leading device's stamp clock, stepping it at the first lock. -/
  | ptpSync (dt : Nat) (port : Nat) (msg : PtpSync)
  /-- SYNC_TIMEOUT, R381: No Sync for 3 intervals puts the clock into holdover, state 4. -/
  | syncTimeout (dt : Nat)
  /-- HOLDOVER_LIMIT, R381: 1 s after the last accepted Sync the clock enters state 5 and source 214 signals. -/
  | holdoverLimit (dt : Nat)
  /-- PPS_IN_EDGE, R378: A rising edge on PPS_IN sets the clock's phase, or is rejected beyond 1 µs. -/
  | ppsInEdge (dt : Nat)
  /-- PPS_OUT_PULSE, R379: At each stamp multiple of 4,000,000,000, PPS_OUT rises. -/
  | ppsOutPulse (dt : Nat)
  /-- PPS_OUT_FALL, R379: 100 ms after its rise, PPS_OUT falls. -/
  | ppsOutFall (dt : Nat)
  /-- HOST_COUNTERS_CLEAR, R385: A write of 1 to 0x4811.01 clears the host counters. -/
  | hostCountersClear (dt : Nat) (v : Nat)
  /-- EFYTH_READ_REQUEST, R391: An Efyth frame of type 0x01 reads an object and is answered with a reply. -/
  | efythReadRequest (dt : Nat) (msg : EfythMsg)
  /-- EFYTH_WRITE, R392: An Efyth frame of type 0x02 writes an object, or one part of a multi-part value. -/
  | efythWrite (dt : Nat) (msg : EfythMsg) (aux : Aux)
  /-- DISCOVER, R389: A broadcast Efyth frame of type 0x08 is answered with the device's identity. -/
  | discover (dt : Nat) (msg : EfythMsg)
  /-- MULTIPART_TIMEOUT, R392: A multi-part buffer with no part for 1 s is discarded. -/
  | multipartTimeout (dt : Nat) (mac : Nat)
  /-- PLCA_CHANGE_APPLY, R387: 1 ms after a PLCA object write, the new PLCA settings take effect. -/
  | plcaChangeApply (dt : Nat)
  /-- COMMIT_WINDOW_CLOSE, R401: 10 ms after the first unsaved RWP write, the gathered writes are committed to a persistence bank. -/
  | commitWindowClose (dt : Nat)
  /-- COMMIT_COMPLETE, R401: The read-back of a persistence commit ends and the RWP writes are answered, with 0x070E on a second failure. -/
  | commitComplete (dt : Nat) (badReads : Nat)
  /-- RWP_DEFAULTS, R402: A write of 1 to 0x2005.04 returns every RWP object, apart from the listed ones, to its default in one commit. -/
  | rwpDefaults (dt : Nat) (v : Nat)
  /-- CALIBRATION_WRITE, R404: A write of a 144-byte image to 0x6101.02 replaces the whole calibration set, or is refused with 0x080B. -/
  | calibrationWrite (dt : Nat) (image : List Byte)
  /-- MANAGEMENT_COUNTERS_CLEAR, R409: A write of 1 to 0x1107.01 clears the management port counters. -/
  | managementCountersClear (dt : Nat) (v : Nat)
  /-- INTERRUPT_SIGNAL, R412: A unit's signal sets a source's pending bit, count and stamps, and forwards events on its routes. -/
  | interruptSignal (dt : Nat) (source : Nat) (ctx : Option Nat)
  /-- INTERRUPT_DELIVERY, R416: A deliverable source enters its handler on a management core. -/
  | interruptDelivery (dt : Nat) (core : Nat)
  /-- TAKE, R413: A write to TAKE copies a source's count and stamps and clears it. -/
  | take (dt : Nat) (core : Nat) (source : Nat)
  /-- PEND_CLEAR, R413: A W1C write to PENDw clears pending bits and leaves the counts. -/
  | pendClear (dt : Nat) (w : Nat) (mask : Nat)
  /-- SET, R411: A write to SET raises a source from 448 to 511. -/
  | setSource (dt : Nat) (source : Nat)
  /-- END, R415: A write to END ends a handler on the writing core and resumes any interrupted code. -/
  | endHandler (dt : Nat) (core : Nat) (source : Nat)
  /-- MODE_WRITE, R417: A write to MODE selects running or ordered delivery. -/
  | modeWrite (dt : Nat) (v : Nat)
  /-- RAISE_SOFTWARE_SOURCE, R411: A write to 0x5003.01 raises a software source from 480 to 511. -/
  | raiseSoftwareSource (dt : Nat) (source : Nat)
  /-- SOURCE_CONFIG_WRITE, R431: A write to 0x5002.01 loads the CONFIG words at once after its clamps. -/
  | sourceConfigWrite (dt : Nat) (val : List Byte)
  /-- INTERRUPT_COUNTERS_CLEAR, R433: A write of 1 to 0x5011.01 clears the interrupt counters. -/
  | interruptCountersClear (dt : Nat) (v : Nat)
  /-- COUNTER_WRAP, R424: A performance counter wraps, sets its overflow bit and signals its unit's source when irq is 1. -/
  | counterWrap (dt : Nat) (unit : Nat) (k : Nat)
  /-- COUNTER_RESET, R432: A write of 1 to 0x5102.01 sets every counter value and status to 0. -/
  | counterReset (dt : Nat) (v : Nat)
  /-- SAMPLING_START, R428: A write of 1 to 0x5120.03 requests the trace SRAM and starts a sampling run. -/
  | samplingStart (dt : Nat)
  /-- SAMPLING_STOP, R428: A write of 0 to 0x5120.03 stops the selected sampling run. -/
  | samplingStop (dt : Nat)
  /-- SAMPLE_RECORD, R428: Every Nth occurrence writes a sampling record into the trace SRAM ring. -/
  | sampleRecord (dt : Nat) (occ : Occurrence)
  /-- READ_MARK_WRITE, R428: A write to 0x5120.06 moves the read mark and re-arms source 437. -/
  | readMarkWrite (dt : Nat) (v : Nat)
  /-- SAMPLING_COPY, R432: A write of 1 to 0x5121.01 copies the unread records into the host staging area. -/
  | samplingCopy (dt : Nat)
  /-- BANDWIDTH_WINDOW_END, R430: A bandwidth window ends at a stamp multiple; its records are written and a busy port signals source 438. -/
  | bandwidthWindowEnd (dt : Nat) (traffic : List (Nat × Nat))
  /-- LEDGER_WINDOW, R442: Each 1 µs the ledger charges the window's energy to its accounts. -/
  | ledgerWindow (dt : Nat) (est : Estimates)
  /-- AVS_CURRENT_READ, R443: Each 10 µs the rail current is read over AVSBus and the estimator correction factor is updated. -/
  | avsCurrentRead (dt : Nat) (rail : Nat) (frame : Option Nat)
  /-- GOVERNOR_UPDATE, R447: Each 100 µs the governor value G is updated within the band and ramp limit. -/
  | governorUpdate (dt : Nat)
  /-- BAND_CHECK, R448: Each 10 µs the work power is compared with 1.02 × G and the clock is clipped when both powers exceed it. -/
  | bandCheck (dt : Nat) (stepPower : Nat)
  /-- BALLAST_UPDATE, R449: Each 10 µs without clip or shed, ballast runs on the computed number of idle bays. -/
  | ballastUpdate (dt : Nat) (perBay : Nat)
  /-- JUNCTION_SAMPLE, R452: Each 10 µs the junction sensors are read and the thermal stages of Table 14-3 apply. -/
  | junctionSample (dt : Nat) (raw : List Int)
  /-- CLOCK_RAISE_AFTER_SETTLE, R437: Once a raised rail voltage has settled, the die's tensor clock is raised. -/
  | clockRaiseAfterSettle (dt : Nat) (die : Nat)
  /-- THERMAL_TRIP, R454: A beam-die junction at 105 °C gates that die's engine clocks in hardware and starts shed. -/
  | thermalTrip (dt : Nat) (die : Nat)
  /-- TRIP_HOLD_TIMEOUT, R454: A die that stays at 105 °C or above for 100 ms enters beam-die reset. -/
  | tripHoldTimeout (dt : Nat) (die : Nat)
  /-- SHED_N_ASSERT, R453: SHED_N low enters shed; ballast stops, clocks fall to 1,050 MHz and level-4 work is suspended. -/
  | shedNAssert (dt : Nat)
  /-- SHED_N_DEASSERT, R453: SHED_N returns high, which allows shed to end. -/
  | shedNDeassert (dt : Nat)
  /-- SHED_END, R453: Shed ends once SHED_N is high and every cause has been clear for 10 ms. -/
  | shedEnd (dt : Nat)
  /-- VR_ALERT, R454: VR_ALERT_N signals source 4 and the regulator status is read and acted on. -/
  | vrAlert (dt : Nat) (status : VrStatus)
  /-- PG_BEAM_LOSS, R454: Loss of PG_BEAMn puts beam die Bn into beam-die reset. -/
  | pgBeamLoss (dt : Nat) (die : Nat)
  /-- PG_SOC_LOSS, R454: Loss of PG_SOC causes a cold reset. -/
  | pgSocLoss (dt : Nat)
  /-- WEAR_COMMIT, R455: Every 10 minutes the time above 0.80 V is committed, and an exhausted budget caps the die. -/
  | wearCommit (dt : Nat) (seconds : List Nat)
  /-- BAY_IDLE_GATE, R440: A bay with no work for 64 tensor clocks enters P1. -/
  | bayIdleGate (dt : Nat) (bay : Nat)
  /-- BAY_SLEEP, R440: A bay that is ungranted and in P1 for the sleep delay enters P2. -/
  | baySleep (dt : Nat) (bay : Nat)
  /-- DEVICE_P2_REQUEST, R441: A write of 2 to 0x6003.02 enters device P2, or is refused with 0x0501. -/
  | deviceP2Request (dt : Nat)
  /-- DEVICE_P3_REQUEST, R441: A write of 3 to 0x6003.02 announces a reset, closes every context and enters P3. -/
  | deviceP3Request (dt : Nat)
  /-- DEVICE_WAKE_REQUEST, R441: A write of 0 to 0x6003.02 returns the device from P2, or from P3 through the warm-reset sequence. -/
  | deviceWakeRequest (dt : Nat)
  /-- AUTO_P2_TIMEOUT, R441: With automatic P2 on, no resident context for 0x6003.06 enters device P2. -/
  | autoP2Timeout (dt : Nat)
  /-- POWER_COUNTERS_CLEAR, R459: A write of 1 to 0x6041.01 clears the power counters. -/
  | powerCountersClear (dt : Nat) (v : Nat)
  /-- HANG_DETECTED, R463: An engine's progress monitor reaches the hang time; a crash dump starts and the smallest domain resets. -/
  | hangDetected (dt : Nat) (e : Nat)
  /-- QUARANTINE_LIMIT, R464: The quarantine limit ends the quarantine of a suspect, and the next suspect begins. -/
  | quarantineLimit (dt : Nat) (bay : Nat)
  /-- HEARTBEAT_KICK, R467: Each heartbeat interval the firmware kicks the watchdog and sends a heartbeat frame. -/
  | heartbeatKick (dt : Nat)
  /-- WATCHDOG_EXPIRY, R467: The watchdog misses its kicks; source 0 starts a crash dump and an announced warm reset. -/
  | watchdogExpiry (dt : Nat)
  /-- WATCHDOG_GRACE_EXPIRY, R467: Warm reset has not begun within the grace, and the hardware enters warm reset unannounced. -/
  | watchdogGraceExpiry (dt : Nat)
  /-- BAY_RESET, R473: Domain 1 written to 0x7101.01 resets one bay. -/
  | bayReset (dt : Nat) (bay : Nat)
  /-- BEAM_DIE_RESET, R473: Domain 2 written to 0x7101.01 resets one beam die. -/
  | beamDieReset (dt : Nat) (die : Nat)
  /-- EDGE_LINK_RESET, R473: Domain 3 written to 0x7101.01 resets one link or port. -/
  | edgeLinkReset (dt : Nat) (port : Nat)
  /-- WARM_RESET, R474: Domain 4 written to 0x7101.01 writes the loft back, takes a crash dump and resets the device, closing every context. -/
  | warmReset (dt : Nat)
  /-- COLD_RESET, R473: Domain 5 written to 0x7101.01 resets everything. -/
  | coldReset (dt : Nat)
  /-- RESET_COMPLETE, R473: Every unit of a reset domain is back in service. -/
  | resetComplete (dt : Nat) (domain : Nat) (unit : Nat) (place : Placement)
  /-- CRASH_DUMP_START, R478: A write to 0x7004.04, or a hang, watchdog or firmware fault, starts a crash dump through trace SRAM of E0. -/
  | crashDumpStart (dt : Nat)
  /-- CRASH_DUMP_SEALED, R478: The dump is written to sill and sealed; it releases resource 1 and source 452 signals. -/
  | crashDumpSealed (dt : Nat) (content : List Byte)
  /-- CRASH_DUMP_COPY, R486: A write to 0x7004.03 copies dump n into the host staging area. -/
  | crashDumpCopy (dt : Nat) (n : Nat)
  /-- FATAL_ACK, R477: A write of 1 to 0x7003.01 acknowledges the fatal entries and releases STAT0. -/
  | fatalAck (dt : Nat) (v : Nat)
  /-- HEALTH_RESTORE_TICK, R481: Every 36 s one point of transient deduction is restored to the health score. -/
  | healthRestoreTick (dt : Nat)
  /-- ADMISSION_STATE_WRITE, R482: A write to 0x7103.01 expels the device or readmits it. -/
  | admissionStateWrite (dt : Nat) (v : Nat)
  /-- SELF_TEST_START, R483: A write of 1 to 0x7104.01 starts the readmission self-test, or is refused with 0x070B. -/
  | selfTestStart (dt : Nat)
  /-- SELF_TEST_COMPLETE, R483: The self-test ends; its result is written and source 451 signals. -/
  | selfTestComplete (dt : Nat) (bays : List Nat) (hbms : List Nat) (sills : List Nat) (paths : List Nat) (pages : List Nat)
  /-- FAULT_COUNTERS_CLEAR, R487: A write of 1 to 0x7011.01 clears the fault counters. -/
  | faultCountersClear (dt : Nat) (v : Nat)
  /-- COLD_BOOT, R494: Cold reset ends; straps are sampled and the boot ROM verifies and starts the firmware. -/
  | coldBoot (dt : Nat) (env : BootEnv)
  /-- BOOT_CTL_UPDATE, R493: A JTAG Update-DR of BOOT_CTL releases a strap hold to boot from flash or start a recovery fetch. -/
  | bootCtlUpdate (dt : Nat) (v : Nat) (place : Placement)
  /-- RECOVERY_DATA, R498: An Efyth frame of type 0x07 delivers image bytes of the current recovery window. -/
  | recoveryData (dt : Nat) (msg : EfythMsg)
  /-- RECOVERY_WINDOW_TIMEOUT, R499: A window still incomplete 2 s after its request is requested again from its first missing byte. -/
  | recoveryWindowTimeout (dt : Nat)
  /-- FIRMWARE_UPDATE, R501: A write to 0x7802.01 checks the image in the host staging area and programs it into the flash. -/
  | firmwareUpdate (dt : Nat) (len : Nat) (readBack : Bool)
  /-- FIRMWARE_UPDATE_FETCH, R501: A write to 0x7802.02 fetches an image from a station, checks it and programs it into the flash. -/
  | firmwareUpdateFetch (dt : Nat) (mac : Nat) (left : List Byte) (readBack : Bool)
  /-- RAISE_MIN_SECURITY, R503: A write of 1 to 0x7803.02 blows fuse bits up to the running image's security version. -/
  | raiseMinSecurity (dt : Nat) (v : Nat)
  /-- DEBUG_LOCK_BLOW, R509: A write of 1 to 0x7804.02 blows the debug-lock fuse. -/
  | debugLockBlow (dt : Nat) (v : Nat)
  /-- EXTEND_SLOT, R506: A write to 0x7812.01 extends a measurement slot with a digest. -/
  | extendSlot (dt : Nat) (val : List Byte)
  /-- QUOTE, R507: A nonce written to 0x7820.01 produces a signed quote over the measurement slots. -/
  | quote (dt : Nat) (nonce : List Byte)
  /-- RNG_HEALTH_FAIL, R508: The random source fails its health test; source 11 signals and it delivers no value. -/
  | rngHealthFail (dt : Nat)
  /-- RANDOM_WAIT_TIMEOUT, R508: A request for a random value that waited 10 ms is refused with 0x0603. -/
  | randomWaitTimeout (dt : Nat)
  /-- RESET_N_ASSERT, R521: RESET_N held low for 1 µs or more starts a cold reset. -/
  | resetNAssert (dt : Nat)
  /-- REFCLK_LOSS, R528: The reference clock is lost; source 7 signals and the device is held in an unannounced warm reset. -/
  | refclkLoss (dt : Nat)
  /-- REFCLK_RESTORED, R528: REFCLK is within specification for 10 ms and the warm-reset boot runs with cause 0x0502. -/
  | refclkRestored (dt : Nat)
  /-- JOB_SIGNAL_ASSIGN, R522: A write to 0x7F03.01 or 0x7F03.02 assigns a job signal to STAT2 or STAT3 and requests the pin. -/
  | jobSignalAssign (dt : Nat) (pin : Nat) (v : Nat)
  /-- JTAG_TEST_MODE_ENTRY, R417: JTAG enters test mode and the interrupt controller enters ordered delivery with reason 2. -/
  | jtagTestModeEntry (dt : Nat)
  /-- RNG_HEALTH_PASS, R508: The true random source passes its continuous health test again and once more delivers values to waiting requests. -/
  | rngHealthPass (dt : Nat) (draws : List Nat)
  /-- RECOVERY_FETCH_RESTART, R499: 1 s after a fetched image fails R491, the recovery fetch starts again at offset 0. -/
  | recoveryFetchRestart (dt : Nat)
  /-- VR_ALERT_DEASSERT, R454: VR_ALERT_N returns high, which ends the regulator over-temperature clipping and clears the alert as a cause of shed. -/
  | vrAlertDeassert (dt : Nat)
  /-- BAY_WAKE_COMPLETE, R439: A bay, or the device, finishes its wake from P2 and returns to P0, so that waiting commands and ballast may start. -/
  | bayWakeComplete (dt : Nat) (bay : Option Nat)
  /-- LINK_DOWN_DEDUCTION, R480: A working rafter link that has been Down with no spare for more than 10 min takes a permanent health deduction of 25. -/
  | linkDownDeduction (dt : Nat) (link : Nat)
  /-- FIRMWARE_FAULT, R475: A refused management-core access, an uncorrectable error in firmware pages or always-on memory, or a failed firmware consistency check leads to a crash dump and a warm reset with cause 0x0708. -/
  | firmwareFault (dt : Nat) (cause : FwCause)
deriving DecidableEq, Repr

end Sys2Proof
end

