-- ==== Sys2Proof/Config.lean ====
section
/-! DEFINITION. What an implementation fixes and the manual does not state: the free values. Each is a constant with no body,
so that a claim about the machine holds whatever it is (assumption log 4). -/

namespace Sys2Proof

/-- The bytes of results that the manual leaves undefined: of a tile recomputed from changed operands (R121), of an output
block that two tiles share (R118). The argument is the number of the draw. -/
opaque Config.freeByte : Nat → Byte

/-- Which bytes of a stick payload had landed when its digest failed (R148). -/
opaque Config.freeBit : Nat → Bool

/-- How much of a command's output had been written when a checker or an error stopped it (R126, R161, R194). -/
opaque Config.freeCount : Nat → Nat

/-- A digital signature of the security engine over a message: 64 bytes, drawn from its own random value (R507). -/
opaque Config.freeSignature : Nat → Vector Byte 64

/-- Energy per byte, in nJ, of HBM, sill and link traffic: the fused constants of the traffic estimators (R442). -/
opaque Config.hbmEnergy : Rat
opaque Config.sillEnergy : Rat
opaque Config.linkEnergy : Rat

/-- The fused rail voltage with the droop margin of the monitors, in µV, of a tensor clock in MHz on a beam die at a junction
temperature in m°C (R437). -/
opaque Config.fusedVoltage : Nat → Nat → Int → Int

/-- The MAC address of a purlin port: the manual names none (Table 8-6). -/
opaque Config.purlinMac : Nat → Nat

/-- The level of the PPS_IN pin at a stamp: only its rising edges are events (R378). -/
opaque Config.ppsInLevel : Nat → Bool

/-- The reference clock's measured offset at a stamp, in ppb, before it is brought to its range (object 0x7F04.02). -/
opaque Config.refOffset : Nat → Int

/-- A ratio of measured to estimated energy where no energy was estimated (R443). The argument is the number of the draw. -/
opaque Config.freeRatio : Nat → Rat

/-- The hash of R177 that gives a loft line its set, before it is brought to 49,152 sets: the manual calls it fixed and does not print it. -/
opaque Config.loftHash : Nat → Nat

/-- Whether an access at a stamp, of a context to a page, still uses the entry as it was before an invalidation that has not completed
(R173). -/
opaque Config.usesOld : Nat → Nat → Nat → Bool

/-- Whether the write-back of a warm reset does not reach a dirty loft line in time (R180). The arguments are the number of the draw and the
line. -/
opaque Config.lineLost : Nat → Nat → Bool

end Sys2Proof
end

