-- ==== Sys2Proof/Machine/Bits.lean ====
section
/-! DEFINITION. Bit ranges and byte orders (R9, R11) over natural numbers and byte lists. -/

namespace Sys2Proof.Machine

/-- Bits [hi:lo] of `n` (R11). -/
def bits (n hi lo : Nat) : Nat := (n >>> lo) % 2 ^ (hi + 1 - lo)

/-- Bit [i] of `n`. -/
def bit (n i : Nat) : Bool := n.testBit i

/-- `n` with its bits [hi:lo] replaced by the low bits of `v`. -/
def setBits (n hi lo v : Nat) : Nat :=
  n - (bits n hi lo) * 2 ^ lo + (v % 2 ^ (hi + 1 - lo)) * 2 ^ lo

/-- One field of a packed format: the value `v` at bit `lo`. -/
def field (v lo : Nat) : Nat := v * 2 ^ lo

/-- A flag as a number. -/
def b2n (b : Bool) : Nat := if b then 1 else 0

/-- Two's complement of `w` bits read as an integer. -/
def toSigned (w n : Nat) : Int := if n % 2 ^ w < 2 ^ (w - 1) then (n % 2 ^ w : Nat) else (n % 2 ^ w : Nat) - (2 ^ w : Nat)

/-- An integer as `w` bits of two's complement. -/
def ofSigned (w : Nat) (i : Int) : Nat := (i % (2 ^ w : Nat)).toNat

/-- `k` little-endian bytes of `n` (R9). -/
def leBytes : Nat → Nat → List Byte
  | 0, _ => []
  | k + 1, n => BitVec.ofNat 8 n :: leBytes k (n / 256)

/-- The number little-endian bytes spell (R9). -/
def leNat : List Byte → Nat
  | [] => 0
  | b :: l => b.toNat + 256 * leNat l

/-- `k` bytes of `n`, most significant first: network order (R9). -/
def beBytes (k n : Nat) : List Byte := (leBytes k n).reverse

/-- The number most-significant-first bytes spell. -/
def beNat (l : List Byte) : Nat := leNat l.reverse

/-- `n` zero bytes. -/
def zeroBytes (n : Nat) : List Byte := List.replicate n 0

/-- The bytes at [off, off + len) of a byte string, zero beyond its end. -/
def slice (l : List Byte) (off len : Nat) : List Byte :=
  let t := (l.drop off).take len
  t ++ zeroBytes (len - t.length)

/-- Fit a byte string to `n` bytes: cut, or filled with zeros (R398). -/
def fitBytes (n : Nat) (l : List Byte) : List Byte := slice l 0 n

/-- Round `n` up to a multiple of `m`. -/
def roundUp (n m : Nat) : Nat := (n + m - 1) / m * m

/-- ⌈a/b⌉ (R10). -/
def ceilDiv (a b : Nat) : Nat := (a + b - 1) / b

/-- `v` brought between `lo` and `hi`. -/
def clampNat (v lo hi : Nat) : Nat := if v < lo then lo else if hi < v then hi else v

/-- Consecutive pieces of `n` elements, the last shorter. The fuel bounds the pieces. -/
def chunksAux {α : Type} (n : Nat) : Nat → List α → List (List α)
  | 0, _ => []
  | f + 1, l => if l.isEmpty then [] else l.take n :: chunksAux n f (l.drop n)

def chunks {α : Type} (n : Nat) (l : List α) : List (List α) := chunksAux n (l.length + 1) l

/-- Words of `n` bytes, little-endian. -/
def words (n : Nat) (l : List Byte) : List Nat := (chunks n l).map leNat

/-- The naturals lo, lo + 1, … of a count. -/
def rangeFrom (lo n : Nat) : List Nat := (List.range n).map (lo + ·)

def sumList (l : List Nat) : Nat := l.foldl (· + ·) 0

/-- The element at `i`, or a default. -/
def nth {α : Type} (d : α) (l : List α) (i : Nat) : α := (l[i]?).getD d

end Sys2Proof.Machine
end

