-- ==== Sys2Proof/Machine/Crc.lean ====
section
/-! DEFINITION. The CRC-32 of the IEEE 802.3 frame check sequence (R282) and the CRC-10 of the codeword header (R267). -/

namespace Sys2Proof.Machine

/-- One bit step of the reflected CRC-32, polynomial 0x04C11DB7 (IEEE 802.3). -/
def crc32Bit (c : Nat) : Nat := if c % 2 = 1 then (c / 2) ^^^ 0xEDB88320 else c / 2

def crc32Byte (c : Nat) (b : Byte) : Nat :=
  let x := c ^^^ b.toNat
  crc32Bit (crc32Bit (crc32Bit (crc32Bit (crc32Bit (crc32Bit (crc32Bit (crc32Bit x)))))))

/-- hcrc and pcrc (R282). -/
def crc32 (l : List Byte) : Nat := (l.foldl crc32Byte 0xFFFFFFFF) ^^^ 0xFFFFFFFF

/-- One bit of the CRC-10, polynomial x^10 + x^9 + x^5 + x^4 + x + 1 (R267). -/
def crc10Bit (c : Nat) (b : Bool) : Nat :=
  let fb := xor (c.testBit 9) b
  let sh := (c * 2) % 1024
  if fb then sh ^^^ 0x233 else sh

/-- The bits of one 256-bit flit, most significant first (assumption log 21). -/
def flitBits (f : Nat) : List Bool := (List.range 256).map (fun i => f.testBit (255 - i))

/-- CRC-10 over the flits in transmission order, initial value 0 (R267). -/
def crc10 (flits : List Nat) : Nat := flits.foldl (fun c f => (flitBits f).foldl crc10Bit c) 0

end Sys2Proof.Machine
end

