-- ==== Sys2Proof/Machine/Assoc.lean ====
section
/-! DEFINITION. Sparse arrays as plain data: association lists in one canonical form (keys strictly rising, no entry equal
to the default). Memory, the object store and every per-unit table of the machine are held so (assumption log 3). -/

namespace Sys2Proof.Machine

/-- The value at `k`; the default where nothing is listed. -/
def Assoc.get {α : Type} (d : α) : List (Nat × α) → Nat → α
  | [], _ => d
  | (j, v) :: l, k => if k = j then v else Assoc.get d l k

/-- Put `v` at `k` in a sorted list, without regard to the default. -/
def Assoc.insert {α : Type} (k : Nat) (v : α) : List (Nat × α) → List (Nat × α)
  | [] => [(k, v)]
  | (j, w) :: l =>
    if k < j then (k, v) :: (j, w) :: l
    else if k = j then (k, v) :: l
    else (j, w) :: Assoc.insert k v l

/-- Take every entry at `k` out. -/
def Assoc.erase {α : Type} (k : Nat) : List (Nat × α) → List (Nat × α)
  | [] => []
  | (j, w) :: l => if k = j then Assoc.erase k l else (j, w) :: Assoc.erase k l

/-- Store `v` at `k`; writing the default removes the entry, so equal arrays are equal lists. -/
def Assoc.set {α : Type} [DecidableEq α] (d : α) (l : List (Nat × α)) (k : Nat) (v : α) : List (Nat × α) :=
  if v = d then Assoc.erase k l else Assoc.insert k v l

/-- Every key above `lo`, strictly rising, and no entry equal to the default. -/
def Assoc.wfFrom {α : Type} [DecidableEq α] (d : α) : Option Nat → List (Nat × α) → Bool
  | _, [] => true
  | lo, (k, v) :: l =>
    (match lo with
      | none => true
      | some b => decide (b < k)) && decide (v ≠ d) && Assoc.wfFrom d (some k) l

/-- The canonical form. -/
def Assoc.wf {α : Type} [DecidableEq α] (d : α) (l : List (Nat × α)) : Bool := Assoc.wfFrom d none l

/-- Drop every entry whose key lies in [lo, hi). -/
def Assoc.clearRange {α : Type} (l : List (Nat × α)) (lo hi : Nat) : List (Nat × α) :=
  l.filter (fun e => decide (e.1 < lo) || decide (hi ≤ e.1))

/-- Change the value at `k`. -/
def Assoc.modify {α : Type} [DecidableEq α] (d : α) (l : List (Nat × α)) (k : Nat) (f : α → α) : List (Nat × α) :=
  Assoc.set d l k (f (Assoc.get d l k))

/-- Apply `f` to every listed entry, dropping those that become the default. -/
def Assoc.mapVals {α : Type} [DecidableEq α] (d : α) (f : Nat → α → α) (l : List (Nat × α)) : List (Nat × α) :=
  (l.map (fun e => (e.1, f e.1 e.2))).filter (fun e => decide (e.2 ≠ d))

end Sys2Proof.Machine
end

