-- ==== Sys2Proof/Machine/State.lean ====
section
/-! DEFINITION. The state of the MK8 as plain data: every register, table, buffer, counter, mode and pin that the manual gives
it, the messages it has sent, and the queue of commands that wait. Sparse tables are association lists in the canonical form
of Machine/Assoc.lean. -/

namespace Sys2Proof.Machine

/-- A sparse table. -/
abbrev Sparse (α : Type) := List (Nat × α)

/-- The value of a dictionary object (R21): a number of its width, or a byte string. -/
inductive ObjVal where
  | num (n : Nat)
  | blob (b : List Byte)
deriving DecidableEq, Repr

/-! ### Commands, engines (chapters 3, 6, 7) -/

/-- A command slot as read, after the clamps of R226: the header of Table 6-11 and the body bits [895:0]. -/
structure Cmd where
  tag : Nat
  waitValue : Nat
  waitQueue : Nat
  waitKind : Nat
  irq : Bool
  fence : Bool
  cmpl : Bool
  opcode : Nat
  body : Nat
deriving DecidableEq, Repr

/-- The accumulator word of Table 3-3; RES is mod(M, 7). -/
structure Acc where
  nan : Bool
  inexact : Bool
  empty : Bool
  e : Int
  m : Int
deriving DecidableEq, Repr

/-- A tile between its last group and its commit (R105, R122): its words row by row, and whether a renormalisation occurred. -/
structure Tile where
  accs : List (List Acc)
  renorms : Nat
deriving DecidableEq, Repr

/-- What a started command awaits (R252). -/
inductive Await where
  /-- nothing: it runs -/
  | none
  /-- the acknowledgement of a remote haul to a device: its messages (seq, index), stamp of the last send, resends -/
  | ack (device : Nat) (roleEpoch : Nat) (dstCtx : Nat) (dstCtxEpoch : Nat) (firstSeq : Nat) (count : Nat) (lastSend : Nat) (resends : Nat)
  /-- contributions to a collective -/
  | contributions
deriving DecidableEq, Repr

/-- A started command (R219): its queue slot, what was read at its start, and its progress. -/
structure Run where
  ctx : Nat
  queue : Nat
  slot : Nat
  cmd : Cmd
  clamped : Bool
  start : Nat
  /-- the order of its issue among the tail writes of its context (R150, R221) -/
  issued : Nat
  level : Nat
  /-- the rounding default read at the start (R76, R99): into grain, otherwise -/
  defGrain : Nat
  defOther : Nat
  /-- the recipe block as an update engine read it at the start (R154) -/
  block : List Byte
  tile : Option Tile
  /-- the accumulator slots of its tile (R105): bit 0 and bit 1; 0 where it holds none -/
  slots : Nat
  await : Await
  /-- the stamp at which what it awaits began to be awaited (R255) -/
  waitFrom : Nat
  /-- set when it has been ended with a code at its next chance (R256, R299) -/
  failed : Option Nat
  /-- set once it runs again after a park (R252) -/
  woken : Bool
  /-- the messages that a remote haul has sent, kept until its response (R296), and whether they left on purlins -/
  out : List (FabHdr × List Byte)
  purlin : Bool
deriving DecidableEq, Repr

/-- One engine, by its queue number of R216: what runs, the tile in its epilogue, what is suspended (R250), the last command
start of each context on it (R239), the stamp of the last progress event (R462) and the next accumulator slot (R105). -/
structure Engine where
  running : Option Run
  epilogue : Option Run
  suspended : Option Run
  lastStart : Sparse Nat
  progress : Nat
  accSlot : Nat
deriving DecidableEq, Repr

def Engine.idle : Engine := { running := none, epilogue := none, suspended := none, lastStart := [], progress := 0, accSlot := 0 }

/-! ### Contexts (chapters 4 to 10) -/

/-- One queue: its three 32-bit counts (R216), the tail writes not yet completed as (tail, order of arrival) (R221), and the
stamp at which its head was reached (R255). -/
structure Queue where
  tail : Nat
  head : Nat
  completed : Nat
  marks : List (Nat × Nat)
  headStamp : Option Nat
  /-- the kind-3 wait at its head is past its deadline (R253) -/
  timedOut : Bool
deriving DecidableEq, Repr

def Queue.empty : Queue := { tail := 0, head := 0, completed := 0, marks := [], headStamp := none, timedOut := false }

/-- A sticker segment (R147): the header offset of the top unpopped stick or EMPTY, and the next free offset. -/
structure Segment where
  cursor : Option Nat
  top : Nat
deriving DecidableEq, Repr

def Segment.empty : Segment := { cursor := none, top := 0 }

/-- A held stick (R149). -/
structure Held where
  bay : Nat
  lane : Nat
  tag : Nat
  offset : Nat
deriving DecidableEq, Repr

/-- A mortise slot (Table 8-10). -/
structure Mortise where
  fillStamp : Nat
  value : Nat
  count : Nat
  code : Nat
  srcDevice : Nat
  srcCtx : Nat
  srcSlot : Nat
  firstStamp : Nat
deriving DecidableEq, Repr

def Mortise.zero : Mortise := { fillStamp := 0, value := 0, count := 0, code := 0, srcDevice := 0, srcCtx := 0, srcSlot := 0, firstStamp := 0 }

/-- A parked-wait record (Table 7-4), with the command it resumes. -/
structure Parked where
  parkStamp : Nat
  deadline : Nat
  fillStamp : Nat
  tag : Nat
  progress : Nat
  ctxEpoch : Nat
  mortise : Nat
  slotIndex : Nat
  queue : Nat
  kind : Nat
  state : Nat
  /-- error code that the fill brought (R291) -/
  code : Nat
  /-- the deadline timer fired at this record's very deadline stamp, and no later stamp has been seen (R256) -/
  fired : Bool
  run : Option Run
deriving DecidableEq, Repr

/-- A prefetch entry that has fired (R190, R191): its number in the schedule; for target 0 the code of the read of its descriptor, the
descriptor as read, and the rounding defaults at its start (R76). -/
structure Flight where
  entry : Nat
  code : Nat
  desc : Nat
  defGrain : Nat
  defOther : Nat
deriving DecidableEq, Repr

/-- A bay's step state for one context (Table 6-6): marker count, prefetch position and done count, the entries in flight,
entries stopped by a swap (R191), and whether its last layer marker carried the swap flag (R257). -/
structure BayStep where
  marker : Nat
  pos : Nat
  done : Nat
  inFlight : List Flight
  stopped : List Flight
  swapFlag : Bool
deriving DecidableEq, Repr

def BayStep.zero : BayStep := { marker := 0, pos := 0, done := 0, inFlight := [], stopped := [], swapFlag := false }

/-- A tensor-table entry as placed (Table 6-4a): `base` is the context address, `bytes` what this device holds of it. -/
structure Tensor where
  id : Nat
  kind : Nat
  fmt : Nat
  ndims : Nat
  dims : List Nat
  size : Nat
  gradTarget : Nat
  baseId : Nat
  layer : Nat
  split : Nat
  tier : Nat
  base : Nat
  bytes : Nat
deriving DecidableEq, Repr

/-- A collective plan entry (Table 9-4a). -/
structure PlanEntry where
  slot : Nat
  kind : Nat
  opcode : Nat
  nMax : Nat
  staging : Nat
  bf16 : Bool
deriving DecidableEq, Repr

/-- The key of an accepted contribution (R316), with the elements it carried. -/
structure Contrib where
  slot : Nat
  member : Nat
  shard : Nat
  chunk : Nat
  level : Nat
  phase : Nat
  step : Nat
  layoutEpoch : Nat
  opcode : Nat
  kind : Nat
  elements : Nat
  bf16 : Bool
  data : List Byte
  /-- the collective that it belonged to has completed; its eight values still refuse a repeat (assumption log 66) -/
  used : Bool
deriving DecidableEq, Repr

/-- The progress of the running collective (R315): which contributions of its own it has sent. -/
structure CollSent where
  slot : Nat
  level : Nat
  phase : Nat
  shard : Nat
deriving DecidableEq, Repr

/-- A shard of this device in a raise (R332, R333): its manifest entry, tensor, slice, context address and length, its object
where it is a frozen tensor's, its root and leaves. -/
structure Shard where
  entry : Nat
  tensor : Nat
  slice : Nat
  base : Nat
  length : Nat
  obj : Option Nat
  root : List Byte
  leaves : List (List Byte)
deriving DecidableEq, Repr

/-- A raise (R337): 1 while it runs, 2 once complete; its options, its shards, the (entry, leaf) pairs still to verify, and the bytes
that have landed of leaves in progress as (entry, leaf, offset, bytes). -/
structure Raise where
  state : Nat
  version : Nat
  mode : Nat
  chain : Bool
  shards : List Shard
  missing : List (Nat × Nat)
  partials : List (Nat × Nat × Nat × List Byte)
deriving DecidableEq, Repr

/-- A verified page on its way to the next member of its chain (R339, R340): its number, what it is, its bytes, and the device it
was sent to while it is in flight. -/
structure Forward where
  slot : Nat
  entry : Nat
  leaf : Nat
  slice : Nat
  data : List Byte
  device : Option Nat
deriving DecidableEq, Repr

/-- A weight version of a context (R345 to R348): the tensors of the set that raised it, and the object that holds each of the context's
frozen tensors, as (tensor, object). -/
structure Version where
  version : Nat
  raised : Bool
  set : List Nat
  objs : List (Nat × Nat)
deriving DecidableEq, Repr

/-- A scarf image being sent (R352, R353): its pages as they stood at the step close, after the header page; those not read yet
as (page index, context page address or 0), those copied to the copy-on-write pool, those whose writer waits for a place in the
pool, and the transfers sent. -/
structure ImageOut where
  step : Nat
  stamp : Nat
  generation : Nat
  layoutEpoch : Nat
  header : List Byte
  pages : List (List Byte)
  unread : List (Nat × Nat)
  pool : List Nat
  waiting : List Nat
  /-- page-transfer commands: (page index, acknowledged) -/
  sends : List (Nat × Bool)
  /-- the local copy's object -/
  localObj : Option Nat
  device : Nat
deriving DecidableEq, Repr

/-- A restore in progress (R358): its block; 1 while the context's started work drains since a stamp, 2 once the image is being read. -/
structure Restoring where
  step : Nat
  holder : Nat
  table : Nat
  place : Placement
  phase : Nat
  since : Nat
deriving DecidableEq, Repr

/-- The last closed step of a context and its ledger figures (R242, R247, R444). -/
structure StepStats where
  closed : Bool
  ePrev : Rat
  tPrev : Nat
  energy : Rat
  stepEnergy : Rat
  sigma : Nat
deriving DecidableEq, Repr

/-- A context (Table 6-6, R209 to R214) with everything later chapters keep for it. -/
structure Ctx where
  /-- Table 6-5 -/
  state : Nat
  roleEpoch : Nat
  layoutEpoch : Nat
  version : Nat
  seed : Nat
  step : Nat
  wayClass : Nat
  slotClass : Nat
  dirBase : Nat
  /-- firmware page of the leaf tables of each 512 GiB of context addresses (R168, R171) -/
  leafPages : Sparse Nat
  tensorTable : Nat
  tensorCount : Nat
  reportRing : Nat
  reports : Nat
  queueBase : Nat
  queueLog2 : Nat
  ringBase : Nat
  ringLog2 : Nat
  ringHead : Nat
  ringTail : Nat
  /-- entries of the ring that started commands have reserved (R219) -/
  ringReserved : Nat
  /-- bank masks granted, and planned masks, by device bay (R211, R208) -/
  grant : Sparse Nat
  plan : Sparse Nat
  keep : Sparse Nat
  bayMap : List Nat
  /-- the kept banks that its save area holds, as bay × 32 + bank in their order there; and the area's firmware pages (R212) -/
  saved : List Nat
  savePages : List Nat
  lanes : Nat
  segSize : Nat
  stackBase : Nat
  segments : Sparse Segment
  held : List Held
  prefAddr : Sparse Nat
  prefCount : Sparse Nat
  baySteps : Sparse BayStep
  queues : Sparse Queue
  arrivals : Nat
  parked : List Parked
  /-- source 234 was raised in the present period in which the record table is full (R253) -/
  parkFull : Bool
  /-- waits that completed with 0x0410 and whose fill has not landed: (kind of Table 7-4, mortise slot, queue, command slot) (R256) -/
  lateWaits : List (Nat × Nat × Nat × Nat)
  mortise : Sparse Mortise
  tensors : List Tensor
  recipes : List Nat
  collPlan : List PlanEntry
  /-- the grid (R303, R305): R, P and this device's coordinates, layers, heads, experts, k, cf, T, M, flags -/
  gridR : Nat
  gridP : Nat
  gridRep : Nat
  gridStage : Nat
  gridPos : Nat
  layers : Nat
  heads : Nat
  experts : Nat
  topK : Nat
  capacity : Nat
  tokens : Nat
  micro : Nat
  splitBack : Bool
  hostBit : Bool
  frameTable : List Nat
  peers : List Peer
  remotes : List Nat
  /-- cut list address and length, for the manifest and the recipes -/
  cutList : Nat
  sections : List (Nat × Nat × Nat)
  /-- a step is open; its admission stamp; it is waiting since; source 232 was raised -/
  stepOpen : Bool
  admitted : Bool
  admitStamp : Nat
  /-- the admission stamp of the step that is admitted and not open yet, and the version it pinned (R242, R347) -/
  nextStamp : Nat
  nextVersion : Nat
  waitSince : Option Nat
  waitRaised : Bool
  waitCounted : Bool
  stats : StepStats
  /-- block or idle stamp of R257 -/
  blockStamp : Option Nat
  runnableStamp : Option Nat
  declined : Bool
  /-- accumulated statistics of R319: small, big, non-finite count -/
  statSmall : Nat
  statBig : Nat
  statNonfinite : Nat
  /-- seal of the current step (R321): done, error, gn, nonfinite -/
  sealed : Bool
  sealCode : Nat
  gn : Nat
  nonfinite : Nat
  emaValid : Bool
  g2Ema : Nat
  trEma : Nat
  contribs : List Contrib
  collSent : List CollSent
  /-- abort contributions received for (slot, step) with the lost device, and (slot, step) answered by one's own (R326) -/
  aborts : List (Nat × Nat × Nat)
  abortsSent : List (Nat × Nat)
  /-- update commands done in the step: (recipe block address, S_u bits by stack, S_w bits by stack, clipped) (R160) -/
  updDone : List (Nat × Nat × Nat × Nat × Bool)
  skipCounted : Bool
  clipCounted : Bool
  /-- abandonment code of the open step (R468): none while it is not abandoned -/
  abandoned : Option Nat
  raise : Option Raise
  /-- a mode-0 raise of it has started (R336) -/
  jobRaised : Bool
  forwards : List Forward
  forwardNo : Nat
  versions : List Version
  /-- version current by the last accepted switch (R347) -/
  current : Nat
  mapped : Nat
  interval : Nat
  checkpointAsked : Bool
  image : Option ImageOut
  /-- an image that fell due and waits for a later step close (R351) -/
  imageDeferred : Bool
  /-- own images at the buddy: (generation, step, committed) (R354) -/
  imageSlots : List (Nat × Nat × Bool)
  localReserved : Bool
  /-- step, stamp, bytes, duration and code of the last image (0x4304) -/
  lastImage : List Nat
  restoring : Option Restoring
  /-- Sealed objects mapped (R341, R344) -/
  objects : List Nat
  replaced : Bool
  reshard : Nat
  reshardBlock : List Byte
  reshardPlace : Placement
  /-- teardown: started at, drained, invalidation pending, pages left to zero, the close waits for a swap -/
  closeStamp : Nat
  closePhase : Nat
  closePending : Bool
  pages : List Nat
  /-- the firmware pages of its directory, leaf tables and save area (R168, R212) -/
  firmPages : List Nat
  /-- sill pages reserved for its image slots (R350) -/
  imageReserve : Nat
  dovetail : Option Nat
  isGuest : Bool
deriving DecidableEq, Repr

def StepStats.zero : StepStats := { closed := false, ePrev := 0, tPrev := 0, energy := 0, stepEnergy := 0, sigma := 0 }

def Placement.none : Placement := { bayMap := [], pages := [], remotes := [], peers := [], phantoms := [] }

/-- A context ID that is not defined (Table 6-5, state 0). -/
def Ctx.undefined : Ctx :=
  { state := 0, roleEpoch := 0, layoutEpoch := 0, version := 0, seed := 0, step := 0, wayClass := 0,
    slotClass := 0, dirBase := 0, leafPages := [], tensorTable := 0, tensorCount := 0, reportRing := 0, reports := 0,
    queueBase := 0, queueLog2 := 0, ringBase := 0, ringLog2 := 0, ringHead := 0, ringTail := 0, ringReserved := 0,
    grant := [], plan := [], keep := [], bayMap := [], saved := [], savePages := [], lanes := 0, segSize := 0,
    stackBase := 0, segments := [], held := [], prefAddr := [], prefCount := [], baySteps := [], queues := [],
    arrivals := 0, parked := [], parkFull := false, lateWaits := [], mortise := [], tensors := [], recipes := [], collPlan := [],
    gridR := 0, gridP := 0, gridRep := 0, gridStage := 0, gridPos := 0, layers := 0, heads := 0, experts := 0,
    topK := 0, capacity := 0, tokens := 0, micro := 0, splitBack := false, hostBit := false, frameTable := [],
    peers := [], remotes := [], cutList := 0, sections := [], stepOpen := false, admitted := false,
    admitStamp := 0, nextStamp := 0, nextVersion := 0, waitSince := none, waitRaised := false, waitCounted := false, stats := StepStats.zero,
    blockStamp := none, runnableStamp := none, declined := false, statSmall := 0, statBig := 0, statNonfinite := 0,
    sealed := false, sealCode := 0, gn := 0, nonfinite := 0, emaValid := false, g2Ema := 0, trEma := 0,
    contribs := [], collSent := [], aborts := [], abortsSent := [], updDone := [], skipCounted := false, clipCounted := false,
    abandoned := none, raise := none, jobRaised := false, forwards := [], forwardNo := 0, versions := [], current := 0, mapped := 0, interval := 0,
    checkpointAsked := false, image := none, imageDeferred := false, imageSlots := [], localReserved := false, lastImage := [], restoring := none,
    objects := [], replaced := false, reshard := 0, reshardBlock := [], reshardPlace := Placement.none,
    closeStamp := 0, closePhase := 0, closePending := false, pages := [], firmPages := [], imageReserve := 0, dovetail := none, isGuest := false }

/-! ### Memory (chapter 5) -/

/-- What a physical HBM page is used for (R171, R184, R197, R372). -/
inductive PageUse where
  | free
  | firmware
  | staging
  | pool
  | owned (ctx : Nat)
  | object (id : Nat)
  | zeroing
  | invalidating
  | retired
deriving DecidableEq, Repr

/-- A page's bookkeeping: use, stamps of its corrected errors (R193), whether it is retired once its owner closes. -/
structure HbmPage where
  use : PageUse
  corrected : List Nat
  retiring : Bool
deriving DecidableEq, Repr

def HbmPage.free : HbmPage := { use := .free, corrected := [], retiring := false }

/-- A sill page (Table 5-7): 0 free, 1 Filling, 2 Sealed, 3 zeroing, 4 retired, 5 awaiting an invalidation (R173); object, heat (R183), number
of mapping contexts, stamps of its corrected errors, and whether it is retired once it is zeroed (R193, R197). -/
structure SillPage where
  state : Nat
  object : Nat
  heat : Nat
  refused : Bool
  maps : Nat
  corrected : List Nat
  retiring : Bool
deriving DecidableEq, Repr

def SillPage.free : SillPage := { state := 0, object := 0, heat := 0, refused := false, maps := 0, corrected := [], retiring := false }

/-- A line of a loft (R177, R195): its number (physical address / 128), its way, the context ID of its tag, and, while it is dirty, the 128
bytes that HBM holds beneath it. What an access returns stands in the byte store (R42). -/
structure LoftLine where
  line : Nat
  way : Nat
  owner : Option Nat
  beneath : Option (List Byte)
deriving DecidableEq, Repr

/-- A page-table entry that was changed and whose invalidation is not complete (R173): the context, the page number of the context
address, and the entry as it was. -/
structure StaleEntry where
  ctx : Nat
  page : Nat
  entry : Nat
deriving DecidableEq, Repr

/-- A transparent copy (R184 to R187): sill page, its HBM pool page, whether the copy is complete. -/
structure Copy where
  sill : Nat
  page : Nat
  done : Bool
deriving DecidableEq, Repr

/-- A Sealed or Filling object (R182, R341, R343, R350, R478): kind 0 frozen weight, 1 shared base, 2 scarf image, 3 crash dump. -/
structure Obj where
  kind : Nat
  sealed : Bool
  baseId : Nat
  tensor : Nat
  root : List Byte
  leaves : List (List Byte)
  length : Nat
  pages : List Nat
  inHbm : Bool
  refs : Nat
  /-- by page, the stamp of the last re-check pass that found it good (R344) -/
  lastGood : Sparse Nat
  /-- the manifest entry that raised it (R338) -/
  entry : Nat
  /-- pages written and verified while it is Filling -/
  got : List Nat
  /-- replacement in progress (R344): leaves still to arrive, and the new pages -/
  replacing : List Nat
  fresh : List Nat
  /-- the member of its chain that the shard is fetched from; none while it waits for host software (R344) -/
  askedOf : Option Nat
  /-- a scarf image's source, step, generation, stamp and committed flag -/
  srcDevice : Nat
  srcCtx : Nat
  step : Nat
  generation : Nat
  stamp : Nat
  committed : Bool
  layoutEpoch : Nat
  version : Nat
  isLocal : Bool
  /-- bytes of pages in arrival: (page index, offset, bytes) -/
  partials : List (Nat × Nat × List Byte)
  /-- pages that failed their leaf once -/
  failedOnce : List Nat
deriving DecidableEq, Repr

def Obj.none : Obj :=
  { kind := 0, sealed := false, baseId := 0, tensor := 0, root := [], leaves := [], length := 0, pages := [], inHbm := false,
    refs := 0, lastGood := [], entry := 0, got := [], replacing := [], fresh := [], askedOf := Option.none, srcDevice := 0, srcCtx := 0, step := 0, generation := 0, stamp := 0,
    committed := false, layoutEpoch := 0, version := 0, isLocal := false, partials := [], failedOnce := [] }

/-! ### Shared resources (chapter 1) -/

/-- Who asks for a shared resource of Table 1-9. -/
inductive Asker where
  | crashDump
  | sampling (run : Nat)
  | debugTrace
  | recoveryDeadline
  | remoteWait
  | windows
  | debugTimer
  | faultIndication
  | recovery
  | jobSignal
  | debugPin
  | console
  | debugUart
deriving DecidableEq, Repr

/-- A holder: who, its level, the order in which it was granted, the stamp of the grant, and whether the unit was free (R54). -/
structure Holder where
  asker : Asker
  level : Nat
  order : Nat
  stamp : Nat
  wasFree : Bool
deriving DecidableEq, Repr

/-- One unit of a resource: resources 1, 2, 5 are units 1, 2, 5; the timers of resource 3 are units 100 to 131; the pins of
resource 4 are units 200 to 203. Waiters lost the unit and re-arm in this order of loss (R57). -/
structure ResUnit where
  holder : Option Holder
  waiters : List (Asker × Nat × Nat)
deriving DecidableEq, Repr

def ResUnit.free : ResUnit := { holder := none, waiters := [] }

/-! ### Scheduling (chapter 7) -/

/-- The schedule tables (R236 to R238) and the slot clock. -/
structure Sched where
  active : List Nat
  pending : Option (Nat × List Nat)
  activeFrom : Nat
  /-- deadlines are checked at slot boundaries (R255) -/
  polling : Bool
  /-- the swap in progress: the incoming context, and those swapped out for it (R260) -/
  swapping : Option Nat
  outgoing : List Nat
  /-- W of each (context × 64 + bay) in its open step: stamp units in which a command waited for an engine of the bay that another context
  held, times the clock in MHz (R247) -/
  waits : Sparse Nat
  worstSigma : Nat
  worstCtx : Nat
deriving DecidableEq, Repr

def Sched.reset : Sched :=
  { active := [], pending := none, activeFrom := 0, polling := false, swapping := none, outgoing := [], waits := [], worstSigma := 0, worstCtx := 0 }

/-! ### Fabric (chapter 8) -/

/-- A rafter link (R264 to R277). -/
structure Link where
  /-- Table 8-5 -/
  state : Nat
  peer : Nat
  lanes : Nat
  laneMap : Nat
  rxSeq : Nat
  txSeq : Nat
  /-- discarding until a resent codeword arrives (R269) -/
  waiting : Bool
  /-- unacknowledged codewords: (seq, its flits, times resent) -/
  unacked : List (Nat × List Nat × Nat)
  /-- messages whose last codeword is not acknowledged: (that codeword, type, header, payload) -/
  msgs : List (Nat × Nat × FabHdr × List Byte)
  /-- messages that wait for credits or for room among the 512 codewords -/
  held : List (Nat × FabHdr × List Byte)
  credits : List Nat
  owed : List Nat
  lost : List Nat
  /-- the spare link in use: 0 none, else link + 1; lanes lent to others for a spare -/
  spare : Nat
  lent : List (Nat × Nat)
  swapping : Bool
  /-- the flits of the message that the codewords received so far leave open, and the messages and control flits that the last accepted
  codeword ended, each as its flits (R268) -/
  rxOpen : List Nat
  rxSplit : List (List Nat)
  downSince : Nat
  /-- when it last left Up (R480) -/
  lostSince : Nat
  deducted : Bool
deriving DecidableEq, Repr

def Link.down : Link :=
  { state := 0, peer := 0, lanes := 4, laneMap := 0, rxSeq := 0, txSeq := 0, waiting := false, unacked := [], msgs := [], held := [],
    credits := [4096, 512, 128], owed := [0, 0, 0], lost := [], spare := 0, lent := [], swapping := false, rxOpen := [], rxSplit := [],
    downSince := 0, lostSince := 0, deducted := false }

/-- A command of which some messages have landed (R286): its first seq, its messages, the seqs landed, whether one of them was
refused, and the header of its last message once that has landed. -/
structure RxCmd where
  first : Nat
  count : Nat
  landed : List Nat
  refused : Bool
  last : Option FabHdr
deriving DecidableEq, Repr

/-- The receive state for one source device (R284): the lowest seq not yet landed, the marked ones above it, and the commands
not yet whole or refused. -/
structure RxState where
  low : Nat
  marked : List Nat
  cmds : List RxCmd
deriving DecidableEq, Repr

def RxState.zero : RxState := { low := 0, marked := [], cmds := [] }

/-- A page-transfer command that awaits its acknowledgement (R287, R296, R340): its sender's queue number and slot, its messages,
whether they left on purlins, when they were last sent, and how often again. -/
structure PageOut where
  ctx : Nat
  queue : Nat
  slot : Nat
  device : Nat
  msgs : List (FabHdr × List Byte)
  purlin : Bool
  lastSend : Nat
  resends : Nat
deriving DecidableEq, Repr

/-- The transport state of R281 to R299. -/
structure Fabric where
  txSeq : Sparse Nat
  rx : Sparse RxState
  /-- devices in peer-reset state, with the stamp at which the hold runs out -/
  resetPeers : Sparse Nat
  /-- the ring of 256 stray records, by position, and the records written -/
  strays : Sparse (List Byte)
  strayIndex : Nat
  rrLink : Nat
  rrPort : Nat
  pageOut : List PageOut
  /-- 0x0308 refusals to resend after 2 µs: (context, queue, slot, device, message index, due stamp) -/
  resend : List (Nat × Nat × Nat × Nat × Nat × Nat)
  /-- objects 0x4104.01 to .05 and 0x4105 of each purlin port as its last training took them (R302), and under 16 and 17 those of
  0x4802.01 to .08 and the gateway of each host port (R385) -/
  frames : Sparse (List Nat)
  fallback : Bool
  offset : Int
deriving DecidableEq, Repr

def Fabric.reset : Fabric :=
  { txSeq := [], rx := [], resetPeers := [], strays := [], strayIndex := 0, rrLink := 0,
    rrPort := 0, pageOut := [], resend := [], frames := [], fallback := false, offset := 0 }

/-- The framing of a Cranany message on a purlin (R278, R279). -/
structure Frame where
  dstMac : Nat
  vlan : Nat
  priority : Nat
  ipv4 : Bool
  srcAddr : Nat
  dstAddr : Nat
  srcPort : Nat
  dstPort : Nat
  flow : Nat
  checksum : Nat
deriving DecidableEq, Repr

/-- The framing of a host message (R363, R364): the gateway's MAC address, VLAN and priority, family, addresses and UDP port. -/
structure HostFrame where
  dstMac : Nat
  vlan : Nat
  priority : Nat
  ipv4 : Bool
  srcAddr : Nat
  dstAddr : List Byte
  dstPort : Nat
  checksum : Nat
deriving DecidableEq, Repr

/-- Anything that leaves the device: fabric and host messages, Efyth frames, control flits, ARP and ND answers. -/
inductive Sent where
  | fabric (link : Nat) (type : Nat) (hdr : FabHdr) (payload : List Byte)
  | purlin (port : Nat) (frame : Frame) (type : Nat) (hdr : FabHdr) (payload : List Byte)
  | host (port : Nat) (frame : HostFrame) (type : Nat) (hdr : HostHdr) (payload : List Byte)
  | efyth (src : Nat) (dst : Nat) (type : Nat) (hdr : EfythHdr) (bytes : List Byte) (level : Nat)
  | flit (link : Nat) (flit : Nat)
  | resend (link : Nat) (seq : Nat)
  | codeword (link : Nat) (seq : Nat) (crc : Nat) (flits : List Nat) (lanes : List Nat)
  | arp (port : Nat) (dst : Nat) (asker : Nat) (mac : Nat)
  | neighbor (port : Nat) (dst : Nat) (asker : Nat) (mac : Nat)
deriving DecidableEq, Repr

/-! ### Host sessions and the clock (chapter 11) -/

/-- A session (R366 to R374): sequence numbers, the messages ahead of a gap, the unacknowledged events. -/
structure Session where
  isOpen : Bool
  src : List Byte
  kind : Nat
  tag : Nat
  ctx : Nat
  ctxEpoch : Nat
  port : Nat
  rxSeq : Nat
  txSeq : Nat
  unackedIn : Nat
  /-- parts of a value being written: (index, subindex, bytes) -/
  partial_ : Option (Nat × Nat × List Byte)
  /-- unacknowledged events: (seq, record, sends, stamp of the last send) -/
  events : List (Nat × List Byte × Nat × Nat)
  dropped : Nat
  dropRaised : Bool
  lastHeard : Nat
  /-- messages that arrived ahead of a gap (R369): seq, type, message, and what the environment gave with it -/
  ahead : List (Nat × Nat × HostMsg × Aux × Option Diag)
deriving DecidableEq, Repr

def Session.none : Session :=
  { isOpen := false, src := [], kind := 0, tag := 0, ctx := 0, ctxEpoch := 0, port := 0, rxSeq := 0, txSeq := 0, unackedIn := 0, partial_ := .none,
    events := [], dropped := 0, dropRaised := false, lastHeard := 0, ahead := [] }

/-- The stamp clock (R375 to R382, R272). -/
structure Clock where
  /-- Table 11-7 -/
  state : Nat
  locked : Bool
  lastSync : Nat
  /-- correction still to be slewed in, in stamp units, and the units that count toward its next unit (R382: 100 ppm) -/
  slew : Int
  slewFrac : Nat
  /-- the chosen master's rank by port (R377) -/
  masters : Sparse (List Nat)
  /-- a sync request is out with this t1 -/
  syncSent : Option Nat
  /-- in P3, the units since the last tick of the always-on clock (R438) -/
  aon : Nat
deriving DecidableEq, Repr

def Clock.reset : Clock :=
  { state := 0, locked := false, lastSync := 0, slew := 0, slewFrac := 0, masters := [], syncSent := none, aon := 0 }

/-! ### Dictionary transport (chapter 12) -/

/-- A multi-part buffer of one source (R392). -/
structure Parts where
  index : Nat
  sub : Nat
  bytes : List Byte
  last : Nat
deriving DecidableEq, Repr

def Parts.none : Parts := { index := 0, sub := 0, bytes := [], last := 0 }

/-- A write that awaits its commit (R401): how to answer it. -/
inductive Waiter where
  | efyth (src : Nat) (hdr : EfythHdr) (clamped : Bool)
  | host (session : Nat) (hdr : HostHdr)
  | direct
deriving DecidableEq, Repr

/-- The management port and the persistence store. -/
structure Efyth where
  notifySeq : Nat
  ownSeq : Nat
  buffers : Sparse Parts
  /-- the last 16 seqs answered for each source, with the reply (R390) -/
  replies : List (Nat × Nat × Nat × EfythHdr × List Byte)
  /-- the stamp at which a PLCA object was written last, and the settings in force (R387) -/
  plcaPending : Option Nat
  plca : List Nat
  /-- writes gathered since the first unsaved one: objects and who is answered -/
  gather : List Nat
  gatherSince : Option Nat
  waiters : List Waiter
  /-- the commit being written: its objects, who is answered, and the record as it stood when the window closed -/
  commit : Option (List Nat × List Waiter × List Byte)
  failedObjs : List Nat
  bank0 : List Byte
  bank1 : List Byte
  badBanks : List Nat
deriving DecidableEq, Repr

def Efyth.reset : Efyth :=
  { notifySeq := 0, ownSeq := 0, buffers := [], replies := [], plcaPending := none, plca := [], gather := [],
    gatherSince := none, waiters := [], commit := none, failedObjs := [], bank0 := [], bank1 := [], badBanks := [] }

/-! ### Interrupts and counters (chapter 13) -/

/-- One source (R412): pending, count, stamps, context of the last signal. -/
structure Source where
  pend : Bool
  count : Nat
  first : Nat
  last : Nat
  ctx : Option Nat
  epoch : Nat
deriving DecidableEq, Repr

def Source.zero : Source := { pend := false, count := 0, first := 0, last := 0, ctx := none, epoch := 0 }

/-- A management core (R28, R414 to R416): its RV64GC registers, modes and its banked controller registers. -/
structure Core where
  x : Sparse Nat
  f : Sparse Nat
  pc : Nat
  /-- 3 machine, 1 supervisor, 0 user -/
  mode : Nat
  running : Bool
  fastX : Sparse Nat
  fastPc : Nat
  inFast : Bool
  takeInfo : Nat
  takeFirst : Nat
  takeLast : Nat
  fastVec : Nat
  normVec : Nat
  /-- handlers in service, innermost first, each with the pc it interrupted -/
  service : List (Nat × Nat)
deriving DecidableEq, Repr

def Core.zero : Core :=
  { x := [], f := [], pc := 0, mode := 3, running := false, fastX := [], fastPc := 0, inFast := false, takeInfo := 0,
    takeFirst := 0, takeLast := 0, fastVec := 0, normVec := 0, service := [] }

/-- The interrupt controller (R411 to R421). -/
structure Intr where
  sources : Sparse Source
  config : Sparse Nat
  /-- MODE: ordered delivery -/
  ordered : Bool
  reason : Nat
deriving DecidableEq, Repr

def Intr.reset : Intr := { sources := [], config := [], ordered := true, reason := 0 }

/-- A sampling run (R427, R428). -/
structure Sampling where
  config : Nat
  /-- 0 idle, 1 running, 2 refused, 3 taken -/
  state : Nat
  writeIndex : Nat
  readMark : Nat
  recSeq : Nat
  records : Sparse (List Byte)
  code : Nat
  /-- source 437 is armed -/
  armed437 : Bool
  /-- stamp of the last record of each bay, and each bay's occurrences since the last sampled one -/
  lastRec : Sparse Nat
  counts : Sparse Nat
  /-- records from the read mark to the write index -/
  unread : Nat
deriving DecidableEq, Repr

def Sampling.idle : Sampling :=
  { config := 0, state := 0, writeIndex := 0, readMark := 0, recSeq := 0, records := [], code := 0, armed437 := true,
    lastRec := [], counts := [], unread := 0 }

/-- Performance counters, sampling and windows (R423 to R430). Counter key = unit × 8 + k. -/
structure Perf where
  values : Sparse Nat
  config : Sparse Nat
  overflow : Sparse Nat
  lost : List Nat
  run0 : Sampling
  run1 : Sampling
  windows : Sparse (List Byte)
  busiest : Sparse (List Byte)
  /-- the busiest windows of the cycle that runs -/
  nextBusiest : Sparse (List Byte)
  /-- the timer is held; since when, or since when the window length is in force -/
  windowOn : Bool
  windowFrom : Nat
deriving DecidableEq, Repr

def Perf.reset : Perf :=
  { values := [], config := [], overflow := [], lost := [], run0 := Sampling.idle, run1 := Sampling.idle, windows := [],
    busiest := [], nextBusiest := [], windowOn := false, windowFrom := 0 }

/-! ### Power (chapter 14) -/

/-- One bay's power and service state (Table 1-2, R440, R464). -/
structure Bay where
  out : Bool
  inReset : Bool
  /-- 0 P0, 1 P1, 2 P2 -/
  power : Nat
  waking : Bool
  idleSince : Nat
  ballast : Bool
  /-- banks that hold another context's data or none's: last holder of each dirty bank -/
  dirty : Nat
  zeroing : Bool
  grantWaits : List (Nat × Nat)
  /-- stamps of residue and compare mismatches, and of hangs not reproduced (R465, R480) -/
  mismatches : List Nat
  hangs : List Nat
  /-- quarantine: engine, suspects still to come, current, when it began, the ones that reproduced -/
  qActive : Bool
  qEngine : Nat
  qOrder : List Nat
  qCurrent : Option Nat
  qSince : Nat
  qReproduced : Bool
  /-- suspects already quarantined in this order -/
  qDone : List Nat
deriving DecidableEq, Repr

def Bay.inService : Bay :=
  { out := false, inReset := false, power := 0, waking := false, idleSince := 0, ballast := false, dirty := 0,
    zeroing := false, grantWaits := [], mismatches := [], hangs := [], qActive := false, qEngine := 0, qOrder := [],
    qCurrent := none, qSince := 0, qReproduced := false, qDone := [] }

/-- A thermal limit of Table 14-3: its clip limit in MHz, the stamp of its last step down while hot, since when it has been cool,
the stamp of its last step up, and since when it has been hot at 1,050 MHz. -/
structure Therm where
  limit : Nat
  hot : Option Nat
  cool : Option Nat
  coolStep : Nat
  at1050 : Option Nat
deriving DecidableEq, Repr

def Therm.fresh : Therm := { limit := 2100, hot := none, cool := none, coolStep := 0, at1050 := none }

/-- One beam die: tensor clock limits by reason, trip, reset, junctions, rail. -/
structure Die where
  inReset : Bool
  failed : Bool
  /-- clip limits in MHz: thermal and wear are the die's own (R451) -/
  therm : Therm
  wear : Nat
  clock : Nat
  tripped : Bool
  tripSince : Nat
  gated : Bool
  junction : Int
  voltage : Nat
  current : Nat
  kCorr : Rat
  frozen : Bool
  failRun : Nat
  beam10 : Rat
  wearSeconds : Nat
  settle : Bool
deriving DecidableEq, Repr

def Die.fresh : Die :=
  { inReset := false, failed := false, therm := Therm.fresh, wear := 2100, clock := 2100, tripped := false, tripSince := 0,
    gated := false, junction := 0, voltage := 750, current := 0,
    kCorr := 1, frozen := false, failRun := 0, beam10 := 0, wearSeconds := 0, settle := false }

/-- The energy ledger, the governor and the limits (R442 to R456). Powers in W, energies in mJ, exact. -/
structure Power where
  /-- device power state, Table 14-2 -/
  device : Nat
  waking : Bool
  noResidentSince : Nat
  /-- package and work power of the last windows, newest first, at most 1,000 (R447, R452) -/
  windows : List Rat
  workWindows : List Rat
  g : Rat
  /-- band, electrical and shed limits in MHz (R451) -/
  band : Nat
  elec : Nat
  vrDies : List Nat
  pElec : Option Rat
  pTherm : Option Rat
  elecSince : Option Nat
  elecStage1 : Bool
  elecLastStep : Nat
  elecClear : Nat
  above36Since : Option Nat
  aboveAt1050 : Option Nat
  aboveMeanSince : Option Nat
  over40 : List Nat
  vrOver : Bool
  shed : Bool
  shedPin : Bool
  shedCauses : List Nat
  shedClearSince : Nat
  shedL3 : Bool
  shedOver : Option Nat
  /-- accounts: package, idle, ballast, contexts since cold reset -/
  ePackage : Rat
  eIdle : Rat
  eBallast : Rat
  eCtx : Rat
  /-- this cycle: package, idle, ballast, contexts, highest and lowest 1 ms mean, clip and shed µs, deferred, clock, junction -/
  cPackage : Rat
  cIdle : Rat
  cBallast : Rat
  cCtx : Rat
  cMax : Rat
  cMin : Option Rat
  cClip : Nat
  cShed : Nat
  cDeferred : Nat
  cMinClock : Nat
  cMaxTj : Option Int
  cycles : Nat
  maxJunction : Int
  edge0 : Int
  edge1 : Int
  edgeTherm : Therm
  cleanShutdown : Bool
deriving DecidableEq, Repr

def Power.reset : Power :=
  { device := 0, waking := false, noResidentSince := 0, windows := [], workWindows := [], g := 0, band := 2100, elec := 2100,
    vrDies := [], pElec := none, pTherm := none, elecSince := none, elecStage1 := false, elecLastStep := 0, elecClear := 0,
    above36Since := none, aboveAt1050 := none, aboveMeanSince := none, over40 := [], vrOver := false, shed := false,
    shedPin := false, shedCauses := [], shedClearSince := 0, shedL3 := false, shedOver := none, ePackage := 0, eIdle := 0, eBallast := 0, eCtx := 0, cPackage := 0, cIdle := 0, cBallast := 0,
    cCtx := 0, cMax := 0, cMin := none, cClip := 0, cShed := 0, cDeferred := 0, cMinClock := 2100, cMaxTj := none, cycles := 0,
    maxJunction := 0, edge0 := 0, edge1 := 0, edgeTherm := Therm.fresh, cleanShutdown := false }

/-! ### Faults (chapter 15) -/

/-- A fault log entry (Table 15-5). -/
structure LogEntry where
  stamp : Nat
  code : Nat
  ctxEpoch : Nat
  ctx : Option Nat
  severity : Nat
  unitKind : Nat
  unit : Nat
  action : Nat
  detail : Nat
  health : Nat
  entry : Nat
deriving DecidableEq, Repr

structure FaultSt where
  log : List LogEntry
  logCount : Nat
  fatalUnacked : Bool
  /-- permanent deductions by reason key, transient events as (stamp, points), points in force -/
  permanent : Sparse Nat
  recent : List (Nat × Nat)
  transient : Nat
  lastRestore : Nat
  dumping : Option Nat
  /-- the running dump was started by a write of object 0x7004.04 (R397) -/
  dumpWritten : Bool
  /-- what the running dump gathered at its start (R478) -/
  dumpItems : List Byte
  dumps : List Nat
  /-- the start of the re-check pass that runs or is due next (R343) -/
  recheck : Option Nat
  /-- heartbeat -/
  lastKick : Nat
  watchdogOn : Bool
  expired : Option Nat
  /-- beam dies and edge links in reset, warm reset in progress -/
  selfTest : Nat
  testFailed : List Byte
  restoreCount : Nat
deriving DecidableEq, Repr

def FaultSt.reset : FaultSt :=
  { log := [], logCount := 0, fatalUnacked := false, permanent := [], recent := [], transient := 0, lastRestore := 0,
    dumping := none, dumpWritten := false, dumpItems := [], dumps := [], recheck := none, lastKick := 0, watchdogOn := false, expired := none, selfTest := 0,
    testFailed := [], restoreCount := 0 }

/-! ### Boot (chapter 16) and pins (chapter 17) -/

/-- Where the device is between cold reset and normal running (R493, R494, R497, R508, R528). -/
inductive Phase where
  | coldReset
  | rngStopped
  | hold
  | recovery
  | running
  | warmHold
  | warmBoot
  | p3
deriving DecidableEq, Repr

structure Boot where
  phase : Phase
  straps : Nat
  fuses : Fuses
  /-- image region of the flash: 4,096 header bytes and the body -/
  flash : List Byte
  image : List Byte
  source : Nat
  failCode : Nat
  bootStart : Nat
  slots : List (List Byte)
  /-- recovery fetch: bytes so far, window start and size, image length, requests in a row, waiting to restart -/
  fetched : List Byte
  window : Nat
  windowLen : Nat
  got : Sparse Nat
  imageLen : Nat
  requests : Nat
  restartWait : Bool
  /-- the station from which an update is being fetched, and what the region will read back once the image is
  programmed, where that is not the image (R501) -/
  updateFrom : Option Nat
  updateBack : Option (List Byte)
  /-- by sill package, the pages that the zeroing after a cold boot has reached (R495) -/
  sillReached : Sparse Nat
  /-- this boot follows a warm reset -/
  warm : Bool
  debug : Bool
  rngBad : Bool
  /-- waiting for a random value since a stamp: a quote, with its nonce and the slots; session opens, with their port -/
  rngWaitQuote : Option (Nat × List Byte)
  rngWaitOpens : List (Nat × Nat × HostMsg)
  debugNext : Bool
  deviceId : Nat
  coldResets : Nat
  coldStamp : Nat
  /-- stamp of the last recovery request -/
  requestStamp : Nat
  /-- pages of the host staging area that this boot set aside (R372; assumption log 56) -/
  staging : Nat
deriving DecidableEq, Repr

/-- The fuse row that the model starts from (assumption log 7). -/
def Fuses.blank : Fuses :=
  { serial := 0, dieRevs := [0, 0, 0, 0, 0, 0], week := 0, romVersion := 0, romDigest := [], keyDigest := [], minSecurity := 0,
    debugLock := false, endorsement := [], macHost0 := 0, macHost1 := 0, macMgmt := 0, wearBudget := 72000000,
    wearCaps := [], spares := [0, 0, 0, 0], bayMap := [] }

def Boot.reset : Boot :=
  { phase := .coldReset, straps := 0, fuses := Fuses.blank, flash := [], image := [], source := 0, failCode := 0,
    bootStart := 0, slots := [], fetched := [], window := 0, windowLen := 0, got := [], imageLen := 0, requests := 0,
    restartWait := false, updateFrom := none, updateBack := none, sillReached := [], warm := false, debug := false, rngBad := false, rngWaitQuote := none, rngWaitOpens := [],
    debugNext := false, deviceId := 0, coldResets := 0, coldStamp := 0, requestStamp := 0, staging := 0 }

structure Pins where
  resetN : Bool
  pgSoc : Bool
  pgBeam : List Bool
  shedN : Bool
  vrAlertN : Bool
  ppsOut : Bool
  ppsRise : Nat
  refLost : Bool
  jtagTest : Bool
  jobError : Nat
  /-- assertion of a debug holder by pin -/
  debugPins : Nat
deriving DecidableEq, Repr

def Pins.reset : Pins :=
  { resetN := true, pgSoc := true, pgBeam := [true, true, true, true], shedN := true, vrAlertN := true,
    ppsOut := false, ppsRise := 0, refLost := false, jtagTest := false, jobError := 0, debugPins := 0 }

/-! ### The state -/

structure State where
  /-- commands that wait, first in, first out -/
  pending : List Instr
  /-- the stamp counter (R375) -/
  stamp : Nat
  /-- draws on the free values (assumption log 4); the model's own -/
  freeCtr : Nat
  /-- everything sent, oldest first (assumption log 5) -/
  sent : List Sent
  objs : Sparse ObjVal
  mem : List Host.Cell
  hbm : Sparse HbmPage
  sill : Sparse SillPage
  copies : List Copy
  /-- the sets of the four lofts: die × 49,152 + set, each with its lines, the most recently used first (R177) -/
  loft : Sparse (List LoftLine)
  /-- the interleave mode in force of each stack (R175, R176) -/
  interleave : Sparse Nat
  /-- changed page-table entries that an agent may still use (R173) -/
  stale : List StaleEntry
  /-- copies in progress and waiting, by sill package, first is running (R186) -/
  copyQueue : Sparse (List Nat)
  objects : Sparse Obj
  nextObj : Nat
  engines : Sparse Engine
  bays : Sparse Bay
  dies : Sparse Die
  res : Sparse ResUnit
  resOrder : Nat
  ctxs : Sparse Ctx
  epochs : Sparse Nat
  sched : Sched
  links : Sparse Link
  ports : Sparse Nat
  hostPorts : Sparse Nat
  fab : Fabric
  sessions : Sparse Session
  clock : Clock
  efyth : Efyth
  intr : Intr
  cores : Sparse Core
  perf : Perf
  power : Power
  fault : FaultSt
  boot : Boot
  pins : Pins
deriving DecidableEq, Repr

/-- The machine in cold reset, before its boot: nothing listed, every value that the manual gives for cold reset, and no
command waiting. -/
def State.reset : State :=
  { pending := [], stamp := 0, freeCtr := 0, sent := [], objs := [], mem := [], hbm := [], sill := [], copies := [], loft := [],
    interleave := [], stale := [], copyQueue := [], objects := [], nextObj := 0, engines := [], bays := [], dies := [], res := [], resOrder := 0, ctxs := [],
    epochs := [], sched := Sched.reset, links := [], ports := [], hostPorts := [], fab := Fabric.reset, sessions := [],
    clock := Clock.reset, efyth := Efyth.reset, intr := Intr.reset, cores := [], perf := Perf.reset, power := Power.reset,
    fault := FaultSt.reset, boot := Boot.reset, pins := Pins.reset }

/-- No command of this block stops with a fault: the manual gives every command of the table an effect in every state, the
effect "changes nothing" included (assumption log 6). -/
inductive Fault where
deriving DecidableEq, Repr

/-- Why a command has no meaning in the model. -/
inductive Refusal where
  /-- Raised by exec for a row that has no meaning yet; safe: the run stops. -/
  | notModelled (mnemonic : String)
deriving DecidableEq, Repr

end Sys2Proof.Machine
end

