-- ==== Sys2Proof/Machine/ObjTable.lean ====
section
/-! DEFINITION. The object dictionary's rows (R20 to R22, Tables 1-11, 2-14, 3-14, 4-13, 5-13, 6-22, 7-9, 8-17, 9-11, 10-9,
11-9, 12-6 to 12-9, 13-14, 14-7, 15-13, 16-10 and 17-12): index, first and last subindex, type, access, default and range.
A default that is fused, kept or set at boot stands here as 0; Dict.lean computes those values. -/

namespace Sys2Proof.Machine

/-- Object types (Table 0-7). -/
inductive OTy where
  | u8 | u16 | u32 | u64 | i32 | f32 | stamp | str | blob
deriving DecidableEq, Repr

/-- Access codes (Table 0-8). -/
inductive OAcc where
  | ro | rw | rwp | wo | cmd
deriving DecidableEq, Repr

/-- Legal values of a writable object (R23, R398). -/
inductive ORange where
  | any
  | spans (l : List (Int × Int))
  /-- an enumerated object: its nearest legal value is its default -/
  | enum (l : List Nat)
  /-- raw FP32 ends, both non-negative -/
  | float (lo hi : Nat)
  | fixed (len : Nat)
  | text (max : Nat)
  | mult (m : Nat)
  | mask (m : Nat)
deriving DecidableEq, Repr

structure ORow where
  idx : Nat
  lo : Nat
  hi : Nat
  ty : OTy
  acc : OAcc
  dflt : ObjVal
  rng : ORange
deriving DecidableEq, Repr

/-- Bytes of a fixed-size type. -/
def OTy.size : OTy → Nat
  | .u8 => 1 | .u16 => 2 | .u32 => 4 | .u64 => 8 | .i32 => 4 | .f32 => 4 | .stamp => 8 | .str => 0 | .blob => 0

/-- One CONFIG word of Table 13-2, low 16 bits. -/
def configWord (fast : Bool) (prio core : Nat) (wake m c n : Bool) : Nat :=
  2 ^ 15 + b2n fast * 2 ^ 14 + prio * 2 ^ 11 + core * 2 ^ 9 + b2n wake * 2 ^ 8 + b2n m * 2 ^ 7 + b2n c * 2 ^ 6 + b2n n * 2 ^ 5

/-- The default configuration of source `s` (Table 13-5); 0 for a reserved number. -/
def defaultConfigWord (s : Nat) : Nat :=
  if s ≤ 7 then configWord true 7 0 true true false true
  else if s ≤ 12 then configWord false 7 0 false true false true
  else if s < 32 then 0
  else if s < 128 then configWord false 5 1 false true true false
  else if s < 132 then configWord false 5 1 false true true false
  else if s < 160 then 0
  else if s ≤ 217 then configWord false 4 2 false true false false
  else if s < 224 then 0
  else if s < 232 then configWord false 4 2 false true true false
  else if s ≤ 237 then configWord false 4 2 false true (s = 234 ∨ s = 236) false
  else if s = 241 then 0
  else if s ≤ 247 then configWord false 4 2 false true true false
  else if s < 288 then 0
  else if s < 352 then configWord false 3 3 false false true false
  else if s < 416 then configWord false 1 3 false true true false
  else if s ≤ 434 then configWord false 1 3 false true false false
  else if s ≤ 436 then configWord false 1 3 false true true false
  else if s ≤ 440 then configWord false 1 3 false true false false
  else if s < 448 then 0
  else if s ≤ 453 then configWord false 2 3 false true false true
  else if s = 454 then configWord false 2 3 false true false false
  else if s = 455 then configWord false 5 1 false true true false
  else if s < 480 then 0
  else if s < 512 then configWord false 2 3 true true false false
  else 0

/-- Object 0x5002.01 before any write (R422). -/
def defaultConfig : List Byte := (List.range 512).flatMap (fun s => leBytes 2 (defaultConfigWord s))

def objRows0 : List ORow := [
  ⟨0x1001, 1, 1, .str, .ro, .blob [86, 111, 98, 111, 122, 105, 97], .any⟩,
  ⟨0x1001, 2, 2, .str, .ro, .blob [77, 101, 107, 117, 97, 116, 104], .any⟩,
  ⟨0x1001, 3, 3, .str, .ro, .blob [77, 75, 56], .any⟩,
  ⟨0x1001, 4, 4, .str, .ro, .blob [86, 66, 90, 45, 77, 75, 56, 45, 72, 55, 54, 56], .any⟩,
  ⟨0x1002, 1, 1, .u64, .ro, .num 0, .any⟩,
  ⟨0x1002, 2, 7, .u8, .ro, .num 0, .any⟩,
  ⟨0x1002, 8, 8, .u16, .ro, .num 0, .any⟩,
  ⟨0x1003, 1, 1, .u32, .ro, .num 0, .any⟩,
  ⟨0x1003, 2, 2, .u32, .ro, .num 0, .any⟩,
  ⟨0x1003, 3, 3, .blob, .ro, .blob [], .any⟩,
  ⟨0x1003, 4, 4, .u16, .ro, .num 1, .any⟩,
  ⟨0x1004, 1, 1, .u32, .rwp, .num 0, .any⟩,
  ⟨0x1004, 2, 2, .u32, .ro, .num 0, .any⟩,
  ⟨0x1004, 3, 3, .str, .rwp, .blob [], .text 64⟩,
  ⟨0x1005, 1, 1, .stamp, .ro, .num 0, .any⟩,
  ⟨0x1005, 2, 2, .u32, .ro, .num 0, .any⟩,
  ⟨0x10FF, 1, 1, .u64, .ro, .num 0, .any⟩,
  ⟨0x10FF, 2, 2, .u8, .cmd, .num 0, .spans [(1, 1)]⟩,
  ⟨0x1101, 1, 1, .u8, .ro, .num 0, .any⟩,
  ⟨0x1101, 2, 2, .u64, .ro, .num 0, .any⟩,
  ⟨0x1102, 1, 1, .u8, .rwp, .num 255, .spans [(0, 255)]⟩,
  ⟨0x1102, 2, 2, .u8, .rwp, .num 8, .spans [(1, 255)]⟩,
  ⟨0x1102, 3, 3, .u8, .rwp, .num 32, .spans [(1, 255)]⟩,
  ⟨0x1102, 4, 4, .u8, .rwp, .num 0, .spans [(0, 255)]⟩,
  ⟨0x1102, 5, 5, .u8, .rwp, .num 128, .spans [(0, 255)]⟩,
  ⟨0x1103, 1, 8, .u64, .rwp, .num 0, .spans [(0, 281474976710655)]⟩,
  ⟨0x1104, 1, 1, .u64, .rwp, .num 0, .spans [(0, 281474976710655)]⟩,
  ⟨0x1104, 2, 2, .u64, .rwp, .num 0, .spans [(0, 281474976710655)]⟩,
  ⟨0x1106, 1, 1, .u64, .ro, .num 0, .any⟩,
  ⟨0x1106, 2, 2, .u64, .ro, .num 0, .any⟩,
  ⟨0x1106, 3, 3, .u64, .ro, .num 0, .any⟩,
  ⟨0x1106, 4, 4, .u64, .ro, .num 0, .any⟩,
  ⟨0x1106, 5, 5, .u64, .ro, .num 0, .any⟩,
  ⟨0x1106, 6, 6, .u64, .ro, .num 0, .any⟩,
  ⟨0x1106, 7, 7, .u64, .ro, .num 0, .any⟩,
  ⟨0x1106, 8, 8, .u64, .ro, .num 0, .any⟩,
  ⟨0x1107, 1, 1, .u8, .cmd, .num 0, .spans [(1, 1)]⟩,
  ⟨0x11FF, 1, 1, .u64, .ro, .num 0, .any⟩,
  ⟨0x11FF, 2, 2, .u8, .cmd, .num 0, .spans [(1, 1)]⟩,
  ⟨0x2001, 1, 64, .u8, .ro, .num 0, .any⟩,
  ⟨0x2002, 1, 6, .u8, .ro, .num 0, .any⟩,
  ⟨0x2003, 1, 4, .u8, .ro, .num 0, .any⟩,
  ⟨0x2004, 1, 6, .u8, .ro, .num 0, .any⟩,
  ⟨0x2004, 7, 14, .u8, .ro, .num 0, .any⟩,
  ⟨0x2004, 15, 15, .u8, .ro, .num 0, .any⟩,
  ⟨0x2005, 1, 1, .u32, .ro, .num 0, .any⟩,
  ⟨0x2005, 2, 2, .u32, .ro, .num 0, .any⟩,
  ⟨0x2005, 3, 3, .u8, .ro, .num 0, .any⟩]

def objRows1 : List ORow := [
  ⟨0x2005, 4, 4, .u8, .cmd, .num 0, .spans [(1, 1)]⟩,
  ⟨0x2040, 1, 5, .u32, .ro, .num 0, .any⟩,
  ⟨0x2041, 1, 1, .stamp, .ro, .num 0, .any⟩,
  ⟨0x2041, 2, 2, .u8, .ro, .num 0, .any⟩,
  ⟨0x2041, 3, 3, .u8, .ro, .num 0, .any⟩,
  ⟨0x2041, 4, 4, .u8, .ro, .num 0, .any⟩,
  ⟨0x2041, 5, 5, .u16, .ro, .num 0, .any⟩,
  ⟨0x2042, 1, 1, .u8, .cmd, .num 0, .spans [(1, 1)]⟩,
  ⟨0x20FF, 1, 1, .u64, .ro, .num 0, .any⟩,
  ⟨0x20FF, 2, 2, .u8, .cmd, .num 0, .spans [(1, 1)]⟩,
  ⟨0x2110, 1, 1, .u8, .rw, .num 0, .enum [0, 1]⟩,
  ⟨0x2110, 2, 2, .u8, .rw, .num 0, .enum [0, 1]⟩,
  ⟨0x2111, 1, 1, .u64, .ro, .num 0, .any⟩,
  ⟨0x2111, 2, 2, .u64, .ro, .num 0, .any⟩,
  ⟨0x2111, 3, 3, .u64, .ro, .num 0, .any⟩,
  ⟨0x2111, 4, 4, .u64, .ro, .num 0, .any⟩,
  ⟨0x2111, 5, 5, .u64, .ro, .num 0, .any⟩,
  ⟨0x2111, 6, 6, .u64, .ro, .num 0, .any⟩,
  ⟨0x2112, 1, 1, .u8, .cmd, .num 0, .spans [(1, 1)]⟩,
  ⟨0x2120, 1, 1, .u8, .rw, .num 0, .enum [0, 1]⟩,
  ⟨0x2120, 2, 2, .u8, .rw, .num 0, .enum [0, 1]⟩,
  ⟨0x2121, 1, 1, .u64, .ro, .num 0, .any⟩,
  ⟨0x2121, 2, 2, .u64, .ro, .num 0, .any⟩,
  ⟨0x2121, 3, 3, .u64, .ro, .num 0, .any⟩,
  ⟨0x2121, 4, 4, .u64, .ro, .num 0, .any⟩,
  ⟨0x2121, 5, 5, .u64, .ro, .num 0, .any⟩,
  ⟨0x2121, 6, 6, .u64, .ro, .num 0, .any⟩,
  ⟨0x2121, 7, 7, .u64, .ro, .num 0, .any⟩,
  ⟨0x2121, 8, 8, .u64, .ro, .num 0, .any⟩,
  ⟨0x2121, 9, 9, .u64, .ro, .num 0, .any⟩,
  ⟨0x2122, 1, 1, .u8, .cmd, .num 0, .spans [(1, 1)]⟩,
  ⟨0x2123, 1, 1, .stamp, .ro, .num 0, .any⟩,
  ⟨0x2123, 2, 2, .u8, .ro, .num 0, .any⟩,
  ⟨0x2123, 3, 3, .u8, .ro, .num 0, .any⟩,
  ⟨0x2123, 4, 4, .u8, .ro, .num 0, .any⟩,
  ⟨0x21FF, 1, 1, .u64, .ro, .num 0, .any⟩,
  ⟨0x21FF, 2, 2, .u8, .cmd, .num 0, .spans [(1, 1)]⟩,
  ⟨0x2201, 1, 1, .u64, .ro, .num 0, .any⟩,
  ⟨0x2201, 2, 2, .u64, .ro, .num 0, .any⟩,
  ⟨0x2201, 3, 3, .u64, .ro, .num 0, .any⟩,
  ⟨0x2201, 4, 4, .u64, .ro, .num 0, .any⟩,
  ⟨0x2201, 5, 5, .u64, .ro, .num 0, .any⟩,
  ⟨0x2201, 6, 6, .u64, .ro, .num 0, .any⟩,
  ⟨0x2201, 7, 7, .u64, .ro, .num 0, .any⟩,
  ⟨0x2201, 8, 8, .u64, .ro, .num 0, .any⟩,
  ⟨0x2202, 1, 1, .u8, .rwp, .num 1, .enum [0, 1]⟩,
  ⟨0x2203, 1, 1, .u64, .ro, .num 0, .any⟩,
  ⟨0x2203, 2, 2, .u64, .ro, .num 0, .any⟩]

def objRows2 : List ORow := [
  ⟨0x2203, 3, 3, .u64, .ro, .num 0, .any⟩,
  ⟨0x2203, 4, 4, .u64, .ro, .num 0, .any⟩,
  ⟨0x2203, 5, 5, .u64, .ro, .num 0, .any⟩,
  ⟨0x2203, 6, 6, .u64, .ro, .num 0, .any⟩,
  ⟨0x2204, 1, 1, .u8, .cmd, .num 0, .spans [(1, 1)]⟩,
  ⟨0x22FF, 1, 1, .u64, .ro, .num 0, .any⟩,
  ⟨0x22FF, 2, 2, .u8, .cmd, .num 0, .spans [(1, 1)]⟩,
  ⟨0x3001, 1, 16, .u8, .rwp, .num 0, .enum [0, 1]⟩,
  ⟨0x3002, 1, 16, .u16, .rwp, .num 256, .spans [(0, 1024)]⟩,
  ⟨0x3003, 1, 1, .u8, .rw, .num 1, .enum [0, 1]⟩,
  ⟨0x3003, 2, 2, .u16, .rw, .num 1024, .spans [(16, 65535)]⟩,
  ⟨0x3003, 3, 3, .u16, .rw, .num 64, .spans [(1, 65534)]⟩,
  ⟨0x3004, 1, 8, .u16, .rw, .num 65535, .spans [(0, 65535)]⟩,
  ⟨0x3005, 1, 1, .u16, .rwp, .num 24, .spans [(1, 168)]⟩,
  ⟨0x3005, 2, 2, .u16, .rwp, .num 12, .spans [(1, 168)]⟩,
  ⟨0x3006, 1, 1, .u16, .rwp, .num 16, .spans [(1, 1024)]⟩,
  ⟨0x3010, 1, 1, .u64, .ro, .num 0, .any⟩,
  ⟨0x3010, 2, 2, .u64, .ro, .num 0, .any⟩,
  ⟨0x3010, 3, 3, .u64, .ro, .num 0, .any⟩,
  ⟨0x3010, 4, 4, .u64, .ro, .num 0, .any⟩,
  ⟨0x3010, 5, 5, .u64, .ro, .num 0, .any⟩,
  ⟨0x3010, 6, 6, .u64, .ro, .num 0, .any⟩,
  ⟨0x3010, 7, 7, .u64, .ro, .num 0, .any⟩,
  ⟨0x3010, 8, 8, .u64, .ro, .num 0, .any⟩,
  ⟨0x3010, 9, 9, .u64, .ro, .num 0, .any⟩,
  ⟨0x3010, 10, 10, .u64, .ro, .num 0, .any⟩,
  ⟨0x3010, 11, 11, .u64, .ro, .num 0, .any⟩,
  ⟨0x3010, 12, 12, .u64, .ro, .num 0, .any⟩,
  ⟨0x3010, 13, 13, .u64, .ro, .num 0, .any⟩,
  ⟨0x3010, 14, 14, .u64, .ro, .num 0, .any⟩,
  ⟨0x3010, 15, 15, .u64, .ro, .num 0, .any⟩,
  ⟨0x3010, 16, 16, .u64, .ro, .num 0, .any⟩,
  ⟨0x3011, 1, 1, .stamp, .ro, .num 0, .any⟩,
  ⟨0x3011, 2, 2, .u8, .ro, .num 0, .any⟩,
  ⟨0x3011, 3, 3, .u8, .ro, .num 0, .any⟩,
  ⟨0x3011, 4, 4, .u64, .ro, .num 0, .any⟩,
  ⟨0x3011, 5, 5, .u16, .ro, .num 65535, .any⟩,
  ⟨0x3012, 1, 1, .u32, .ro, .num 0, .any⟩,
  ⟨0x3012, 2, 2, .u32, .ro, .num 0, .any⟩,
  ⟨0x3012, 3, 3, .u32, .ro, .num 0, .any⟩,
  ⟨0x3012, 4, 4, .u32, .ro, .num 0, .any⟩,
  ⟨0x3012, 5, 5, .u32, .ro, .num 0, .any⟩,
  ⟨0x3012, 6, 6, .u32, .rwp, .num 0, .spans [(0, 393216)]⟩,
  ⟨0x3012, 7, 7, .u32, .rwp, .num 0, .spans [(0, 524288)]⟩,
  ⟨0x3013, 1, 1, .u8, .cmd, .num 0, .spans [(1, 1)]⟩,
  ⟨0x30FF, 1, 1, .u64, .ro, .num 0, .any⟩,
  ⟨0x30FF, 2, 2, .u8, .cmd, .num 0, .spans [(1, 1)]⟩,
  ⟨0x3101, 1, 1, .u16, .ro, .num 0, .any⟩]

def objRows3 : List ORow := [
  ⟨0x3101, 2, 2, .u8, .ro, .num 0, .any⟩,
  ⟨0x3102, 1, 1, .u16, .rw, .num 0, .spans [(0, 4095)]⟩,
  ⟨0x3102, 2, 2, .u8, .ro, .num 0, .any⟩,
  ⟨0x3102, 3, 3, .u16, .ro, .num 0, .any⟩,
  ⟨0x3102, 4, 4, .u32, .ro, .num 0, .any⟩,
  ⟨0x3102, 5, 5, .u32, .ro, .num 0, .any⟩,
  ⟨0x3103, 1, 1, .blob, .cmd, .blob [], .fixed 64⟩,
  ⟨0x3103, 2, 2, .u16, .ro, .num 0, .any⟩,
  ⟨0x3103, 3, 3, .u16, .ro, .num 0, .any⟩,
  ⟨0x3104, 1, 1, .u16, .cmd, .num 0, .spans [(0, 4095)]⟩,
  ⟨0x3104, 2, 2, .u16, .ro, .num 0, .any⟩,
  ⟨0x3110, 1, 1, .u64, .ro, .num 0, .any⟩,
  ⟨0x3110, 2, 2, .u64, .ro, .num 0, .any⟩,
  ⟨0x3110, 3, 3, .u64, .ro, .num 0, .any⟩,
  ⟨0x3110, 4, 4, .u64, .ro, .num 0, .any⟩,
  ⟨0x3110, 5, 5, .u64, .ro, .num 0, .any⟩,
  ⟨0x3110, 6, 6, .u64, .ro, .num 0, .any⟩,
  ⟨0x3110, 7, 7, .u64, .ro, .num 0, .any⟩,
  ⟨0x3110, 8, 8, .u64, .ro, .num 0, .any⟩,
  ⟨0x3111, 1, 1, .u8, .cmd, .num 0, .spans [(1, 1)]⟩,
  ⟨0x3201, 1, 1, .blob, .rwp, .blob (zeroBytes 8192), .fixed 8192⟩,
  ⟨0x3201, 2, 2, .u64, .cmd, .num 0, .any⟩,
  ⟨0x3201, 3, 3, .u64, .ro, .num 0, .any⟩,
  ⟨0x3201, 4, 4, .u64, .ro, .num 0, .any⟩,
  ⟨0x3202, 1, 1, .u32, .rw, .num 100000, .spans [(0, 0), (10, 60000000)]⟩,
  ⟨0x3202, 2, 2, .u32, .rw, .num 200, .spans [(10, 1000000)]⟩,
  ⟨0x3202, 3, 3, .u32, .rw, .num 3840, .spans [(1, 36864)]⟩,
  ⟨0x3202, 4, 4, .u32, .rw, .num 100, .spans [(1, 60000)]⟩,
  ⟨0x3202, 5, 5, .u8, .rw, .num 8, .spans [(2, 64)]⟩,
  ⟨0x3202, 6, 6, .u16, .rw, .num 4, .spans [(1, 1000)]⟩,
  ⟨0x3203, 1, 1, .u32, .ro, .num 0, .any⟩,
  ⟨0x3203, 2, 2, .u16, .ro, .num 0, .any⟩,
  ⟨0x3210, 1, 1, .u64, .ro, .num 0, .any⟩,
  ⟨0x3210, 2, 2, .u64, .ro, .num 0, .any⟩,
  ⟨0x3210, 3, 3, .u64, .ro, .num 0, .any⟩,
  ⟨0x3210, 4, 4, .u64, .ro, .num 0, .any⟩,
  ⟨0x3210, 5, 5, .u64, .ro, .num 0, .any⟩,
  ⟨0x3210, 6, 6, .u64, .ro, .num 0, .any⟩,
  ⟨0x3210, 7, 7, .u64, .ro, .num 0, .any⟩,
  ⟨0x3210, 8, 8, .u64, .ro, .num 0, .any⟩,
  ⟨0x3210, 9, 9, .u64, .ro, .num 0, .any⟩,
  ⟨0x3210, 10, 10, .u64, .ro, .num 0, .any⟩,
  ⟨0x3210, 11, 11, .u64, .ro, .num 0, .any⟩,
  ⟨0x3211, 1, 1, .u8, .cmd, .num 0, .spans [(1, 1)]⟩,
  ⟨0x3220, 1, 1, .u32, .ro, .num 0, .any⟩,
  ⟨0x3220, 2, 2, .u64, .ro, .num 0, .any⟩,
  ⟨0x3220, 3, 3, .u64, .ro, .num 0, .any⟩,
  ⟨0x3220, 4, 4, .u16, .ro, .num 256, .any⟩]

def objRows4 : List ORow := [
  ⟨0x3220, 5, 5, .u8, .ro, .num 0, .any⟩,
  ⟨0x3221, 1, 1, .u16, .ro, .num 256, .any⟩,
  ⟨0x3221, 2, 2, .u16, .ro, .num 0, .any⟩,
  ⟨0x4001, 1, 32, .u8, .ro, .num 0, .any⟩,
  ⟨0x4002, 1, 32, .u32, .ro, .num 0, .any⟩,
  ⟨0x4003, 1, 1, .u8, .rwp, .num 1, .enum [0, 1]⟩,
  ⟨0x4003, 2, 2, .u8, .rw, .num 16, .spans [(1, 64)]⟩,
  ⟨0x4003, 3, 3, .u16, .rw, .num 16, .spans [(1, 1000)]⟩,
  ⟨0x4003, 4, 4, .u32, .rwp, .num 0, .any⟩,
  ⟨0x4003, 5, 5, .u32, .cmd, .num 0, .any⟩,
  ⟨0x4004, 1, 1, .u8, .ro, .num 0, .any⟩,
  ⟨0x4004, 2, 2, .i32, .ro, .num 0, .any⟩,
  ⟨0x4004, 3, 3, .u8, .ro, .num 0, .any⟩,
  ⟨0x4010, 1, 7, .u64, .ro, .num 0, .any⟩,
  ⟨0x4010, 8, 8, .u64, .ro, .num 0, .any⟩,
  ⟨0x4011, 1, 1, .u8, .cmd, .num 0, .spans [(1, 1)]⟩,
  ⟨0x4101, 1, 16, .u8, .ro, .num 0, .any⟩,
  ⟨0x4102, 1, 16, .u64, .rwp, .num 0, .any⟩,
  ⟨0x4103, 1, 16, .u32, .rwp, .num 0, .mult 0x40000⟩,
  ⟨0x4104, 1, 1, .u8, .rwp, .num 0, .enum [0, 1]⟩,
  ⟨0x4104, 2, 2, .u16, .rwp, .num 47017, .spans [(1024, 65535)]⟩,
  ⟨0x4104, 3, 3, .u16, .rwp, .num 0, .spans [(0, 4094)]⟩,
  ⟨0x4104, 4, 4, .u8, .rwp, .num 3, .spans [(0, 7)]⟩,
  ⟨0x4104, 5, 5, .u8, .rwp, .num 8, .any⟩,
  ⟨0x4104, 6, 6, .u16, .rwp, .num 0, .any⟩,
  ⟨0x4105, 1, 16, .u64, .rwp, .num 0, .spans [(0, 281474976710655)]⟩,
  ⟨0x4106, 1, 1, .u16, .rw, .num 25, .spans [(5, 10000)]⟩,
  ⟨0x4106, 2, 2, .u8, .rw, .num 8, .spans [(1, 32)]⟩,
  ⟨0x4106, 3, 3, .u16, .rw, .num 50, .spans [(1, 60000)]⟩,
  ⟨0x4107, 1, 1, .u16, .ro, .num 0, .any⟩,
  ⟨0x4107, 2, 2, .u16, .ro, .num 0, .any⟩,
  ⟨0x4107, 3, 3, .u32, .ro, .num 0, .any⟩,
  ⟨0x4110, 1, 12, .u64, .ro, .num 0, .any⟩,
  ⟨0x4110, 13, 13, .u64, .ro, .num 0, .any⟩,
  ⟨0x4110, 14, 14, .u64, .ro, .num 0, .any⟩,
  ⟨0x4111, 1, 1, .stamp, .ro, .num 0, .any⟩,
  ⟨0x4111, 2, 2, .stamp, .ro, .num 0, .any⟩,
  ⟨0x4111, 3, 3, .u32, .ro, .num 0, .any⟩,
  ⟨0x4111, 4, 4, .u16, .ro, .num 0, .any⟩,
  ⟨0x4111, 5, 5, .u16, .ro, .num 0, .any⟩,
  ⟨0x4111, 6, 6, .u16, .ro, .num 0, .any⟩,
  ⟨0x4111, 7, 7, .u16, .ro, .num 0, .any⟩,
  ⟨0x4112, 1, 1, .blob, .ro, .blob (zeroBytes 8192), .any⟩,
  ⟨0x4113, 1, 1, .u8, .cmd, .num 0, .spans [(1, 1)]⟩,
  ⟨0x4201, 1, 1, .u16, .ro, .num 0, .any⟩,
  ⟨0x4201, 2, 2, .u8, .ro, .num 0, .any⟩,
  ⟨0x4201, 3, 3, .u16, .ro, .num 0, .any⟩,
  ⟨0x4201, 4, 4, .u8, .ro, .num 0, .any⟩]

def objRows5 : List ORow := [
  ⟨0x4201, 5, 5, .u32, .ro, .num 0, .any⟩,
  ⟨0x4202, 1, 1, .u16, .ro, .num 0, .any⟩,
  ⟨0x4202, 2, 2, .u16, .ro, .num 0, .any⟩,
  ⟨0x4202, 3, 3, .u16, .ro, .num 0, .any⟩,
  ⟨0x4202, 4, 4, .u8, .ro, .num 0, .any⟩,
  ⟨0x4203, 1, 1, .u8, .rwp, .num 1, .enum [0, 1]⟩,
  ⟨0x4203, 2, 2, .u32, .cmd, .num 0, .any⟩,
  ⟨0x4203, 3, 3, .u16, .ro, .num 0, .any⟩,
  ⟨0x4204, 1, 1, .blob, .cmd, .blob [], .fixed 32⟩,
  ⟨0x4204, 2, 2, .u8, .ro, .num 0, .any⟩,
  ⟨0x4207, 1, 1, .f32, .rw, .num 0x3f733333, .float 0x0 0x3f7ff972⟩,
  ⟨0x4208, 1, 1, .blob, .ro, .blob (zeroBytes 64), .any⟩,
  ⟨0x4210, 1, 1, .u64, .ro, .num 0, .any⟩,
  ⟨0x4210, 2, 2, .u64, .ro, .num 0, .any⟩,
  ⟨0x4210, 3, 3, .u64, .ro, .num 0, .any⟩,
  ⟨0x4210, 4, 4, .u64, .ro, .num 0, .any⟩,
  ⟨0x4210, 5, 5, .u64, .ro, .num 0, .any⟩,
  ⟨0x4210, 6, 6, .u64, .ro, .num 0, .any⟩,
  ⟨0x4210, 7, 7, .u64, .ro, .num 0, .any⟩,
  ⟨0x4211, 1, 1, .u8, .cmd, .num 0, .spans [(1, 1)]⟩,
  ⟨0x4301, 1, 1, .u64, .rw, .num 0, .spans [(0, 281474976710655)]⟩,
  ⟨0x4302, 1, 1, .blob, .cmd, .blob [], .fixed 32⟩,
  ⟨0x4302, 2, 2, .u16, .ro, .num 0, .any⟩,
  ⟨0x4302, 3, 3, .u8, .ro, .num 0, .any⟩,
  ⟨0x4302, 4, 4, .u32, .ro, .num 0, .any⟩,
  ⟨0x4303, 1, 1, .u16, .rw, .num 8, .spans [(1, 65535)]⟩,
  ⟨0x4303, 2, 2, .u16, .cmd, .num 0, .spans [(0, 4095)]⟩,
  ⟨0x4303, 3, 3, .u16, .rw, .num 200, .spans [(10, 400)]⟩,
  ⟨0x4303, 4, 4, .u8, .rwp, .num 1, .enum [0, 1]⟩,
  ⟨0x4303, 5, 5, .u64, .cmd, .num 0, .any⟩,
  ⟨0x4304, 1, 1, .u32, .ro, .num 0, .any⟩,
  ⟨0x4304, 2, 2, .stamp, .ro, .num 0, .any⟩,
  ⟨0x4304, 3, 3, .u64, .ro, .num 0, .any⟩,
  ⟨0x4304, 4, 4, .u32, .ro, .num 0, .any⟩,
  ⟨0x4304, 5, 5, .u16, .ro, .num 0, .any⟩,
  ⟨0x4305, 1, 1, .blob, .cmd, .blob [], .fixed 32⟩,
  ⟨0x4305, 2, 2, .u16, .ro, .num 0, .any⟩,
  ⟨0x4306, 1, 1, .u64, .cmd, .num 0, .any⟩,
  ⟨0x4306, 2, 2, .u16, .ro, .num 0, .any⟩,
  ⟨0x4307, 1, 1, .u16, .rwp, .num 10, .spans [(1, 1440)]⟩,
  ⟨0x4307, 2, 2, .u32, .rwp, .num 1000, .spans [(100, 20000)]⟩,
  ⟨0x4308, 1, 1, .u16, .ro, .num 0, .any⟩,
  ⟨0x4308, 2, 2, .u64, .ro, .num 0, .any⟩,
  ⟨0x4308, 3, 3, .u8, .ro, .num 0, .any⟩,
  ⟨0x4309, 1, 1, .u32, .ro, .num 0, .any⟩,
  ⟨0x4309, 2, 2, .u32, .ro, .num 0, .any⟩,
  ⟨0x4309, 3, 3, .stamp, .ro, .num 0, .any⟩,
  ⟨0x4310, 1, 1, .u64, .ro, .num 0, .any⟩]

def objRows6 : List ORow := [
  ⟨0x4310, 2, 2, .u64, .ro, .num 0, .any⟩,
  ⟨0x4310, 3, 3, .u64, .ro, .num 0, .any⟩,
  ⟨0x4310, 4, 4, .u64, .ro, .num 0, .any⟩,
  ⟨0x4310, 5, 5, .u64, .ro, .num 0, .any⟩,
  ⟨0x4310, 6, 6, .u64, .ro, .num 0, .any⟩,
  ⟨0x4310, 7, 7, .u64, .ro, .num 0, .any⟩,
  ⟨0x4310, 8, 8, .u64, .ro, .num 0, .any⟩,
  ⟨0x4310, 9, 9, .u64, .ro, .num 0, .any⟩,
  ⟨0x4310, 10, 10, .u64, .ro, .num 0, .any⟩,
  ⟨0x4310, 11, 11, .u64, .ro, .num 0, .any⟩,
  ⟨0x4310, 12, 12, .u64, .ro, .num 0, .any⟩,
  ⟨0x4310, 13, 13, .u64, .ro, .num 0, .any⟩,
  ⟨0x4311, 1, 1, .u8, .cmd, .num 0, .spans [(1, 1)]⟩,
  ⟨0x4801, 1, 1, .u8, .ro, .num 0, .any⟩,
  ⟨0x4801, 2, 2, .u8, .ro, .num 0, .any⟩,
  ⟨0x4802, 1, 1, .u8, .rwp, .num 0, .enum [0, 1]⟩,
  ⟨0x4802, 2, 2, .u64, .rwp, .num 0, .any⟩,
  ⟨0x4802, 3, 3, .u64, .rwp, .num 0, .any⟩,
  ⟨0x4802, 4, 4, .u32, .rwp, .num 0, .any⟩,
  ⟨0x4802, 5, 5, .u16, .rwp, .num 47018, .spans [(1024, 65535)]⟩,
  ⟨0x4802, 6, 6, .u16, .rwp, .num 0, .spans [(0, 4094)]⟩,
  ⟨0x4802, 7, 7, .u8, .rwp, .num 3, .spans [(0, 7)]⟩,
  ⟨0x4802, 8, 8, .u8, .rwp, .num 8, .any⟩,
  ⟨0x4802, 9, 9, .u8, .rwp, .num 0, .spans [(0, 3)]⟩,
  ⟨0x4803, 1, 1, .u64, .rwp, .num 0, .spans [(0, 281474976710655)]⟩,
  ⟨0x4803, 2, 2, .u64, .rwp, .num 0, .spans [(0, 281474976710655)]⟩,
  ⟨0x4803, 3, 3, .u64, .ro, .num 0, .any⟩,
  ⟨0x4803, 4, 4, .u64, .ro, .num 0, .any⟩,
  ⟨0x4804, 1, 16, .blob, .rwp, .blob (zeroBytes 16), .fixed 16⟩,
  ⟨0x4805, 1, 1, .u32, .rw, .num 10000, .spans [(100, 600000)]⟩,
  ⟨0x4805, 2, 2, .u32, .rw, .num 200, .spans [(10, 100000)]⟩,
  ⟨0x4805, 3, 3, .u8, .ro, .num 0, .any⟩,
  ⟨0x4806, 1, 1, .u16, .rwp, .num 64, .spans [(1, 1024)]⟩,
  ⟨0x4806, 2, 2, .u64, .ro, .num 0, .any⟩,
  ⟨0x4807, 1, 1, .u8, .ro, .num 0, .any⟩,
  ⟨0x4807, 2, 2, .u8, .rwp, .num 0, .spans [(0, 127)]⟩,
  ⟨0x4807, 3, 3, .u8, .rwp, .num 0, .enum [0, 1]⟩,
  ⟨0x4807, 4, 4, .u8, .rwp, .num 1, .enum [0, 1]⟩,
  ⟨0x4807, 5, 5, .i32, .ro, .num 0, .any⟩,
  ⟨0x4807, 6, 6, .stamp, .ro, .num 0, .any⟩,
  ⟨0x4807, 7, 7, .stamp, .ro, .num 0, .any⟩,
  ⟨0x4807, 8, 8, .stamp, .ro, .num 0, .any⟩,
  ⟨0x4810, 1, 1, .u64, .ro, .num 0, .any⟩,
  ⟨0x4810, 2, 2, .u64, .ro, .num 0, .any⟩,
  ⟨0x4810, 3, 3, .u64, .ro, .num 0, .any⟩,
  ⟨0x4810, 4, 4, .u64, .ro, .num 0, .any⟩,
  ⟨0x4810, 5, 5, .u64, .ro, .num 0, .any⟩,
  ⟨0x4810, 6, 6, .u64, .ro, .num 0, .any⟩]

def objRows7 : List ORow := [
  ⟨0x4810, 7, 7, .u64, .ro, .num 0, .any⟩,
  ⟨0x4810, 8, 8, .u64, .ro, .num 0, .any⟩,
  ⟨0x4810, 9, 9, .u64, .ro, .num 0, .any⟩,
  ⟨0x4810, 10, 10, .u64, .ro, .num 0, .any⟩,
  ⟨0x4811, 1, 1, .u8, .cmd, .num 0, .spans [(1, 1)]⟩,
  ⟨0x5001, 1, 1, .u8, .ro, .num 1, .any⟩,
  ⟨0x5001, 2, 2, .u8, .ro, .num 1, .any⟩,
  ⟨0x5002, 1, 1, .blob, .rwp, .blob defaultConfig, .fixed 1024⟩,
  ⟨0x5003, 1, 1, .u16, .cmd, .num 0, .spans [(480, 511)]⟩,
  ⟨0x5004, 1, 1, .blob, .ro, .blob (zeroBytes 64), .any⟩,
  ⟨0x5004, 2, 2, .blob, .ro, .blob (zeroBytes 512), .any⟩,
  ⟨0x5010, 1, 1, .u64, .ro, .num 0, .any⟩,
  ⟨0x5010, 2, 2, .u64, .ro, .num 0, .any⟩,
  ⟨0x5010, 3, 3, .u64, .ro, .num 0, .any⟩,
  ⟨0x5010, 4, 4, .u64, .ro, .num 0, .any⟩,
  ⟨0x5011, 1, 1, .u8, .cmd, .num 0, .spans [(1, 1)]⟩,
  ⟨0x50FF, 1, 1, .u64, .ro, .num 0, .any⟩,
  ⟨0x50FF, 2, 2, .u8, .cmd, .num 0, .spans [(1, 1)]⟩,
  ⟨0x5101, 1, 1, .u16, .rw, .num 0, .any⟩,
  ⟨0x5101, 2, 2, .u64, .rw, .num 0, .any⟩,
  ⟨0x5101, 3, 3, .u64, .ro, .num 0, .any⟩,
  ⟨0x5101, 4, 4, .u16, .ro, .num 0, .any⟩,
  ⟨0x5102, 1, 1, .u8, .cmd, .num 0, .spans [(1, 1)]⟩,
  ⟨0x5110, 1, 1, .u64, .ro, .num 0, .any⟩,
  ⟨0x5110, 2, 2, .u64, .ro, .num 0, .any⟩,
  ⟨0x5110, 3, 3, .u64, .ro, .num 0, .any⟩,
  ⟨0x5110, 4, 4, .u64, .ro, .num 0, .any⟩,
  ⟨0x5120, 1, 1, .u8, .rw, .num 0, .enum [0, 1]⟩,
  ⟨0x5120, 2, 2, .u64, .rw, .num 0, .any⟩,
  ⟨0x5120, 3, 3, .u8, .cmd, .num 0, .enum [0, 1]⟩,
  ⟨0x5120, 4, 4, .u8, .ro, .num 0, .any⟩,
  ⟨0x5120, 5, 5, .u32, .ro, .num 0, .any⟩,
  ⟨0x5120, 6, 6, .u32, .rw, .num 0, .spans [(0, 65535)]⟩,
  ⟨0x5120, 7, 7, .u16, .ro, .num 0, .any⟩,
  ⟨0x5121, 1, 1, .u8, .cmd, .num 0, .spans [(1, 1)]⟩,
  ⟨0x5130, 1, 1, .u16, .rw, .num 10, .spans [(1, 10240)]⟩,
  ⟨0x5130, 2, 2, .u8, .rw, .num 90, .spans [(0, 100)]⟩,
  ⟨0x5130, 3, 3, .u8, .rwp, .num 0, .enum [0, 1]⟩,
  ⟨0x5130, 4, 4, .blob, .ro, .blob (zeroBytes 2848), .any⟩,
  ⟨0x5130, 5, 5, .blob, .ro, .blob (zeroBytes 2848), .any⟩,
  ⟨0x5130, 6, 6, .u64, .ro, .num 0, .any⟩,
  ⟨0x51FF, 1, 1, .u64, .ro, .num 0, .any⟩,
  ⟨0x51FF, 2, 2, .u8, .cmd, .num 0, .spans [(1, 1)]⟩,
  ⟨0x6001, 1, 4, .u16, .ro, .num 750, .any⟩,
  ⟨0x6001, 5, 8, .u32, .ro, .num 0, .any⟩,
  ⟨0x6001, 9, 9, .u8, .ro, .num 0, .any⟩,
  ⟨0x6002, 1, 6, .i32, .ro, .num 0, .any⟩,
  ⟨0x6002, 7, 7, .i32, .ro, .num 0, .any⟩]

def objRows8 : List ORow := [
  ⟨0x6003, 1, 1, .u8, .ro, .num 0, .any⟩,
  ⟨0x6003, 2, 2, .u8, .cmd, .num 0, .enum [0, 2, 3]⟩,
  ⟨0x6003, 3, 3, .u16, .ro, .num 0, .any⟩,
  ⟨0x6003, 4, 4, .u32, .rw, .num 1000, .spans [(10, 1000000)]⟩,
  ⟨0x6003, 5, 5, .u8, .rwp, .num 0, .enum [0, 1]⟩,
  ⟨0x6003, 6, 6, .u32, .rw, .num 1000, .spans [(10, 3600000)]⟩,
  ⟨0x6004, 1, 4, .u16, .ro, .num 2100, .any⟩,
  ⟨0x6004, 5, 5, .u16, .ro, .num 2100, .any⟩,
  ⟨0x6004, 6, 6, .u8, .ro, .num 0, .any⟩,
  ⟨0x6010, 1, 1, .i32, .rwp, .num 45000, .spans [(25000, 60000)]⟩,
  ⟨0x6010, 2, 2, .u16, .ro, .num 3000, .any⟩,
  ⟨0x6011, 1, 1, .u16, .rwp, .num 3600, .spans [(500, 3600)]⟩,
  ⟨0x6011, 2, 2, .u16, .rwp, .num 0, .spans [(0, 3600)]⟩,
  ⟨0x6011, 3, 3, .u16, .rwp, .num 50, .spans [(0, 0), (5, 3600)]⟩,
  ⟨0x6011, 4, 4, .u8, .rwp, .num 0, .enum [0, 1]⟩,
  ⟨0x6011, 5, 5, .u16, .rwp, .num 1000, .spans [(300, 3000)]⟩,
  ⟨0x6012, 1, 1, .u16, .ro, .num 3000, .any⟩,
  ⟨0x6012, 2, 2, .u32, .ro, .num 30720, .any⟩,
  ⟨0x6012, 3, 3, .u16, .ro, .num 0, .any⟩,
  ⟨0x6012, 4, 4, .u16, .ro, .num 3600, .any⟩,
  ⟨0x6020, 1, 1, .u16, .ro, .num 0, .any⟩,
  ⟨0x6020, 2, 2, .u16, .ro, .num 0, .any⟩,
  ⟨0x6020, 3, 6, .u64, .ro, .num 0, .any⟩,
  ⟨0x6021, 1, 1, .u64, .ro, .num 0, .any⟩,
  ⟨0x6021, 2, 2, .u64, .ro, .num 0, .any⟩,
  ⟨0x6021, 3, 3, .u32, .ro, .num 0, .any⟩,
  ⟨0x6022, 1, 1, .blob, .ro, .blob (zeroBytes 64), .any⟩,
  ⟨0x6022, 2, 2, .u16, .rw, .num 100, .spans [(1, 65535)]⟩,
  ⟨0x6030, 1, 4, .u64, .ro, .num 0, .any⟩,
  ⟨0x6030, 5, 5, .u64, .ro, .num 0, .any⟩,
  ⟨0x6030, 6, 9, .u8, .ro, .num 0, .any⟩,
  ⟨0x6030, 10, 13, .u16, .ro, .num 2100, .any⟩,
  ⟨0x6040, 1, 12, .u64, .ro, .num 0, .any⟩,
  ⟨0x6041, 1, 1, .u8, .cmd, .num 0, .spans [(1, 1)]⟩,
  ⟨0x60FF, 1, 1, .u64, .ro, .num 0, .any⟩,
  ⟨0x60FF, 2, 2, .u8, .cmd, .num 0, .spans [(1, 1)]⟩,
  ⟨0x6101, 1, 1, .blob, .ro, .blob [], .any⟩,
  ⟨0x6101, 2, 2, .blob, .cmd, .blob [], .fixed 144⟩,
  ⟨0x6101, 3, 3, .u8, .ro, .num 0, .any⟩,
  ⟨0x6101, 4, 4, .stamp, .rwp, .num 0, .any⟩,
  ⟨0x6110, 1, 6, .i32, .rwp, .num 0, .spans [(-5000, 5000)]⟩,
  ⟨0x6111, 1, 4, .f32, .rwp, .num 0x3f800000, .float 0x3f666666 0x3f8ccccd⟩,
  ⟨0x6111, 5, 8, .i32, .rwp, .num 0, .spans [(-20000, 20000)]⟩,
  ⟨0x6112, 1, 4, .f32, .rwp, .num 0x3f800000, .float 0x3f4ccccd 0x3f99999a⟩,
  ⟨0x6113, 1, 4, .i32, .rwp, .num 0, .spans [(-25000, 25000)]⟩,
  ⟨0x6114, 1, 1, .i32, .rwp, .num 0, .spans [(-50000, 50000)]⟩,
  ⟨0x61FF, 1, 1, .u64, .ro, .num 0, .any⟩,
  ⟨0x61FF, 2, 2, .u8, .cmd, .num 0, .spans [(1, 1)]⟩]

def objRows9 : List ORow := [
  ⟨0x7001, 1, 1, .blob, .ro, .blob (zeroBytes 32768), .any⟩,
  ⟨0x7001, 2, 2, .u16, .ro, .num 0, .any⟩,
  ⟨0x7003, 1, 1, .u8, .cmd, .num 0, .spans [(1, 1)]⟩,
  ⟨0x7004, 1, 1, .u8, .ro, .num 0, .any⟩,
  ⟨0x7004, 2, 2, .stamp, .ro, .num 0, .any⟩,
  ⟨0x7004, 3, 3, .u8, .cmd, .num 0, .spans [(0, 3)]⟩,
  ⟨0x7004, 4, 4, .u8, .cmd, .num 0, .spans [(1, 1)]⟩,
  ⟨0x7005, 1, 1, .u16, .rwp, .num 100, .spans [(10, 10000)]⟩,
  ⟨0x7005, 2, 2, .u8, .rwp, .num 3, .spans [(2, 16)]⟩,
  ⟨0x7005, 3, 3, .u16, .rwp, .num 50, .spans [(10, 1000)]⟩,
  ⟨0x7005, 4, 4, .u32, .ro, .num 0, .any⟩,
  ⟨0x7006, 1, 1, .u32, .rw, .num 1000, .spans [(100, 1000000)]⟩,
  ⟨0x7006, 2, 2, .u32, .rw, .num 1000, .spans [(10, 60000)]⟩,
  ⟨0x7010, 1, 10, .u64, .ro, .num 0, .any⟩,
  ⟨0x7011, 1, 1, .u8, .cmd, .num 0, .spans [(1, 1)]⟩,
  ⟨0x70FF, 1, 1, .u64, .ro, .num 0, .any⟩,
  ⟨0x70FF, 2, 2, .u8, .cmd, .num 0, .spans [(1, 1)]⟩,
  ⟨0x7101, 1, 1, .u16, .cmd, .num 0, .any⟩,
  ⟨0x7101, 2, 2, .u16, .ro, .num 0, .any⟩,
  ⟨0x7101, 3, 3, .stamp, .ro, .num 0, .any⟩,
  ⟨0x7102, 1, 1, .u16, .ro, .num 1000, .any⟩,
  ⟨0x7102, 2, 2, .u16, .ro, .num 1000, .any⟩,
  ⟨0x7102, 3, 3, .u16, .ro, .num 0, .any⟩,
  ⟨0x7102, 4, 4, .u64, .ro, .num 0, .any⟩,
  ⟨0x7103, 1, 1, .u8, .rwp, .num 0, .enum [0, 1]⟩,
  ⟨0x7104, 1, 1, .u8, .cmd, .num 0, .spans [(1, 1)]⟩,
  ⟨0x7104, 2, 2, .u8, .ro, .num 0, .any⟩,
  ⟨0x7104, 3, 3, .blob, .ro, .blob (zeroBytes 16), .any⟩,
  ⟨0x7104, 4, 4, .stamp, .ro, .num 0, .any⟩,
  ⟨0x7105, 1, 1, .u8, .ro, .num 255, .any⟩,
  ⟨0x7105, 2, 2, .u16, .ro, .num 65535, .any⟩,
  ⟨0x71FF, 1, 1, .u64, .ro, .num 0, .any⟩,
  ⟨0x71FF, 2, 2, .u8, .cmd, .num 0, .spans [(1, 1)]⟩,
  ⟨0x7801, 1, 1, .u8, .ro, .num 0, .any⟩,
  ⟨0x7801, 2, 2, .u16, .ro, .num 0, .any⟩,
  ⟨0x7801, 3, 3, .u32, .ro, .num 0, .any⟩,
  ⟨0x7802, 1, 1, .u32, .cmd, .num 0, .spans [(4097, 25165824)]⟩,
  ⟨0x7802, 2, 2, .u64, .cmd, .num 0, .spans [(0, 281474976710655)]⟩,
  ⟨0x7802, 3, 3, .u8, .ro, .num 0, .any⟩,
  ⟨0x7802, 4, 4, .u16, .ro, .num 0, .any⟩,
  ⟨0x7802, 5, 5, .u32, .ro, .num 0, .any⟩,
  ⟨0x7803, 1, 1, .u16, .ro, .num 0, .any⟩,
  ⟨0x7803, 2, 2, .u8, .cmd, .num 0, .spans [(1, 1)]⟩,
  ⟨0x7804, 1, 1, .u8, .ro, .num 0, .any⟩,
  ⟨0x7804, 2, 2, .u8, .cmd, .num 0, .spans [(1, 1)]⟩,
  ⟨0x7804, 3, 3, .u8, .ro, .num 0, .any⟩,
  ⟨0x7810, 1, 8, .blob, .ro, .blob [], .any⟩,
  ⟨0x7811, 1, 1, .blob, .ro, .blob [], .any⟩]

def objRows10 : List ORow := [
  ⟨0x7812, 1, 1, .blob, .cmd, .blob [], .fixed 33⟩,
  ⟨0x7820, 1, 1, .blob, .cmd, .blob [], .fixed 32⟩,
  ⟨0x7820, 2, 2, .blob, .ro, .blob (zeroBytes 384), .any⟩,
  ⟨0x7820, 3, 3, .u16, .ro, .num 0, .any⟩,
  ⟨0x7830, 1, 1, .u8, .ro, .num 0, .any⟩,
  ⟨0x7830, 2, 2, .u64, .ro, .num 0, .any⟩,
  ⟨0x78FF, 1, 1, .u64, .ro, .num 0, .any⟩,
  ⟨0x78FF, 2, 2, .u8, .cmd, .num 0, .spans [(1, 1)]⟩,
  ⟨0x7F01, 1, 1, .u8, .ro, .num 0, .any⟩,
  ⟨0x7F02, 1, 1, .u16, .ro, .num 0, .any⟩,
  ⟨0x7F02, 2, 2, .u16, .ro, .num 0, .any⟩,
  ⟨0x7F02, 3, 3, .u16, .ro, .num 0, .any⟩,
  ⟨0x7F03, 1, 1, .u16, .rwp, .num 0, .mask 0x81FF⟩,
  ⟨0x7F03, 2, 2, .u16, .rwp, .num 0, .mask 0x81FF⟩,
  ⟨0x7F04, 1, 1, .u8, .ro, .num 0, .any⟩,
  ⟨0x7F04, 2, 2, .i32, .ro, .num 0, .any⟩,
  ⟨0x7F04, 3, 3, .u64, .ro, .num 0, .any⟩,
  ⟨0x7FFF, 1, 1, .u64, .ro, .num 0, .any⟩,
  ⟨0x7FFF, 2, 2, .u8, .cmd, .num 0, .spans [(1, 1)]⟩]

/-- Every row, by index and subindex. -/
def objRows : List ORow :=
  objRows0 ++ objRows1 ++ objRows2 ++ objRows3 ++ objRows4 ++ objRows5 ++ objRows6 ++ objRows7 ++ objRows8 ++ objRows9 ++ objRows10

end Sys2Proof.Machine
end

