-- ==== Sys2Proof/Machine/Objs.lean ====
section
/-! DEFINITION. The object store (R20 to R24): the value of a stored object is the one listed, or its row's default.
Counters (default 0) have their own accessors. -/

namespace Sys2Proof.Machine

/-- The key of object index.subindex. -/
def objKey (idx sub : Nat) : Nat := idx * 256 + sub

/-- The dictionary row that holds an object. -/
def rowFor (idx sub : Nat) : Option ORow :=
  objRows.find? (fun r => r.idx == idx && decide (r.lo ≤ sub) && decide (sub ≤ r.hi))

/-- The default of an object's row; 0 for none. -/
def objDefault (idx sub : Nat) : ObjVal := match rowFor idx sub with | some r => r.dflt | none => .num 0

/-- A value read as an unsigned number. -/
def ObjVal.toNat : ObjVal → Nat
  | .num n => n
  | .blob b => leNat b

/-- A value as a byte string of its type. -/
def ObjVal.toBytes (v : ObjVal) (ty : OTy) : List Byte :=
  match v with
  | .num n => leBytes ty.size n
  | .blob b => b

def State.obj (s : State) (idx sub : Nat) : ObjVal := Assoc.get (objDefault idx sub) s.objs (objKey idx sub)

/-- A setting, as a number. -/
def State.num (s : State) (idx sub : Nat) : Nat := (s.obj idx sub).toNat

def State.blob (s : State) (idx sub : Nat) : List Byte := match s.obj idx sub with | .num _ => [] | .blob b => b

def State.setObj (s : State) (idx sub : Nat) (v : ObjVal) : State :=
  { s with objs := Assoc.set (objDefault idx sub) s.objs (objKey idx sub) v }

/-- An RWP object changed: it joins the writes gathered for the next commit (R401). -/
def State.noteRwp (s : State) (k : Nat) : State :=
  { s with efyth := { s.efyth with
      gather := if s.efyth.gather.contains k then s.efyth.gather else s.efyth.gather ++ [k],
      gatherSince := some (s.efyth.gatherSince.getD s.stamp) } }

/-- Set an RWP object. -/
def State.setRwp (s : State) (idx sub : Nat) (v : ObjVal) : State := (s.setObj idx sub v).noteRwp (objKey idx sub)

/-- Objects whose default is the number 0: counters, records, results. -/
def State.cnt (s : State) (idx sub : Nat) : Nat := (Assoc.get (.num 0) s.objs (objKey idx sub)).toNat

def State.setCnt (s : State) (idx sub n : Nat) : State :=
  { s with objs := Assoc.set (.num 0) s.objs (objKey idx sub) (.num n) }

/-- Add to a U64 counter, which saturates at 0xFFFF_FFFF_FFFF_FFFF. -/
def State.bumpBy (s : State) (idx sub n : Nat) : State := s.setCnt idx sub (min (s.cnt idx sub + n) (2 ^ 64 - 1))

def State.bump (s : State) (idx sub : Nat) : State := s.bumpBy idx sub 1

/-- Return the objects idx.lo to idx.(lo + n - 1) to their defaults. -/
def State.resetObjs (s : State) (idx lo n : Nat) : State :=
  { s with objs := Assoc.clearRange s.objs (objKey idx lo) (objKey idx lo + n) }

/-- The clamp counter of the region that holds an index (Table 12-4). -/
def clampCounter (idx : Nat) : Option (Nat × Nat) :=
  if idx < 0x1000 then none
  else if idx < 0x1100 then some (0x10FF, 1)
  else if idx < 0x2000 then some (0x11FF, 1)
  else if idx < 0x2100 then some (0x20FF, 1)
  else if idx < 0x2200 then some (0x21FF, 1)
  else if idx < 0x3000 then some (0x22FF, 1)
  else if idx < 0x3100 then some (0x30FF, 1)
  else if idx < 0x3200 then some (0x3110, 2)
  else if idx < 0x4000 then some (0x3210, 9)
  else if idx < 0x4100 then some (0x4010, 8)
  else if idx < 0x4200 then some (0x4110, 0x0D)
  else if idx < 0x4300 then some (0x4210, 6)
  else if idx < 0x4800 then some (0x4310, 0x0D)
  else if idx < 0x5000 then some (0x4810, 0x0A)
  else if idx < 0x5100 then some (0x50FF, 1)
  else if idx < 0x6000 then some (0x51FF, 1)
  else if idx < 0x6100 then some (0x60FF, 1)
  else if idx < 0x7000 then some (0x61FF, 1)
  else if idx < 0x7100 then some (0x70FF, 1)
  else if idx < 0x7800 then some (0x71FF, 1)
  else if idx < 0x7F00 then some (0x78FF, 1)
  else if idx < 0x8000 then some (0x7FFF, 1)
  else none

/-- Count a clamped write to a region (R23, R398). -/
def State.countClamp (s : State) (idx : Nat) : State :=
  match clampCounter idx with
  | some (i, k) => s.bump i k
  | none => s

/-- What a write of 1 to subindex 1 of a clear command clears (R61, R93, R131, R165, R201, R233, R262, R302, R331, R361, R385, R409,
R433, R459, R487): each is an index, a first subindex and a count. -/
def clearLists (cmd : Nat) : List (Nat × Nat × Nat) :=
  match cmd with
  | 0x1107 => [(0x1106, 1, 8)]
  | 0x2042 => [(0x2040, 1, 5), (0x2041, 1, 5)]
  | 0x2112 => [(0x2111, 1, 6)]
  | 0x2122 => [(0x2121, 1, 9)]
  | 0x2204 => [(0x2201, 1, 8), (0x2203, 1, 6)]
  | 0x3013 => [(0x3010, 1, 16), (0x3011, 1, 5)]
  | 0x3111 => [(0x3110, 1, 8)]
  | 0x3211 => [(0x3210, 1, 11)]
  | 0x4011 => [(0x4010, 1, 8)]
  | 0x4113 => [(0x4110, 1, 14), (0x4111, 1, 7)]
  | 0x4211 => [(0x4210, 1, 7)]
  | 0x4311 => [(0x4310, 1, 13)]
  | 0x4811 => [(0x4810, 1, 10)]
  | 0x5011 => [(0x5010, 1, 4)]
  | 0x6041 => [(0x6040, 1, 12)]
  | 0x7011 => [(0x7010, 1, 10)]
  | _ => []

/-- A clear of an index: its objects return to their defaults in one step; a value other than 1 is clamped to 1, and counted after
that (R23). -/
def State.clearList (s : State) (cmd v : Nat) (l : List (Nat × Nat × Nat)) : State :=
  let s := l.foldl (fun s o => s.resetObjs o.1 o.2.1 o.2.2) s
  if v = 1 then s else s.countClamp cmd

/-- A write of `v` to a clear command. -/
def State.execClear (s : State) (cmd v : Nat) : State := s.clearList cmd v (clearLists cmd)

end Sys2Proof.Machine
end

