-- ==== Sys2Proof/Machine/Msg.lean ====
section
/-! DEFINITION. Messages on the wire: the Cranany header (Table 8-7), the host header (Table 11-3), the Efyth header
(Table 12-2), and the event record (Table 11-5); headers are in network order (R9), event records little-endian. -/

namespace Sys2Proof.Machine

/-- Pack fields, most significant first: each is (width, value). -/
def packFields (l : List (Nat × Nat)) : Nat := l.foldl (fun acc f => acc * 2 ^ f.1 + f.2 % 2 ^ f.1) 0

/-- Header bytes 0 to 59 of a Cranany message of a type. -/
def fabHead (ty : Nat) (h : FabHdr) : List Byte :=
  beBytes 60 (packFields [(4, h.version), (4, 0), (8, ty), (8, h.flags), (18, h.srcDevice), (18, h.dstDevice), (16, h.roleEpoch),
    (12, h.srcCtx), (12, h.dstCtx), (16, h.srcCtxEpoch), (16, h.dstCtxEpoch), (16, h.mortise), (13, h.length), (3, 0),
    (48, h.dstAddr), (64, h.stamp), (32, h.seq), (32, h.srcSlot), (9, h.srcQueue), (12, h.msgIndex), (12, h.msgCount),
    (32, h.value), (16, h.aux), (16, h.code), (11, 0), (32, h.pcrc)])

/-- The types of Table 8-8, and the type that an arriving message's header carries: the row's, or a reserved one (R285). -/
def fabTypes : List Nat := [0x01, 0x02, 0x03, 0x10, 0x11, 0x20, 0x21, 0x30, 0x31]
def fabType (ty : Nat) (m : FabMsg) : Nat := m.typ.elim ty (fun t => if fabTypes.contains t then ty else t)

/-- pcrc (R282): 0 for an empty payload. -/
def payloadCrc (p : List Byte) : Nat := if p.isEmpty then 0 else crc32 p

def FabHdr.zero : FabHdr :=
  { version := 1, flags := 0, srcDevice := 0, dstDevice := 0, roleEpoch := 0, srcCtx := 0, dstCtx := 0, srcCtxEpoch := 0,
    dstCtxEpoch := 0, mortise := 0xFFFF, length := 0, dstAddr := 0, stamp := 0, seq := 0, srcSlot := 0, srcQueue := 0,
    msgIndex := 0, msgCount := 0, value := 0, aux := 0, code := 0, pcrc := 0, hcrc := 0 }

/-- Complete a header for its payload: length and both CRCs. -/
def sealFab (h : FabHdr) (ty : Nat) (p : List Byte) : FabHdr :=
  let h := { h with length := p.length, pcrc := payloadCrc p }
  { h with hcrc := crc32 (fabHead ty h) }

def hostHead (ty : Nat) (h : HostHdr) : List Byte :=
  beBytes 60 (packFields [(4, h.version), (4, 0), (8, ty), (8, h.flags), (16, h.session), (16, h.tag), (12, h.ctx),
    (16, h.ctxEpoch), (13, h.length), (3, 0), (48, h.addr), (32, h.seq), (32, h.ackSeq), (64, h.stamp), (32, h.value),
    (32, h.aux), (16, h.code), (92, 0), (32, h.pcrc)])

/-- The types of Table 11-4 that a host sends, and the type that an arriving message's header carries (R368, R370). -/
def hostTypes : List Nat := [0x40, 0x42, 0x43, 0x48, 0x49, 0x4C, 0x50, 0x51, 0x53]
def hostType (ty : Nat) (m : HostMsg) : Nat := m.typ.elim ty (fun t => if hostTypes.contains t then ty else t)

def HostHdr.zero : HostHdr :=
  { version := 2, flags := 0, session := 0, tag := 0, ctx := 0, ctxEpoch := 0, length := 0, addr := 0, seq := 0, ackSeq := 0,
    stamp := 0, value := 0, aux := 0, code := 0, pcrc := 0, hcrc := 0 }

def sealHost (h : HostHdr) (ty : Nat) (p : List Byte) : HostHdr :=
  let h := { h with length := p.length, pcrc := payloadCrc p }
  { h with hcrc := crc32 (hostHead ty h) }

/-- An event record of Table 11-5 but for its dropped count. -/
structure EventRec where
  count : Nat
  ctxEpoch : Nat
  ctx : Nat
  queue : Nat
  source : Nat
  kind : Nat
  error : Nat
  tag : Nat
deriving DecidableEq, Repr

def EventRec.bytes (r : EventRec) (stamp dropped : Nat) : List Byte :=
  leBytes 64 (packFields [(64, stamp), (32, r.count), (16, r.ctxEpoch), (12, r.ctx), (9, r.queue), (9, r.source), (4, r.kind),
    (16, r.error), (32, r.tag), (32, dropped), (286, 0)])

/-- The device ID in force, 0x1004.02 (R406). -/
def State.deviceId (s : State) : Nat := s.boot.deviceId

/-- Own bent position. -/
def State.position (s : State) : Nat := s.deviceId % 8

/-- The buddy: position XOR 4 (Table 0-6). -/
def buddyOf (d : Nat) : Nat := if d % 8 < 4 then d + 4 else d - 4

/-- Something leaves the device (assumption log 5). -/
def State.push (s : State) (m : Sent) : State := { s with sent := s.sent ++ [m] }

/-! ### UDP (R278, R362) -/

/-- One's complement sum of 16-bit words (RFC 768). -/
def onesSum (l : List Nat) : Nat := l.foldl (fun a w => (a + w) % 65536 + (a + w) / 65536) 0

/-- The UDP checksum: 0 on IPv4; on IPv6 over the pseudo-header, the UDP header and the data, sent as all ones where it is 0. -/
def udpChecksum (ipv4 : Bool) (src dst srcPort dstPort : Nat) (data : List Byte) : Nat :=
  if ipv4 then 0
  else
    let n := 8 + data.length
    let words16 := fun (l : List Byte) => (chunks 2 l).map (fun c => beNat (fitBytes 2 c))
    let c := 65535 - onesSum (words16 (beBytes 16 src ++ beBytes 16 dst ++ beBytes 4 n ++ beBytes 4 17 ++ beBytes 2 srcPort
      ++ beBytes 2 dstPort ++ beBytes 2 n ++ data))
    if c = 0 then 65535 else c

/-- The bytes of a Cranany message, and of a host message: header, header CRC, payload. -/
def fabBytes (ty : Nat) (h : FabHdr) (p : List Byte) : List Byte := fabHead ty h ++ beBytes 4 h.hcrc ++ p
def hostMsgBytes (ty : Nat) (h : HostHdr) (p : List Byte) : List Byte := hostHead ty h ++ beBytes 4 h.hcrc ++ p

/-! ### Host messages out -/

/-- The port that a session's messages leave on (R365). -/
def State.sessionPort (s : State) (p : Nat) : Nat := if Assoc.get 0 s.hostPorts p = 2 then p else 1 - p

/-- The header of the next message of a session: its seq, and ack_seq for the last message acted on. -/
def State.hostHdr (s : State) (n : Nat) : HostHdr :=
  let k := Assoc.get Session.none s.sessions n
  { HostHdr.zero with
    session := n, tag := k.tag, ctx := k.ctx, ctxEpoch := k.ctxEpoch, seq := k.txSeq,
    ackSeq := (k.rxSeq + 2 ^ 32 - 1) % 2 ^ 32, stamp := s.stamp }

def State.setSession (s : State) (n : Nat) (k : Session) : State :=
  { s with sessions := Assoc.set Session.none s.sessions n k }

/-- What host port p's last training took: family, address high and low, IPv4 address, UDP port, VLAN, priority, flow control,
gateway. -/
def State.hostFraming (s : State) (p k : Nat) : Nat := nth 0 (Assoc.get [] s.fab.frames (16 + p)) k

/-- The device address that host port p answers for (R363). -/
def State.hostAddr (s : State) (p : Nat) : Nat :=
  if s.hostFraming p 0 = 1 then s.hostFraming p 3 else s.hostFraming p 1 * 2 ^ 64 + s.hostFraming p 2

/-- The framing of a host message to an address (R363); its UDP source port is the port it is sent to (assumption log 152). -/
def State.hostFrame (s : State) (p : Nat) (dst data : List Byte) : HostFrame :=
  let v4 := s.hostFraming p 0 == 1
  let port := s.hostFraming p 4
  { dstMac := s.hostFraming p 8, vlan := s.hostFraming p 5, priority := s.hostFraming p 6, ipv4 := v4,
    srcAddr := s.hostAddr p, dstAddr := dst, dstPort := port, checksum := udpChecksum v4 (s.hostAddr p) (beNat dst) port port data }

/-- The counting unit of a host port's edge die. -/
def hostUnit (p : Nat) : Nat := 81 + p

/-- Bytes of a host message with its headers, as those of a purlin frame (R364, R429). -/
def hostBytes (ipv4 : Bool) (n : Nat) : Nat := (if ipv4 then 114 else 134) + n

/-- Put a host message to an address on a port. -/
def State.hostEmit (s : State) (port : Nat) (dst : List Byte) (ty : Nat) (h : HostHdr) (p : List Byte) : State :=
  let h := sealHost h ty p
  (s.push (.host port (s.hostFrame port dst (hostMsgBytes ty h p)) ty h p)).bump 0x4810 2

/-- Send the next message of session `n` (R365, R367, R369). -/
def State.hostSend (s : State) (n ty : Nat) (f : HostHdr → HostHdr) (p : List Byte) : State :=
  let k := Assoc.get Session.none s.sessions n
  let s' := s.hostEmit (s.sessionPort k.port) k.src ty (f (s.hostHdr n)) p
  s'.setSession n { k with txSeq := (k.txSeq + 1) % 2 ^ 32 }

/-! ### Efyth frames out -/

/-- The header of an Efyth frame in network order (R388, Table 12-2). -/
def efythHead (ty : Nat) (h : EfythHdr) : List Byte :=
  beBytes 32 (packFields [(4, h.version), (4, 0), (8, ty), (8, h.flags), (8, 0), (16, h.seq), (16, h.index), (8, h.sub), (8, 0),
    (16, h.length), (32, h.offset), (16, h.code), (16, 0), (32, h.device), (64, h.stamp)])

/-- The bytes after the Ethernet header: those of Table 12-2, the payload, and zeros up to the Ethernet minimum of 46 (R388). -/
def efythBytes (ty : Nat) (h : EfythHdr) (p : List Byte) : List Byte :=
  efythHead ty h ++ p ++ zeroBytes (46 - (32 + p.length))

/-- A frame of the management port to `dst`, from the own fused MAC address (R387, R388). -/
def State.efythSend (s : State) (dst ty level : Nat) (h : EfythHdr) (p : List Byte) : State :=
  let h := { h with length := p.length, stamp := s.stamp }
  (s.push (.efyth s.boot.fuses.macMgmt dst ty h (efythBytes ty h p) level)).bump 0x1106 2

def EfythHdr.zero : EfythHdr :=
  { version := 3, flags := 0, seq := 0, index := 0, sub := 0, length := 0, offset := 0, code := 0, device := 0, stamp := 0 }

end Sys2Proof.Machine
end

