-- ==== Sys2Proof/Machine/Ops.lean ====
section
/-! DEFINITION. The named operations every meaning is written over: time, memory, contexts, the interrupt controller's
signals, the fault log, the health score, and the shared resources. -/

namespace Sys2Proof.Machine

/-! ### Time and gating -/

/-- A correction is slewed in by at most 100 ppm (R382): one unit of it in each 10,000 units that pass. -/
def Clock.slewed (c : Clock) (dt : Nat) : Clock × Int :=
  if c.slew = 0 then (c, 0)
  else
    let n := (c.slewFrac + dt) / 10000
    let k : Int := if c.slew < 0 then -(min c.slew.natAbs n : Nat) else (min c.slew.natAbs n : Nat)
    ({ c with slew := c.slew - k, slewFrac := if c.slew = k then 0 else (c.slewFrac + dt) % 10000 }, k)

/-- What the stamp gains in `dt` units: in P3 it advances by 320 at each always-on tick, the ticks counted from the entry to P3, and what
is short of a tick waits for the next (R438; assumption log 155). -/
def State.gain (s : State) (dt : Nat) : Nat × Nat :=
  let n := s.clock.aon + dt
  if s.boot.phase = .p3 then (n / 320 * 320, n % 320) else (n, 0)

/-- The clock after `dt` units of 0.25 ns, with what is left of a correction slewed in (R18, R382). -/
def State.advance (s : State) (dt : Nat) : State :=
  let a := s.clock.slewed dt
  let g := s.gain dt
  { s with stamp := ((s.stamp : Int) + g.1 + a.2).toNat % 2 ^ 64, clock := { a.1 with aon := g.2 } }

/-- The firmware runs: boot is complete (R510, R493). -/
def State.up (s : State) : Bool := decide (s.boot.phase = .running)

/-- An effect that needs running firmware or engines; before boot completes nothing happens (assumption log 9). -/
def State.whenUp (s : State) (f : State → State) : State := if s.up then f s else s

/-- Stamp units in a microsecond. -/
def us : Nat := 4000
def ms : Nat := 4000000
def sec : Nat := 4000000000

/-! ### Memory: one byte store under all four tiers (R38 to R40) -/

/-- What an unlisted byte reads as: HBM and sill are zeroed at boot (R494, R495), bench at grant (R198). -/
def memDefault : Byte := 0

/-- The canonical form of the byte store: addresses strictly rising, and no entry equal to what an unlisted byte reads as. -/
abbrev Memory.wf (m : List Host.Cell) : Bool := Assoc.wf memDefault m

def State.byte (s : State) (a : Nat) : Byte := Assoc.get memDefault s.mem a
def State.setByte (s : State) (a : Nat) (b : Byte) : State := { s with mem := Assoc.set memDefault s.mem a b }

def State.readBytes (s : State) (a n : Nat) : List Byte := (List.range n).map (fun i => s.byte (a + i))

def State.writeBytes : State → Nat → List Byte → State
  | s, _, [] => s
  | s, a, b :: l => (s.setByte a b).writeBytes (a + 1) l

/-- The little-endian number at `a`. -/
def State.readNat (s : State) (a n : Nat) : Nat := leNat (s.readBytes a n)
def State.writeNat (s : State) (a n v : Nat) : State := s.writeBytes a (leBytes n v)

/-- Zero [lo, hi). -/
def State.zeroRange (s : State) (lo hi : Nat) : State := { s with mem := Assoc.clearRange s.mem lo hi }

def benchEnd : Nat := 0x60000000
def hbmBase : Nat := 0x010000000000
def hbmEnd : Nat := 0x01C000000000
def sillBase : Nat := 0x020000000000
def sillEnd : Nat := 0x030000000000
def ctlBase : Nat := 0x0F0000000000
def ctlEnd : Nat := 0x100000000000
def benchBytes : Nat := 0x01800000
def stackBytes : Nat := 0x0C00000000
def pkgBytes : Nat := 0x2000000000
def pageBytes : Nat := 0x200000

/-- Local address of the host staging area (R372). -/
def stagingBase : Nat := hbmBase

/-- Its bytes, as this boot set them aside. -/
def State.stagingBytes (s : State) : Nat := s.boot.staging * pageBytes

/-- The bytes [lo, hi) as sparse offsets, and back: bank save and restore (R212). -/
def State.saveRange (s : State) (lo hi : Nat) : Sparse Nat :=
  (s.mem.filter (fun c => decide (lo ≤ c.1) && decide (c.1 < hi))).map (fun c => (c.1 - lo, c.2.toNat))

def State.loadRange (s : State) (lo : Nat) (l : Sparse Nat) : State :=
  l.foldl (fun s c => s.setByte (lo + c.1) (BitVec.ofNat 8 c.2)) s

/-- Bank k of a bay: 768 pieces of 1,024 bytes, one each 32 KiB (R39). -/
def inBank (bay bank a : Nat) : Bool :=
  decide (a / benchBytes = bay) && decide (a < benchEnd) && decide ((a % benchBytes / 1024) % 32 = bank)

def State.zeroBanks (s : State) (bay mask : Nat) : State :=
  { s with mem := s.mem.filter (fun c =>
      !(decide (c.1 / benchBytes = bay) && decide (c.1 < benchEnd) && mask.testBit ((c.1 % benchBytes / 1024) % 32))) }

/-! ### Tables of units -/

def State.ctx (s : State) (c : Nat) : Ctx := Assoc.get Ctx.undefined s.ctxs c
def State.setCtx (s : State) (c : Nat) (x : Ctx) : State := { s with ctxs := Assoc.set Ctx.undefined s.ctxs c x }
def State.modCtx (s : State) (c : Nat) (f : Ctx → Ctx) : State := s.setCtx c (f (s.ctx c))
def State.epoch (s : State) (c : Nat) : Nat := Assoc.get 0 s.epochs c
def State.engine (s : State) (e : Nat) : Engine := Assoc.get Engine.idle s.engines e
def State.setEngine (s : State) (e : Nat) (x : Engine) : State := { s with engines := Assoc.set Engine.idle s.engines e x }
def State.bay (s : State) (b : Nat) : Bay := Assoc.get Bay.inService s.bays b
def State.setBay (s : State) (b : Nat) (x : Bay) : State := { s with bays := Assoc.set Bay.inService s.bays b x }
def State.die (s : State) (d : Nat) : Die := Assoc.get Die.fresh s.dies d
def State.setDie (s : State) (d : Nat) (x : Die) : State := { s with dies := Assoc.set Die.fresh s.dies d x }
def State.link (s : State) (n : Nat) : Link := Assoc.get Link.down s.links n
def State.setLink (s : State) (n : Nat) (x : Link) : State := { s with links := Assoc.set Link.down s.links n x }
def State.hbmPage (s : State) (p : Nat) : HbmPage := Assoc.get HbmPage.free s.hbm p
def State.setHbmPage (s : State) (p : Nat) (x : HbmPage) : State := { s with hbm := Assoc.set HbmPage.free s.hbm p x }
def State.sillPage (s : State) (p : Nat) : SillPage := Assoc.get SillPage.free s.sill p
def State.setSillPage (s : State) (p : Nat) (x : SillPage) : State := { s with sill := Assoc.set SillPage.free s.sill p x }
def State.object (s : State) (o : Nat) : Obj := Assoc.get Obj.none s.objects o
def State.setObject (s : State) (o : Nat) (x : Obj) : State := { s with objects := Assoc.set Obj.none s.objects o x }
def State.session (s : State) (n : Nat) : Session := Assoc.get Session.none s.sessions n
def Ctx.queue (x : Ctx) (q : Nat) : Queue := Assoc.get Queue.empty x.queues q
def Ctx.setQueue (x : Ctx) (q : Nat) (y : Queue) : Ctx := { x with queues := Assoc.set Queue.empty x.queues q y }
def Ctx.bayStep (x : Ctx) (b : Nat) : BayStep := Assoc.get BayStep.zero x.baySteps b
def Ctx.setBayStep (x : Ctx) (b : Nat) (y : BayStep) : Ctx := { x with baySteps := Assoc.set BayStep.zero x.baySteps b y }
def Ctx.slot (x : Ctx) (m : Nat) : Mortise := Assoc.get Mortise.zero x.mortise m
def Ctx.setSlot (x : Ctx) (m : Nat) (y : Mortise) : Ctx := { x with mortise := Assoc.set Mortise.zero x.mortise m y }
def Ctx.mask (x : Ctx) (b : Nat) : Nat := Assoc.get 0 x.grant b

/-- Table 6-5. -/
def Ctx.resident (x : Ctx) : Bool := x.state == 2
def Ctx.defined (x : Ctx) : Bool := x.state != 0

/-- Physical pages by number: HBM page p is at hbmBase + p × 2 MiB, sill page likewise (R40). -/
def hbmPageAddr (p : Nat) : Nat := hbmBase + p * pageBytes
def sillPageAddr (p : Nat) : Nat := sillBase + p * pageBytes
/-- Stack and package of a page. -/
def pageStack (p : Nat) : Nat := p / 24576
def pagePkg (p : Nat) : Nat := p / 65536

/-! ### Events and signals (R411 to R419, R374) -/

def State.sourceOf (s : State) (n : Nat) : Source := Assoc.get Source.zero s.intr.sources n
def State.setSourceOf (s : State) (n : Nat) (x : Source) : State :=
  { s with intr := { s.intr with sources := Assoc.set Source.zero s.intr.sources n x } }
def State.config (s : State) (n : Nat) : Nat := Assoc.get 0 s.intr.config n

/-- The sources that Table 13-5 names (R422); a reserved number never signals. -/
def sourceDefined (n : Nat) : Bool := defaultConfigWord n != 0

/-- The controller's step for one signal (R412). -/
def State.latchSignal (s : State) (n : Nat) (c : Option Nat) : State :=
  let x := s.sourceOf n
  let s := if x.count ≥ 255 then s.bump 0x5010 2 else s
  let s := s.setSourceOf n
    { pend := true, count := min 255 (x.count + 1), first := if x.count = 0 then s.stamp else x.first, last := s.stamp,
      ctx := c, epoch := c.elim 0 s.epoch }
  s.bump 0x5010 1

/-! ### Performance counters (R423, R424) -/

/-- Counters of a unit (Table 13-7). -/
def unitCounters (u : Nat) : Nat := if u < 64 then 8 else if u < 81 then 4 else 8

def perfKey (u k : Nat) : Nat := u * 8 + k

def State.perfConfig (s : State) (u k : Nat) : Nat := Assoc.get 0 s.perf.config (perfKey u k)
def State.perfValue (s : State) (u k : Nat) : Nat := Assoc.get 0 s.perf.values (perfKey u k)

def State.setPerfValue (s : State) (u k v : Nat) : State :=
  { s with perf := { s.perf with values := Assoc.set 0 s.perf.values (perfKey u k) v } }

/-- Add to a counter; a wrap goes to the chained counter above, or sets the overflow bit and signals (R424) as `sig` does. The fuel
bounds the chain. -/
def State.addCounterBy (sig : State → Nat → State) : Nat → State → Nat → Nat → Nat → State
  | 0, s, _, _, _ => s
  | f + 1, s, u, k, n =>
    let v := s.perfValue u k + n
    let s := s.setPerfValue u k (v % 2 ^ 48)
    if v < 2 ^ 48 then s
    else
      let up := s.perfConfig u (k + 1)
      if k % 2 = 0 && up.testBit 49 && up.testBit 48 then State.addCounterBy sig f s u (k + 1) (v / 2 ^ 48)
      else
        let o := Assoc.get 0 s.perf.overflow u
        let s := { s with perf := { s.perf with overflow := Assoc.set 0 s.perf.overflow u (o ||| 2 ^ k) } }
        if (s.perfConfig u k).testBit 31 then sig s (352 + u) else s

/-- A counter counts an event on behalf of a context (R423). -/
def perfCounts (w ev : Nat) (c : Option Nat) : Bool :=
  w.testBit 48 && !w.testBit 49 && bits w 47 32 == ev && (!w.testBit 51 || c == some (bits w 63 52))

def State.countEventBy (sig : State → Nat → State) (s : State) (u ev n : Nat) (c : Option Nat) : State :=
  if n = 0 then s
  else (List.range (unitCounters u)).foldl
    (fun s k => if perfCounts (s.perfConfig u k) ev c then State.addCounterBy sig 2 s u k n else s) s

/-! ### Events -/

/-- Queue an event on a session: dropped beyond 1,024 unacknowledged ones, with source 215 due once a full period. The Bool
says that source 215 is due. A counter of host bytes that its bytes wrap latches its overflow source (assumption log 57). -/
def State.eventTo (s : State) (n : Nat) (r : EventRec) (stamp : Nat) : State × Bool :=
  let k := s.session n
  if k.events.length ≥ 1024 then
    let s := (s.setSession n { k with dropped := k.dropped + 1, dropRaised := true }).bump 0x4810 6
    (s, !k.dropRaised)
  else
    let rec_ := r.bytes stamp k.dropped
    let s := s.setSession n { k with events := k.events ++ [(k.txSeq, rec_, 1, s.stamp)], dropped := 0, dropRaised := false }
    let p := s.sessionPort k.port
    let s := s.hostSend n 0x58 (fun h => h) rec_
    (State.countEventBy (fun s n => s.latchSignal n none) s (hostUnit p) 0x0305 (hostBytes (s.hostFraming p 0 == 1) 64)
      (if k.kind = 1 then some k.ctx else none), false)

/-- A session closes: nothing of it is kept. -/
def State.closeSession (s : State) (n : Nat) : State := s.setSession n Session.none

/-- The open sessions of a kind. -/
def State.sessionsOf (s : State) (p : Session → Bool) : List Nat :=
  (s.sessions.filter (fun e => e.2.isOpen && p e.2)).map (fun e => e.1)

/-- The event record of a signal (Table 11-5, kind 1). -/
def State.signalRec (s : State) (n : Nat) (c : Option Nat) : EventRec :=
  { count := 0, ctxEpoch := c.elim 0 s.epoch, ctx := c.getD 0, queue := 0, source := n,
    kind := 1, error := 0, tag := 0 }

/-- Send one event to each of a list of sessions, counting the routed ones (R419); the Bool says source 215 is due. -/
def State.routeEvents (s : State) (l : List Nat) (r : EventRec) : State × Bool :=
  l.foldl (fun a n =>
    let x := a.1.eventTo n r s.stamp
    (x.1.bump 0x5010 3, a.2 || x.2)) (s, false)

/-- Forward a signal on its routes, whatever its enable (R419). -/
def State.forwardSignal (s : State) (n : Nat) (c : Option Nat) : State × Bool :=
  let w := s.config n
  let r := s.signalRec n c
  let m := if w.testBit 7 then s.sessionsOf (fun k => k.kind == 0) else []
  let k := match c with
    | some i => if w.testBit 6 then s.sessionsOf (fun k => k.kind == 1 && k.ctx == i && k.ctxEpoch == s.epoch i) else []
    | none => []
  let a := s.routeEvents (m ++ k) r
  let s := a.1
  let s := if w.testBit 5 && s.num 0x1104 2 != 0 then
      let s := s.efythSend (s.num 0x1104 2) 4 5
        { EfythHdr.zero with seq := s.efyth.notifySeq, device := s.deviceId } (r.bytes s.stamp 0)
      ({ s with efyth := { s.efyth with notifySeq := (s.efyth.notifySeq + 1) % 65536 } } : State).bump 0x5010 4
    else s
  (s, a.2)

/-- The start of a wake from P2 (R441, R420); from P3, the warm-reset sequence with cause 0x0714 (R533). -/
def State.startWake (s : State) : State :=
  if s.boot.phase = .p3 then
    let s := (s.setCnt 0x7101 2 0x0714).setCnt 0x7101 3 s.stamp
    { s with boot := { s.boot with phase := .warmBoot }, intr := { s.intr with config := [], ordered := true, reason := 1 } }
  else if s.power.device = 2 then { s with power := { s.power with waking := true } }
  else s

/-- A unit raises a source (R411): latched, forwarded, and a wake started where its wake bit says so (R420). An event dropped
by a full session raises source 215 in turn, which is latched and not forwarded to that session again. -/
def State.signal (s : State) (n : Nat) (c : Option Nat) : State :=
  if !sourceDefined n then s
  else
    let s := s.latchSignal n c
    let a := s.forwardSignal n c
    let s := a.1
    let s := if a.2 && n != 215 then ((s.latchSignal 215 none).forwardSignal 215 none).1 else s
    if (s.config n).testBit 8 then s.startWake else s

/-! ### Fault log (R476) -/

/-- The permanent cap and the score (R480). -/
def State.healthCap (s : State) : Nat := 1000 - (s.fault.permanent.map (fun e => e.2)).foldl (· + ·) 0
def State.health (s : State) : Nat := s.healthCap - s.fault.transient

/-- What an entry says beside its stamp, health and number. -/
structure LogArgs where
  code : Nat
  ctx : Option Nat := none
  severity : Nat := 0
  unitKind : Nat := 0
  unit : Nat := 0
  action : Nat := 0
  detail : Nat := 0

/-- Write an entry and signal source 454; STAT0 is the caller's. -/
def State.logEntry (s : State) (a : LogArgs) : State :=
  let e : LogEntry := {
    stamp := s.stamp, code := a.code, ctxEpoch := a.ctx.elim 0 s.epoch,
    ctx := a.ctx, severity := a.severity, unitKind := a.unitKind, unit := a.unit, action := a.action, detail := a.detail,
    health := s.health, entry := s.fault.logCount % 2 ^ 32 }
  let l := s.fault.log ++ [e]
  let s := { s with fault := { s.fault with log := l.drop (l.length - 1024), logCount := s.fault.logCount + 1 } }
  s.signal 454 none

/-! ### Shared resources (R49 to R58) -/

/-- The resource number of a unit: timers 100 to 131 are resource 3, pins 200 to 203 resource 4. -/
def resNumber (u : Nat) : Nat := if u < 100 then u else if u < 200 then 3 else 4

def State.resUnit (s : State) (u : Nat) : ResUnit := Assoc.get ResUnit.free s.res u
def State.setResUnit (s : State) (u : Nat) (x : ResUnit) : State := { s with res := Assoc.set ResUnit.free s.res u x }

/-- Count a refusal or a taking and keep its record (R50, R60). Refusal counters saturate at 0xFFFF_FFFF. -/
def State.countRefusal (s : State) (u winner loser code : Nat) : State :=
  let r := resNumber u
  let s := s.setCnt 0x2040 r (min (s.cnt 0x2040 r + 1) 0xFFFFFFFF)
  ((((s.setCnt 0x2041 1 s.stamp).setCnt 0x2041 2 r).setCnt 0x2041 3 winner).setCnt 0x2041 4 loser).setCnt 0x2041 5 code

def Sampling.lose (r : Sampling) : Sampling :=
  { r with state := 3, code := 0x0402, records := [], recSeq := 0, writeIndex := 0, readMark := 0, unread := 0,
           lastRec := [], counts := [] }

def State.samplingRun (s : State) (n : Nat) : Sampling := if n = 0 then s.perf.run0 else s.perf.run1
def State.setSamplingRun (s : State) (n : Nat) (r : Sampling) : State :=
  if n = 0 then { s with perf := { s.perf with run0 := r } } else { s with perf := { s.perf with run1 := r } }

/-- The scheduler has no deadline timer: a period of checks at slot boundaries begins (R255). -/
def State.startPolling (s : State) : State :=
  (({ s with sched := { s.sched with polling := true } } : State).bump 0x3210 0x0A).signal 237 none

/-- What losing a resource does to its holder (R52, R255, R428, R430, R522): a firmware function has the code in the fault log. -/
def State.loseHooks (s : State) (a : Asker) : State :=
  match a with
  | .sampling n => ((s.setSamplingRun n (s.samplingRun n).lose).bump 0x5110 4).signal 439 none
  | .windows =>
    -- the current window ends with valid 0
    let s := { s with perf := { s.perf with
      windowOn := false,
      windows := (List.range 89).map (fun i => (i, zeroBytes 24 ++ leBytes 8 s.stamp)) } }
    ((s.bump 0x5130 6).signal 439 none).logEntry { code := 0x0402 }
  | .remoteWait => s.startPolling.logEntry { code := 0x0402 }
  | .jobSignal => s.setCnt 0x7F02 3 0x0402
  | .debugTrace | .debugTimer | .debugPin | .debugUart | .console | .crashDump | .recoveryDeadline | .faultIndication
  | .recovery => s.logEntry { code := 0x0402 }

/-- What a refusal of its request does to an asker (R53, R428, R522). -/
def State.refuseHooks (s : State) (a : Asker) : State :=
  match a with
  | .sampling n => s.setSamplingRun n { s.samplingRun n with state := 2, code := 0x0401 }
  | .windows => { s with perf := { s.perf with windowOn := false } }
  | .remoteWait => s.startPolling
  | .jobSignal => s.setCnt 0x7F02 3 0x0401
  | .debugTrace | .debugTimer | .debugPin | .debugUart | .console | .crashDump | .recoveryDeadline | .faultIndication
  | .recovery => s.logEntry { code := 0x0401 }

/-- Give a unit to an asker. -/
def State.grantUnit (s : State) (u : Nat) (a : Asker) (level : Nat) : State :=
  let x := s.resUnit u
  { (s.setResUnit u { x with
      holder := some { asker := a, level := level, order := s.resOrder, stamp := s.stamp, wasFree := x.holder.isNone },
      waiters := x.waiters.filter (fun w => w.1 != a) }) with
    resOrder := s.resOrder + 1 }

/-- A request for one unit (R51 to R54): the state after, and the code 0x0000 or 0x0401. A telemetry or debug holder that
loses the unit waits to re-arm (R57). A lower-level request of the same stamp for the free unit counts as refused (R54). -/
def State.requestUnit (s : State) (u : Nat) (a : Asker) (level : Nat) : State × Nat :=
  match (s.resUnit u).holder with
  | none => (s.grantUnit u a level, 0)
  | some h =>
    if h.asker = a then (s, 0)
    else if level < h.level ∧ h.wasFree ∧ h.stamp = s.stamp then
      let s := s.countRefusal u level h.level 0x0401
      let x := s.resUnit u
      let s := ((s.setResUnit u { x with holder := none }).grantUnit u a level)
      (s.refuseHooks h.asker, 0)
    else if level < h.level then
      let s := s.countRefusal u level h.level 0x0402
      let x := s.resUnit u
      let w := if h.level ≥ 5 then x.waiters ++ [(h.asker, h.level, s.stamp)] else x.waiters
      let s := (s.setResUnit u { x with waiters := w }).grantUnit u a level
      (s.loseHooks h.asker, 0)
    else (s.countRefusal u h.level level 0x0401, 0x0401)

/-- Release a unit that `a` holds (R58). -/
def State.releaseUnit (s : State) (u : Nat) (a : Asker) : State :=
  let x := s.resUnit u
  match x.holder with
  | some h => if h.asker = a then s.setResUnit u { x with holder := none } else s
  | none => s

/-- The timers of the pool. -/
def timerUnits : List Nat := rangeFrom 100 32

/-- The timer that a request of `level` takes: the holder of the lowest level below its own, the latest granted (R55). -/
def State.victimTimer (s : State) (level : Nat) : Option Nat :=
  let cand := timerUnits.filterMap (fun u => match (s.resUnit u).holder with
    | some h => if level < h.level then some (u, h.level, h.order) else none
    | none => none)
  (cand.foldl (fun (best : Option (Nat × Nat × Nat)) c => match best with
    | none => some c
    | some b => if b.2.1 < c.2.1 ∨ (b.2.1 = c.2.1 ∧ b.2.2 < c.2.2) then some c else some b) none).map (·.1)

/-- A request to the timer pool (R55): the state, the unit got, and the code. -/
def State.requestTimer (s : State) (a : Asker) (level : Nat) : State × Option Nat × Nat :=
  match timerUnits.find? (fun u => (s.resUnit u).holder = none) with
  | some u => (s.grantUnit u a level, some u, 0)
  | none =>
    match s.victimTimer level with
    | some u => ((s.requestUnit u a level).1, some u, 0)
    | none =>
      let best := timerUnits.foldl (fun m u => match (s.resUnit u).holder with
        | some h => min m h.level
        | none => m) 6
      (s.countRefusal 100 best level 0x0401, none, 0x0401)

/-- The timer that an asker holds. -/
def State.timerOf (s : State) (a : Asker) : Option Nat :=
  timerUnits.find? (fun u => match (s.resUnit u).holder with | some h => h.asker == a | none => false)

/-- Release every unit an asker holds, and forget its waits. -/
def State.releaseAll (s : State) (a : Asker) : State :=
  { s with res := Assoc.mapVals ResUnit.free (fun _ x =>
      { holder := x.holder.filter (fun h => h.asker != a),
        waiters := x.waiters.filter (fun w => w.1 != a) }) s.res }

/-- Recovery in progress takes STAT1 while anything of R477 runs. -/
def State.recoveryOn (s : State) : State :=
  match (s.resUnit 201).holder with
  | some h => if h.asker = .recovery then s else (s.requestUnit 201 .recovery 2).1
  | none => (s.requestUnit 201 .recovery 2).1

/-- A fault log entry; severity 3, 4 or 5 is fatal and takes STAT0 (R477). -/
def State.log (s : State) (a : LogArgs) : State :=
  let s := s.logEntry a
  if a.severity ≥ 3 then
    let s := { s with fault := { s.fault with fatalUnacked := true } }
    match (s.resUnit 200).holder with
    | some h => if h.asker = .faultIndication then s else (s.requestUnit 200 .faultIndication 1).1
    | none => (s.requestUnit 200 .faultIndication 1).1
  else s

/-! ### Health score (R480, R481) -/

/-- Source 453 at a change of score. -/
def State.healthChanged (s : State) (before : Nat) : State := if s.health = before then s else s.signal 453 none

/-- A transient deduction, withheld where the events of 60 s would add more than 100. -/
def State.deduct (s : State) (points : Nat) : State :=
  let recent := s.fault.recent.filter (fun e => decide (s.stamp < e.1 + 60 * sec))
  let sum := (recent.map (fun e => e.2)).foldl (· + ·) 0
  if sum + points > 100 then ({ s with fault := { s.fault with recent := recent } } : State).bump 0x7102 4
  else
    let before := s.health
    let s := { s with fault := { s.fault with
      recent := recent ++ [(s.stamp, points)], transient := s.fault.transient + points,
      lastRestore := if s.fault.transient = 0 then s.stamp else s.fault.lastRestore } }
    s.healthChanged before

/-- A permanent deduction under a key of its own. -/
def State.deductPermanent (s : State) (key points : Nat) : State :=
  let before := s.health
  let s := { s with fault := { s.fault with permanent := Assoc.set 0 s.fault.permanent key points } }
  s.healthChanged before

/-! ### Performance counters that signal -/

def State.addCounter (s : State) (u k n : Nat) : State := State.addCounterBy (fun s n => s.signal n none) 2 s u k n

def State.countEvent (s : State) (u ev n : Nat) (c : Option Nat) : State :=
  State.countEventBy (fun s n => s.signal n none) s u ev n c

/-- A message of a session other than an event, its bytes counted. -/
def State.hostTell (s : State) (n ty : Nat) (f : HostHdr → HostHdr) (p : List Byte) : State :=
  let k := s.session n
  let port := s.sessionPort k.port
  (s.hostSend n ty f p).countEvent (hostUnit port) 0x0305 (hostBytes (s.hostFraming port 0 == 1) p.length)
    (if k.kind = 1 then some k.ctx else none)

end Sys2Proof.Machine
end

