-- ==== Sys2Proof/Machine/Loft.lean ====
section
/-! DEFINITION. The lofts (R42, R177 to R180, R195) and the interleave modes of HBM (R175). A loft changes no value that an access returns:
the byte store holds those. What State holds of a loft is which lines stand in it, whose they are, and what HBM holds beneath the dirty
ones. The details that the manual leaves open are in assumption log 132. -/

namespace Sys2Proof.Machine

/-! ### Interleave modes -/

/-- The quarter of a page of a stack (Table 5-5). -/
def pageQuarter (p : Nat) : Nat := p % 24576 / 6144

/-- The pseudo-channel of the granule at offset `o` of a stack, in mode 0 or 1 (Table 5-5). -/
def pseudoChannel (mode o : Nat) : Nat :=
  if mode = 0 then ((o >>> 8) ^^^ (o >>> 13) ^^^ (o >>> 18)) % 32
  else 8 * pageQuarter (o / pageBytes) + ((o >>> 8) ^^^ (o >>> 11)) % 8

/-- The mode in force of a stack (R176). -/
def State.hbmMode (s : State) (stack : Nat) : Nat := Assoc.get 0 s.interleave stack

/-- The pseudo-channel of its stack that serves a physical HBM address (R175). -/
def State.channelOf (s : State) (a : Nat) : Nat :=
  pseudoChannel (s.hbmMode ((a - hbmBase) / stackBytes)) ((a - hbmBase) % stackBytes)

/-- The modes that object 0x3001 gives come into force (R176). -/
def State.loadModes (s : State) : State :=
  { s with interleave := ((List.range 16).map (fun k => (k, s.num 0x3001 (k + 1)))).filter (fun e => e.2 != 0) }

/-! ### Sets and lines (R177) -/

/-- The line of a physical address. -/
def lineOf (a : Nat) : Nat := a / 128

/-- The lines of [a, a + n). -/
def linesOf (a n : Nat) : List Nat := if n = 0 then [] else rangeFrom (lineOf a) (lineOf (a + n - 1) - lineOf a + 1)

/-- The beam die whose loft caches a line. -/
def loftDie (line : Nat) : Nat := (128 * line - hbmBase) / stackBytes / 4

/-- The set of a line, among those of all four lofts. -/
def loftKey (line : Nat) : Nat := loftDie line * 49152 + Config.loftHash line % 49152

def State.loftSet (s : State) (k : Nat) : List LoftLine := Assoc.get [] s.loft k
def State.setLoftSet (s : State) (k : Nat) (l : List LoftLine) : State := { s with loft := Assoc.set [] s.loft k l }

/-- The line as its loft holds it. -/
def State.lineAt (s : State) (line : Nat) : Option LoftLine := (s.loftSet (loftKey line)).find? (fun x => x.line == line)

/-- An access as the loft sees it: policy of the page (Table 5-6), ways that the requester's class may fill (R178), context. -/
structure LoftUse where
  policy : Nat
  mask : Nat
  owner : Option Nat
deriving DecidableEq, Repr

/-- The way that a miss fills: a permitted way that holds no line, else that of the permitted line least recently used; none under a mask
of 0 (R177, R178). -/
def victimWay (mask : Nat) (l : List LoftLine) : Option Nat :=
  ((List.range 16).find? (fun w => mask.testBit w && l.all (fun x => x.way != w))).or
    ((l.reverse.find? (fun x => mask.testBit x.way)).map (·.way))

/-- A line comes into its set: a line that stood in its way is written back and goes (R177, R179). -/
def fillLine (u : LoftUse) (x : LoftLine) (l : List LoftLine) : List LoftLine :=
  let rest := l.filter (fun y => y.way != x.way)
  if u.policy = 1 then rest ++ [x] else x :: rest

/-- A read passes the tags of a set: a hit becomes most recently used, a miss fills as the policy and the mask allow. -/
def readLine (u : LoftUse) (line : Nat) (l : List LoftLine) : List LoftLine :=
  match l.find? (fun x => x.line == line) with
  | some x => x :: l.erase x
  | none =>
    if u.policy = 2 then l
    else match victimWay u.mask l with
      | none => l
      | some w => fillLine u { line := line, way := w, owner := u.owner, beneath := none } l

/-- A write passes the tags of a set. It allocates and makes its line dirty, over the bytes `old` that HBM holds; under bypass it goes to
HBM, whose bytes are then `new` where it wrote, and leaves a matching line with the same data. -/
def writeLine (u : LoftUse) (line : Nat) (old : List Byte) (new : List Byte → List Byte) (l : List LoftLine) : List LoftLine :=
  match l.find? (fun x => x.line == line) with
  | some x =>
    (if u.policy = 2 then { x with beneath := x.beneath.map new }
     else { x with owner := u.owner, beneath := some (x.beneath.getD old) }) :: l.erase x
  | none =>
    if u.policy = 2 then l
    else match victimWay u.mask l with
      | none => l
      | some w => fillLine u { line := line, way := w, owner := u.owner, beneath := some old } l

/-- A read of [a, a + n) of HBM. -/
def State.loftRead (s : State) (u : LoftUse) (a n : Nat) : State :=
  (linesOf a n).foldl (fun s i => s.setLoftSet (loftKey i) (readLine u i (s.loftSet (loftKey i)))) s

/-- The bytes of a line with those of a write of `l` at `a` in place. -/
def overlay (line a : Nat) (l : List Byte) (b : List Byte) : List Byte :=
  (List.range 128).map (fun i =>
    let p := 128 * line + i
    if a ≤ p ∧ p < a + l.length then nth 0 l (p - a) else nth 0 b i)

/-- A write of bytes to HBM, before the bytes are stored. -/
def State.loftWrite (s : State) (u : LoftUse) (a : Nat) (l : List Byte) : State :=
  (linesOf a l.length).foldl (fun t i =>
    t.setLoftSet (loftKey i) (writeLine u i (s.readBytes (128 * i) 128) (overlay i a l) (t.loftSet (loftKey i)))) s

/-- The ways that a class may fill (object 0x3004, R178). -/
def State.classMask (s : State) (k : Nat) : Nat := s.num 0x3004 (k + 1)

/-- The management cores and the scarf engine: class 7 (R178); no page-table entry gives a policy, so 0. -/
def State.coreUse (s : State) : LoftUse := { policy := 0, mask := s.classMask 7, owner := none }

/-- Physical bytes stored: those of HBM pass the loft. -/
def State.storeAt (s : State) (u : LoftUse) (a : Nat) (l : List Byte) : State :=
  (if hbmBase ≤ a ∧ a < hbmEnd then s.loftWrite u a l else s).writeBytes a l

/-- A write of a management core at a physical address. -/
def State.coreWrite (s : State) (a : Nat) (l : List Byte) : State := s.storeAt s.coreUse a l
def State.coreWriteNat (s : State) (a n v : Nat) : State := s.coreWrite a (leBytes n v)

/-- A read of a management core or the scarf engine, beside the bytes it gives. -/
def State.coreRead (s : State) (a n : Nat) : State := if hbmBase ≤ a ∧ a < hbmEnd then s.loftRead s.coreUse a n else s

/-! ### Lines that leave (R180, R195, R197) -/

/-- Lines that a rule picks leave without a word: written back, or of a page that is zeroed. -/
def State.dropLines (s : State) (p : LoftLine → Bool) : State :=
  { s with loft := Assoc.mapVals [] (fun _ l => l.filter (fun x => !p x)) s.loft }

/-- Zeroing a page invalidates every line of it (R197). -/
def State.dropPageLines (s : State) (page : Nat) : State := s.dropLines (fun x => 128 * x.line / pageBytes == hbmPageAddr page / pageBytes)

/-- Every dirty line is written back, and the contents of the lofts are lost (R180). -/
def State.flushLofts (s : State) : State := { s with loft := [] }

/-- Dirty lines that were not written back: HBM keeps what it held beneath them, and object 0x3010.08 counts them. -/
def State.loseDirty (s : State) (l : List LoftLine) : State :=
  l.foldl (fun s x => match x.beneath with
    | some b => (s.writeBytes (128 * x.line) b).bump 0x3010 8
    | none => s) s

/-- All lines of the lofts. -/
def State.loftLines (s : State) : List LoftLine := s.loft.flatMap (·.2)

/-- The write-back of a warm reset: which dirty lines it does not reach within 200 µs the manual leaves to timing, so a free value says
it, line by line (R180; assumption log 4). -/
def State.warmFlush (s : State) : State :=
  let lost := s.loftLines.filter (fun x => x.beneath.isSome && Config.lineLost s.freeCtr x.line)
  ({ s with freeCtr := s.freeCtr + 1 } : State).loseDirty lost |>.flushLofts

end Sys2Proof.Machine
end

