-- ==== Sys2Proof/Machine/Operands.lean ====
section
/-! DEFINITION. Operands in memory: translation (R168 to R170), the access rights of every agent (R45 to R48), reads that warm
sill pages (R183 to R186), uncorrectable errors (R194), and the reads and writes of an agent of a context. -/

namespace Sys2Proof.Machine

/-- Who makes an access (Table 1-6). Bay stands for all engines of one bay, mgmt for the management cores. -/
inductive Agent where
  | bay (b : Nat)
  | update (stack : Nat)
  | reduce
  | scarf
  | remote
  | mgmt
  | jtag
deriving DecidableEq, Repr

/-! ### Translation -/

/-- The page-table entry of a context address; none where directory or leaf is not valid. -/
def State.pteAt (s : State) (dirBase a : Nat) : Option Nat :=
  let de := s.readNat (dirBase + 8 * ((a - hbmBase) / 2 ^ 30)) 8
  if !de.testBit 63 then none
  else
    let pte := s.readNat (bits de 47 12 * 4096 + 8 * ((a / pageBytes) % 512)) 8
    if pte.testBit 63 then some pte else none

/-- The entry that an access uses: until an invalidation completes, an agent with a translation cache may use the entry as it was, which a
free value says (R173; assumption log 125). Remote writes pass no such cache. -/
def State.pteUsed (s : State) (c a : Nat) (isRemote : Bool) : Option Nat :=
  match s.stale.find? (fun e => e.ctx == c && e.page == a / pageBytes) with
  | none => s.pteAt (s.ctx c).dirBase a
  | some e => if !isRemote && Config.usesOld s.stamp c e.page then some e.entry else s.pteAt (s.ctx c).dirBase a

/-- Translate a context address (R170): the first failing code and the physical address. -/
def State.translate (s : State) (c a : Nat) (isWrite isRemote : Bool) : Nat × Nat :=
  match s.pteUsed c a isRemote with
  | none => (0x0230, 0)
  | some pte =>
    let region := if a < sillBase then 0 else 1
    let phys := bits pte 47 21 * pageBytes + a % pageBytes
    let inHbm := decide (hbmBase ≤ phys) && decide (phys < hbmEnd)
    let inSill := decide (sillBase ≤ phys) && decide (phys < sillEnd)
    let tierOk := bits pte 62 61 == region && (if region = 0 then inHbm else inSill)
    if !tierOk then (0x0232, 0)
    else if region = 1 && (s.sillPage ((phys - sillBase) / pageBytes)).state != 2 then (0x0235, 0)
    else if isRemote && !pte.testBit 59 then (0x0234, 0)
    else if isWrite && region = 0 && !pte.testBit 60 then (0x0231, 0)
    else (0, phys)

/-- A beam die, or the device, is in reset. -/
def State.dieReset (s : State) (d : Nat) : Bool := (s.die d).inReset || (s.die d).failed

/-- The unit behind a bench window or an HBM address is in reset (R47). -/
def State.benchInReset (s : State) (b : Nat) : Bool := (s.bay b).inReset || s.dieReset (b / 16)
def State.hbmInReset (s : State) (phys : Nat) : Bool := s.dieReset ((phys - hbmBase) / stackBytes / 4)

/-! ### Rights -/

/-- The rank of a code in the order of R48 and R170; 0 stands for no failure and ranks last. -/
def codeRank (c : Nat) : Nat :=
  match c with
  | 0x0201 => 0 | 0x0203 => 1 | 0x0207 => 2 | 0x0205 => 3 | 0x0209 => 4 | 0x0202 => 5 | 0x0206 => 6
  | 0x0230 => 7 | 0x0232 => 8 | 0x0235 => 9 | 0x0234 => 10 | 0x0231 => 11 | 0x0204 => 12 | _ => 13

def worse (a b : Nat) : Nat := if codeRank b < codeRank a then b else a

/-- Parts of the control region (Table 1-5). -/
inductive CtlPart where
  | door (ctx : Nat)
  | intr
  | window
  | dict
  | debug
  | reserved
deriving DecidableEq, Repr

def ctlPart (a : Nat) : CtlPart :=
  if a < 0x0F0010000000 then .door ((a - ctlBase) / 65536)
  else if 0x0F0100000000 ≤ a ∧ a ≤ 0x0F010000FFFF then .intr
  else if 0x0F0200000000 ≤ a ∧ a ≤ 0x0F0200FFFFFF then .window
  else if 0x0F0300000000 ≤ a ∧ a ≤ 0x0F03000FFFFF then .dict
  else if 0x0F0F00000000 ≤ a ∧ a ≤ 0x0F0F00FFFFFF then .debug
  else .reserved

/-- Rights in the control region (Tables 1-5, 1-6) for an agent acting for context `c`, while debug is enabled or not (R46, R48): a doorbell
page of another context is named 0x0205 whoever acts for a context. The management cores only read the trace SRAM (R426). -/
def ctlCode (g : Agent) (c a : Nat) (isWrite debug : Bool) : Nat :=
  match g, ctlPart a with
  | _, .reserved => 0x0201
  | .mgmt, .debug => if debug then 0 else 0x0209
  | .mgmt, .window => if isWrite && decide (0x0F0200800000 ≤ a) then 0x0207 else 0
  | .mgmt, _ => 0
  | .jtag, .debug => 0
  | .jtag, _ => 0x0209
  | _, .window => if isWrite then 0x0207 else match g with | .bay _ => 0 | _ => 0x0209
  | _, .door d =>
    if d ≠ c then 0x0205
    else match g with
      | .bay _ => 0
      | .remote => if isWrite then 0 else 0x0209
      | _ => 0x0209
  | _, _ => 0x0209

/-- A sill page that its object's writer may write: a Filling one, of an image for the scarf engine, of any other object for the management
cores (R181, R182). -/
def State.sillWritable (s : State) (g : Agent) (p : Nat) : Bool :=
  (s.sillPage p).state == 1 && (((s.object (s.sillPage p).object).kind == 2) == (g == .scarf))

/-- The failing code of one granule at `a` (R46 to R48); 0 where the access may take place. The management cores see the physical layout
(R41); the scarf engine writes sill by its physical address. -/
def State.pointCode (s : State) (g : Agent) (c a : Nat) (isWrite : Bool) : Nat :=
  if a < benchEnd then
    let b := a / benchBytes
    match g with
    | .scarf | .jtag => 0x0209
    | .mgmt => if s.benchInReset b then 0x0204 else 0
    | _ =>
      if g = .remote && !isWrite then 0x0209
      else if !((s.ctx c).mask b).testBit ((a % benchBytes / 1024) % 32) then 0x0202
      else if s.benchInReset b then 0x0204 else 0
  else if hbmBase ≤ a ∧ a < hbmEnd then
    match g with
    | .jtag => 0x0209
    | .mgmt => if s.hbmInReset a then 0x0204 else 0
    | _ =>
      if (g = .scarf && isWrite) || (g = .remote && !isWrite) then 0x0209
      else
        let t := s.translate c a isWrite (g = .remote)
        if t.1 != 0 then t.1 else if s.hbmInReset t.2 then 0x0204 else 0
  else if sillBase ≤ a ∧ a < sillEnd then
    match g with
    | .mgmt => if isWrite && !s.sillWritable .mgmt ((a - sillBase) / pageBytes) then 0x0206 else 0
    | .scarf => if !isWrite then 0x0209 else if s.sillWritable .scarf ((a - sillBase) / pageBytes) then 0 else 0x0206
    | .remote | .jtag => if isWrite then 0x0206 else 0x0209
    | _ => if isWrite then 0x0206 else (s.translate c a false false).1
  else if ctlBase ≤ a ∧ a < ctlEnd then ctlCode g c a isWrite s.boot.debug
  else 0x0201

/-- The first byte of each 1,024-byte granule of [a, a + n). -/
def granules (a n : Nat) : List Nat :=
  if n = 0 then []
  else a :: (List.range ((a + n - 1) / 1024 - a / 1024)).map (fun i => (a / 1024 + i + 1) * 1024)

/-- The failing code of an access to [a, a + n): the first in the order of R48 (R44, R46). -/
def State.accessCode (s : State) (g : Agent) (c a n : Nat) (isWrite : Bool) : Nat :=
  if n = 0 then 0
  else
    let inCtl := decide (ctlBase ≤ a) && decide (a < ctlEnd)
    let align := if inCtl && (a % 8 != 0 || n != 8) then 0x0203 else 0
    (granules a n).foldl (fun w p => worse w (s.pointCode g c p isWrite)) align

/-! ### Heat and promotion (R183 to R186) -/

/-- Pool page j of stack k: the pool lies in the last 1,024 pages of each stack, firmware pages (R171, R184). -/
def poolPage (k j : Nat) : Nat := (k + 1) * 24576 - 1 - j

/-- Copies that stand in stack k's pool. -/
def State.poolUsed (s : State) (k : Nat) : Nat := (s.copies.filter (fun x => pageStack x.page == k)).length

/-- The pool pages of stack k that a copy may still take: at most object 0x3002 less those in use. -/
def State.freePool (s : State) (k : Nat) : List Nat :=
  (((List.range 1024).map (poolPage k)).filter (fun p =>
    !(s.copies.any (fun x => x.page == p)) && (s.hbmPage p).use != .retired)).take (s.num 0x3002 (k + 1) - s.poolUsed k)

/-- The stack with the most free pool pages, the lowest number on a tie. -/
def State.fullestPool (s : State) : Nat :=
  ((List.range 16).foldl (fun (b : Nat × Nat) k => let n := (s.freePool k).length; if n > b.2 then (k, n) else b)
    (0, (s.freePool 0).length)).1

/-- Where the copy goes (R184): the home stack of the reading bay, else its die's stacks, else any. -/
def State.choosePool (s : State) (g : Agent) : Option Nat :=
  let home := match g with | .bay b => b / 4 | _ => s.fullestPool
  let order := home :: (rangeFrom (home / 4 * 4) 4 ++ List.range 16)
  order.findSome? (fun k => (s.freePool k).head?)

/-- Drop a copy (R187): its directory entry and its place in the copy queue. -/
def State.dropCopy (s : State) (sill : Nat) : State :=
  { s with
    copies := s.copies.filter (fun x => x.sill != sill),
    copyQueue := Assoc.mapVals [] (fun _ l => l.filter (fun p => p != sill)) s.copyQueue }

/-- Refuse a promotion (R185). -/
def State.refusePromotion (s : State) (p : Nat) : State :=
  (s.setSillPage p { s.sillPage p with refused := true }).bump 0x3010 0x0B

/-- Of a list, the copy of lowest heat, the lowest sill address on a tie (R185). -/
def State.coldestCopy (s : State) (l : List Copy) : Option Copy :=
  l.foldl (fun (b : Option Copy) x => match b with
    | none => some x
    | some y =>
      let hx := (s.sillPage x.sill).heat
      let hy := (s.sillPage y.sill).heat
      if hx < hy ∨ (hx = hy ∧ x.sill < y.sill) then some x else some y) none

/-- Queue the copy of a sill page into a pool page (R186). -/
def State.startCopy (s : State) (sill page : Nat) : State :=
  let k := pagePkg sill
  let q := Assoc.get [] s.copyQueue k
  ({ s with copies := s.copies ++ [{ sill := sill, page := page, done := false }],
            copyQueue := Assoc.set [] s.copyQueue k (q ++ [sill]) } : State).bump 0x3010 9

/-- Promotion of a sill page read by an agent (R184 to R186). A copy whose pool page has been retired leaves no page to replace (R193). -/
def State.promote (s : State) (g : Agent) (sill : Nat) : State :=
  if (Assoc.get [] s.copyQueue (pagePkg sill)).length > 16 then s.refusePromotion sill
  else
    match s.choosePool g with
    | some p => s.startCopy sill p
    | none =>
      match s.coldestCopy (s.copies.filter (fun x => (s.hbmPage x.page).use != .retired)) with
      | some x =>
        if 2 * (s.sillPage x.sill).heat < s.num 0x3003 2 then (s.dropCopy x.sill).startCopy sill x.page
        else s.refusePromotion sill
      | none => s.refusePromotion sill

/-- A context agent read `n` bytes of the Sealed sill page `p` (R183). -/
def State.heatPage (s : State) (g : Agent) (p n : Nat) : State :=
  let x := s.sillPage p
  if x.state != 2 || x.maps = 0 then s
  else
    let x := { x with heat := min 0xFFFF (x.heat + ceilDiv n 256) }
    let s := s.setSillPage p x
    if s.num 0x3003 1 = 1 && decide (s.num 0x3003 2 ≤ x.heat) && !x.refused && !(s.copies.any (fun y => y.sill == p))
    then s.promote g p else s

/-- [a, a + n) cut at page boundaries: (start, bytes). The fuel bounds the pages. -/
def pagesOf : Nat → Nat → Nat → List (Nat × Nat)
  | 0, _, _ => []
  | f + 1, a, n =>
    if n = 0 then []
    else
      let k := min n (pageBytes - a % pageBytes)
      (a, k) :: pagesOf f (a + k) (n - k)

def pageCuts (a n : Nat) : List (Nat × Nat) := pagesOf (n / pageBytes + 2) a n

/-- How an access of context `c` to the page of `a` sees the loft: the class of the context, the policy of its page-table entry (R178,
R179). -/
def State.ctxUse (s : State) (c a : Nat) : LoftUse :=
  { policy := ((s.pteUsed c a false).elim 0 (fun e => bits e 56 55)), mask := s.classMask (s.ctx c).wayClass, owner := some c }

/-- The lines of HBM that a bay's access touches are loft hits or loft misses of its counters (Table 13-9). -/
def State.countLoft (s : State) (g : Agent) (c a n : Nat) : State :=
  match g with
  | .bay b =>
    let l := linesOf a n
    let h := (l.filter (fun i => (s.lineAt i).isSome)).length
    (s.countEvent b 0x0B h (some c)).countEvent b 0x0C (l.length - h) (some c)
  | _ => s

/-- A read of a page of a context passes the loft of what serves it: the HBM page itself, or the copy of a sill page (R177, R199). What sill
itself serves counts at its edge die. -/
def State.loftServe (s : State) (g : Agent) (c a n : Nat) : State :=
  let t := s.translate c a false false
  if t.1 != 0 then s
  else if t.2 < sillBase then (s.countLoft g c t.2 n).loftRead (s.ctxUse c a) t.2 n
  else
    let p := (t.2 - sillBase) / pageBytes
    match s.copies.find? (fun x => x.done && x.sill == p) with
    | some x =>
      let q := hbmPageAddr x.page + t.2 % pageBytes
      (s.countLoft g c q n).loftRead (s.ctxUse c a) q n
    | none => s.countEvent (81 + pagePkg p / 4) 0x0307 n (some c)

/-- What a context's read of [a, a + n) does beside the bytes it gives: HBM lines pass the loft (R177), and sill pages gain heat (R183). -/
def State.heatRead (s : State) (g : Agent) (c a n : Nat) : State :=
  if a < hbmBase ∨ sillEnd ≤ a then s
  else (pageCuts a n).foldl (fun s x =>
    let t := s.translate c x.1 false false
    let s := s.loftServe g c x.1 x.2
    if t.1 = 0 ∧ sillBase ≤ t.2 then s.heatPage g ((t.2 - sillBase) / pageBytes) x.2 else s) s

/-- The loft hits and misses of a bay's writes, judged before the command writes (assumption log 64). -/
def State.countWrites (s : State) (g : Agent) (c : Nat) (l : List (Nat × Nat)) : State :=
  (l.flatMap (fun x => if x.1 < hbmBase ∨ sillBase ≤ x.1 then [] else pageCuts x.1 x.2)).foldl (fun s x =>
    let t := s.translate c x.1 false false
    if t.1 = 0 then s.countLoft g c t.2 x.2 else s) s

/-! ### Reads and writes -/

/-- The physical address behind an address an agent may reach: bench is its own, HBM and sill are translated. -/
def State.phys (s : State) (c a : Nat) : Nat :=
  if a < benchEnd then a else (s.translate c a false false).2

/-- The bytes that an agent reads at [a, a + n) of a context, once its rights were checked. -/
def State.getBytes (s : State) (c a n : Nat) : List Byte :=
  (pageCuts a n).flatMap (fun x => s.readBytes (s.phys c x.1) x.2)

/-- Bytes written at a context address, once the rights were checked; those of HBM pass the loft (R177). -/
def State.storeBytes (s : State) (c a : Nat) (l : List Byte) : State :=
  ((pageCuts a l.length).foldl (fun (st : State × List Byte) x =>
    (st.1.storeAt (s.ctxUse c x.1) (s.phys c x.1) (st.2.take x.2), st.2.drop x.2)) (s, l)).1

/-- Pages of the copy-on-write pool that images hold: the pool is 64 firmware pages (R352). -/
def State.cowUsed (s : State) : Nat := s.ctxs.foldl (fun n e => n + e.2.image.elim 0 (fun im => im.pool.length)) 0

/-- A write to pages of a scarf image that have not been read yet copies each to the pool first, while the pool has `room`; with the
pool full the writer waits for a place (R352; assumption log 35). The Bool says that the write touched one. -/
def ImageOut.touch (im : ImageOut) (room a n : Nat) : ImageOut × Bool :=
  let hit := im.unread.filter (fun u => u.2 != 0 && decide (u.2 < a + n) && decide (a < u.2 + pageBytes))
  let i := hit.map (·.1)
  ({ im with unread := im.unread.filter (fun u => !hit.contains u), pool := im.pool ++ i.take room, waiting := im.waiting ++ i.drop room },
   !hit.isEmpty)

/-- Each such write is counted once. -/
def State.copyOnWrite (s : State) (c a n : Nat) : State :=
  match (s.ctx c).image with
  | none => s
  | some im =>
    let t := im.touch (64 - s.cowUsed) a n
    if t.2 then (s.modCtx c (fun x => { x with image := some t.1 })).bump 0x4310 0x0A else s

/-- A write of an agent of a context. -/
def State.putBytes (s : State) (c a : Nat) (l : List Byte) : State := (s.storeBytes c a l).copyOnWrite c a l.length

/-! ### Uncorrectable errors (R188, R194) -/

/-- The memory, unit and source of a physical address. -/
def ueUnit (a : Nat) : Nat × Nat × Nat :=
  if a < benchEnd then (0, a / benchBytes, 32 + a / benchBytes)
  else if a < sillBase then (2, (a - hbmBase) / stackBytes, 96 + (a - hbmBase) / stackBytes)
  else (3, (a - sillBase) / pkgBytes, 224 + (a - sillBase) / pkgBytes)

/-- The counter of Table 5-13 for a memory. -/
def ueCounter (m : Nat) : Nat := if m = 0 then 2 else if m = 2 then 5 else 7

/-- Record an uncorrectable error at a physical address met for a context (R194). -/
def State.recordUe (s : State) (a : Nat) (c : Option Nat) : State :=
  let u := ueUnit a
  let s := s.bump 0x3010 (ueCounter u.1)
  let s := (((s.setCnt 0x3011 1 s.stamp).setCnt 0x3011 2 u.1).setCnt 0x3011 3 u.2.1).setCnt 0x3011 4 a
  let s := s.setObj 0x3011 5 (.num (c.getD 0xFFFF))
  (s.signal u.2.2 c).deduct 30

/-- Retire an HBM page (R193): listed in the fault log, never allocated again. A page in use serves its owner on, and one that is being freed
is zeroed first (R197). -/
def State.retireHbm (s : State) (p : Nat) : State :=
  let x := s.hbmPage p
  if x.retiring || x.use = .retired then s
  else
    let x := match x.use with
      | .owned _ | .object _ | .firmware | .staging | .zeroing | .invalidating => { x with retiring := true }
      | .free | .pool | .retired => { x with use := .retired }
    let s := (s.setHbmPage p x).bump 0x3010 0x0F
    let s := s.setRwp 0x3012 6 (.num (s.num 0x3012 6 + 1))
    (s.deduct 5).log { code := 0x0233, severity := 1, unitKind := 3, unit := pageStack p, action := 8, detail := hbmPageAddr p }

/-- An error in a read served from a copy (R188): the read completes from sill, the copy goes, its pool page retires. -/
def State.copyUe (s : State) (x : Copy) : State :=
  ((s.dropCopy x.sill).bump 0x3010 5).retireHbm x.page

/-- The copy whose pool page holds a physical address. -/
def State.copyAt (s : State) (a : Nat) : Option Copy :=
  if a < hbmBase ∨ hbmEnd ≤ a then none
  else s.copies.find? (fun x => x.done && x.page == (a - hbmBase) / pageBytes)

end Sys2Proof.Machine
end

