-- ==== Sys2Proof/Machine/SaveArea.lean ====
section
/-! DEFINITION. The save area of a context (R212, Table 6-7): the bytes that a swap-out writes and a swap-in reads, and the parked-wait
records of a swapped-out context, which a fill changes there (R254). The layout of its entries is the model's (assumption log 149). -/

namespace Sys2Proof.Machine

/-- Kept banks of a mask. -/
def banksOf (m : Nat) : List Nat := (List.range 32).filter (fun k => m.testBit k)

/-- The save area: 131,072 bytes and the kept banks (R212). -/
def keptBytes : Nat := 786432
def saveBytes (keep : Sparse Nat) : Nat := 131072 + keptBytes * (keep.map (fun e => (banksOf e.2).length)).foldl (· + ·) 0

/-- Physical address of an offset in the save area, whose firmware pages need not be neighbours. -/
def Ctx.saveAt (x : Ctx) (o : Nat) : Nat := hbmPageAddr (nth 0 x.savePages (o / pageBytes)) + o % pageBytes

/-- The offset in the save area of a physical address. -/
def Ctx.saveOffset (x : Ctx) (a : Nat) : Option Nat :=
  if hbmBase ≤ a ∧ x.savePages.contains ((a - hbmBase) / pageBytes)
  then some (x.savePages.idxOf ((a - hbmBase) / pageBytes) * pageBytes + a % pageBytes) else none

/-! ### The context record -/

def ctxRecordBytes : Nat := 4096

/-- The context record: the items of Table 6-6 other than queue, segment, held and parked state, and the averages of R320, in an order
of the model's own (assumption log 32). -/
def State.ctxRecord (s : State) (c : Nat) : List Byte :=
  let x := s.ctx c
  let bays := List.range 64
  fitBytes ctxRecordBytes (leBytes 128 (packFields [(16, c), (16, s.epoch c), (16, x.roleEpoch), (16, x.layoutEpoch), (32, x.version), (64, x.seed),
      (32, x.step), (8, x.wayClass), (8, x.slotClass), (48, x.dirBase), (48, x.tensorTable), (48, x.reportRing), (48, x.queueBase),
      (8, x.queueLog2), (48, x.ringBase), (8, x.ringLog2), (32, x.ringTail), (8, x.lanes), (40, x.segSize), (48, x.stackBase), (32, x.g2Ema),
      (32, x.trEma), (8, b2n x.emaValid), (360, 0)])
    ++ bays.flatMap (fun b => leBytes 8 (packFields [(32, x.mask b), (32, Assoc.get 0 x.keep b)]))
    ++ bays.flatMap (fun b => leBytes 8 (packFields [(48, Assoc.get 0 x.prefAddr b), (16, Assoc.get 0 x.prefCount b)]))
    ++ bays.flatMap (fun b => let y := x.bayStep b; leBytes 8 (packFields [(16, y.marker), (16, y.pos), (16, y.done), (16, 0)])))

/-! ### Entries -/

/-- A queue's entry. -/
def Queue.saveEntry (q : Queue) : List Byte :=
  leBytes 32 (packFields [(32, q.head), (32, q.tail), (32, q.completed), (64, q.headStamp.getD 0), (1, b2n q.headStamp.isSome),
    (1, b2n q.timedOut), (94, 0)])

/-- A bay's step state. -/
def BayStep.saveEntry (y : BayStep) : List Byte :=
  leBytes 16 (packFields [(16, y.marker), (16, y.pos), (16, y.done), (16, (nth 0 (y.stopped.map (·.entry)) 0)), (16, (nth 0 (y.stopped.map (·.entry)) 1)),
    (8, y.stopped.length), (1, b2n y.swapFlag), (39, 0)])

/-- A segment's state; a cursor of all ones is EMPTY. -/
def Segment.saveEntry (y : Segment) : List Byte := leBytes 16 (packFields [(64, y.cursor.getD (2 ^ 64 - 1)), (64, y.top)])

/-- A held stick. -/
def Held.saveEntry (h : Held) : List Byte := leBytes 16 (packFields [(8, h.bay), (8, h.lane), (32, h.tag), (64, h.offset), (1, 1), (15, 0)])

/-- The parked-wait record of Table 7-4. -/
def Parked.bytes (p : Parked) : List Byte :=
  leBytes 64 (packFields [(64, p.parkStamp), (64, p.deadline), (64, p.fillStamp), (32, p.tag), (32, p.progress), (16, p.ctxEpoch),
    (16, p.mortise), (32, 0), (32, p.slotIndex), (9, p.queue), (3, p.kind), (2, p.state), (146, 0)])

/-! ### Saving and restoring -/

/-- Put the nonzero bytes of an entry at an offset of a save area that reads 0 there. -/
def State.putSave (s : State) (x : Ctx) (o : Nat) (l : List Byte) : State :=
  l.zipIdx.foldl (fun s e => if e.1 = 0 then s else s.setByte (x.saveAt (o + e.2)) e.1) s

/-- Entries of `n` bytes from an offset. -/
def State.putTable (s : State) (x : Ctx) (o n : Nat) (l : List (Nat × List Byte)) : State :=
  l.foldl (fun s e => s.putSave x (o + n * e.1) e.2) s

def parkedAt : Nat := 90112

/-- The parked-wait records of a context that is swapped out, as its save area holds them (R254). -/
def State.saveParked (s : State) (c : Nat) : State :=
  let x := s.ctx c
  if x.state = 3 then
    (s.zeroRange (x.saveAt parkedAt) (x.saveAt parkedAt + 40960)).putTable x parkedAt 64
      ((x.parked.map Parked.bytes).zipIdx.map (·.swap))
  else s

/-- The bytes of Table 6-7 before the kept banks. -/
def State.saveState (s : State) (c : Nat) : State :=
  let x := s.ctx c
  let s := x.savePages.foldl (fun s p => s.zeroRange (hbmPageAddr p) (hbmPageAddr p + pageBytes)) s
  let s := s.putSave x 0 (s.ctxRecord c)
  let s := s.putTable x 4096 32 (x.queues.map (fun e => (e.1, e.2.saveEntry)))
  let s := s.putTable x 20480 16 (x.baySteps.map (fun e => (e.1, e.2.saveEntry)))
  let s := s.putTable x 24576 16 (x.segments.map (fun e => (e.1, e.2.saveEntry)))
  let s := s.putTable x 57344 16 ((x.held.map Held.saveEntry).zipIdx.map (·.swap))
  s.putTable x parkedAt 64 ((x.parked.map Parked.bytes).zipIdx.map (·.swap))

/-- The place of a byte of a bay's bench in its bank (R39), and back. -/
def bankOffset (o : Nat) : Nat := o / 32768 * 1024 + o % 1024
def benchOffset (bank o : Nat) : Nat := o / 1024 * 32768 + bank * 1024 + o % 1024

/-- Kept banks of a context, as bay × 32 + bank, in ascending bay, then bank. -/
def Ctx.keptBanks (x : Ctx) : List Nat := x.keep.flatMap (fun e => (banksOf (e.2 &&& x.mask e.1)).map (fun i => e.1 * 32 + i))

/-- Save the kept banks of a list, the k-th at 128 KiB + 768 KiB × k. -/
def State.saveKept (s : State) (x : Ctx) (l : List Nat) : State :=
  l.zipIdx.foldl (fun t e =>
    ((s.mem.filter (fun c => inBank (e.1 / 32) (e.1 % 32) c.1)).foldl (fun t c =>
      t.setByte (x.saveAt (131072 + keptBytes * e.2 + bankOffset (c.1 % benchBytes))) c.2) t)) s

/-- Restore them: a bank that the context no longer keeps is discarded (R534). -/
def State.loadKept (s : State) (x : Ctx) (l : List Nat) : State :=
  s.mem.foldl (fun t c => match x.saveOffset c.1 with
    | none => t
    | some o =>
      let k := nth 0 l ((o - 131072) / keptBytes)
      if o < 131072 ∨ l.length ≤ (o - 131072) / keptBytes ∨ !(Assoc.get 0 x.keep (k / 32)).testBit (k % 32) then t
      else t.setByte (k / 32 * benchBytes + benchOffset (k % 32) ((o - 131072) % keptBytes)) c.2) s

end Sys2Proof.Machine
end

