-- ==== Sys2Proof/Machine/Queues.lean ====
section
/-! DEFINITION. Queues and completions (R216 to R229), mortise slots and parked waits (R252 to R256, R290, R291): the
operations that command starts, completions, doorbells and messages share. -/

namespace Sys2Proof.Machine

/-! ### Counts modulo 2^32 -/

def m32 : Nat := 2 ^ 32
/-- (a - b) mod 2^32. -/
def sub32 (a b : Nat) : Nat := (a + m32 - b % m32) % m32

/-- The clamp of R218: `v` where it lies between `lo` and `hi`, else the nearer end, `lo` at equal distance. -/
def clamp32 (lo hi v : Nat) : Nat :=
  if sub32 v lo ≤ sub32 hi lo then v % m32
  else if sub32 v hi < sub32 lo v then hi % m32 else lo % m32

def Queue.waiting (q : Queue) : Bool := q.head != q.tail

/-! ### Engines -/

/-- The engine kind of a queue (R216): 0 tensor, 1 vector, 2 and 3 haul, 4 update, 5 reduce, 6 control. -/
def engineKind (q : Nat) : Nat := if q < 256 then q % 4 else if q < 272 then 4 else if q = 272 then 5 else 6

/-- The bay of an engine, where it has one. -/
def engineBay (q : Nat) : Option Nat := if q < 256 then some (q / 4) else none

/-- The beam die of an engine. -/
def engineDie (q : Nat) : Option Nat := if q < 256 then some (q / 64) else if q < 272 then some ((q - 256) / 4) else none

/-- The opcodes of each queue (Table 6-13). -/
def opcodeLegal (q op : Nat) : Bool :=
  if op = 0 then true
  else match engineKind q with
    | 0 => op == 1 || op == 0x10
    | 1 => (decide (0x20 ≤ op) && decide (op ≤ 0x25)) || op == 0x28
    | 2 | 3 => op == 0x30
    | 4 => op == 0x40
    | 5 => decide (0x50 ≤ op) && decide (op ≤ 0x57)
    | _ => op == 2 || op == 3

/-- The header of a slot with its clamps (R226, R291): the command, and whether a field was clamped. -/
def clampHeader (q : Nat) (w : Nat) : Cmd × Bool :=
  let h := w % 2 ^ 128
  let op0 := bits h 7 0
  let op := if opcodeLegal q op0 then op0 else 0
  let k0 := bits h 54 52
  let k := if k0 ≤ 3 then k0 else 0
  let wq0 := bits h 63 55
  let wq := if wq0 ≤ 273 then wq0 else 273
  let k' := if k = 1 && q ≥ 256 && wq ≥ 256 then 0 else k
  let v0 := bits h 95 64
  let v := if k' = 3 && v0 > 0x04BF then 0x03FF else v0
  ({ tag := bits h 127 96, waitValue := v, waitQueue := wq, waitKind := k', irq := h.testBit 10, fence := h.testBit 9,
     cmpl := h.testBit 8, opcode := op, body := w / 2 ^ 128 },
   op != op0 || k' != k0 || wq != wq0 || v != v0)

/-- The slot of command number `i` of a queue (R216). -/
def Ctx.slotAddr (x : Ctx) (q i : Nat) : Nat := x.queueBase + q * 2 ^ x.queueLog2 * 128 + (i % 2 ^ x.queueLog2) * 128

/-- The command at the head of a queue. -/
def State.headCmd (s : State) (c q : Nat) : Cmd × Bool :=
  let x := s.ctx c
  clampHeader q (leNat (s.getBytes c (x.slotAddr q (x.queue q).head) 128))

/-! ### Readiness (R219, R221) -/

/-- The arrival number of the tail write that made command `i` visible. -/
def Queue.arrivalOf (q : Queue) (i : Nat) : Nat :=
  match q.marks.find? (fun m => sub32 m.1 i != 0 && decide (sub32 m.1 i < 2 ^ 31)) with
  | some m => m.2
  | none => 0

/-- The barrier of the control queue (R221). -/
def Ctx.barrierOk (x : Ctx) (q : Nat) : Bool :=
  let a := (x.queue q).arrivalOf (x.queue q).head
  if q = 273 then x.queues.all (fun e => e.2.marks.all (fun m => decide (a ≤ m.2)))
  else (x.queue 273).marks.all (fun m => decide (a ≤ m.2))

/-- Entries of the completion ring not yet taken by a record or a reservation (R219, R229). -/
def Ctx.ringFree (x : Ctx) : Bool := decide (sub32 x.ringTail x.ringHead + x.ringReserved < 2 ^ x.ringLog2)

/-- The wait condition of Table 6-12 for a command of queue `q`. -/
def Ctx.waitHolds (x : Ctx) (q : Nat) (m : Cmd) : Bool :=
  match m.waitKind with
  | 0 => true
  | 1 =>
    let b := if q < 256 then q / 4 else m.waitQueue / 4
    decide (m.waitValue ≤ (x.bayStep b).done)
  | 2 => decide (sub32 (x.queue m.waitQueue).completed m.waitValue < 2 ^ 31)
  | _ => decide (1 ≤ (x.slot m.waitValue).count)

/-- The parked record of the command at the head of a queue, a wait of kind 3. -/
def Ctx.headRecord (x : Ctx) (q : Nat) : Option Parked :=
  x.parked.find? (fun p => p.queue == q && p.kind == 0 && p.slotIndex == (x.queue q).head)

/-- A started command of the queue is parked: nothing later of the queue starts, so that the queue completes in order. -/
def Ctx.startedParked (x : Ctx) (q : Nat) : Bool := x.parked.any (fun p => p.queue == q && p.run.isSome)

/-- The command at the head of queue `q` of context `c` may start, residence apart (R219, R221, R239, R242). -/
def State.headReady (s : State) (c q : Nat) : Bool :=
  let x := s.ctx c
  let y := x.queue q
  if !y.waiting then false
  else
    let m := (s.headCmd c q).1
    x.waitHolds q m && (!m.fence || y.completed == y.head) && x.ringFree && x.barrierOk q && !x.startedParked q
      && (m.opcode != 2 || x.admitted)

/-- A parked wait of the queue was filled or timed out: its command is ready (R252, R256). -/
def Ctx.wokenRecord (x : Ctx) (q : Nat) : Option Parked :=
  x.parked.find? (fun p => p.queue == q && p.state != 0 && p.run.isSome)

/-! ### Time, and the waits of R247 -/

/-- An engine does work of a context other than c. -/
def Engine.servesOther (e : Engine) (c : Nat) : Bool := (e.running.toList ++ e.epilogue.toList).any (fun r => r.ctx != c)

/-- A command of a context's open step is ready on a bay it is granted, and an engine of the bay does another context's work (R247; assumption log
150). -/
def State.waitsOn (s : State) (c b : Nat) : Bool :=
  let l := rangeFrom (4 * b) 4
  (s.ctx c).stepOpen && (s.ctx c).resident && l.any (fun q => (s.engine q).servesOther c)
    && l.any (fun q => s.headReady c q || ((s.ctx c).wokenRecord q).isSome)

/-- Count W over `dt` units, in which nothing but time changes. -/
def State.waitsAfter (s : State) (dt : Nat) : Sparse Nat :=
  if dt = 0 then s.sched.waits
  else (s.ctxs.flatMap (fun e => e.2.grant.map (fun g => (e.1, g.1)))).foldl (fun w k =>
    if s.waitsOn k.1 k.2 then Assoc.set 0 w (k.1 * 64 + k.2) (Assoc.get 0 w (k.1 * 64 + k.2) + dt * (s.die (k.2 / 16)).clock) else w) s.sched.waits

/-- `dt` units of 0.25 ns pass before a command (R18; assumption log 1). -/
def State.elapse (s : State) (dt : Nat) : State :=
  { s.advance dt with sched := { s.sched with waits := s.waitsAfter dt } }

/-- The waits of a context start anew (R247). -/
def State.clearWaits (s : State) (c : Nat) : State :=
  { s with sched := { s.sched with waits := s.sched.waits.filter (fun e => e.1 / 64 != c) } }

/-- W of a context on a bay, in units of 4 tensor clocks. -/
def State.waitUnits (s : State) (c b : Nat) : Nat := Assoc.get 0 s.sched.waits (c * 64 + b) / (4 * us)

/-! ### The schedule table (R235, R236, R239) -/

def cycleUnits : Nat := 40960000
def slotUnits : Nat := 40000

/-- The cycle and the slot in force (R235). -/
def State.cycleNo (s : State) : Nat := s.stamp / cycleUnits
def State.slotNo (s : State) : Nat := s.stamp % cycleUnits / slotUnits

/-- Slot entries of Table 7-1. -/
def entryA (e : Nat) : Nat := bits e 63 56
def entryB (e : Nat) : Nat := bits e 39 32
def groupsA (e : Nat) : Nat := bits e 55 40
def groupsB (e : Nat) : Nat := bits e 31 16

/-- The entry of slot n of the active table. -/
def State.entry (s : State) (n : Nat) : Nat := nth 0 s.sched.active n

/-- The entry of the slot k slots on: past the end of the cycle, that of the pending table where it takes over there (R238, R241). -/
def State.entryAhead (s : State) (k : Nat) : Nat :=
  let n := s.slotNo + k
  if n < 1024 then s.entry n
  else match s.sched.pending with
    | some p => if p.1 ≤ s.cycleNo + 1 then nth 0 p.2 (n % 1024) else s.entry (n % 1024)
    | none => s.entry (n % 1024)

/-- Class k is a guaranteed class (R236). -/
def State.guaranteedClass (s : State) (k : Nat) : Bool :=
  k != 0 && s.sched.active.any (fun e => (entryA e == k && (groupsA e != 0 || e.testBit 15))
    || (entryB e == k && (groupsB e != 0 || e.testBit 14)))

/-- The bay group of an engine. -/
def engineGroup (e : Nat) : Option Nat := if e < 256 then some (e / 16) else if e < 272 then some (e - 256) else none

/-- Entry `w` guarantees an engine to class k (R239). -/
def entryGuards (w e k : Nat) : Bool :=
  k != 0 && match engineGroup e with
    | some g => (entryA w == k && (groupsA w).testBit g) || (entryB w == k && (groupsB w).testBit g)
    | none => e == 272 && ((entryA w == k && w.testBit 15) || (entryB w == k && w.testBit 14))

/-- A command of class k on an engine runs at level 3 now, else at level 4. -/
def State.levelOf (s : State) (e k : Nat) : Nat := if entryGuards (s.entry s.slotNo) e k then 3 else 4

/-- A pinned context (R257). -/
def State.pinned (s : State) (x : Ctx) : Bool := x.resident && s.guaranteedClass x.slotClass

/-! ### Steps and energy admission (R242, R243, R445, R446) -/

/-- The rated sustained power, in W (R445). -/
def State.ratedPower (s : State) : Rat :=
  let t := toSigned 32 (s.num 0x6010 1)
  if t ≤ 45000 then 3000 else 3000 - (80 / 3) * ((t - 45000 : Int) : Rat) / 1000

/-- The admission power and the cycle budget (R446). -/
def State.admitPower (s : State) : Rat :=
  min (min ((s.num 0x6011 1 : Nat) : Rat) s.ratedPower) (min (s.power.pElec.getD 3600) (s.power.pTherm.getD 3600))
def State.budget (s : State) : Rat := s.admitPower * 1024 / 100

/-- The estimate e of a context's next step (R242), a step taken to last at least one stamp unit. -/
def State.estimate (s : State) (x : Ctx) : Rat :=
  if x.stats.closed then x.stats.ePrev * (cycleUnits : Nat) / (max 1 x.stats.tPrev : Nat) else (s.num 0x3202 3 : Nat)

/-- A step of the context is admitted or open. -/
def Ctx.inStep (x : Ctx) : Bool := x.admitted || x.stepOpen

/-- Steps of a context between their admission and their close: the open one, and the next where it is admitted already. -/
def Ctx.stepsIn (x : Ctx) : Nat := b2n x.stepOpen + b2n x.admitted

/-- A step of the context that is admitted or open pins a version (R347). -/
def Ctx.pins (x : Ctx) (v : Nat) : Bool := (x.stepOpen && x.version == v) || (x.admitted && x.nextVersion == v)

/-- Σ (R242). -/
def State.openSum (s : State) : Rat := s.ctxs.foldl (fun a e => a + e.2.stepsIn * s.estimate e.2) 0

/-- The fields of Table 9-9. -/
structure ReshardBlock where
  table : Nat
  newR : Nat
  newP : Nat
  ctx : Nat
  epoch : Nat
  after : Nat
deriving DecidableEq, Repr

def reshardOf (b : List Byte) : ReshardBlock :=
  let n := leNat (fitBytes 32 b)
  { table := bits n 255 208, newR := bits n 207 192, newP := bits n 191 184, ctx := bits n 183 172, epoch := bits n 171 156,
    after := bits n 155 124 }

/-- The last step of the old layout has closed, and step 2 has not begun. -/
def Ctx.reshardDue (x : Ctx) : Bool := x.reshard == 1 && !x.stepOpen && decide ((reshardOf x.reshardBlock).after ≤ x.step)

/-- Raising, the replacement of an object that the context maps, or a re-shard holds its step opens back (R328, R337, R344). -/
def State.heldOpen (s : State) (x : Ctx) : Bool :=
  x.raise.elim false (fun r => r.state == 1 && r.mode == 0) || x.reshardDue || decide (2 ≤ x.reshard) || x.objects.any (fun o => !(s.object o).replacing.isEmpty)

/-- Put a key into a list kept ascending by (first, second). -/
def insertPair (a : Nat × Nat) : List (Nat × Nat) → List (Nat × Nat)
  | [] => [a]
  | b :: l => if a.1 < b.1 ∨ (a.1 = b.1 ∧ a.2 ≤ b.2) then a :: b :: l else b :: insertPair a l

def sortPairs (l : List (Nat × Nat)) : List (Nat × Nat) := l.foldr insertPair []

/-- The step opens that wait, in the order of R242: guaranteed classes first, each by arrival, then the lower ID. -/
def State.waitingOpens (s : State) : List Nat :=
  let l := s.ctxs.filterMap (fun e => match e.2.waitSince with
    | some t => if e.2.state = 2 ∨ e.2.state = 3 then some (t, e.1) else none
    | none => none)
  let g := fun (p : Nat × Nat) => s.guaranteedClass (s.ctx p.2).slotClass
  (sortPairs (l.filter g) ++ sortPairs (l.filter (fun p => !g p))).map (·.2)

/-- The step open of a context may be admitted. -/
def State.mayAdmit (s : State) (c : Nat) : Bool :=
  let x := s.ctx c
  !s.heldOpen x && (s.guaranteedClass x.slotClass
    || (!s.power.shed && (decide (s.openSum + s.estimate x ≤ s.budget) || !s.ctxs.any (fun e => e.2.inStep))))

/-- Admission: it pins the version that is current (R347). With no step open the context's step begins with it; a step still open keeps its
own stamp, version and energy until its close (R242, R444). -/
def Ctx.admitAt (x : Ctx) (now : Nat) : Ctx :=
  let x := { x with admitted := true, nextStamp := now, nextVersion := x.current, waitSince := none, waitRaised := false, waitCounted := false }
  if x.stepOpen then x
  else { x with admitStamp := now, version := x.current, stats := { x.stats with stepEnergy := 0 } }

/-- Test the waiting step opens in order, up to the first that is not admitted; those that wait on are counted once each. -/
def State.admitList : State → List Nat → Bool → State
  | s, [], _ => s
  | s, c :: l, stopped =>
    if !stopped && s.mayAdmit c then (s.setCtx c ((s.ctx c).admitAt s.stamp)).admitList l false
    else
      let x := s.ctx c
      let s := if x.waitCounted then s else (s.setCtx c { x with waitCounted := true }).bump 0x3210 8
      s.admitList l true

/-- The admission test (R242, R243). -/
def State.admitTest (s : State) : State := s.admitList s.waitingOpens false

/-- A step open that has come to the head of its control queue waits from now on, and the test runs (R243). -/
def State.arriveOpen (s : State) (c : Nat) : State :=
  let x := s.ctx c
  if (x.state = 2 ∨ x.state = 3) ∧ !x.admitted ∧ x.waitSince = none ∧ (x.queue 273).waiting ∧ (s.headCmd c 273).1.opcode = 2
  then (s.setCtx c { x with waitSince := some s.stamp }).admitTest
  else s

/-- The last moment at which a context was resident (R441). -/
def State.noteResident (s : State) : State :=
  if s.ctxs.any (fun e => e.2.resident) then { s with power := { s.power with noResidentSince := s.stamp } } else s

/-! ### Blocked, idle and runnable (R257) -/

def Engine.runsFor (e : Engine) (c : Nat) : Bool :=
  (e.running.elim false (fun r => r.ctx == c)) || (e.epilogue.elim false (fun r => r.ctx == c))
    || (e.suspended.elim false (fun r => r.ctx == c))

def State.hasRunning (s : State) (c : Nat) : Bool := s.engines.any (fun e => e.2.runsFor c)

def State.hasReady (s : State) (c : Nat) : Bool :=
  (s.ctx c).queues.any (fun e => s.headReady c e.1) || (s.ctx c).parked.any (fun p => p.state != 0)

def State.hasWaiting (s : State) (c : Nat) : Bool :=
  (s.ctx c).parked.any (fun p => p.state == 0)
    || (s.ctx c).queues.any (fun e => e.2.waiting && (s.headCmd c e.1).1.waitKind == 3)

def Ctx.noQueued (x : Ctx) : Bool := x.queues.all (fun e => !e.2.waiting)

/-- Blocked or idle (R257). -/
def State.stuck (s : State) (c : Nat) : Bool :=
  !s.hasRunning c && ((!s.hasReady c && s.hasWaiting c) || ((s.ctx c).noQueued && (s.ctx c).parked.isEmpty))

/-- Keep the block, idle and runnable stamps of a context, and the stamps at which queue heads were reached (R255, R257). -/
def State.track (s : State) (c : Nat) : State :=
  let s := s.arriveOpen c
  let x := s.ctx c
  if x.state = 2 then
    s.setCtx c { x with blockStamp := if s.stuck c then some (x.blockStamp.getD s.stamp) else none, runnableStamp := none }
  else if x.state = 3 then
    s.setCtx c { x with runnableStamp := if s.hasReady c then some (x.runnableStamp.getD s.stamp) else none }
  else s

/-- The head of queue `q` was reached now, or there is none (R255). -/
def Queue.touch (q : Queue) (now : Nat) : Queue :=
  if !q.waiting then { q with headStamp := none, timedOut := false }
  else { q with headStamp := some (q.headStamp.getD now) }

/-! ### Doorbells (R217, R218) -/

/-- A new tail for a queue. -/
def State.setTail (s : State) (c q v : Nat) : State :=
  let x := s.ctx c
  let y := x.queue q
  let t := clamp32 y.tail (y.completed + 2 ^ x.queueLog2) v
  let s := if t = v % m32 then s else s.bump 0x3110 2
  if t = y.tail then s
  else
    let y := ({ y with tail := t, marks := y.marks ++ [(t, x.arrivals)] } : Queue).touch s.stamp
    (s.setCtx c { x.setQueue q y with arrivals := x.arrivals + 1 }).track c

/-- A new head for the completion ring. -/
def State.setRingHead (s : State) (c v : Nat) : State :=
  let x := s.ctx c
  let h := clamp32 x.ringHead x.ringTail v
  let s := if h = v % m32 then s else s.bump 0x3110 2
  (s.setCtx c { x with ringHead := h }).track c

/-- The started work of a context drains: it closes, or is about to be restored (R230, R358). No command of it starts, and tail writes have
no effect. -/
def Ctx.draining (x : Ctx) : Bool := x.state == 4 || x.restoring.elim false (fun r => r.phase == 1)

/-- An 8-byte write at an offset of a doorbell page (Table 6-10). -/
def State.doorWrite (s : State) (c off v : Nat) : State :=
  let st := (s.ctx c).state
  if st != 2 && st != 3 && st != 4 then s
  else if off < 0x1000 then (if off % 8 = 0 ∧ off / 8 ≤ 273 ∧ (s.ctx c).draining = false then s.setTail c (off / 8) (v % m32) else s)
  else if off = 0x2000 then s.setRingHead c (v % m32)
  else s

/-- An 8-byte read of a doorbell page (Table 6-10). -/
def State.doorRead (s : State) (c off : Nat) : Nat :=
  let x := s.ctx c
  if off < 0x1000 then (if off % 8 = 0 ∧ off / 8 ≤ 273 then (x.queue (off / 8)).tail else 0)
  else if off < 0x2000 then (if off % 8 = 0 ∧ (off - 0x1000) / 8 ≤ 273 then (x.queue ((off - 0x1000) / 8)).completed else 0)
  else if off = 0x2000 then x.ringHead
  else if off = 0x2008 then x.ringTail
  else if off = 0x2010 then x.state + s.epoch c * 2 ^ 8 + x.step * 2 ^ 32
  else if off = 0x2018 then x.reports
  else 0

/-! ### Completion (R227, R228) -/

/-- What a completion says. -/
structure Done where
  queue : Nat
  cmd : Cmd
  clamped : Bool
  start : Nat
  code : Nat
  aborted : Bool
deriving DecidableEq, Repr

/-- The record of Table 6-19 for ring entry `t`. -/
def State.completionBytes (s : State) (c : Nat) (d : Done) (seq t : Nat) : List Byte :=
  let phase := (t / 2 ^ (s.ctx c).ringLog2 + 1) % 2
  leBytes 32 (packFields [(64, s.stamp), (64, d.start), (32, d.cmd.tag), (32, seq), (16, d.code), (16, s.epoch c), (9, d.queue),
    (8, d.cmd.opcode), (12, 0), (1, phase), (1, b2n d.clamped), (1, b2n d.aborted)])

/-- Whether a record is written (R227). -/
def Done.record (d : Done) : Bool := d.cmd.cmpl || d.cmd.irq || d.code != 0 || d.clamped || d.aborted

/-- The completion event of irq 1, on the context's session (R228, R374). -/
def State.completionEvent (s : State) (c : Nat) (d : Done) (seq : Nat) : State :=
  let r : EventRec := { count := seq, ctxEpoch := s.epoch c, ctx := c, queue := d.queue, source := 0, kind := 0,
                        error := d.code, tag := d.cmd.tag }
  let a := (s.sessionsOf (fun k => k.kind == 1 && k.ctx == c && k.ctxEpoch == s.epoch c)).foldl
    (fun a n => let y := a.1.eventTo n r s.stamp; (y.1, a.2 || y.2)) (s, false)
  if a.2 then a.1.signal 215 none else a.1

/-- A started command completes: its queue's count advances, its ring reservation ends, and its record and event follow. -/
def State.finish (s : State) (c : Nat) (d : Done) : State :=
  let x := s.ctx c
  let y := x.queue d.queue
  let seq := (y.completed + 1) % m32
  let y := { y with completed := seq, marks := y.marks.filter (fun m => m.1 != seq && decide (sub32 m.1 seq < 2 ^ 31)) }
  let t := x.ringTail
  let rec_ := d.record
  let x := { x.setQueue d.queue y with
    ringReserved := x.ringReserved - 1, ringTail := if rec_ then (t + 1) % m32 else t }
  let bytes := s.completionBytes c d seq t
  let s := s.setCtx c x
  let s := if rec_ then s.putBytes c (x.ringBase + (t % 2 ^ x.ringLog2) * 32) bytes else s
  let s := s.bump 0x3110 1
  let s := if d.aborted then s.bump 0x3110 4 else s
  let s := if d.cmd.irq then s.completionEvent c d seq else s
  s.track c

/-- New parked-wait records; the period in which the table is full ends when one is free (R253). -/
def Ctx.setParked (x : Ctx) (l : List Parked) : Ctx := { x with parked := l, parkFull := x.parkFull && decide (640 ≤ l.length) }

/-- The head command of a queue starts: it leaves the queue and reserves a ring entry; a wait of kind 3 consumes one fill
(R219, R291). -/
def Ctx.takeHead (x : Ctx) (q : Nat) (m : Cmd) (now : Nat) : Ctx :=
  let y := x.queue q
  let y := ({ y with head := (y.head + 1) % m32, headStamp := none, timedOut := false } : Queue).touch now
  let x := { x.setQueue q y with ringReserved := x.ringReserved + 1 }
  let x := x.setParked (x.parked.filter (fun p => !(p.queue == q && p.kind == 0 && p.slotIndex == (y.head + m32 - 1) % m32)))
  if m.waitKind = 3 then
    let f := x.slot m.waitValue
    let f := { f with count := f.count - 1, firstStamp := if f.count ≥ 2 then now else f.firstStamp }
    x.setSlot m.waitValue f
  else x

/-- A wait of a kind of Table 7-4 completes with 0x0410: its fill may still land (R256). -/
def Ctx.noteLate (x : Ctx) (kind mortise q slot : Nat) : Ctx := { x with lateWaits := x.lateWaits ++ [(kind, mortise, q, slot)] }

/-- The head command completes at once with a code and no effect; it consumes no fill. Its clamps count (R226). -/
def State.finishHead (s : State) (c q : Nat) (m : Cmd) (clamped : Bool) (code : Nat) : State :=
  let x := (s.ctx c).takeHead q { m with waitKind := 0 } s.stamp
  let x := if code = 0x0410 ∧ m.waitKind = 3 then x.noteLate 0 m.waitValue q ((s.ctx c).queue q).head else x
  ((if clamped then s.bump 0x3110 2 else s).setCtx c x).finish c { queue := q, cmd := m, clamped := clamped, start := s.stamp, code := code, aborted := false }

/-- A started run completes and leaves its engine. -/
def State.finishRun (s : State) (r : Run) (code : Nat) (aborted : Bool) : State :=
  s.finish r.ctx { queue := r.queue, cmd := r.cmd, clamped := r.clamped, start := r.start, code := code, aborted := aborted }

/-- Take a run off its engine: the running place, the epilogue and the suspended place. -/
def State.clearEngine (s : State) (e : Nat) (p : Run → Bool) : State :=
  let x := s.engine e
  s.setEngine e { x with running := x.running.filter (fun r => !p r), epilogue := x.epilogue.filter (fun r => !p r),
                         suspended := x.suspended.filter (fun r => !p r), progress := s.stamp }

/-- The running command of engine `e` completes. -/
def State.complete (s : State) (e : Nat) (r : Run) (code : Nat) : State :=
  let x := s.engine e
  (s.setEngine e { x with running := none, progress := s.stamp }).finishRun r code false

/-! ### The deadline timer (R255) -/

/-- The deadlines of the remote waits of every context. -/
def State.deadlines (s : State) : List Nat :=
  s.ctxs.flatMap (fun e => (e.2.parked.filter (fun p => p.state == 0 && p.deadline != 2 ^ 64 - 1)).map (fun p => p.deadline)
    ++ (if s.num 0x3202 1 = 0 ∨ e.2.parked.length < 640 then [] else e.2.queues.filterMap (fun q =>
        match q.2.headStamp with
        | some t => if q.2.waiting && (e.2.headRecord q.1).isNone && (s.headCmd e.1 q.1).1.waitKind == 3
                    then some (t + s.num 0x3202 1 * us) else none
        | none => none)))

/-- Hold a timer of the pool while a deadline stands; a refusal falls back to the slot-boundary checks. -/
def State.armTimer (s : State) : State :=
  if s.deadlines.isEmpty then
    match s.timerOf .remoteWait with
    | some u => ({ s with sched := { s.sched with polling := false } } : State).releaseUnit u .remoteWait
    | none => { s with sched := { s.sched with polling := false } }
  else if (s.timerOf .remoteWait).isSome || s.sched.polling then s
  else
    let a := s.requestTimer .remoteWait 4
    if a.2.2 = 0 then a.1 else a.1.startPolling

/-! ### Fills (R290, R291, R252, R254, R256) -/

/-- What a fill carries. -/
structure FillArgs where
  value : Nat
  code : Nat
  device : Nat
  ctx : Nat
  slot : Nat
deriving DecidableEq, Repr

/-- The fields of Table 8-10 after a fill. -/
def Mortise.fill (m : Mortise) (a : FillArgs) (now : Nat) : Mortise :=
  { fillStamp := now, value := a.value, count := min 0xFFFF (m.count + 1), code := a.code, srcDevice := a.device,
    srcCtx := a.ctx, srcSlot := a.slot, firstStamp := if m.count = 0 then now else m.firstStamp }

/-- A waiting record is filled at `stamp`: within its deadline it wakes, after it the wait has timed out (R256). -/
def Parked.fillAt (p : Parked) (stamp code : Nat) : Parked :=
  if stamp ≤ p.deadline then { p with state := 1, fillStamp := stamp, code := code }
  else { p with state := 2, fillStamp := stamp }

/-- Apply `f` to the parked records of a context that `sel` picks; count the woken (R252) and, of those already timed out,
the late fills (R256). -/
def State.wakeParked (s : State) (c : Nat) (sel : Parked → Bool) (stamp code : Nat) : State :=
  let x := s.ctx c
  let woken := (x.parked.filter (fun p => sel p && p.state == 0 && decide (stamp ≤ p.deadline))).length
  let timed := (x.parked.filter (fun p => sel p && p.state == 0 && decide (p.deadline < stamp))).length
  let late := (x.parked.filter (fun p => sel p && p.state == 2)).length
  let s := s.setCtx c { x with parked := x.parked.map (fun p => if sel p && p.state == 0 then p.fillAt stamp code else p) }
  let fired := (x.parked.filter (fun p => sel p && p.state == 0 && p.fired && decide (stamp ≤ p.deadline))).length
  let s := s.bumpBy 0x3210 5 fired
  let s := ((s.bumpBy 0x3210 3 woken).bumpBy 0x3210 0x0B (late + timed)).bumpBy 0x3210 4 timed
  let s := if timed = 0 then s else s.signal 236 (some c)
  ((s.saveParked c).track c).armTimer

/-- A wait of kind 3 at the head of a queue, without a record, is past its deadline, and no fill came in time (R253, R256). -/
def State.headExpired (s : State) (c : Nat) (q : Nat × Queue) : Bool :=
  let x := s.ctx c
  q.2.waiting && !q.2.timedOut && s.num 0x3202 1 != 0 && (x.headRecord q.1).isNone
    && q.2.headStamp.elim false (fun t => decide (t + s.num 0x3202 1 * us < s.stamp))
    && (let m := (s.headCmd c q.1).1
        let y := x.slot m.waitValue
        m.waitKind == 3 && (y.count == 0 || q.2.headStamp.elim false (fun t => decide (t + s.num 0x3202 1 * us < y.firstStamp))))

def State.expireHeads (s : State) : State :=
  s.ctxs.foldl (fun s e =>
    let due := e.2.queues.filter (s.headExpired e.1)
    if due.isEmpty then s
    else
      let s := due.foldl (fun s q => s.modCtx e.1 (fun x => x.setQueue q.1 { x.queue q.1 with timedOut := true })) s
      ((s.bumpBy 0x3210 4 due.length).signal 236 (some e.1)).track e.1) s

/-- Records past their deadline without a fill time out (R256): counted, source 236 raised, ready to complete. -/
def State.expireWaits (s : State) : State :=
  let s := s.expireHeads
  let due := fun (p : Parked) => p.state == 0 && decide (p.deadline < s.stamp)
  s.ctxs.foldl (fun s e =>
    let n := (e.2.parked.filter due).length
    if n = 0 then s
    else
      let s := s.modCtx e.1 (fun x => { x with parked := x.parked.map (fun p => if due p then { p with state := 2 } else p) })
      let s := (s.bumpBy 0x3210 4 n).signal 236 (some e.1)
      (s.saveParked e.1).track e.1) s

/-- A fill of slot `m` of context `c`, and the wake of the wait of kind 3 parked on it. One that lands after the timeout of such a wait is
counted (R256; assumption log 144). -/
def State.fillSlot (s : State) (c m : Nat) (a : FillArgs) : State :=
  let s := s.expireHeads
  let x := s.ctx c
  let y := x.slot m
  let s := if y.count = 0xFFFF then s.bump 0x4110 0x0C else s
  let z := y.fill a s.stamp
  let gone := x.lateWaits.find? (fun w => w.1 == 0 && w.2.1 == m)
  let late := gone.isSome || x.queues.any (fun q => q.2.timedOut && (s.headCmd c q.1).1.waitValue == m)
  let s := s.setCtx c { x.setSlot m z with lateWaits := gone.elim x.lateWaits (fun w => x.lateWaits.erase w) }
  let s := if late then s.bump 0x3210 0x0B else s
  s.wakeParked c (fun p => p.kind == 0 && p.mortise == m) z.firstStamp a.code

end Sys2Proof.Machine
end

