-- ==== Sys2Proof/Machine/Send.lean ====
section
/-! DEFINITION. Sending on the fabric: flits, codewords and credits of a rafter link (R267 to R271), the choice of path (R281),
message sequence numbers (R282), collective groups (R303, Table 9-3) and contributions (R314), and what follows a lost member
or an abandoned step (R326, R468, R469). -/

namespace Sys2Proof.Machine

/-! ### Rafter links -/

/-- The virtual channel of a type (Table 8-8). -/
def vcOf (ty : Nat) : Nat := if ty < 0x20 then 0 else if ty < 0x30 then 1 else 2

/-- A 64-byte header as its two flits, then the payload flits, the last one filled with zeros (R268). -/
def messageFlits (ty : Nat) (h : FabHdr) (p : List Byte) : List Nat :=
  let head := fabHead ty h ++ beBytes 4 h.hcrc
  ((chunks 32 head) ++ (chunks 32 p).map (fitBytes 32)).map beNat

/-- An idle control flit (Table 8-3). -/
def idleFlit (ack : Nat) (credits : List Nat) : Nat :=
  packFields [(4, 8), (10, ack), (2, 0), (16, nth 0 credits 0), (16, nth 0 credits 1), (16, nth 0 credits 2), (192, 0)]

/-- Last codeword received in order. -/
def Link.ack (l : Link) : Nat := (l.rxSeq + 1023) % 1024

/-- The codewords of a message, idle flits after its end. -/
def codewordsOf (l : Link) (flits : List Nat) : List (List Nat) :=
  (chunks 20 flits).map (fun c => c ++ List.replicate (20 - c.length) (idleFlit l.ack [0, 0, 0]))

/-- The lanes that a link's codewords stripe over, in ascending order: all four, a lane on the spare counting as its own, or the three that
remain (R276, R277). -/
def State.lanesOf (s : State) (n : Nat) : List Nat :=
  let l := s.link n
  if l.lanes = 4 then List.range 4
  else (List.range 4).filter (fun i => !l.lost.contains i || (l.spare != 0 && (s.link (l.spare - 1)).lent.contains (n, i)))

/-- The lane of symbol i of a codeword (R276). -/
def laneOfSymbol (lanes : List Nat) (i : Nat) : Nat := nth 0 lanes (i % lanes.length)

/-- Put codewords on a link: numbered, kept until acknowledged, sent. -/
def State.sendCodewords : State → Nat → List (List Nat) → State
  | s, _, [] => s
  | s, n, c :: rest =>
    let l := s.link n
    let s := (s.setLink n { l with txSeq := (l.txSeq + 1) % 1024, unacked := l.unacked ++ [(l.txSeq, c, 0)] }).push
      (.codeword n l.txSeq (crc10 c) c (s.lanesOf n))
    s.sendCodewords n rest

/-- Take `k` from the credits of a virtual channel. -/
def spend (cr : List Nat) (vc k : Nat) : List Nat := cr.set vc (nth 0 cr vc - k)

/-- A message starts on a link now: it spends a credit for each flit (R271). -/
def State.startOnLink (s : State) (n ty : Nat) (h : FabHdr) (p : List Byte) : State :=
  let l := s.link n
  let f := messageFlits ty h p
  let cw := codewordsOf l f
  let s := s.setLink n { l with credits := spend l.credits (vcOf ty) f.length,
                                msgs := l.msgs ++ [((l.txSeq + cw.length - 1) % 1024, ty, h, p)] }
  ((s.push (.fabric n ty h p)).countEvent (81 + n / 16) 0x0301 f.length (some h.srcCtx)).sendCodewords n cw

/-- A message may start: no lane swap holds codewords back (R277), VC credits for every flit, and room among the 512
unacknowledged codewords (R269, R271). -/
def Link.canStart (l : Link) (ty : Nat) (p : List Byte) : Bool :=
  let k := 2 + ceilDiv p.length 32
  !l.swapping && decide (k ≤ nth 0 l.credits (vcOf ty)) && decide (l.unacked.length + ceilDiv k 20 ≤ 512)

def State.onLink (s : State) (n ty : Nat) (h : FabHdr) (p : List Byte) : State :=
  let l := s.link n
  if l.canStart ty p && !(l.held.any (fun m => vcOf m.1 == vcOf ty)) then s.startOnLink n ty h p
  else s.setLink n { l with held := l.held ++ [(ty, h, p)] }

/-- Start the held messages that may start, in order within each channel. The fuel bounds the list. -/
def State.drainHeld : Nat → State → Nat → List Nat → State
  | 0, s, _, _ => s
  | f + 1, s, n, blocked =>
    let l := s.link n
    match l.held.find? (fun m => !blocked.contains (vcOf m.1)) with
    | none => s
    | some m =>
      if l.canStart m.1 m.2.2 then
        (State.drainHeld f ((s.setLink n { l with held := l.held.erase m }).startOnLink n m.1 m.2.1 m.2.2) n blocked)
      else State.drainHeld f s n (vcOf m.1 :: blocked)

/-! ### Paths (R264, R281) -/

/-- The four working links from position p to position q. -/
def workingLinks (p q : Nat) : List Nat :=
  let j := if q < p then q else q - 1
  [2 * j, 2 * j + 1, 16 + 2 * j, 17 + 2 * j]

/-- The working links of a link pair's spares have peers; the peer position of a working link of position p. -/
def peerPosition (p n : Nat) : Nat := let j := (n % 16) / 2; if j < p then j else j + 1

/-- Spares of Table 8-1: the peer position each serves. -/
def sparePeer (p n : Nat) : Option Nat :=
  match n with
  | 14 => some (p ^^^ 1) | 15 => some (p ^^^ 2) | 30 => some (p ^^^ 3) | 31 => some (p ^^^ 4) | _ => none

def isSpare (n : Nat) : Bool := n == 14 || n == 15 || n == 30 || n == 31

def Link.isUp (l : Link) : Bool := l.state == 5 || l.state == 6

/-- The Up rafter links to a device. -/
def State.upLinks (s : State) (d : Nat) : List Nat :=
  if d / 8 != s.deviceId / 8 || d == s.deviceId then []
  else (workingLinks s.position (d % 8)).filter (fun n => (s.link n).isUp)

/-- A field of the framing that a port's last training took: family, UDP port, VLAN, priority, flow control, gateway. -/
def State.framing (s : State) (p k : Nat) : Nat := nth 0 (Assoc.get [] s.fab.frames p) k

/-- The address of a device on plane p (R279). -/
def State.planeAddr (s : State) (p d : Nat) : Nat :=
  if s.framing p 0 = 1 then s.num 0x4103 (p + 1) / 2 ^ 18 * 2 ^ 18 + d else s.num 0x4102 (p + 1) * 2 ^ 64 + d

/-- The framing of a message to a device on port p (R279). -/
def State.frame (s : State) (p d : Nat) (h : FabHdr) (data : List Byte) : Frame :=
  let v4 := s.framing p 0 == 1
  let src := s.planeAddr p s.deviceId
  let dst := s.planeAddr p d
  let port := 49152 + h.srcCtx % 16384
  { dstMac := s.framing p 5, vlan := s.framing p 2, priority := s.framing p 3, ipv4 := v4, srcAddr := src, dstAddr := dst, srcPort := port,
    dstPort := s.framing p 1, flow := if v4 then 0 else (h.seq ^^^ h.srcCtx) % 2 ^ 20,
    checksum := udpChecksum v4 src dst port (s.framing p 1) data }

/-- Bytes of a purlin frame with its headers (R281, R429). -/
def frameBytes (ipv4 : Bool) (n : Nat) : Nat := (if ipv4 then 114 else 134) + n

/-- The counting unit of the edge die of a link, of a port (Table 13-7). -/
def linkUnit (n : Nat) : Nat := 81 + n / 16
def portUnit (p : Nat) : Nat := 81 + p / 8

/-- A message leaves on purlin port p. -/
def State.onPort (s : State) (p d ty : Nat) (h : FabHdr) (l : List Byte) : State :=
  let f := s.frame p d h (fabBytes ty h l)
  (s.push (.purlin p f ty h l)).countEvent (portUnit p) 0x0303 (frameBytes f.ipv4 l.length) (some h.srcCtx)

def State.upPorts (s : State) : List Nat := (List.range 16).filter (fun p => Assoc.get 0 s.ports p == 2)

/-- Messages sent with no change of their numbers: over the rafters in turn, else over the purlins in turn (R281); false with
no path. -/
def State.route (s : State) (d ty : Nat) (h : FabHdr) (p : List Byte) : State × Bool :=
  let l := s.upLinks d
  if !l.isEmpty then
    let n := nth 0 l (s.fab.rrLink % l.length)
    (({ s with fab := { s.fab with rrLink := s.fab.rrLink + 1 } } : State).onLink n ty h p, true)
  else
    let q := s.upPorts
    if q.isEmpty then (s, false)
    else
      let n := nth 0 q (s.fab.rrPort % q.length)
      (({ s with fab := { s.fab with rrPort := s.fab.rrPort + 1 } } : State).onPort n d ty h p, true)

/-- A device is in peer-reset state here (R299). -/
def State.inPeerReset (s : State) (d : Nat) : Bool := s.fab.resetPeers.any (fun e => e.1 == d)

/-! ### The time leader (R272, R273) -/

/-- The lowest bent position not in peer-reset state here. -/
def State.leader (s : State) : Nat :=
  ((List.range 8).find? (fun p => p == s.position || !s.inPeerReset (s.deviceId / 8 * 8 + p))).getD 8

def State.leads (s : State) : Bool := s.leader == s.position
def State.leaderLinks (s : State) : List Nat := s.upLinks (s.deviceId / 8 * 8 + s.leader)

/-- A device that leads, or has an Up link to its leader, does not follow IEEE 1588 in its place (R273). -/
def State.findLeader (s : State) : State :=
  if s.leads || !s.leaderLinks.isEmpty then { s with fab := { s.fab with fallback := false } } else s

/-- Send a message to a device under the next seq for it (R282); false with no path. -/
def State.fabSend (s : State) (d ty : Nat) (h : FabHdr) (p : List Byte) : State × Bool :=
  if (s.upLinks d).isEmpty && s.upPorts.isEmpty then (s, false)
  else
    let q := Assoc.get 0 s.fab.txSeq d
    let h := sealFab { h with srcDevice := s.deviceId, dstDevice := d, seq := q, stamp := s.stamp } ty p
    let s := { s with fab := { s.fab with txSeq := Assoc.set 0 s.fab.txSeq d ((q + 1) % m32) } }
    let a := s.route d ty h p
    (a.1.bump 0x4110 1, true)

/-- The messages of one command, numbered and sealed (R282): consecutive seqs from the counter of the destination. -/
def State.sealed (s : State) (d ty : Nat) (l : List (FabHdr × List Byte)) : List (FabHdr × List Byte) :=
  let q := Assoc.get 0 s.fab.txSeq d
  l.zipIdx.map (fun x =>
    (sealFab { x.1.1 with srcDevice := s.deviceId, dstDevice := d, seq := (q + x.2) % m32, stamp := s.stamp } ty x.1.2, x.1.2))

/-- Put numbered messages on their way. -/
def State.routeAll (s : State) (d ty : Nat) (l : List (FabHdr × List Byte)) : State :=
  l.foldl (fun s m => (s.route d ty m.1 m.2).1.bump 0x4110 1) s

/-- Send the messages of one command: the state, and the messages as they were sent; none with no path. -/
def State.sendCommand (s : State) (d ty : Nat) (l : List (FabHdr × List Byte)) : State × List (FabHdr × List Byte) :=
  if (s.upLinks d).isEmpty && s.upPorts.isEmpty then (s, [])
  else
    let m := s.sealed d ty l
    let q := Assoc.get 0 s.fab.txSeq d
    let s := { s with fab := { s.fab with txSeq := Assoc.set 0 s.fab.txSeq d ((q + m.length) % m32) } }
    (s.routeAll d ty m, m)

/-- The queue numbers that stand for the scarf engine and for raising in the src_queue of a page transfer (assumption log 34). -/
def scarfQueue : Nat := 274
def raiseQueue : Nat := 275

/-- Page transfers of a context by one of these are over. -/
def State.dropPages (s : State) (c queue : Nat) (p : PageOut → Bool) : State :=
  { s with fab := { s.fab with pageOut := s.fab.pageOut.filter (fun o => !(o.ctx == c && o.queue == queue && p o)) } }

/-- Messages that await a response from a device (R284). -/
def State.unanswered (s : State) (d : Nat) : Nat :=
  let of_ := fun (r : Run) => match r.await with | .ack v _ _ _ _ n _ _ => if v = d then n else 0 | _ => 0
  let live := s.engines.foldl (fun n e => n + e.2.running.elim 0 of_ + e.2.suspended.elim 0 of_) 0
  let parked := s.ctxs.foldl (fun n e => e.2.parked.foldl (fun n p => n + p.run.elim 0 of_) n) live
  s.fab.pageOut.foldl (fun n o => if o.device = d then n + o.msgs.length else n) parked

/-- A response to a message (R283): back to its source, the context fields exchanged. -/
def State.respond (s : State) (ty code : Nat) (m : FabHdr) : State :=
  let s := if ty = 0x21 then s.bump 0x4110 4 else s
  (s.fabSend m.srcDevice ty
    { FabHdr.zero with
      flags := 0x80, srcCtx := m.dstCtx, dstCtx := m.srcCtx, srcCtxEpoch := m.dstCtxEpoch, dstCtxEpoch := m.srcCtxEpoch,
      srcSlot := m.srcSlot, srcQueue := m.srcQueue, msgIndex := m.msgIndex, msgCount := m.msgCount, code := code } []).1

/-! ### Groups (R303, Table 9-3) -/

/-- The device of a grid place. -/
def Ctx.deviceAt (x : Ctx) (r st p : Nat) : Nat := nth 0 x.frameTable (r * x.gridP + st) * 8 + p

/-- The members of a group kind, in index order. -/
def Ctx.members (x : Ctx) (kind : Nat) : List Nat :=
  match kind with
  | 0 => (List.range 8).map (x.deviceAt x.gridRep x.gridStage)
  | 1 => (List.range x.gridR).map (fun r => x.deviceAt r x.gridStage x.gridPos)
  | 2 => (List.range (8 * x.gridP)).map (fun i => x.deviceAt x.gridRep (i / 8) (i % 8))
  | _ => (List.range (8 * x.gridP * x.gridR)).map (fun i => x.deviceAt (i / 8 / x.gridP) (i / 8 % x.gridP) (i % 8))

/-- Own index in a group kind. -/
def Ctx.memberIndex (x : Ctx) (kind : Nat) : Nat :=
  match kind with
  | 0 => x.gridPos
  | 1 => x.gridRep
  | 2 => x.gridStage * 8 + x.gridPos
  | _ => (x.gridRep * x.gridP + x.gridStage) * 8 + x.gridPos

/-- What the placer knows of a device of the job (R205); the same context ID and epochs where it was told nothing. -/
def State.peerOf (s : State) (c d : Nat) : Peer :=
  match (s.ctx c).peers.find? (fun p => p.device == d) with
  | some p => p
  | none => { device := d, ctx := c, ctxEpoch := s.epoch c, roleEpoch := (s.ctx c).roleEpoch }

/-- The preamble of Table 9-5. -/
structure Preamble where
  step : Nat
  member : Nat
  slot : Nat
  kind : Nat
  level : Nat
  abort : Bool
  bf16 : Bool
  chunk : Nat
  elements : Nat
  opcode : Nat
  lost : Nat
  shard : Nat
  phase : Nat
deriving DecidableEq, Repr

/-- Preambles are little-endian (assumption log 24). -/
def Preamble.bytes (p : Preamble) : List Byte :=
  leBytes 32 (packFields [(32, p.step), (18, p.member), (6, p.slot), (4, p.kind), (2, p.level), (1, b2n p.abort), (1, b2n p.bf16),
    (32, p.chunk), (16, p.elements), (8, p.opcode), (18, p.lost), (18, p.shard), (1, p.phase), (99, 0)])

def Preamble.parse (b : List Byte) : Preamble :=
  let n := leNat (fitBytes 32 b)
  { step := bits n 255 224, member := bits n 223 206, slot := bits n 205 200, kind := bits n 199 196, level := bits n 195 194,
    abort := n.testBit 193, bf16 := n.testBit 192, chunk := bits n 191 160, elements := bits n 159 144, opcode := bits n 143 136,
    lost := bits n 135 118, shard := bits n 117 100, phase := bits n 99 99 }

/-- Send one contribution of context `c` to a device (R314). -/
def State.sendContribution (s : State) (c d slot : Nat) (p : Preamble) (data : List Byte) : State :=
  let q := s.peerOf c d
  (s.fabSend d 0x10
    { FabHdr.zero with
      flags := 0x80, roleEpoch := q.roleEpoch, srcCtx := c, dstCtx := q.ctx, srcCtxEpoch := s.epoch c, dstCtxEpoch := q.ctxEpoch,
      srcSlot := slot, srcQueue := 272, aux := (s.ctx c).layoutEpoch } (p.bytes ++ data)).1

/-- Abort contributions for one collective of the step, once for each slot and step (R326, R469). -/
def State.sendAborts (s : State) (c slot kind opcode lost srcSlot : Nat) : State :=
  let x := s.ctx c
  if x.abortsSent.contains (slot, x.step) then s
  else
    let s := s.setCtx c { x with abortsSent := x.abortsSent ++ [(slot, x.step)] }
    let p : Preamble := {
      step := x.step, member := x.memberIndex kind, slot := slot, kind := kind, level := 0, abort := true,
      bf16 := false, chunk := 0, elements := 0, opcode := opcode, lost := lost, shard := 0, phase := 0 }
    (((x.members kind).filter (fun d => d != s.deviceId && d != lost && !s.inPeerReset d)).eraseDups).foldl
      (fun s d => s.sendContribution c d srcSlot p []) s

/-! ### Abandoned steps (R468, R469) -/

/-- The runs of a context on the engines, with their places. -/
def State.runsOf (s : State) (c : Nat) : List (Nat × Run) :=
  s.engines.flatMap (fun e => ([e.2.epilogue, e.2.running, e.2.suspended].filterMap id).filterMap
    (fun r => if r.ctx = c then some (e.1, r) else none))

/-- Slot and kind of a collective body (Table 9-4). -/
def collSlot (m : Cmd) : Nat := bits m.body 589 584
def collKind (m : Cmd) : Nat := let k := bits m.body 583 580; if k ≤ 3 then k else 0

/-- The commands between head and tail of a queue. The fuel is the queue size. -/
def State.queued (s : State) (c q : Nat) : List (Nat × Cmd) :=
  let x := s.ctx c
  let y := x.queue q
  (List.range (sub32 y.tail y.head)).map (fun i =>
    (((y.head + i) % m32), (clampHeader q (leNat (s.getBytes c (x.slotAddr q (y.head + i)) 128))).1))

/-- Complete every parked wait of a context with a code: started runs, and the heads of queues that wait under kind 3. -/
def State.endParked (s : State) (c code : Nat) (aborted : Bool) : State :=
  let x := s.ctx c
  let l := x.parked
  let s := s.setCtx c (x.setParked [])
  l.foldl (fun s p =>
    match p.run with
    | some r => s.finishRun r code aborted
    | none =>
      let m := s.headCmd c p.queue
      if ((s.ctx c).queue p.queue).waiting then
        let x := (s.ctx c).takeHead p.queue { m.1 with waitKind := 0 } s.stamp
        (s.setCtx c x).finish c { queue := p.queue, cmd := m.1, clamped := m.2, start := s.stamp, code := code, aborted := aborted }
      else s) s

/-- Complete every run of a context with a code. -/
def State.endRuns (s : State) (c code : Nat) (aborted : Bool) : State :=
  (s.runsOf c).foldl (fun s e => (s.clearEngine e.1 (fun r => r == e.2)).finishRun e.2 code aborted) s

/-- A contribution that has served: its eight values still refuse a repeat (R316). -/
def Contrib.spent (k : Contrib) : Contrib := { k with used := true, data := [] }

/-- The collectives of the step on queue 272: running, parked and queued (slot of the command, command). -/
def State.stepCollectives (s : State) (c : Nat) : List (Nat × Cmd) :=
  ((s.runsOf c).filter (fun e => e.1 == 272)).map (fun e => (e.2.slot, e.2.cmd))
    ++ ((s.ctx c).parked.filterMap (fun p => if p.queue = 272 then p.run.map (fun r => (r.slot, r.cmd)) else none))
    ++ (s.queued c 272).filter (fun m =>
        let a := ((s.ctx c).queue 272).arrivalOf m.1
        ((s.ctx c).queue 273).marks.all (fun k => decide (a ≤ k.2)))

/-- Abandon the step of a context for a cause (R468, R469), with 0x0707 in place of the usual code for a reproduced hang
(R465). A second cause is logged only. -/
def State.abandonAs (s : State) (c cause : Nat) (override : Option Nat) : State :=
  let x := s.ctx c
  match x.abandoned with
  | some k => s.log { code := cause, ctx := some c, severity := 2, action := 2, detail := k }
  | none =>
    let code := override.getD (if x.sealed && x.sealCode = 0 then 0x0703 else 0x0702)
    let coll := (s.stepCollectives c).filter (fun m => decide (0x50 ≤ m.2.opcode))
    let s := s.setCtx c { x with abandoned := some code, contribs := x.contribs.map (fun k => if k.step = x.step then k.spent else k), collSent := [] }
    let s := (s.endRuns c code false).endParked c code false
    let s := coll.foldl (fun s m => s.sendAborts c (collSlot m.2) (collKind m.2) m.2.opcode s.deviceId m.1) s
    (s.bump 0x7010 1).log { code := cause, ctx := some c, severity := 2, action := 2, detail := code }

def State.abandon (s : State) (c cause : Nat) : State := s.abandonAs c cause none

/-- The codes whose completion abandons the step (R468). -/
def abandonCode (code : Nat) : Bool :=
  [0x0110, 0x0114, 0x0115, 0x0116, 0x0133, 0x0208, 0x0220, 0x0233, 0x0311].contains code

/-- A running command ends with a code; where R468 names the code, its step is abandoned. -/
def State.endWith (s : State) (e : Nat) (r : Run) (code : Nat) : State :=
  let s := s.complete e r code
  if abandonCode code then s.abandon r.ctx code else s

/-! ### Responses to remote hauls (R291) -/

/-- A run of queue `q`, slot number `slot`, that awaits a response. -/
def Run.awaits (r : Run) (c q slot : Nat) : Bool :=
  r.ctx == c && r.queue == q && r.slot == slot && (match r.await with | .ack _ _ _ _ _ _ _ _ => true | _ => false)

/-- The remote haul of a slot of a queue ends with a code: on its engine, or through its parked-wait record. The Bool says that
it was there. A wait that timed out keeps its record until its context is chosen; a response is then late (R256). -/
def State.endRemote (s : State) (c q slot code : Nat) : State × Bool :=
  match (s.runsOf c).find? (fun e => e.2.awaits c q slot) with
  | some e =>
    let k := if code = 0 then e.2.failed.getD 0 else code
    let s := (s.clearEngine e.1 (fun r => r == e.2)).finishRun e.2 k false
    (if abandonCode k then s.abandon c k else s, true)
  | none =>
    let sel := fun (p : Parked) => p.kind == 1 && p.queue == q && p.slotIndex == slot && (p.state == 0 || p.state == 2)
    if (s.ctx c).parked.any sel then (s.wakeParked c sel s.stamp code, true) else (s, false)

/-! ### Lost members (R299, R326) -/

/-- A running or parked collective of a context loses a member: 0x0311, slot 0x0480 + k, source 238, aborts, abandonment. -/
def State.memberLost (s : State) (c slotNo : Nat) (m : Cmd) (lost : Nat) : State :=
  let k := collSlot m
  let s := match (s.runsOf c).find? (fun e => e.1 == 272 && e.2.slot == slotNo) with
    | some e => (s.clearEngine 272 (fun r => r == e.2)).finishRun e.2 0x0311 false
    | none =>
      match (s.ctx c).parked.find? (fun (p : Parked) => p.queue == 272 && p.slotIndex == slotNo) with
      | some p =>
        let s := s.modCtx c (fun x => x.setParked (x.parked.filter (fun q => q != p)))
        match p.run with
        | some r => s.finishRun r 0x0311 false
        | none => s
      | none => s
  let s := s.fillSlot c (0x0480 + k) { value := lost, code := 0x0311, device := lost, ctx := 0, slot := 0 }
  let s := (s.signal 238 (some c)).bump 0x4210 4
  let s := s.sendAborts c k (collKind m) m.opcode lost slotNo
  s.abandon c 0x0311

/-- The notice set: the devices that the remote words of resident contexts name (R297). -/
def State.notices (s : State) : List Nat :=
  (((s.ctxs.filter (fun e => e.2.resident)).flatMap (fun e => e.2.remotes)).eraseDups).take 8192

/-- The buddy's mirrored notice set: what the placer knows of the devices of its jobs, those of this device's contexts (R297; assumption
log 33). -/
def State.mirrored (s : State) : List Nat :=
  (((s.ctxs.filter (fun e => e.2.defined)).flatMap (fun e => e.2.peers.map (·.device))).eraseDups).take 8192

/-- Enter peer-reset state for a device (R299). -/
def State.enterPeerReset (s : State) (d : Nat) : State :=
  if d = s.deviceId then s
  else
    let s := { s with fab := { s.fab with
      resetPeers := Assoc.insert d (s.stamp + s.num 0x4106 3 * ms) s.fab.resetPeers,
      txSeq := Assoc.erase d s.fab.txSeq, rx := Assoc.erase d s.fab.rx,
      pageOut := s.fab.pageOut.filter (fun o => o.device != d) } }
    let s := s.findLeader.signal 211 none
    -- commands that await a response from the device, running or parked
    let isAck := fun (a : Await) => match a with | .ack v _ _ _ _ _ _ _ => v == d | _ => false
    let live := s.engines.flatMap (fun e => ([e.2.running, e.2.suspended].filterMap id).filterMap
      (fun r => if isAck r.await then some (e.1, r) else none))
    let s := live.foldl (fun s e => (s.clearEngine e.1 (fun r => r == e.2)).finishRun e.2 0x0303 false) s
    let s := s.ctxs.foldl (fun s e => s.wakeParked e.1
      (fun p => p.kind == 1 && (p.run.elim false (fun r => isAck r.await))) s.stamp 0x0303) s
    let s := s.ctxs.foldl (fun s e =>
      if e.2.state == 2 && e.2.remotes.contains d then
        s.fillSlot e.1 0x0441 { value := d, code := 0, device := d, ctx := 0, slot := 0 }
      else s) s
    -- collectives with the device as a member
    s.ctxs.foldl (fun s e =>
      let l := (((s.runsOf e.1).filter (fun r => r.1 == 272)).map (fun r => (r.2.slot, r.2.cmd)))
        ++ (e.2.parked.filterMap (fun p => if p.queue = 272 then p.run.map (fun r => (r.slot, r.cmd)) else none))
      l.foldl (fun s m => if ((s.ctx e.1).members (collKind m.2)).contains d then s.memberLost e.1 m.1 m.2 d else s) s) s

end Sys2Proof.Machine
end

