-- ==== Sys2Proof/Machine/Prefetch.lean ====
section
/-! DEFINITION. Prefetch entries (R189 to R191): their fields, the record of a descriptor that fails, and the end of an entry. -/

namespace Sys2Proof.Machine

/-- A prefetch entry after its clamps (Table 5-9). -/
structure PrefEntry where
  addr : Nat
  length : Nat
  fireAt : Nat
  target : Nat
deriving DecidableEq, Repr

/-- The fields of an entry, and whether one was clamped. -/
def decodePref (w : Nat) : PrefEntry × Bool :=
  let t := min 1 (bits w 31 29)
  let n0 := bits w 79 48
  let n := if t = 1 then clampNat n0 1 100663296 else n0
  ({ addr := bits w 127 80, length := n, fireAt := bits w 47 32, target := t }, t != bits w 31 29 || n != n0)

/-- Entry `i` of the schedule of a bay. -/
def State.prefEntry (s : State) (c b i : Nat) : PrefEntry × Bool :=
  decodePref (leNat (s.getBytes c (Assoc.get 0 (s.ctx c).prefAddr b + 16 * i) 16))

/-- A failed descriptor's record in the context's completions, where the ring has room (R191; assumption log 30). -/
def State.prefRecord (s : State) (c b code : Nat) : State :=
  let x := s.ctx c
  if !x.ringFree then s
  else
    let m : Cmd := { tag := 0, waitValue := 0, waitQueue := 0, waitKind := 0, irq := false, fence := false, cmpl := true,
                     opcode := 0x30, body := 0 }
    let d : Done := { queue := 4 * b + 3, cmd := m, clamped := false, start := s.stamp, code := code, aborted := false }
    let t := x.ringTail
    let bytes := s.completionBytes c d (x.queue (4 * b + 3)).completed t
    let s := s.setCtx c { x with ringTail := (t + 1) % m32 }
    s.putBytes c (x.ringBase + (t % 2 ^ x.ringLog2) * 32) bytes

/-- An entry of a bay counts as fired and complete. -/
def State.prefDone (s : State) (c b : Nat) : State :=
  let s := s.modCtx c (fun x => let y := x.bayStep b; x.setBayStep b { y with done := y.done + 1 })
  (s.bump 0x3010 0x0E).track c

/-- An entry ends without having run to its end: a warm is complete, a descriptor completes with a code (R47, R191, R534). -/
def State.endPref (s : State) (c b code : Nat) (f : Flight) : State :=
  (if (s.prefEntry c b f.entry).1.target = 0 then s.prefRecord c b code else s).prefDone c b

/-- The entries of every context in flight on a bay end with a code. -/
def State.endFlights (s : State) (b code : Nat) : State :=
  s.ctxs.foldl (fun s e =>
    let l := (e.2.bayStep b).inFlight
    let s := if l.isEmpty then s else s.modCtx e.1 (fun x => x.setBayStep b { x.bayStep b with inFlight := [] })
    l.foldl (fun s f => s.endPref e.1 b code f) s) s

end Sys2Proof.Machine
end

