-- ==== Sys2Proof/Machine/FaultOps.lean ====
section
/-! DEFINITION. Faults as operations (R33, R460 to R484): a bay taken out of service, bay and beam-die resets, quarantine, the
start of a crash dump, and what a checker's mismatch does beyond its command. -/

namespace Sys2Proof.Machine

def day : Nat := 24 * 3600 * sec

/-- Keys of the permanent deductions (R480): bays 0 to 63, paths, links, dies. -/
def pathKey (p : Nat) : Nat := 100 + p
def linkKey (n : Nat) : Nat := 200 + n
def wearKey (d : Nat) : Nat := 300 + d

/-- Ordered delivery entered for a reason (R417): 1 boot, 2 test, 3 recovery, 4 self-test. -/
def State.enterOrdered (s : State) (reason : Nat) : State := { s with intr := { s.intr with ordered := true, reason := reason } }

/-- A write of 0 to MODE (R417). -/
def State.leaveOrdered (s : State) : State := { s with intr := { s.intr with ordered := false, reason := 0 } }

/-! ### A bay out of service (R33, R534) -/

/-- Withdraw every grant on a bay; with its keep mask 0, its saved kept banks are discarded at the next swap-in. -/
def Ctx.withdraw (x : Ctx) (b : Nat) : Ctx :=
  { x with grant := Assoc.erase b x.grant, keep := Assoc.erase b x.keep, plan := Assoc.erase b x.plan }

/-- A bay leaves service for good: nothing of it waits or zeroes any more, and its prefetch entries in flight complete (R534). -/
def State.bayOut (s : State) (b : Nat) : State :=
  if (s.bay b).out then s
  else
    let s := s.endFlights b 0x020A
    let s := s.setBay b { s.bay b with out := true, dirty := 0, ballast := false, zeroing := false, grantWaits := [] }
    let s := { s with ctxs := Assoc.mapVals Ctx.undefined (fun _ x => x.withdraw b) s.ctxs }
    let s := s.zeroBanks b 0xFFFFFFFF
    (s.deductPermanent b 100).log { code := 0x020A, severity := 3, unitKind := 1, unit := b, action := 4 }

/-! ### Mismatches of checkers (R126, R161, R461, R480) -/

/-- The health and history of a mismatch: three of a bay within 24 h take it out of service. -/
def State.mismatch (s : State) (bay : Option Nat) : State :=
  let s := s.deduct 20
  match bay with
  | none => s
  | some b =>
    let x := s.bay b
    let l := x.mismatches.filter (fun t => decide (s.stamp < t + day)) ++ [s.stamp]
    let s := s.setBay b { x with mismatches := l }
    if l.length ≥ 3 then s.bayOut b else s

/-! ### Resets of a bay and of a beam die (R473, R474) -/

/-- The engines of a bay, of a die. -/
def bayEngines (b : Nat) : List Nat := rangeFrom (4 * b) 4
def dieEngines (d : Nat) : List Nat := rangeFrom (64 * d) 64 ++ rangeFrom (256 + 4 * d) 4

/-- The runs on a list of engines. -/
def State.runsOn (s : State) (l : List Nat) : List (Nat × Run) :=
  l.flatMap (fun e => ([(s.engine e).epilogue, (s.engine e).running, (s.engine e).suspended].filterMap id).map (fun r => (e, r)))

/-- Work that still stands on engines in reset ends with 0x0204 (R47). -/
def State.killRuns (s : State) (l : List Nat) : State :=
  (s.runsOn l).foldl (fun s e => (s.clearEngine e.1 (fun r => r == e.2)).finishRun e.2 0x0204 false) s

/-- The accumulators of the engines go, and counters of the units read 0 with their lost bits set (R425). -/
def State.loseCounters (s : State) (units : List Nat) : State :=
  { s with perf := { s.perf with
      values := s.perf.values.filter (fun e => !units.contains (e.1 / 8)),
      overflow := s.perf.overflow.filter (fun e => !units.contains e.1),
      lost := (s.perf.lost ++ units).eraseDups } }

def State.openContexts (s : State) (p : Ctx → Bool) : List Nat :=
  (s.ctxs.filter (fun e => e.2.stepOpen && p e.2)).map (fun e => e.1)

def Ctx.grantedOn (x : Ctx) (b : Nat) : Bool := x.mask b != 0

/-- The contexts whose open step a reset touches are abandoned with the cause (R468). -/
def State.abandonAll (s : State) (l : List Nat) (cause : Nat) : State := l.foldl (fun s c => s.abandon c cause) s

/-- Reset one bay: its steps are abandoned, its engines and its bench are cleared. -/
def State.resetBay (s : State) (b cause : Nat) : State :=
  let s := s.abandonAll (s.openContexts (fun x => x.grantedOn b)) cause
  let s := (s.killRuns (bayEngines b)).endFlights b 0x0204
  let s := { s with engines := (bayEngines b).foldl (fun l e => Assoc.modify Engine.idle l e
                      (fun g => { Engine.idle with lastStart := g.lastStart })) s.engines }
  let s := (s.zeroBanks b 0xFFFFFFFF).loseCounters [b]
  s.setBay b { s.bay b with inReset := true, power := 0, ballast := false }

/-- A context has a page on a stack of the die. -/
def State.ctxOnDie (s : State) (c d : Nat) : Bool :=
  s.hbm.any (fun e => e.2.use == .owned c && pageStack e.1 / 4 == d)

/-- The loft of a die is reset: lines that were not written back are lost (R473, object 0x3010.08). -/
def State.loseLoft (s : State) (d : Nat) : State :=
  (s.loseDirty (s.loftLines.filter (fun x => loftDie x.line == d))).dropLines (fun x => loftDie x.line == d)

/-- Reset one beam die: every step granted on its bays or with pages on its stacks is abandoned. STAT1 shows recovery. -/
def State.resetDie (s : State) (d cause : Nat) : State :=
  let l := (s.ctxs.filter (fun e => e.2.stepOpen && ((rangeFrom (16 * d) 16).any e.2.grantedOn || s.ctxOnDie e.1 d))).map (·.1)
  let s := s.abandonAll l cause
  let s := (s.killRuns (dieEngines d)).loseLoft d
  let s := (rangeFrom (16 * d) 16).foldl (fun s b =>
    let s := (s.zeroBanks b 0xFFFFFFFF).endFlights b 0x0204
    s.setBay b { s.bay b with power := 0, ballast := false }) s
  let s := { s with engines := (dieEngines d).foldl (fun l e => Assoc.modify Engine.idle l e
                      (fun g => { Engine.idle with lastStart := g.lastStart })) s.engines }
  let s := s.loseCounters (rangeFrom (16 * d) 16 ++ rangeFrom (64 + 4 * d) 4)
  (s.setDie d { s.die d with inReset := true }).recoveryOn

/-! ### Quarantine (R464 to R466) -/

/-- Newest start first, the lower context ID first on a tie. -/
def insertSuspect (e : Engine) (c : Nat) : List Nat → List Nat
  | [] => [c]
  | d :: l =>
    let tc := Assoc.get 0 e.lastStart c
    let td := Assoc.get 0 e.lastStart d
    if td < tc ∨ (td = tc ∧ c < d) then c :: d :: l else d :: insertSuspect e c l

/-- The suspects of a hang: the contexts granted on the bay, in their order. -/
def State.suspects (s : State) (b e : Nat) : List Nat :=
  (s.ctxs.filter (fun x => x.2.grantedOn b)).foldl (fun l x => insertSuspect (s.engine e) x.1 l) []

/-- Add the suspects of a hang to a bay's order. -/
def State.addSuspects (s : State) (b e : Nat) (l : List Nat) : State :=
  let x := s.bay b
  if x.qActive then
    let new := l.filter (fun c => !x.qDone.contains c && !x.qOrder.contains c && x.qCurrent != some c)
    s.setBay b { x with qOrder := x.qOrder ++ new }
  else
    s.setBay b { x with qActive := true, qEngine := e, qOrder := l, qCurrent := none, qReproduced := false, qDone := [] }

/-- The quarantine of the next suspect begins; with none left, the hang is classified (R465). -/
def State.nextSuspect (s : State) (b : Nat) : State :=
  let x := s.bay b
  if !x.qActive || x.qCurrent.isSome then s
  else
    match x.qOrder with
    | c :: rest =>
      let s := s.setBay b { x with qCurrent := some c, qOrder := rest, qSince := s.stamp, qDone := x.qDone ++ [c] }
      let s := s.bump 0x7010 4
      (s.log { code := 0x0705, ctx := some c, severity := 0, unitKind := 1, unit := b, action := 9 }).recoveryOn
    | [] =>
      if x.qReproduced then s.setBay b { x with qActive := false, qDone := [] }
      else
        let l := x.hangs.filter (fun t => decide (s.stamp < t + day)) ++ [s.stamp]
        let s := s.setBay b { x with qActive := false, qDone := [], hangs := l }
        let s := s.deduct 40
        if l.length ≥ 2 then s.bayOut b else s

/-- Recovery ends on STAT1 once nothing of R477 runs. -/
def State.recoveryOff (s : State) : State :=
  let busy := s.bays.any (fun e => e.2.qCurrent.isSome) || s.dies.any (fun e => e.2.inReset) || s.fault.selfTest == 1
    || s.ctxs.any (fun e => e.2.restoring.isSome) || s.boot.phase != .running
  if busy then s else s.releaseUnit 201 .recovery

/-- The quarantine of context `c` on bay `b` ends (R464). -/
def State.endQuarantine (s : State) (b : Nat) : State :=
  let x := s.bay b
  if x.qCurrent.isNone then s
  else ((s.setBay b { x with qCurrent := none }).nextSuspect b).recoveryOff

/-- Every quarantine of a context ends: at its step close, or as its teardown begins (R464, R466). -/
def State.leaveQuarantine (s : State) (c : Nat) : State :=
  s.bays.foldl (fun s e => if e.2.qCurrent = some c then s.endQuarantine e.1 else s) s

/-! ### Crash dumps (R478, R479) -/

/-- A fault log entry (Table 15-5). -/
def LogEntry.bytes (e : LogEntry) : List Byte :=
  leBytes 32 (packFields [(64, e.stamp), (16, e.code), (16, e.ctxEpoch), (12, e.ctx.getD 0), (1, b2n e.ctx.isSome), (3, e.severity),
    (4, e.unitKind), (8, e.unit), (4, e.action), (64, e.detail), (16, e.health), (32, e.entry), (16, 0)])

/-- The ring of 1,024 entries (R476): entry n at position n mod 1,024. -/
def State.faultRing (s : State) : List Byte :=
  (List.range 1024).flatMap (fun i => match s.fault.log.find? (fun e => e.entry % 1024 == i) with
    | some e => e.bytes
    | none => zeroBytes 32)

/-- The register state of a management core in a dump. -/
def Core.bytes (x : Core) : List Byte :=
  ((List.range 32).flatMap (fun i => leBytes 8 (Assoc.get 0 x.x i))) ++ ((List.range 32).flatMap (fun i => leBytes 8 (Assoc.get 0 x.f i)))
    ++ ((List.range 32).flatMap (fun i => leBytes 8 (Assoc.get 0 x.fastX i)))
    ++ leBytes 40 (packFields [(64, x.pc), (64, x.fastPc), (64, x.fastVec), (64, x.normVec), (2, x.mode), (1, b2n x.running), (1, b2n x.inFast)])

/-- The controller's pending bit, count and stamps of a source in a dump. -/
def Source.bytes (x : Source) : List Byte := leBytes 24 (packFields [(1, b2n x.pend), (31, x.count), (32, 0), (64, x.first), (64, x.last)])

/-- What a dump gathers of State at its start: the four cores, the fault log, the interrupt controller and the records of the resident
contexts (R478). How the items lie in the dump is the model's (assumption log 157). -/
def State.dumpItems (s : State) : List Byte :=
  ((List.range 4).flatMap (fun k => (Assoc.get Core.zero s.cores k).bytes)) ++ s.faultRing
    ++ ((List.range 512).flatMap (fun n => (s.sourceOf n).bytes))
    ++ ((s.ctxs.filter (fun e => e.2.resident)).flatMap (fun e => s.ctxRecord e.1))

/-- Start a crash dump, or refuse it while one runs. -/
def State.startDump (s : State) (cause : Nat) : State :=
  if s.fault.dumping.isSome then ((s.countRefusal 1 2 2 0x0401).bump 0x7010 8).log { code := cause, action := 7 }
  else
    let s := (s.requestUnit 1 .crashDump 2).1
    ({ s with fault := { s.fault with dumping := some s.stamp, dumpWritten := false, dumpItems := s.dumpItems } } : State).enterOrdered 3

end Sys2Proof.Machine
end

