-- ==== Sys2Proof/Machine/Clocks.lean ====
section
/-! DEFINITION. Tensor clocks, rail voltages and wear (R437, R451, R455), and what firmware requests anew at the end of each boot
(R430, R447, R455, R522). -/

namespace Sys2Proof.Machine

/-! ### Clocks and voltages (R437, R451) -/

/-- f_e: the lowest device-wide clip limit. -/
def State.reduceClock (s : State) : Nat :=
  min (min s.power.band s.power.elec) (min s.power.edgeTherm.limit (if s.power.shed then 1050 else 2100))

/-- The limit of die d. -/
def State.dieLimit (s : State) (d : Nat) : Nat := min s.reduceClock (min (s.die d).therm.limit (s.die d).wear)

/-- The wear state of a die (R455): 0 below 90 % of the budget, 1, 2 exhausted. -/
def State.wearState (s : State) (d : Nat) : Nat :=
  let b := s.boot.fuses.wearBudget
  let n := (s.die d).wearSeconds
  if b ≤ n then 2 else if b * 9 ≤ n * 10 then 1 else 0

/-- The voltage requested for a clock, in mV, to the nearest step (assumption log 36). -/
def State.railVoltage (s : State) (d mhz : Nat) : Nat :=
  let uv := Config.fusedVoltage mhz d (s.die d).junction + toSigned 32 (s.num 0x6113 (d + 1))
  clampNat ((uv + 500) / 1000).toNat 600 (if s.wearState d = 2 then 800 else 850)

/-- A clock falls at once and its voltage after it; to rise it waits for the voltage to settle. A frozen rail keeps its voltage. -/
def State.applyClock (s : State) (d : Nat) : State :=
  let x := s.die d
  let lim := s.dieLimit d
  if lim < x.clock then
    s.setDie d { x with clock := lim, settle := false, voltage := if x.frozen then x.voltage else s.railVoltage d lim }
  else if x.clock < lim ∧ !x.frozen then s.setDie d { x with settle := true, voltage := s.railVoltage d lim }
  else s.setDie d { x with settle := false }

def State.applyClocks (s : State) : State := (List.range 4).foldl (fun s d => s.applyClock d) s

/-! ### The stamp clock (R380, R382) -/

/-- A clock state of Table 11-7: a change raises source 213, entry into state 5 source 214 as well; PPS_OUT is low in states 0 and 5
(R379). -/
def State.setClockState (s : State) (n : Nat) : State :=
  if s.clock.state = n then s
  else
    let s := ({ s with clock := { s.clock with state := n } } : State).signal 213 none
    if n = 5 then ({ s with pins := { s.pins with ppsOut := false } } : State).signal 214 none else s

/-- A stored stamp moved by the difference of a step. -/
def shiftStamp (d : Int) (t : Nat) : Nat := ((t : Int) + d).toNat

/-- A parked wait across a step: its deadline, unless it has none, and the stamp of its fill. -/
def Parked.shift (p : Parked) (d : Int) : Parked :=
  { p with deadline := if p.deadline = 2 ^ 64 - 1 then p.deadline else shiftStamp d p.deadline,
           fillStamp := if p.state = 0 then p.fillStamp else shiftStamp d p.fillStamp }

/-- Every stored deadline of a context, each held as the stamp it is counted from: those of its parked waits, of the waits at the heads of
its queues, of a teardown and of a restore that drains (assumption log 154). -/
def Ctx.shift (x : Ctx) (d : Int) : Ctx :=
  { x with parked := x.parked.map (fun p => p.shift d), closeStamp := shiftStamp d x.closeStamp,
           restoring := x.restoring.map (fun r => { r with since := shiftStamp d r.since }),
           queues := Assoc.mapVals Queue.empty (fun _ q => { q with headStamp := q.headStamp.map (shiftStamp d) }) x.queues }

/-- The wait of a started command across a step: what its park, its deadline and its next resend are counted from. -/
def Run.shift (r : Run) (d : Int) : Run :=
  { r with waitFrom := shiftStamp d r.waitFrom,
           await := match r.await with
             | .ack dev role ctx ep first n last k => .ack dev role ctx ep first n (shiftStamp d last) k
             | a => a }

def Engine.shift (e : Engine) (d : Int) : Engine :=
  { e with running := e.running.map (fun r => r.shift d), suspended := e.suspended.map (fun r => r.shift d) }

/-- The deadlines of the transport: peer-reset holds, resends after a 0x0308 and retransmissions. -/
def Fabric.shift (f : Fabric) (d : Int) : Fabric :=
  { f with resetPeers := f.resetPeers.map (fun e => (e.1, shiftStamp d e.2)),
           resend := f.resend.map (fun e => (e.1, e.2.1, e.2.2.1, e.2.2.2.1, e.2.2.2.2.1, shiftStamp d e.2.2.2.2.2)),
           pageOut := f.pageOut.map (fun p => { p with lastSend := shiftStamp d p.lastSend }) }

/-- The deadlines of a session: its timeout and the resends of its events. -/
def Session.shift (k : Session) (d : Int) : Session :=
  { k with lastHeard := shiftStamp d k.lastHeard, events := k.events.map (fun e => (e.1, e.2.1, e.2.2.1, shiftStamp d e.2.2.2)) }

/-- The step of the first lock (R382). -/
def State.stepClock (s : State) (d : Int) : State :=
  let t := shiftStamp d s.stamp % 2 ^ 64
  let s := (s.setCnt 0x4807 6 s.stamp).setCnt 0x4807 7 t
  { s with
    stamp := t, ctxs := Assoc.mapVals Ctx.undefined (fun _ x => x.shift d) s.ctxs,
    engines := Assoc.mapVals Engine.idle (fun _ e => e.shift d) s.engines, fab := s.fab.shift d,
    sessions := s.sessions.map (fun e => (e.1, e.2.shift d)),
    clock := { s.clock with locked := true, slew := 0, slewFrac := 0, lastSync := t } }

/-- The clock takes a correction: a step at its first lock after cold reset, a slew afterwards; and its new state. -/
def State.follow (s : State) (d : Int) (state : Nat) : State :=
  let s := if s.clock.locked then { s with clock := { s.clock with slew := d, slewFrac := 0, lastSync := s.stamp } }
           else s.stepClock d
  s.setClockState state

/-- Ballast leaves every bay. -/
def State.stopBallast (s : State) : State :=
  { s with bays := Assoc.mapVals Bay.inService (fun _ b => { b with ballast := false }) s.bays }

/-! ### Wear (R455) -/

/-- Add seconds above 0.80 V to a die; an exhausted budget caps it for good. -/
def State.addWear (s : State) (d n : Nat) : State :=
  let before := s.wearState d
  let x := s.die d
  let s := s.setDie d { x with wearSeconds := x.wearSeconds + n }
  if before != 2 && s.wearState d == 2 then
    let s := s.stopBallast
    let s := s.setDie d { s.die d with wear := nth 2100 s.boot.fuses.wearCaps d }
    ((s.signal 12 none).deductPermanent (wearKey d) 50).applyClock d
  else s

/-! ### After boot -/

/-- The window timer of R430. -/
def State.requestWindows (s : State) : State :=
  let a := s.requestTimer .windows 5
  { a.1 with perf := { a.1.perf with windowOn := a.2.2 == 0, windowFrom := a.1.stamp } }

/-- The pin of an enabled job signal (R522); a refusal leaves its code in object 0x7F02.03 (assumption log 37). -/
def State.requestJobPin (s : State) (k : Nat) : State :=
  if (s.num 0x7F03 (k + 1)).testBit 15 then
    let a := s.requestUnit (202 + k) .jobSignal 4
    if a.2 = 0 then a.1 else a.1.setCnt 0x7F02 3 a.2
  else s

/-- Links that object 0x4003.04 names stand in Disabled: a change of state that raises source 160 + n (R274, Table 8-5). -/
def State.disableLinks (s : State) : State :=
  (List.range 32).foldl (fun s n =>
    if (s.num 0x4003 4).testBit n ∧ (s.link n).state ≠ 8 then (s.setLink n { s.link n with state := 8 }).signal (160 + n) none else s) s

/-- What the firmware does as it starts: a boot that finds no clean-shutdown mark adds 600 s of wear to each die (assumption
log 38); the windows' timer and the pins of job signals are requested, and disabled links stay so. -/
def State.afterBoot (s : State) : State :=
  let s := if s.boot.warm || s.power.cleanShutdown then s else (List.range 4).foldl (fun s d => s.addWear d 600) s
  let s := { s with power := { s.power with cleanShutdown := false, noResidentSince := s.stamp } }
  (((s.requestWindows).requestJobPin 0).requestJobPin 1).disableLinks

end Sys2Proof.Machine
end

