-- ==== Sys2Proof/Machine/Pages.lean ====
section
/-! DEFINITION. Pages: allocation and freeing (R34, R171, R197), the page tables that the placer writes (R168, R169), and the
replacement of a Sealed object with a bad page (R344). -/

namespace Sys2Proof.Machine

/-- HBM pages of the device, and the count of sill pages. -/
def hbmPages : Nat := 393216
def sillPages : Nat := 524288

/-- An HBM page may be allocated. The pages that the copy pools may take are firmware pages: the last 1,024 of each stack, whatever object
0x3002 gives (R184; assumption log 126: the model's choice). -/
def State.hbmFree (s : State) (p : Nat) : Bool :=
  (s.hbmPage p).use == .free && decide (p < hbmPages) && decide (p % 24576 < 24576 - 1024) && !s.dieReset (p / 98304)

/-- Where the placer wants a page: a stack, if any; whether another stack will do (R34); and the quarters that it tries in a quartered stack
(R244), none standing for any. -/
structure Spot where
  stack : Option Nat
  strict : Bool
  quarters : List Nat
deriving DecidableEq, Repr

/-- Anywhere: pages of the firmware. -/
def Spot.any : Spot := { stack := none, strict := false, quarters := [] }

/-- A page of several users at a context address: the quarters in turn, in ascending page order, and the next in turn where one is full
(R244). -/
def Spot.shared (stack : Option Nat) (strict : Bool) (a : Nat) : Spot :=
  { stack := stack, strict := strict, quarters := (List.range 4).map (fun i => (a / pageBytes + i) % 4) }

/-- A page that only bay `b` uses (R244). -/
def Spot.ofBay (stack : Option Nat) (strict : Bool) (b : Nat) : Spot := { stack := stack, strict := strict, quarters := [b % 4] }

/-- A free page that meets a spot's quarter, in a given stack or in any. -/
def State.pageMeets (s : State) (k : Option Nat) (q : Option Nat) (p : Nat) : Bool :=
  s.hbmFree p && k.elim true (fun k => p / 24576 == k) && q.elim true (fun q => s.hbmMode (p / 24576) == 0 || pageQuarter p == q)

/-- The lowest page of [p, p + fuel) that meets them. -/
def State.findHbm (s : State) (k q : Option Nat) : Nat → Nat → Option Nat
  | 0, _ => none
  | f + 1, p => if s.pageMeets k q p then some p else s.findHbm k q f (p + 1)

/-- A page in a given stack, or in any: the first preferred one that will do, else the lowest free one (R1; assumption log 25). -/
def State.pickHbm (s : State) (prefer : List Nat) (k q : Option Nat) : Option Nat :=
  (prefer.find? (s.pageMeets k q)).or (match k with
    | some n => s.findHbm k q 24576 (n * 24576)
    | none => s.findHbm k q hbmPages 0)

/-- The same, over quarters in their order. -/
def State.pickQuarter (s : State) (prefer : List Nat) (k : Option Nat) (l : List Nat) : Option Nat :=
  if l.isEmpty then s.pickHbm prefer k none else l.findSome? (fun q => s.pickHbm prefer k (some q))

/-- A page for a use: in the spot's stack, or in any where that has none and need not (R34, R174). Answers the page and the preferences
that remain. -/
def State.allocHbm (s : State) (prefer : List Nat) (w : Spot) (use : PageUse) : Option (State × Nat × List Nat) :=
  let pick := (s.pickQuarter prefer w.stack w.quarters).or (if w.strict then none else s.pickQuarter prefer none w.quarters)
  pick.map (fun p => (s.setHbmPage p { s.hbmPage p with use := use }, p, prefer.erase p))

/-- Pages of a stack that may be allocated. -/
def State.stackRoom (s : State) (k : Nat) : Nat :=
  if s.dieReset (k / 4) then 0
  else 23552 - (s.hbm.filter (fun e => pageStack e.1 == k && decide (e.1 % 24576 < 23552) && e.2.use != .free)).length

/-- Several pages, each in its spot; none where they do not suffice. -/
def State.allocMany (s : State) (prefer : List Nat) (use : PageUse) : List Spot → Option (State × List Nat × List Nat)
  | [] => some (s, [], prefer)
  | k :: l =>
    match s.allocHbm prefer k use with
    | none => none
    | some a => match State.allocMany a.1 a.2.2 use l with
      | none => none
      | some b => some (b.1, a.2.1 :: b.2.1, b.2.2)

def State.findSill (s : State) : Nat → Nat → Option Nat
  | 0, _ => none
  | f + 1, p => if (s.sillPage p).state = 0 then some p else s.findSill f (p + 1)

/-- Sill pages that the images of a context's slots hold: those of its own, and of its buddy's context (R350). -/
def State.imagesHeld (s : State) (c : Nat) : Nat :=
  let d := buddyOf s.deviceId
  let p := (s.peerOf c d).ctx
  ((s.objects.filter (fun e => e.2.kind == 2 &&
    ((e.2.srcDevice == s.deviceId && e.2.srcCtx == c) || (e.2.srcDevice == d && e.2.srcCtx == p)))).map (fun e =>
      e.2.pages.length)).foldl (· + ·) 0

/-- Free sill pages that stay kept for the image slots of contexts other than `own` (R350). -/
def State.sillKept (s : State) (own : Option Nat) : Nat :=
  ((s.ctxs.filter (fun e => own != some e.1)).map (fun e => e.2.imageReserve - s.imagesHeld e.1)).foldl (· + ·) 0

/-- Free sill pages that an allocation may take: an image that context's slots hold takes of what is kept for them, anything else does
not (R350). -/
def State.sillRoom (s : State) (own : Option Nat) : Nat :=
  sillPages - (s.sill.filter (fun e => e.2.state != 0)).length - s.sillKept own

/-- `n` free sill pages go to an object, in the Filling state (R182). Their corrected errors of the last 24 h stand (R193). -/
def State.takeSill (s : State) (obj : Nat) : Nat → Option (State × List Nat)
  | 0 => some (s, [])
  | n + 1 =>
    match s.findSill sillPages 0 with
    | none => none
    | some p =>
      match State.takeSill (s.setSillPage p { s.sillPage p with state := 1, object := obj, heat := 0, refused := false, maps := 0 }) obj n with
      | none => none
      | some a => some (a.1, p :: a.2)

/-- `n` sill pages for an object; those of an image of context `own`'s slots come from what is kept for them. -/
def State.allocSill (s : State) (obj : Nat) (own : Option Nat) (n : Nat) : Option (State × List Nat) :=
  if s.sillRoom own < n then none else s.takeSill obj n

/-! ### Freeing (R173, R197) -/

/-- A changed entry whose invalidation is not complete names a physical page (R173). -/
def State.named (s : State) (phys : Nat) : Bool := s.stale.any (fun e => bits e.entry 47 21 == phys / pageBytes)

/-- An HBM page is freed: it goes to zeroing once no translation names it; a page that retires stays out of use. -/
def State.zeroHbm (s : State) (p : Nat) : State :=
  s.setHbmPage p { s.hbmPage p with use := if s.named (hbmPageAddr p) then .invalidating else .zeroing }

/-- A sill page leaves Filling or Sealed, in the same way; copies in progress or in use go (R187, R188). -/
def State.zeroSill (s : State) (p : Nat) : State :=
  let x := s.sillPage p
  (s.dropCopy p).setSillPage p { x with
    state := if s.named (sillPageAddr p) then 5 else 3, object := 0, heat := 0, refused := false, maps := 0 }

/-- Invalidations have completed: the pages that waited for them and that no entry names any more go to zeroing (R173, R197). -/
def State.zeroUnnamed (s : State) : State :=
  { s with
    hbm := Assoc.mapVals HbmPage.free (fun k p => if p.use = .invalidating ∧ s.named (hbmPageAddr k) = false then { p with use := .zeroing } else p) s.hbm,
    sill := Assoc.mapVals SillPage.free (fun k p => if p.state = 5 ∧ s.named (sillPageAddr k) = false then { p with state := 3 } else p) s.sill }

/-- Free an object's pages. -/
def State.freePages (s : State) (o : Obj) : State :=
  if o.inHbm then o.pages.foldl (fun s p => s.zeroHbm p) s else o.pages.foldl (fun s p => s.zeroSill p) s

def State.freeObject (s : State) (id : Nat) : State :=
  let o := s.object id
  (s.freePages o).setObject id Obj.none

/-! ### Page tables -/

/-- The fields of Table 5-4 for a mapped page. -/
structure PageAttr where
  tier : Nat
  write : Bool
  remote : Bool
  shared : Bool
  sticker : Bool
  loft : Nat
deriving DecidableEq, Repr

def pte (a : PageAttr) (phys : Nat) : Nat :=
  packFields [(1, 1), (2, a.tier), (1, b2n a.write), (1, b2n a.remote), (1, b2n a.shared), (1, b2n a.sticker),
    (2, if a.loft = 3 then 0 else a.loft), (7, 0), (27, phys / pageBytes), (21, 0)]

/-- A valid entry is about to change: agents may use it until the invalidation completes (R173). -/
def State.noteStale (s : State) (c a : Nat) : State :=
  match s.pteAt (s.ctx c).dirBase a with
  | none => s
  | some e => { s with stale := s.stale ++ [{ ctx := c, page := a / pageBytes, entry := e }] }

/-- Write the entry of context address `a`, with its directory entry where that is not valid yet; none where no firmware page is
left for the leaf tables. The management cores write it (R171). -/
def State.mapPage (s : State) (c a entry : Nat) : Option State :=
  let s := s.noteStale c a
  let x := s.ctx c
  let d := (a - hbmBase) / 2 ^ 30
  let g := d / 512
  let got : Option (State × Nat) := match Assoc.get 0 x.leafPages g with
    | 0 => (s.allocHbm [] Spot.any .firmware).map (fun r =>
        (r.1.setCtx c { x with leafPages := Assoc.set 0 x.leafPages g (r.2.1 + 1) }, r.2.1))
    | p + 1 => some (s, p)
  got.map (fun r =>
    let leaf := hbmPageAddr r.2 + 4096 * (d % 512)
    let s := r.1.coreWriteNat ((r.1.ctx c).dirBase + 8 * d) 8 (packFields [(1, 1), (15, 0), (36, leaf / 4096), (12, 0)])
    s.coreWriteNat (leaf + 8 * ((a / pageBytes) % 512)) 8 entry)

/-- Change the entry of a mapped page. -/
def State.changePte (s : State) (c a : Nat) (f : Nat → Nat) : State :=
  let x := s.ctx c
  match s.pteAt x.dirBase a with
  | none => s
  | some e =>
    let de := s.readNat (x.dirBase + 8 * ((a - hbmBase) / 2 ^ 30)) 8
    (s.noteStale c a).coreWriteNat (bits de 47 12 * 4096 + 8 * ((a / pageBytes) % 512)) 8 (f e)

/-- Pages of [a, a + n) as context page addresses. -/
def pagesIn (a n : Nat) : List Nat :=
  if n = 0 then [] else (List.range ((a + n - 1) / pageBytes - a / pageBytes + 1)).map (fun i => (a / pageBytes + i) * pageBytes)

/-- Set or clear the remote attribute of the pages of [a, a + n) (R337, R535). -/
def State.setRemote (s : State) (c a n : Nat) (on : Bool) : State :=
  (pagesIn a n).foldl (fun s p => s.changePte c p (fun e => setBits e 59 59 (b2n on))) s

/-! ### Sealing, retiring and moving sill pages (R182, R193) -/

/-- A sill page is listed in the fault log as retired. -/
def State.listSill (s : State) (p : Nat) : State :=
  let s := s.bump 0x3010 0x0F
  let s := s.setRwp 0x3012 7 (.num (s.num 0x3012 7 + 1))
  (s.deduct 5).log { code := 0x0233, severity := 1, unitKind := 4, unit := pagePkg p, action := 8, detail := sillPageAddr p }

/-- The context pages that map page `i` of an object: tensors of its identity (R182, R341). -/
def State.mappingsOf (s : State) (id i : Nat) : List (Nat × Nat) :=
  let o := s.object id
  ((s.ctxs.filter (fun e => e.2.objects.contains id)).map (·.1)).flatMap (fun c => (((s.ctx c).tensors.filter (fun t => t.base != 0 && t.tier == 1 &&
    (if o.kind = 1 then t.baseId == o.baseId else t.id == o.tensor))).map (fun t => (c, t.base + i * pageBytes))))

/-- Page `i` of a Sealed object, the sill page `p`, moves to a free sill page, and its mappings with it; the old page waits for its
invalidations, is zeroed, and stays out of use (R173, R193, R197). The new page enters Sealed, so its heat starts at 0 (R183). With no page
free it serves on until its object goes. -/
def State.moveSill (s : State) (id i p : Nat) : State :=
  if s.sillRoom none = 0 then s
  else match s.findSill sillPages 0 with
  | none => s
  | some q =>
    let o := s.object id
    let b := s.saveRange (sillPageAddr p) (sillPageAddr p + pageBytes)
    let s := s.loadRange (sillPageAddr q) b
    let s := s.setSillPage q { s.sillPage q with state := 2, object := id, maps := (s.sillPage p).maps, heat := 0, refused := false }
    let s := s.setObject id { o with pages := o.pages.set i q }
    let s := (s.mappingsOf id i).foldl (fun s m => s.changePte m.1 m.2 (fun e => setBits e 47 21 (sillPageAddr q / pageBytes))) s
    s.zeroSill p

/-- The object whose page `p` is, with the page's index. -/
def State.objectOf (s : State) (inHbm : Bool) (p : Nat) : Option (Nat × Nat) :=
  s.objects.findSome? (fun e => if e.2.inHbm = inHbm then (e.2.pages.findIdx? (· == p)).map (fun i => (e.1, i)) else none)

/-- A sill page is retired (R193): a free one is never allocated again, a Sealed one is copied into another page, and one that is filled or
freed stays out of use once it leaves that state (R197). -/
def State.retireSill (s : State) (p : Nat) : State :=
  let x := s.sillPage p
  if x.state = 4 then s
  else
    let s := if x.retiring then s else (s.setSillPage p { x with retiring := true }).listSill p
    if x.state = 0 then s.setSillPage p { s.sillPage p with state := 4, retiring := false }
    else if x.state = 2 then (match s.objectOf false p with | some o => s.moveSill o.1 o.2 p | none => s)
    else s

/-- Write bytes over a list of sill pages. -/
def State.fillSill (s : State) (pages : List Nat) (b : List Byte) : State :=
  (pages.zip (chunks pageBytes b)).foldl (fun s x => s.writeBytes (sillPageAddr x.1) x.2) s

/-- Pages of an object enter Sealed (R182), each with its heat at 0 (R183); `maps` contexts map them. -/
def State.sealPages (s : State) (pages : List Nat) (obj maps : Nat) : State :=
  pages.foldl (fun s p => s.setSillPage p { s.sillPage p with state := 2, object := obj, heat := 0, refused := false, maps := maps }) s

/-- The pages of a newly Sealed object that were to retire move (R193). -/
def State.moveRetiring (s : State) (id : Nat) : State :=
  if (s.object id).inHbm then s
  else (s.object id).pages.zipIdx.foldl (fun s x => if (s.sillPage x.1).retiring then s.moveSill id x.2 x.1 else s) s

/-! ### Objects with a bad page (R344) -/

/-- Contexts that map an object. -/
def State.mappers (s : State) (id : Nat) : List Nat := (s.ctxs.filter (fun e => e.2.objects.contains id)).map (·.1)

/-- The members of a shard's chain, in ascending job rank (R339). -/
def Ctx.chainOf (x : Ctx) (slice : Nat) : List Nat :=
  if slice = 0xFF then (List.range x.gridR).flatMap (fun r => (List.range 8).map (fun p => x.deviceAt r x.gridStage p))
  else (List.range x.gridR).map (fun r => x.deviceAt r x.gridStage slice)

/-- Job ranks of the members of a chain, in the same order (R303). -/
def Ctx.chainRanks (x : Ctx) (slice : Nat) : List Nat :=
  let rank := fun r p => (r * x.gridP + x.gridStage) * 8 + p
  if slice = 0xFF then (List.range x.gridR).flatMap (fun r => (List.range 8).map (rank r)) else (List.range x.gridR).map (fun r => rank r slice)

/-- The other member of a chain, not in peer-reset state, whose job rank is nearest to this device's; the lower rank on a tie (R344). -/
def State.nearest (s : State) (x : Ctx) (slice : Nat) : Option Nat :=
  let own := (x.gridRep * x.gridP + x.gridStage) * 8 + x.gridPos
  let far := fun (r : Nat) => if r < own then own - r else r - own
  let l := ((x.chainOf slice).zip (x.chainRanks slice)).filter (fun e => e.1 != s.deviceId && !s.inPeerReset e.1)
  (l.foldl (fun (b : Option (Nat × Nat)) e => match b with
    | none => some e
    | some y => if far e.2 < far y.2 then some e else some y) none).map (·.1)

/-- Whom the shard of an object is fetched from again (R344): the nearest member of its chain under the raise that a mapping context knows;
none where no member holds it (assumption log 146). -/
def State.fetchFrom (s : State) (id : Nat) : Option Nat :=
  (s.mappers id).findSome? (fun c =>
    let x := s.ctx c
    (x.raise.bind (fun r => r.shards.find? (fun h => h.obj == some id))).bind (fun h => s.nearest x h.slice))

/-- Further leaf pages of an image of `k` pages of content (R356). -/
def leafPageCount (k : Nat) : Nat := ceilDiv (64 + 32 * k) pageBytes - 1

/-- Leaf of a page of an object: an image's content follows its header page and leaf pages. -/
def leafOf (o : Obj) (i : Nat) : Nat := if o.kind = 2 then i - (1 + leafPageCount o.leaves.length) else i

/-- Page `i` of a Sealed object differs from its leaf, or holds an uncorrectable error: steps 1 to 4 of R344. A weight object waits for its
shard again; an image or a dump has no chain to fetch from. -/
def State.objectBad (s : State) (id i : Nat) : State :=
  let o := s.object id
  let s := (s.bump 0x4310 5).signal 244 none
  let s := ((s.setCnt 0x4309 1 o.tensor).setCnt 0x4309 2 (leafOf o i)).setCnt 0x4309 3 (Assoc.get 0 o.lastGood i)
  if o.kind ≤ 1 ∧ o.replacing.isEmpty then
    s.setObject id { o with replacing := List.range o.leaves.length, fresh := [], partials := [], askedOf := s.fetchFrom id }
  else s

/-- Page `i` of an object is to come again in a raise that fills it. -/
def Raise.missLeaf (r : Raise) (id i : Nat) : Raise :=
  { r with missing := r.missing ++ ((r.shards.filter (fun h => h.obj == some id)).map (fun h => (h.entry, i))).filter (fun m =>
      !r.missing.contains m) }

/-- A bad page of a Filling object: another page takes its place, its content is to come again, and the bad one goes (R196). -/
def State.refill (s : State) (id i p : Nat) : State :=
  match s.takeSill id 1 with
  | none => s
  | some a =>
    let o := s.object id
    let s := a.1.setObject id { o with pages := o.pages.set i (nth 0 a.2 0), got := o.got.erase i, partials := o.partials.filter (fun x => x.1 != i) }
    let s := { s with ctxs := Assoc.mapVals Ctx.undefined (fun _ x => { x with raise := x.raise.map (fun (r : Raise) => r.missLeaf id i) }) s.ctxs }
    s.zeroSill p

/-- An uncorrectable error in a sill page (R194, R196). It retires. The object of a Sealed page is freed: a weight object for its
replacement, an image or a dump for good. A Filling object takes another page (assumption log 127). -/
def State.sillBad (s : State) (p : Nat) : State :=
  let x := s.sillPage p
  let s := if x.retiring || x.state = 4 then s else (s.setSillPage p { x with retiring := true }).listSill p
  if x.state = 0 then s.setSillPage p { s.sillPage p with state := 4, retiring := false }
  else match s.objectOf false p with
    | none => s
    | some o =>
      let y := s.object o.1
      if !y.sealed then s.refill o.1 o.2 p
      else if y.kind ≤ 1 then s.objectBad o.1 o.2
      else
        let s := { s with fault := { s.fault with dumps := s.fault.dumps.erase o.1 } }
        (s.freeObject o.1).setCnt 0x7004 1 s.fault.dumps.length

/-- Record an uncorrectable error of a loft (R194): objects 0x3011, source 128 + d. -/
def State.recordLoft (s : State) (a : Nat) (c : Option Nat) : State :=
  let d := loftDie (lineOf a)
  let s := (((s.setCnt 0x3011 1 s.stamp).setCnt 0x3011 2 1).setCnt 0x3011 3 d).setCnt 0x3011 4 a
  ((s.setObj 0x3011 5 (.num (c.getD 0xFFFF))).signal (128 + d) c).deduct 30

/-- A bad line leaves its loft: where it was dirty, its granules are written as zeros, it is counted as lost, and the step of its owner is
abandoned (R195). -/
def State.loseLine (s : State) (x : LoftLine) : State :=
  let s := s.dropLines (fun y => y == x)
  if x.beneath.isNone then s
  else
    let s := (s.zeroRange (128 * x.line) (128 * x.line + 128)).bump 0x3010 8
    match x.owner with
    | some c => if (s.ctx c).stepOpen then s.abandon c 0x0233 else s
    | none => s

/-- An uncorrectable error in the line of a physical address; the Bool says that the loft held the line. -/
def State.loftData (s : State) (a : Nat) (c : Option Nat) : State × Bool :=
  match s.lineAt (lineOf a) with
  | none => (s, false)
  | some x => ((s.recordLoft a (if x.beneath.isSome then x.owner else c)).loseLine x, true)

/-- An error in a tag that cannot be corrected: the whole set of the address becomes invalid (R195). -/
def State.loftTag (s : State) (a : Nat) (c : Option Nat) : State × Bool :=
  let l := s.loftSet (loftKey (lineOf a))
  if l.isEmpty then (s, false) else (l.foldl (fun s x => s.loseLine x) (s.recordLoft a c), true)

/-- An uncorrectable error in a read for a context (R188, R194, R195): the Bool says that the read failed. An error of a loft stands at an
HBM address whose line, or whose set, it holds. -/
def State.memoryError (s : State) (part : MemPart) (a : Nat) (c : Option Nat) : State × Bool :=
  match part with
  | .loftData => if hbmBase ≤ a ∧ a < hbmEnd then s.loftData a c else (s, false)
  | .loftTag => if hbmBase ≤ a ∧ a < hbmEnd then s.loftTag a c else (s, false)
  | .cell =>
    match s.copyAt a with
    | some x => (s.copyUe x, false)
    | none =>
      let s := s.recordUe a c
      if hbmBase ≤ a ∧ a < hbmEnd then (s.retireHbm ((a - hbmBase) / pageBytes), true)
      else if sillBase ≤ a ∧ a < sillEnd then
        (s.sillBad ((a - sillBase) / pageBytes), true)
      else (s, true)

end Sys2Proof.Machine
end

