-- ==== Sys2Proof/Machine/Sm3.lean ====
section
/-! DEFINITION. SM3, the digest of GB/T 32905, which the manual uses by reference (R4, R9; assumption log 22). -/

namespace Sys2Proof.Machine

def sm3P0 (x : Word32) : Word32 := x ^^^ x.rotateLeft 9 ^^^ x.rotateLeft 17
def sm3P1 (x : Word32) : Word32 := x ^^^ x.rotateLeft 15 ^^^ x.rotateLeft 23
def sm3T (j : Nat) : Word32 := if j < 16 then 0x79CC4519 else 0x7A879D8A
def sm3FF (j : Nat) (x y z : Word32) : Word32 :=
  if j < 16 then x ^^^ y ^^^ z else (x &&& y) ||| (x &&& z) ||| (y &&& z)
def sm3GG (j : Nat) (x y z : Word32) : Word32 :=
  if j < 16 then x ^^^ y ^^^ z else (x &&& y) ||| ((~~~ x) &&& z)

/-- The padded message: the bit 1, zeros, and the length in 64 bits. -/
def sm3Pad (m : List Byte) : List Byte :=
  let z := (119 - m.length % 64) % 64
  m ++ [0x80] ++ zeroBytes z ++ beBytes 8 (m.length * 8)

/-- Message expansion, newest word first; `n` further words. -/
def sm3Expand : Nat → List Word32 → List Word32
  | 0, w => w
  | n + 1, w =>
    let g := fun i => nth 0 w i
    let x := sm3P1 (g 15 ^^^ g 8 ^^^ (g 2).rotateLeft 15) ^^^ (g 12).rotateLeft 7 ^^^ g 5
    sm3Expand n (x :: w)

structure Sm3Regs where
  a : Word32
  b : Word32
  c : Word32
  d : Word32
  e : Word32
  f : Word32
  g : Word32
  h : Word32
deriving DecidableEq, Repr

def sm3Round (r : Sm3Regs) (j : Nat) (w w' : Word32) : Sm3Regs :=
  let ss1 := (r.a.rotateLeft 12 + r.e + (sm3T j).rotateLeft (j % 32)).rotateLeft 7
  let ss2 := ss1 ^^^ r.a.rotateLeft 12
  let tt1 := sm3FF j r.a r.b r.c + r.d + ss2 + w'
  let tt2 := sm3GG j r.e r.f r.g + r.h + ss1 + w
  { a := tt1, b := r.a, c := r.b.rotateLeft 9, d := r.c,
    e := sm3P0 tt2, f := r.e, g := r.f.rotateLeft 19, h := r.g }

/-- The 64 rounds over the expanded words, oldest first. -/
def sm3Rounds : Nat → Nat → List Word32 → Sm3Regs → Sm3Regs
  | 0, _, _, r => r
  | n + 1, j, w, r => sm3Rounds n (j + 1) (w.drop 1) (sm3Round r j (nth 0 w 0) (nth 0 w 0 ^^^ nth 0 w 4))

def sm3Block (v : Sm3Regs) (blk : List Byte) : Sm3Regs :=
  let w16 := (chunks 4 blk).map (fun q => BitVec.ofNat 32 (beNat q))
  let w := (sm3Expand 52 w16.reverse).reverse
  let r := sm3Rounds 64 0 w v
  { a := r.a ^^^ v.a, b := r.b ^^^ v.b, c := r.c ^^^ v.c, d := r.d ^^^ v.d,
    e := r.e ^^^ v.e, f := r.f ^^^ v.f, g := r.g ^^^ v.g, h := r.h ^^^ v.h }

def sm3Iv : Sm3Regs :=
  { a := 0x7380166F, b := 0x4914B2B9, c := 0x172442D7, d := 0xDA8A0600,
    e := 0xA96F30BC, f := 0x163138AA, g := 0xE38DEE4D, h := 0xB0FB0E4E }

/-- The 32 output bytes of SM3 in the order of GB/T 32905 (R9). -/
def sm3 (m : List Byte) : List Byte :=
  let r := (chunks 64 (sm3Pad m)).foldl sm3Block sm3Iv
  [r.a, r.b, r.c, r.d, r.e, r.f, r.g, r.h].flatMap (fun x => beBytes 4 x.toNat)

end Sys2Proof.Machine
end

