-- ==== Sys2Proof/Machine/Persist.lean ====
section
/-! DEFINITION. The persistence store (R400 to R402): the record of every RWP value, its two banks, and what a boot takes. -/

namespace Sys2Proof.Machine

/-- Every RWP object in index order, with its row. -/
def rwpObjs : List (Nat × Nat × ORow) :=
  (objRows.filter (fun r => r.acc == .rwp)).flatMap (fun r => (rangeFrom r.lo (r.hi + 1 - r.lo)).map (fun k => (r.idx, k, r)))

/-- Calibration objects (Table 12-6). -/
def isCalibration (idx : Nat) : Bool := decide (0x6100 ≤ idx) && decide (idx < 0x7000)

/-- Bytes of a value in a record: a string is its length and 64 bytes (assumption log 28). -/
def recordBytes (r : ORow) (v : ObjVal) : List Byte :=
  match r.ty with
  | .str => let b := v.toBytes .str; BitVec.ofNat 8 b.length :: fitBytes 64 b
  | .blob => (match r.rng with | .fixed n => fitBytes n (v.toBytes .blob) | _ => v.toBytes .blob)
  | t => v.toBytes t

def recordSize (r : ORow) : Nat :=
  match r.ty with
  | .str => 65
  | .blob => (match r.rng with | .fixed n => n | _ => 0)
  | t => t.size

/-- The value that record bytes hold. -/
def recordValue (r : ORow) (b : List Byte) : ObjVal :=
  match r.ty with
  | .str => .blob ((b.drop 1).take (nth 0 b 0).toNat)
  | .blob => .blob b
  | _ => .num (leNat b)

/-- The record: generation, every RWP value in index order, SM3 over the rest (R400). -/
def State.record (s : State) (gen : Nat) : List Byte :=
  let b := leBytes 4 gen ++ rwpObjs.flatMap (fun o => recordBytes o.2.2 (s.obj o.1 o.2.1))
  b ++ sm3 b

/-- Bytes of a record before its digest. -/
def recordLen : Nat := rwpObjs.foldl (fun n o => n + recordSize o.2.2) 4

/-- The generation of a bank whose digest matches. -/
def bankGen (b : List Byte) : Option Nat :=
  if b.length = recordLen + 32 ∧ sm3 (b.take recordLen) = b.drop recordLen then some (leNat (b.take 4)) else none

/-- The bank that a boot takes: the higher generation, bank 0 on a tie (R400, R401). -/
def State.newestBank (s : State) : Option (Nat × Nat) :=
  match bankGen s.efyth.bank0, bankGen s.efyth.bank1 with
  | none, none => none
  | some g, none => some (0, g)
  | none, some g => some (1, g)
  | some g, some h => if g < h then some (1, h) else some (0, g)

def State.bank (s : State) (k : Nat) : List Byte := if k = 0 then s.efyth.bank0 else s.efyth.bank1
def State.setBank (s : State) (k : Nat) (b : List Byte) : State :=
  if k = 0 then { s with efyth := { s.efyth with bank0 := b } } else { s with efyth := { s.efyth with bank1 := b } }

/-- Load every RWP value of a record. -/
def State.loadRecord (s : State) (b : List Byte) : State :=
  (rwpObjs.foldl (fun (a : State × Nat) o =>
    (a.1.setObj o.1 o.2.1 (recordValue o.2.2 (slice b a.2 (recordSize o.2.2))), a.2 + recordSize o.2.2)) (s, 4)).1

/-- Step 7 of R494 after a cold reset (R400, R402): the values in force, the state of the banks, and slot 3. -/
def State.loadStore (s : State) : State :=
  let bad := (if (bankGen s.efyth.bank0).isNone then [0] else []) ++ (if (bankGen s.efyth.bank1).isNone then [1] else [])
  let s := { s with efyth := { s.efyth with badBanks := bad } }
  match s.newestBank with
  | some k => ((s.loadRecord (s.bank k.1)).setCnt 0x2005 2 k.2).setCnt 0x2005 3 bad.length
  | none => ((s.setCnt 0x2005 3 2).setCnt 0x6101 3 2).signal 448 none

/-- The digest of the bank in use (Table 16-7). -/
def State.storeDigest (s : State) : List Byte :=
  match s.newestBank with
  | some k => sm3 (s.bank k.1)
  | none => zeroBytes 32

end Sys2Proof.Machine
end

