-- ==== Sys2Proof/Machine/Sm2.lean ====
section
/-! DEFINITION. Verification of an SM2 signature (GB/T 32918.2 over its recommended curve, R490; assumption log 22). Points are
in Jacobian coordinates; a point with z = 0 is the point at infinity. -/

namespace Sys2Proof.Machine

def sm2P : Nat := 0xFFFFFFFEFFFFFFFFFFFFFFFFFFFFFFFFFFFFFFFF00000000FFFFFFFFFFFFFFFF
def sm2A : Nat := 0xFFFFFFFEFFFFFFFFFFFFFFFFFFFFFFFFFFFFFFFF00000000FFFFFFFFFFFFFFFC
def sm2B : Nat := 0x28E9FA9E9D9F5E344D5A9E4BCF6509A7F39789F515AB8F92DDBCBD414D940E93
def sm2N : Nat := 0xFFFFFFFEFFFFFFFFFFFFFFFFFFFFFFFF7203DF6B21C6052B53BBF40939D54123
def sm2Gx : Nat := 0x32C4AE2C1F1981195F9904466A39C9948FE30BBFF2660BE1715A4589334C74C7
def sm2Gy : Nat := 0xBC3736A2F4F6779C59BDCEE36B692153D0A9877CC62A474002DF32E52139F0A0

structure Point where
  x : Nat
  y : Nat
  z : Nat
deriving DecidableEq, Repr

/-- Subtraction modulo p. -/
def subP (a b : Nat) : Nat := (a + sm2P - b % sm2P) % sm2P

def Point.double (q : Point) : Point :=
  if q.z = 0 ∨ q.y = 0 then { x := 1, y := 1, z := 0 }
  else
    let yy := q.y * q.y % sm2P
    let s := 4 * q.x * yy % sm2P
    let zz := q.z * q.z % sm2P
    let m := (3 * q.x * q.x + sm2A * (zz * zz % sm2P)) % sm2P
    let x := subP (m * m % sm2P) (2 * s)
    let y := subP (m * subP s x % sm2P) (8 * (yy * yy % sm2P))
    { x := x, y := y, z := 2 * q.y * q.z % sm2P }

def Point.add (p q : Point) : Point :=
  if p.z = 0 then q
  else if q.z = 0 then p
  else
    let zp := p.z * p.z % sm2P
    let zq := q.z * q.z % sm2P
    let u := p.x * zq % sm2P
    let v := q.x * zp % sm2P
    let s := p.y * (zq * q.z % sm2P) % sm2P
    let t := q.y * (zp * p.z % sm2P) % sm2P
    if u = v then (if s = t then p.double else { x := 1, y := 1, z := 0 })
    else
      let h := subP v u
      let r := subP t s
      let hh := h * h % sm2P
      let hhh := h * hh % sm2P
      let w := u * hh % sm2P
      let x := subP (subP (r * r % sm2P) hhh) (2 * w)
      let y := subP (r * subP w x % sm2P) (s * hhh % sm2P)
      { x := x, y := y, z := h * p.z % sm2P * q.z % sm2P }

/-- k × q by double and add over `n` bits. -/
def Point.mul : Nat → Nat → Point → Point
  | 0, _, _ => { x := 1, y := 1, z := 0 }
  | n + 1, k, q =>
    let h := Point.mul n (k / 2) q
    let d := h.double
    if k % 2 = 1 then d.add q else d

/-- a^k modulo p over `n` bits of k. -/
def powP : Nat → Nat → Nat → Nat
  | 0, _, _ => 1
  | n + 1, k, a =>
    let h := powP n (k / 2) a
    let d := h * h % sm2P
    if k % 2 = 1 then d * a % sm2P else d

/-- The affine x. -/
def Point.affineX (q : Point) : Nat :=
  let i := powP 256 (sm2P - 2) q.z
  q.x * (i * i % sm2P) % sm2P

/-- The digest of a signer's identifier and key. -/
def sm2Z (ident key : List Byte) : List Byte :=
  sm3 (beBytes 2 (8 * ident.length) ++ ident ++ beBytes 32 sm2A ++ beBytes 32 sm2B ++ beBytes 32 sm2Gx ++ beBytes 32 sm2Gy ++ key)

/-- Verify a 64-byte signature over a message under a 64-byte public key. -/
def sm2Verify (ident key msg sig : List Byte) : Bool :=
  let px := beNat (key.take 32)
  let py := beNat (key.drop 32)
  let r := beNat (sig.take 32)
  let s := beNat (sig.drop 32)
  let e := beNat (sm3 (sm2Z ident key ++ msg))
  let t := (r + s) % sm2N
  let onCurve := decide (px < sm2P) && decide (py < sm2P) && py * py % sm2P == (px * px * px + sm2A * px + sm2B) % sm2P
  let q := ((Point.mul 256 s { x := sm2Gx, y := sm2Gy, z := 1 }).add (Point.mul 256 t { x := px, y := py, z := 1 }))
  decide (1 ≤ r) && decide (r < sm2N) && decide (1 ≤ s) && decide (s < sm2N) && t != 0 && onCurve && q.z != 0
    && (e + q.affineX) % sm2N == r

/-- ASCII identifiers of the manual's signers. -/
def identFw : List Byte := [0x56, 0x4F, 0x42, 0x4F, 0x5A, 0x49, 0x41, 0x2D, 0x46, 0x57]

end Sys2Proof.Machine
end

