-- ==== Sys2Proof/Machine/Reset.lean ====
section
/-! DEFINITION. The reset domains and boot as operations (R297, R473 to R475, R490 to R500, R505, R533): what a warm reset and a
cold reset clear, the announcement, the check of a firmware image, and the steps of a boot. -/

namespace Sys2Proof.Machine

/-! ### What warm reset keeps of the dictionary -/

/-- Indexes that warm reset keeps whole. -/
def keptIndexes : List Nat :=
  [0x1106, 0x2003, 0x2004, 0x2005, 0x2040, 0x2041, 0x2110, 0x2111, 0x2120, 0x2121, 0x2123, 0x2201, 0x2202, 0x2203, 0x3003, 0x3004,
   0x3010, 0x3011, 0x3110, 0x3202, 0x3210, 0x4003, 0x4010, 0x4110, 0x4111, 0x4112, 0x4207, 0x4208, 0x4210, 0x4303, 0x4308,
   0x4309, 0x4310, 0x4807, 0x4810, 0x5004, 0x5010, 0x5110, 0x6040, 0x7004, 0x7010, 0x7102]

/-- Single objects that warm reset keeps: clamp counters of Table 12-4 of the form 0xNNFF.01 among them. -/
def keptObject (idx sub : Nat) : Bool :=
  keptIndexes.contains idx || (idx % 256 == 0xFF && sub == 1)
    || [objKey 0x3102 1, objKey 0x4805 1, objKey 0x4805 2, objKey 0x5130 6, objKey 0x6022 2, objKey 0x6101 3, objKey 0x7101 2,
        objKey 0x7101 3, objKey 0x7830 2, objKey 0x7F01 1, objKey 0x7F04 3, objKey 0x1003 2, objKey 0x1003 3, objKey 0x7802 5].contains
          (objKey idx sub)
    || (match rowFor idx sub with | some r => r.acc == .rwp | none => false)

/-! ### Announcement (R297) -/

/-- A link's peer device: the working links lead to the other positions of the bent, a spare where its exchange says. -/
def State.linkPeer (s : State) (n : Nat) : Nat :=
  if isSpare n then s.deviceId / 8 * 8 + (sparePeer s.position n).getD 0 else s.deviceId / 8 * 8 + peerPosition s.position n

/-- A peer-reset message for a device, under the next seq of its receiver. -/
def State.peerResetHdr (s : State) (d reset : Nat) : FabHdr :=
  sealFab { FabHdr.zero with flags := 0x80, srcDevice := s.deviceId, dstDevice := d, seq := Assoc.get 0 s.fab.txSeq d,
                             stamp := s.stamp, value := reset } 0x31 []

/-- Send a peer-reset message over one link. -/
def State.peerResetOn (s : State) (n reset : Nat) : State :=
  let d := s.linkPeer n
  let h := s.peerResetHdr d reset
  let s := { s with fab := { s.fab with txSeq := Assoc.set 0 s.fab.txSeq d ((h.seq + 1) % m32) } }
  (s.onLink n 0x31 h []).bump 0x4110 1

/-- Send the peer-reset message of a device to a list of devices. -/
def State.peerResetTo (s : State) (l : List Nat) (reset : Nat) : State :=
  l.foldl (fun s d => if d = s.deviceId then s
    else (s.fabSend d 0x31 { FabHdr.zero with flags := 0x80, value := reset } []).1) s

/-- Announce a reset: every Up rafter link, then the notice set. -/
def State.announce (s : State) : State :=
  let s := ((List.range 32).filter (fun n => (s.link n).isUp)).foldl (fun s n => s.peerResetOn n s.deviceId) s
  s.peerResetTo s.notices s.deviceId

/-! ### Warm reset (R474, R494, R496) -/

/-- The bays, dies and links as a device reset leaves them. The trip comparators are in the always-on domain (R438): a tripped die stays
gated until its junction has cooled (R454; assumption log 164). -/
def Bay.warm (b : Bay) : Bay := { Bay.inService with out := b.out, mismatches := b.mismatches, hangs := b.hangs }
def Die.warm (d : Die) : Die :=
  { Die.fresh with wear := d.wear, wearSeconds := d.wearSeconds, clock := d.wear, beam10 := d.beam10,
                   gated := d.gated, tripped := d.tripped, tripSince := d.tripSince, junction := d.junction }
def Link.warm (l : Link) (now : Nat) : Link :=
  { Link.down with state := if l.state = 8 then 8 else 0, downSince := now, lostSince := now, deducted := l.deducted }

/-- The weight objects go with the contexts, images and dumps that are not sealed are abandoned; the rest of sill is kept. -/
def State.warmSill (s : State) : State :=
  s.objects.foldl (fun s e => if e.2.kind ≤ 1 ∨ !e.2.sealed then s.freeObject e.1 else s) s

/-- Close every context and session without the drain and the notices of teardown (R230, R366). Object 0x3110.06 counts none of them
(assumption log 128: the model's choice). -/
def State.closeAll (s : State) : State :=
  let s := ({ s with stale := [] } : State).warmSill.zeroUnnamed
  { s with ctxs := [], engines := [], sessions := [], copies := [], copyQueue := [],
           fab := { Fabric.reset with strays := s.fab.strays, strayIndex := s.fab.strayIndex } }

/-- Bench contents are lost. -/
def State.clearBench (s : State) : State := { s with mem := Assoc.clearRange s.mem 0 benchEnd }

/-- The shared units that outlive a device reset: STAT0 and STAT1 (R522), and the trace SRAM of a dump that still runs (R479). -/
def State.warmUnits (s : State) : Sparse ResUnit :=
  Assoc.mapVals ResUnit.free (fun _ x => { x with waiters := [] })
    (s.res.filter (fun e => e.1 == 200 || e.1 == 201 || (e.1 == 1 && s.fault.dumping.isSome)))

/-- A self-test that runs ends with a reset, as failed (R483, R487). -/
def State.failTest (s : State) (ran : Bool) : State :=
  if ran then (s.setCnt 0x7104 2 3).setCnt 0x7104 4 s.stamp else s

/-- Links and ports whose state a reset changed raise their sources: PEND outlives it (R274, R302, R365, R421). -/
def State.signalDrops (t s : State) : State :=
  let t := (List.range 32).foldl (fun t n => if (s.link n).state = (t.link n).state then t else t.signal (160 + n) none) t
  let t := (List.range 16).foldl (fun t n => if Assoc.get 0 s.ports n = Assoc.get 0 t.ports n then t else t.signal (192 + n) none) t
  (List.range 2).foldl (fun t n => if Assoc.get 0 s.hostPorts n = Assoc.get 0 t.hostPorts n then t else t.signal (208 + n) none) t

/-- What a device reset clears outside the always-on domain. -/
def State.warmFields (s : State) : State :=
  let s := s.closeAll.clearBench
  let units := List.range 83
  { s with
    objs := s.objs.filter (fun e => keptObject (e.1 / 256) (e.1 % 256)),
    bays := Assoc.mapVals Bay.inService (fun _ b => b.warm) s.bays,
    dies := Assoc.mapVals Die.fresh (fun _ d => d.warm) s.dies,
    res := s.warmUnits,
    links := Assoc.mapVals Link.down (fun _ l => l.warm s.stamp) s.links,
    ports := [], hostPorts := [],
    sched := { s.sched with polling := false, swapping := none, outgoing := [], waits := [], worstSigma := 0, worstCtx := 0 },
    efyth := { s.efyth with buffers := [], replies := [], plcaPending := none },
    clock := { s.clock with syncSent := none },
    boot := { s.boot with rngBad := false, rngWaitQuote := none, rngWaitOpens := [], updateFrom := none },
    intr := { s.intr with config := [], ordered := true, reason := 1 },
    cores := [],
    perf := { Perf.reset with lost := units },
    power := { Power.reset with
      shed := s.power.shed, shedPin := s.power.shedPin, shedCauses := s.power.shedCauses, vrOver := s.power.vrOver,
      ePackage := s.power.ePackage, eIdle := s.power.eIdle, eBallast := s.power.eBallast, eCtx := s.power.eCtx,
      cycles := s.power.cycles, maxJunction := s.power.maxJunction },
    fault := { s.fault with watchdogOn := false, expired := none,
                            selfTest := if s.fault.selfTest = 1 then 3 else 0 } }

/-- Everything that a device reset clears, and the sources of the links and ports that it took down. -/
def State.warmClear (s : State) : State := s.warmFields.signalDrops s

/-- Enter a warm reset: the cause and the stamp are written, the loft is written back and the dump taken, then every context is
closed (R474, R533). Within a warm or a cold reset the request is absorbed and logged. -/
def State.enterWarmReset (s : State) (cause : Nat) (announced dump : Bool) : State :=
  match s.boot.phase with
  | .running | .p3 =>
    let s := if announced then s.announce else s
    let s := s.warmFlush
    let s := if dump then s.startDump cause else s
    let s := (s.log { code := cause, severity := 4, unitKind := 8, action := 5 }).recoveryOn
    let s := (s.setCnt 0x7101 2 cause).setCnt 0x7101 3 s.stamp
    let ran := s.fault.selfTest == 1
    let s := s.warmClear.failTest ran
    { s with boot := { s.boot with phase := .warmBoot } }
  | _ => s.log { code := cause }

/-! ### Cold reset (R473, R533) -/

/-- Cold reset: everything but what the flash, the fuses and the wear counters keep. What the pins show stays as they show it. -/
def State.coldState (s : State) (cause : Nat) : State :=
  let keep := fun (k : Nat) => k == objKey 0x7101 2 || k == objKey 0x7101 3 || k == objKey 0x2005 1 || k == objKey 0x2005 2
    || k == objKey 0x6101 3 || k == objKey 0x7802 5
  let s' : State := { State.reset with
    pending := s.pending, stamp := 0, freeCtr := s.freeCtr, sent := s.sent, resOrder := s.resOrder,
    objs := s.objs.filter (fun e => keep e.1),
    hbm := (s.hbm.filter (fun e => e.2.retiring || e.2.use == .retired)).map
      (fun e => (e.1, { HbmPage.free with use := .retired, corrected := e.2.corrected })),
    sill := (s.sill.filter (fun e => e.2.state == 4 || e.2.retiring)).map
      (fun e => (e.1, { SillPage.free with state := 4, corrected := e.2.corrected })),
    bays := (s.bays.filter (fun e => e.2.out)).map (fun e => (e.1, { Bay.inService with out := true })),
    dies := (s.dies.map (fun e => (e.1, { Die.fresh with wear := e.2.wear, wearSeconds := e.2.wearSeconds, clock := e.2.wear }))).filter
      (fun e => decide (e.2 ≠ Die.fresh)),
    efyth := { Efyth.reset with bank0 := s.efyth.bank0, bank1 := s.efyth.bank1 },
    fault := { FaultSt.reset with permanent := s.fault.permanent },
    power := { Power.reset with cleanShutdown := cause == 0x0710 },
    boot := { Boot.reset with straps := s.boot.straps, fuses := s.boot.fuses, flash := s.boot.flash,
                              coldResets := s.boot.coldResets },
    pins := { Pins.reset with resetN := s.pins.resetN, pgSoc := s.pins.pgSoc, pgBeam := s.pins.pgBeam, shedN := s.pins.shedN,
                              vrAlertN := s.pins.vrAlertN, refLost := s.pins.refLost,
                              jtagTest := s.pins.jtagTest } }
  s'.setCnt 0x7101 2 cause

/-- Enter a cold reset; a request within a cold reset is absorbed (R474). -/
def State.enterColdReset (s : State) (cause : Nat) : State :=
  if s.boot.phase = .coldReset then s else s.coldState cause

/-! ### The image check (R490, R491) -/

/-- Little-endian number at a byte offset of an image. -/
def imgNat (img : List Byte) (off n : Nat) : Nat := leNat (slice img off n)

/-- The image digest of R490, and its security version and firmware version. -/
def imageDigest (img : List Byte) : List Byte := sm3 (slice img 0 256)
def imageSecurity (img : List Byte) : Nat := imgNat img 6 2
def imageVersion (img : List Byte) : Nat := imgNat img 8 4
def imageBody (img : List Byte) : List Byte := slice img 4096 (imgNat img 12 4)

/-- The checks of R491 in order: 0, or the code of the first failure. -/
def checkImage (f : Fuses) (img : List Byte) : Nat :=
  let len := imgNat img 12 4
  if imgNat img 0 4 ≠ 0x464B4D38 ∨ imgNat img 4 2 ≠ 1 ∨ len < 1 ∨ 25161728 < len ∨ len ≤ imgNat img 16 4 then 0x070C
  else if sm3 (slice img 64 64) ≠ f.keyDigest then 0x0605
  else if !sm2Verify identFw (slice img 64 64) (slice img 0 192) (slice img 192 64) then 0x0602
  else if imageSecurity img < f.minSecurity then 0x0604
  else if sm3 (imageBody img) ≠ slice img 32 32 then 0x0602
  else 0

/-! ### Measurement slots (R505) -/

def State.straps (s : State) : Nat := s.boot.straps % 64
def State.bootStrap (s : State) : Nat := let b := bits s.straps 4 3; if b = 3 then 0 else b

/-- Slot 2. -/
def State.slot2 (s : State) : List Byte :=
  sm3 (leBytes 1 s.straps ++ leBytes 1 (b2n s.boot.debug) ++ leBytes 2 s.boot.fuses.minSecurity ++ leBytes 1 s.boot.source
    ++ zeroBytes 11)

/-- Slots 0 to 3 recomputed and slots 4 to 7 zero (R496). -/
def State.setSlots (s : State) (imageSlot : List Byte) : State :=
  { s with boot := { s.boot with slots :=
      [fitBytes 32 s.boot.fuses.romDigest, imageSlot, s.slot2, s.storeDigest] ++ List.replicate 4 (zeroBytes 32) } }

/-! ### Steps 5 to 12 (R494, R496) -/

/-- Pages of the host staging area (R372): the first ones of stack H0 after the firmware's. -/
def stagingPages (n : Nat) : List Nat := List.range n

/-- Firmware pages that the boot sets aside: the 68 of the receive state (R284) and the 64 of the copy-on-write pool (R352), below the copy
pool of stack 15 (assumption log 126). -/
def firmwareSet : List Nat := rangeFrom (hbmPages - 1024 - 132) 132

/-- HBM is zeroed but for the staging area after a warm reset; what retires is retired; the staging pages are set aside, and those of the
firmware. -/
def State.zeroDevice (s : State) (keepStaging : Bool) : State :=
  let n := s.num 0x4806 1
  let lo := if keepStaging then hbmBase + min n s.boot.staging * pageBytes else hbmBase
  let s := { s with mem := Assoc.clearRange s.mem lo hbmEnd, boot := { s.boot with staging := n },
                    hbm := (s.hbm.filter (fun e => e.2.retiring || e.2.use == .retired || !e.2.corrected.isEmpty)).map (fun e =>
                      (e.1, { e.2 with use := if e.2.retiring ∨ e.2.use = .retired then .retired else .free, retiring := false })) }
  let put := fun (u : PageUse) (s : State) (p : Nat) => if (s.hbmPage p).use = .free then s.setHbmPage p { s.hbmPage p with use := u } else s
  firmwareSet.foldl (put .firmware) ((stagingPages n).foldl (put .staging) s)

/-- Load object 0x5002.01 into the CONFIG words (R421). -/
def State.loadConfig (s : State) : State :=
  let b := s.blob 0x5002 1
  { s with intr := { s.intr with config :=
      ((List.range 512).map (fun n => (n, leNat (slice b (2 * n) 2)))).filter (fun e => e.2 != 0) } }

/-- The schedule table of the store is active from reset (R238), and after a cold reset its interleave modes are in force (R176); PLCA
settings are those of the record. -/
def State.loadSettings (s : State) : State :=
  let s := { s with efyth := { s.efyth with plca := (rangeFrom 1 5).map (s.num 0x1102) } }
  if s.boot.warm then s
  else
    let b := s.blob 0x3201 1
    ({ s with sched := { s.sched with active := if b.all (fun x => x == 0) then [] else words 8 b } } : State).loadModes

/-- Steps 10 to 12: the firmware runs. -/
def State.startFirmware (s : State) (img : List Byte) : State :=
  let s := s.setObj 0x1003 2 (.num (imageVersion img))
  let s := s.setObj 0x1003 3 (.blob (imageDigest img))
  let s := s.setSlots (imageDigest img)
  let s := (s.loadConfig.loadSettings).leaveOrdered
  let s := { s with
    cores := (List.range 4).map (fun k => (k, { Core.zero with pc := imgNat img 16 4, running := true })),
    boot := { s.boot with phase := .running, image := img, deviceId := s.num 0x1004 1 / 8 * 8 + s.straps % 8,
                          fetched := [], got := [], requests := 0, restartWait := false },
    fault := { s.fault with watchdogOn := true, lastKick := s.stamp } }
  let s := s.setCnt 0x7801 3 ((s.stamp - s.boot.bootStart) / ms)
  s.recoveryOff.afterBoot

/-! ### Recovery fetch (R497 to R499) -/

/-- MAC that recovery requests go to. -/
def State.recoveryMac (s : State) : Nat := let m := s.num 0x1104 1; if m = 0 then 0xFFFFFFFFFFFF else m

/-- The device field of requests: the ID of the record, or the strapped position. -/
def State.recoveryDevice (s : State) : Nat :=
  match s.newestBank with
  | some _ => s.num 0x1004 1 / 8 * 8 + s.straps % 8
  | none => s.straps % 8

/-- Bytes of the whole image once its header is known. -/
def State.fetchLen (s : State) : Nat := s.boot.imageLen

/-- Bytes of the current window that are missing from the first gap on, and where that is. -/
def Boot.missing (b : Boot) : Nat × Nat :=
  let first := b.window + (match (List.range b.windowLen).find? (fun i => !(b.got.any (fun e =>
    decide (e.1 ≤ i) && decide (i < e.2)))) with | some i => i | none => b.windowLen)
  (first, max 1024 (b.window + b.windowLen - first))

/-- Send a request for the current window from its first missing byte (Table 16-5): of a recovery to the recovery address at level 2, of an
update to its station at level 4, with no reason (R497, R498, R501). -/
def State.recoveryRequest (s : State) : State :=
  let b := s.boot
  let m := b.missing
  let p := leBytes 8 b.fuses.serial ++ leBytes 4 b.fuses.romVersion ++ leBytes 2 (if b.updateFrom.isSome then 0 else b.failCode) ++ zeroBytes 2
    ++ leBytes 4 m.2 ++ leBytes 4 b.imageLen
  let h : EfythHdr := { EfythHdr.zero with
    seq := s.efyth.ownSeq, offset := m.1, device := if b.updateFrom.isSome then s.deviceId else s.recoveryDevice }
  let s := s.efythSend (b.updateFrom.getD s.recoveryMac) 6 (if b.updateFrom.isSome then 4 else 2) h p
  { s with efyth := { s.efyth with ownSeq := (s.efyth.ownSeq + 1) % 65536 },
           boot := { s.boot with requests := s.boot.requests + 1, requestStamp := s.stamp } }

/-- A fetch starts at offset 0 with the largest window. -/
def Boot.fetchFresh (b : Boot) : Boot :=
  { b with fetched := [], window := 0, windowLen := 65536, got := [], imageLen := 0, requests := 0, restartWait := false }

/-- The PLCA settings of the record, which are those in force once the port starts; CSMA/CD where both banks fail (R498). -/
def State.recordPlca (s : State) : List Nat :=
  match s.newestBank with
  | some _ => (rangeFrom 1 5).map (s.num 0x1102)
  | none => [255, 8, 32, 0, 128]

/-- Start a recovery fetch for a reason: 0 for a strap (R497). -/
def State.startRecovery (s : State) (code source : Nat) : State :=
  let s := (s.setCnt 0x7801 2 code).setCnt 0x7801 1 source
  let s := s.recoveryOn.enterOrdered 3
  let s := { s with efyth := { s.efyth with plca := s.recordPlca },
                    boot := { s.boot.fetchFresh with phase := .recovery, source := source, failCode := code } }
  s.recoveryRequest

/-- Steps 8 to 12 from the flash, or a recovery fetch where the image fails. -/
def State.bootImage (s : State) (img : List Byte) (keepStaging : Bool) : State :=
  let code := checkImage s.boot.fuses img
  if code = 0 then ((s.setCnt 0x7801 1 s.boot.source).zeroDevice keepStaging).startFirmware img
  else s.startRecovery code 1

/-- SHED_N that is low as a boot begins enters shed then (R453, R521). -/
def State.shedAtBoot (s : State) : State :=
  if s.pins.shedN || s.power.shedPin then s
  else ((({ s with power := { s.power with shed := true, shedPin := true } } : State).applyClocks).bump 0x6040 5).signal 3 none

/-- The warm-reset boot of R496: steps 5 to 12. After P3 all of HBM is zeroed, the staging area with it (R372, R441). -/
def State.warmBoot (s : State) : State :=
  if s.boot.phase != .warmBoot then s
  else
    let s := if s.power.device = 3 then s.zeroRange hbmBase hbmEnd else s
    let s := ({ s with power := { s.power with device := 0, waking := false } } : State).shedAtBoot
    let s := ((s.setObj 0x7801 1 (.num 0)).setCnt 0x7801 2 0).setObj 0x7820 2 (.blob (zeroBytes 384))
    let s := { s with boot := { s.boot with source := 0, failCode := 0, bootStart := s.cnt 0x7101 3, debug := s.boot.debugNext, warm := true } }
    s.bootImage s.boot.flash true

/-! ### Firmware faults (R475) -/

/-- A firmware fault: severity 5, a crash dump, an announced warm reset. -/
def State.firmwareFault (s : State) : State :=
  let s := (s.deduct 100).log { code := 0x0708, severity := 5, unitKind := 10, action := 7 }
  (s.bump 0x7010 6).enterWarmReset 0x0708 true true

end Sys2Proof.Machine
end

