-- ==== Sys2Proof/Machine/Float.lean ====
section
/-! DEFINITION. IEEE 754 binary32 with round to nearest even, subnormals honoured (R25), over raw words held as naturals;
the units of R138 and the sums of R139. -/

namespace Sys2Proof.Machine

/-- A decoded FP32 value: (-1)^sign × mag × 2^exp when finite. -/
inductive FVal where
  | nan
  | inf (sign : Bool)
  | fin (sign : Bool) (mag : Nat) (exp : Int)
deriving DecidableEq, Repr

def f32NaN : Nat := 0x7FC00000
def f32Inf (s : Bool) : Nat := b2n s * 2 ^ 31 + 0x7F800000
def f32One : Nat := 0x3F800000
/-- The largest finite value with a sign. -/
def f32Max (s : Bool) : Nat := b2n s * 2 ^ 31 + 0x7F7FFFFF

/-- Decode (R80: subnormals have exponent -149). -/
def fdec (w : Nat) : FVal :=
  let s := w.testBit 31
  let f := bits w 30 23
  let t := bits w 22 0
  if f = 255 then (if t = 0 then .inf s else .nan)
  else if f = 0 then .fin s t (-149)
  else .fin s (t + 2 ^ 23) ((f : Int) - 150)

def fIsNaN (w : Nat) : Bool := match fdec w with | .nan => true | _ => false
def fIsInf (w : Nat) : Bool := match fdec w with | .inf _ => true | _ => false
def fNonfinite (w : Nat) : Bool := fIsNaN w || fIsInf w
def fIsZero (w : Nat) : Bool := w % 2 ^ 31 = 0
def fNeg (w : Nat) : Nat := if w < 2 ^ 31 then w + 2 ^ 31 else w - 2 ^ 31

/-- m ÷ 2^n rounded to nearest even; `sticky` says that more lies below m. -/
def rneShift (m n : Nat) (sticky : Bool) : Nat :=
  let q := m / 2 ^ n
  let r := m % 2 ^ n
  let h := 2 ^ n / 2
  if n = 0 then q
  else if r > h ∨ (r = h ∧ (sticky ∨ q % 2 = 1)) then q + 1 else q

/-- Pack a magnitude q × 2^ulp, where q ≤ 2^24 and either q ≥ 2^23 or ulp is -149; overflow packs as infinity. -/
def fpack (s : Bool) (q : Nat) (ulp : Int) : Nat :=
  let raw := if q < 2 ^ 23 then q else ((ulp + 149).toNat) * 2 ^ 23 + q
  if raw ≥ 0x7F800000 then f32Inf s else b2n s * 2 ^ 31 + raw

/-- Round (-1)^s × (m + sticky bits) × 2^e to FP32, nearest even, overflow to infinity. -/
def fround (s : Bool) (m : Nat) (e : Int) (sticky : Bool) : Nat :=
  if m = 0 then b2n s * 2 ^ 31
  else
    let lg := (Nat.log2 m : Int) + e
    let ulp := max (lg - 23) (-149)
    let n := ulp - e
    let q := if n ≤ 0 then m * 2 ^ (-n).toNat else rneShift m n.toNat sticky
    fpack s q ulp

def fadd (a b : Nat) : Nat :=
  match fdec a, fdec b with
  | .nan, _ => f32NaN
  | _, .nan => f32NaN
  | .inf s, .inf t => if s = t then f32Inf s else f32NaN
  | .inf s, _ => f32Inf s
  | _, .inf t => f32Inf t
  | .fin s m e, .fin t n f =>
    let lo := min e f
    let x : Int := (m * 2 ^ (e - lo).toNat : Nat)
    let y : Int := (n * 2 ^ (f - lo).toNat : Nat)
    let z := (if s then -x else x) + (if t then -y else y)
    if z = 0 then (if s && t then 2 ^ 31 else 0)
    else fround (decide (z < 0)) z.natAbs lo false

def fsub (a b : Nat) : Nat := if fIsNaN b then f32NaN else fadd a (fNeg b)

def fmul (a b : Nat) : Nat :=
  match fdec a, fdec b with
  | .nan, _ => f32NaN
  | _, .nan => f32NaN
  | .inf s, .inf t => f32Inf (xor s t)
  | .inf s, .fin t n _ => if n = 0 then f32NaN else f32Inf (xor s t)
  | .fin s m _, .inf t => if m = 0 then f32NaN else f32Inf (xor s t)
  | .fin s m e, .fin t n f => fround (xor s t) (m * n) (e + f) false

/-- The correctly rounded quotient (R157). -/
def fdiv (a b : Nat) : Nat :=
  match fdec a, fdec b with
  | .nan, _ => f32NaN
  | _, .nan => f32NaN
  | .inf _, .inf _ => f32NaN
  | .inf s, .fin t _ _ => f32Inf (xor s t)
  | .fin s _ _, .inf t => b2n (xor s t) * 2 ^ 31
  | .fin s m e, .fin t n f =>
    if n = 0 then (if m = 0 then f32NaN else f32Inf (xor s t))
    else
      let num := m * 2 ^ 64
      fround (xor s t) (num / n) (e - f - 64) (num % n ≠ 0)

/-- recip of R138: recip(±0) is ±infinity. -/
def frecip (a : Nat) : Nat := fdiv f32One a

/-- Integer square root, one bit a step. -/
def isqrtAux : Nat → Nat → Nat → Nat
  | 0, _, r => r
  | k + 1, n, r => let c := r + 2 ^ k; isqrtAux k n (if c * c ≤ n then c else r)

def isqrt (n : Nat) : Nat := isqrtAux (Nat.log2 n / 2 + 1) n 0

def fsqrt (a : Nat) : Nat :=
  match fdec a with
  | .nan => f32NaN
  | .inf s => if s then f32NaN else f32Inf false
  | .fin s m e =>
    if m = 0 then a
    else if s then f32NaN
    else
      let odd := e % 2 ≠ 0
      let m' := (if odd then m * 2 else m) * 2 ^ 64
      let e' := (if odd then e - 1 else e) - 64
      let r := isqrt m'
      fround false r (e' / 2) (r * r ≠ m')

/-- rsqrt of R138. -/
def frsqrt (a : Nat) : Nat :=
  match fdec a with
  | .nan => f32NaN
  | .inf s => if s then f32NaN else 0
  | .fin s m e =>
    if m = 0 then f32Inf s
    else if s then f32NaN
    else
      let odd := e % 2 ≠ 0
      let m' := if odd then m * 2 else m
      let e' := if odd then e - 1 else e
      -- sqrt(2^200 / m') = r, so rsqrt = r * 2^(-100) * 2^(-e'/2)
      let q := 2 ^ 200 / m'
      let r := isqrt q
      fround false r (-100 - e' / 2) (r * r * m' ≠ 2 ^ 200)

/-- ln 2 in 200 fraction bits, rounded down. -/
def ln2Fix : Nat := 0xB17217F7D1CF79ABC9E3B39803F2F6AF40F343267298B62D8A

/-- Taylor terms of exp(r) in 200 fraction bits: `t` is the current term, `k` its number. -/
def expTerms : Nat → Nat → Nat → Nat → Nat → Nat
  | 0, _, _, _, acc => acc
  | f + 1, r, t, k, acc =>
    let t' := t * r / 2 ^ 200 / (k + 1)
    expTerms f r t' (k + 1) (acc + t')

/-- exp of R138, formed in 200 fraction bits and then rounded (assumption log 23). -/
def fexp (a : Nat) : Nat :=
  match fdec a with
  | .nan => f32NaN
  | .inf s => if s then 0 else f32Inf false
  | .fin s m e =>
    if m = 0 then f32One
    else if (Nat.log2 m : Int) + e ≥ 7 then (if s then 0 else f32Inf false)
    else if (Nat.log2 m : Int) + e < -40 then fround false (2 ^ 60 + (if s then 0 else 1) - (if s then 1 else 0)) (-60) true
    else
      let sh := e + 200
      let x : Int := if sh ≥ 0 then ((m * 2 ^ sh.toNat : Nat) : Int) else ((m / 2 ^ (-sh).toNat : Nat) : Int)
      let x := if s then -x else x
      let k := x / (ln2Fix : Int)
      let r := (x - k * (ln2Fix : Int)).toNat
      let y := expTerms 60 r (2 ^ 200) 0 (2 ^ 200)
      fround false y (k - 200) true

/-- a < b, false on NaN. -/
def flt (a b : Nat) : Bool :=
  match fdec a, fdec b with
  | .nan, _ => false
  | _, .nan => false
  | .inf s, .inf t => s && !t
  | .inf s, _ => s
  | _, .inf t => !t
  | .fin s m e, .fin t n f =>
    let lo := min e f
    let x : Int := (m * 2 ^ (e - lo).toNat : Nat)
    let y : Int := (n * 2 ^ (f - lo).toNat : Nat)
    decide ((if s then -x else x) < (if t then -y else y))

/-- FP32 of an integer. -/
def fofInt (i : Int) : Nat := fround (decide (i < 0)) i.natAbs 0 false

/-- Round a non-negative fraction num/den to FP32. -/
def fofFrac (num den : Nat) : Nat :=
  if den = 0 then f32Inf false else fround false (num * 2 ^ 200 / den) (-200) (num * 2 ^ 200 % den ≠ 0)

/-- The exact value of a finite word; 0 otherwise. -/
def frat (w : Nat) : Rat :=
  match fdec w with
  | .fin s m e =>
    let v : Rat := if e ≥ 0 then ((m * 2 ^ e.toNat : Nat) : Rat) else ((m : Nat) : Rat) / ((2 ^ (-e).toNat : Nat) : Rat)
    if s then -v else v
  | _ => 0

/-- p[l] = p[l] + x[l] over the front of p. -/
def addRow : List Nat → List Nat → List Nat
  | [], _ => []
  | p, [] => p
  | a :: p, x :: xs => fadd a x :: addRow p xs

def foldTree : Nat → List Nat → List Nat
  | 0, p => p
  | f + 1, p => if p.length ≤ 1 then p else
      let s := p.length / 2
      foldTree f (List.zipWith fadd (p.take s) (p.drop s))

/-- ordered_sum (R139). -/
def orderedSum (width : Nat) (x : List Nat) : Nat :=
  nth 0 (foldTree 16 ((chunks width x).foldl addRow (List.replicate width 0))) 0

/-- row_max (R139): NaN if any element is NaN. -/
def rowMax : List Nat → Nat
  | [] => f32Inf true
  | [a] => if fIsNaN a then f32NaN else a
  | a :: l => let r := rowMax l
    if fIsNaN a || fIsNaN r then f32NaN else if flt a r then r else a

/-- BF16 to FP32, exact. -/
def bf16To (w : Nat) : Nat := w * 65536

/-- FP32 result as every store converts it (R86, R87, R138): infinities become the largest finite value. -/
def fstore (w : Nat) : Nat := if fIsNaN w then f32NaN else match fdec w with | .inf s => f32Max s | _ => w

end Sys2Proof.Machine
end

