-- ==== Sys2Proof/Machine/Values.lean ====
section
/-! DEFINITION. Legal values (R23, R398): the value that a write of given bytes puts into an object, and whether it was clamped. -/

namespace Sys2Proof.Machine

/-- The nearest legal value of one span. -/
def spanNear (v : Int) (p : Int × Int) : Int := if v < p.1 then p.1 else if p.2 < v then p.2 else v

def intDist (a b : Int) : Nat := (a - b).natAbs

/-- The nearest legal value of several spans; the lower at equal distance (R398). -/
def spansNear (v : Int) : List (Int × Int) → Int
  | [] => v
  | p :: l => l.foldl (fun b q =>
      let c := spanNear v q
      if intDist c v < intDist b v ∨ (intDist c v = intDist b v ∧ c < b) then c else b) (spanNear v p)

def OTy.isSigned : OTy → Bool
  | .i32 => true
  | _ => false

/-- Well-formed UTF-8 at the head of a byte list: length of the character, or none (R398). -/
def utf8Head (l : List Byte) : Option Nat :=
  let at_ := fun k => (nth 0 l k).toNat
  let cont := fun k => decide (k < l.length) && decide (0x80 ≤ at_ k) && decide (at_ k ≤ 0xBF)
  let a := at_ 0
  let b := at_ 1
  if l.isEmpty then none
  else if a < 0x80 then some 1
  else if 0xC2 ≤ a ∧ a ≤ 0xDF then (if cont 1 then some 2 else none)
  else if 0xE0 ≤ a ∧ a ≤ 0xEF then
    if cont 1 && cont 2 && (a != 0xE0 || decide (0xA0 ≤ b)) && (a != 0xED || decide (b ≤ 0x9F)) then some 3 else none
  else if 0xF0 ≤ a ∧ a ≤ 0xF4 then
    if cont 1 && cont 2 && cont 3 && (a != 0xF0 || decide (0x90 ≤ b)) && (a != 0xF4 || decide (b ≤ 0x8F)) then some 4 else none
  else none

/-- Each byte that belongs to no well-formed character becomes 0x3F. The fuel bounds the bytes. -/
def utf8Fix : Nat → List Byte → List Byte
  | 0, _ => []
  | f + 1, l =>
    match l with
    | [] => []
    | _ :: t => match utf8Head l with
      | some n => l.take n ++ utf8Fix f (l.drop n)
      | none => 0x3F :: utf8Fix f t

/-- Cut at the last whole character that fits `n` bytes. -/
def utf8Cut : Nat → Nat → List Byte → List Byte
  | 0, _, _ => []
  | f + 1, n, l =>
    match utf8Head l with
    | some k => if k ≤ n then l.take k ++ utf8Cut f (n - k) (l.drop k) else []
    | none => []

/-- A string brought to its range. -/
def textValue (n : Nat) (b : List Byte) : List Byte := let f := utf8Fix b.length b; utf8Cut (f.length + 1) n f

/-- A raw FP32 value brought to a range of non-negative ends (R398). -/
def floatNear (lo hi dflt w : Nat) : Nat :=
  if fIsNaN w then dflt else if flt w lo then lo else if flt hi w then hi else w

/-- A number of a row brought to its range. -/
def numNear (r : ORow) (n : Nat) : Nat :=
  match r.rng with
  | .any => if r.ty = .f32 then (if fIsNaN n then r.dflt.toNat else match fdec n with | .inf s => f32Max s | _ => n) else n
  | .spans l =>
    if r.ty.isSigned then ofSigned 32 (spansNear (toSigned 32 n) l) else (spansNear (n : Int) l).toNat
  | .enum l => if l.contains n then n else r.dflt.toNat
  | .float lo hi => floatNear lo hi r.dflt.toNat n
  | .mult m =>
    let d := n / m * m
    if n - d ≤ d + m - n ∨ 2 ^ (8 * r.ty.size) ≤ d + m then d else d + m
  | .mask m => n &&& m
  | .fixed _ => n
  | .text _ => n

/-- The value in force after a write of bytes, and whether it was clamped. A longer number loses its high bytes, a shorter one is
extended with zeros (R398). -/
def clampValue (r : ORow) (b : List Byte) : ObjVal × Bool :=
  match r.ty with
  | .str => (match r.rng with
    | .text n => let t := textValue n b; (.blob t, t != b)
    | _ => (.blob b, false))
  | .blob => (match r.rng with
    | .fixed n => (.blob (fitBytes n b), b.length != n)
    | _ => (.blob b, false))
  | _ =>
    let k := r.ty.size
    let n := leNat (b.take k)
    let v := numNear r n
    (.num v, v != n || b.length != k)

/-- A number written to an object, clamped and counted (R23): for the rows that are writes of one object. -/
def State.clampNum (s : State) (idx sub v : Nat) : State × Nat :=
  match rowFor idx sub with
  | none => (s, v)
  | some r =>
    let n := numNear r v
    if n = v then (s, v) else (s.countClamp idx, n)

end Sys2Proof.Machine
end

