-- ==== Sys2Proof/Machine/Boot.lean ====
section
/-! DEFINITION. Boot (chapter 16): cold boot, the strap hold, recovery fetch, firmware update, the fuses and the measurement
slots. -/

namespace Sys2Proof.Machine

/-! ### Cold boot (R494) -/

/-- Units out of service that test good at boot are restored (R481). -/
def State.testUnits (s : State) (good : List Nat) : State :=
  let back := fun (k : Nat) => good.contains k
  let s := { s with
    fault := { s.fault with permanent := s.fault.permanent.filter (fun e => !back e.1) },
    bays := Assoc.mapVals Bay.inService (fun b x => if back b then { x with out := false } else x) s.bays }
  -- bays and paths that stay out of service read so
  (List.range 15).foldl (fun s p =>
    if Assoc.get 0 s.fault.permanent (pathKey p) = 0 then s else s.setCnt 0x2004 (p + 1) 2) s

/-- What the boot ROM finds outside the part. -/
def State.sample (s : State) (env : BootEnv) : State :=
  let fuses := env.fuses.getD s.boot.fuses
  let banks := env.banks.getD (s.efyth.bank0, s.efyth.bank1)
  let raw := env.straps % 64
  let dbg := raw.testBit 5 && !fuses.debugLock
  { s with
    stamp := 0,
    boot := { s.boot with straps := raw, fuses := fuses, flash := env.flash.getD s.boot.flash, debug := dbg, debugNext := dbg,
                          source := 0, failCode := 0, bootStart := 0, coldResets := (s.boot.coldResets + 1) % 2 ^ 32,
                          coldStamp := 0, deviceId := raw % 8, warm := false },
    efyth := { s.efyth with bank0 := banks.1, bank1 := banks.2 },
    intr := Intr.reset,
    pins := { s.pins with resetN := true, pgSoc := true, pgBeam := [true, true, true, true] } }

/-- Object 0x7802.05 reads the version of the image in a flash that the boot finds. -/
def State.noteFlash (s : State) (flash : Option (List Byte)) : State :=
  match flash with
  | some img => s.setObj 0x7802 5 (.num (imageVersion img))
  | none => s

/-- Step 3: slots 0 and 2. -/
def State.romSlots (s : State) : State :=
  let l := fitBytes 32 s.boot.fuses.romDigest :: zeroBytes 32 :: s.slot2 :: List.replicate 5 (zeroBytes 32)
  { s with boot := { s.boot with slots := l } }

/-- The start-up health test failed three times: the boot stops before step 5 and asserts STAT0 (R508). Each failure counts, and signals
source 11 (assumption log 162). -/
def State.stopBoot (s : State) : State :=
  let s := { s with boot := { s.boot with phase := .rngStopped, rngBad := true } }
  let s := (List.range 3).foldl (fun s _ => (s.bump 0x7830 2).signal 11 none) s
  (s.requestUnit 200 .faultIndication 1).1

def State.holdBoot (s : State) : State := { s with boot := { s.boot with phase := .hold } }

/-- Step 5 onward as the strap says (R492). -/
def State.bootFrom (s : State) : State :=
  let s := s.loadStore
  if s.bootStrap = 1 then s.startRecovery 0 2 else s.bootImage s.boot.flash false

/-- Steps 1 to 4, whose end is a hold, a stopped boot or step 5. A power-up finds no earlier cause (R533). -/
def State.bootRom (s : State) (env : BootEnv) : State :=
  let s := ((((s.sample env).enterOrdered 1).noteFlash env.flash).testUnits env.goodUnits).romSlots.shedAtBoot
  let s := if s.cnt 0x7101 2 = 0 then s.setCnt 0x7101 2 0x0713 else s
  let s := if bits s.straps 4 3 = 3 then s.log { code := 0x070C } else s
  if !env.rngPass then s.stopBoot
  else if s.bootStrap = 2 then s.holdBoot
  else s.bootFrom

/-- Step 12 after a cold reset: the context epochs are drawn (R215). -/
def State.drawEpochs (s : State) (l : List Nat) : State :=
  { s with epochs := (l.take 4096).zipIdx.foldl (fun a e => Assoc.set 0 a e.2 (e.1 % 65536)) [] }

/-- COLD_BOOT (R494): cold reset ends once RESET_N and every power-good input are high. The epochs are drawn with the boot. -/
def execColdBoot (dt : Nat) (env : BootEnv) (s : State) : Host.Outcome State Fault Refusal :=
  let s := s.elapse dt
  .next (if s.boot.phase = .coldReset ∧ env.powered = true ∧ s.pins.refLost = false then
    (s.bootRom env).drawEpochs (if env.rngPass then env.epochDraws else []) else s)

/-! ### The strap hold (R493) -/

/-- BOOT_CTL_UPDATE (R493). -/
def execBootCtlUpdate (dt v : Nat) (_place : Placement) (s : State) : Host.Outcome State Fault Refusal :=
  let s := s.elapse dt
  .next (if s.boot.phase = .hold then
    match v % 4 with
    | 1 => let s := s.loadStore
           s.bootImage s.boot.flash false
    | 2 => s.loadStore.startRecovery 0 2
    | _ => s
  else s)

/-! ### Recovery fetch (R498 to R500) -/

/-- Byte i of the window is here. -/
def Boot.has (b : Boot) (i : Nat) : Bool := b.got.any (fun e => decide (e.1 ≤ i) && decide (i < e.2))

/-- The image length that a header gives (Table 16-2). -/
def headerLen (img : List Byte) : Nat := 4096 + min 25161728 (max 1 (imgNat img 12 4))

/-- The bytes of the window that the image has: its header, once it is here, ends the first window early. -/
def Boot.windowNeed (b : Boot) : Nat :=
  if b.imageLen = 0 && (List.range 16).all b.has then min b.windowLen (headerLen b.fetched) else b.windowLen

/-- The window is covered. -/
def Boot.windowDone (b : Boot) : Bool := (List.range b.windowNeed).all b.has

/-- Put bytes at an offset of the image being fetched. -/
def putAt (l : List Byte) (off : Nat) (b : List Byte) : List Byte :=
  (l ++ zeroBytes (off - l.length)).take off ++ b ++ l.drop (off + b.length)

/-- The image of a recovery is here: it boots and is then written into the flash, or it is discarded and the fetch starts again 1 s later
(R499, R500). -/
def State.recovered (s : State) (img : List Byte) : State :=
  let code := checkImage s.boot.fuses img
  if code = 0 then
    let s := ((s.setCnt 0x7801 1 s.boot.source).zeroDevice s.boot.warm).startFirmware img
    let s := { s with boot := { s.boot with flash := img } }
    let s := (s.setObj 0x7802 5 (.num (imageVersion img))).setCnt 0x7802 3 4
    s.signal 450 none
  else
    let s := s.log { code := code }
    { s with boot := { s.boot.fetchFresh with restartWait := true, failCode := code, requestStamp := s.stamp } }

/-- Check an image, program it, read it back (R501). `back`: what the region reads back and goes on to hold where that is not the image
(assumption log 29). -/
def State.updateFlash (s : State) (img : List Byte) (back : Option (List Byte)) : State :=
  let code := checkImage s.boot.fuses img
  if code != 0 then (s.setCnt 0x7802 3 5).setCnt 0x7802 4 code
  else match back with
    | some l =>
      let s := { s with boot := { s.boot with flash := l } }
      (s.setCnt 0x7802 3 5).setCnt 0x7802 4 0x070E
    | none =>
      let s := { s with boot := { s.boot with flash := img } }
      let s := (((s.setCnt 0x7802 3 4).setCnt 0x7802 4 0).setObj 0x7802 5 (.num (imageVersion img)))
      s.signal 450 none

/-- The image is here: that of an update goes on to the flash. -/
def State.fetchedImage (s : State) : State :=
  let img := s.boot.fetched.take s.boot.imageLen
  if s.boot.updateFrom.isSome then
    ({ s with boot := { s.boot.fetchFresh with updateFrom := none } } : State).updateFlash img s.boot.updateBack
  else s.recovered img

/-- The window is complete: the next one, or the end. The header fixes the length. -/
def State.nextWindow (s : State) : State :=
  let b := s.boot
  let len := if b.imageLen = 0 then headerLen b.fetched else b.imageLen
  let s := { s with boot := { b with imageLen := len } }
  let at_ := b.window + b.windowLen
  if len ≤ at_ then s.fetchedImage
  else
    ({ s with boot := { s.boot with window := at_, windowLen := min 65536 (len - at_), got := [], requests := 0 } } :
      State).recoveryRequest

/-- A fetch runs: of a recovery that does not wait to start again, or of an update. -/
def State.fetching (s : State) : Bool :=
  match s.boot.phase with
  | .recovery => !s.boot.restartWait
  | .running => s.boot.updateFrom.isSome
  | _ => false

/-- A recovery data frame is one of the fetch: from its station where one was named, with the device field of the requests, and within the
window (R498, R501; assumption log 163). -/
def State.fetchTakes (s : State) (m : EfythMsg) : Bool :=
  let b := s.boot
  let h := m.hdr
  let n := m.payload.length
  s.fetching && m.dst == b.fuses.macMgmt && m.typ.isNone && m.ok && b.updateFrom.all (fun a => a == m.src)
    && h.device == (if b.updateFrom.isSome then s.deviceId else s.recoveryDevice)
    && decide (n ≤ 1024) && n == h.length && decide (b.window ≤ h.offset) && decide (h.offset + n ≤ b.window + b.windowLen)

/-- RECOVERY_DATA (R498): bytes of the current window. -/
def execRecoveryData (dt : Nat) (msg : EfythMsg) (s : State) : Host.Outcome State Fault Refusal :=
  let s := s.elapse dt
  .next (if s.fetchTakes msg then
    let h := msg.hdr
    let b := s.boot
    let s := s.bump 0x1106 1
    let s := { s with boot := { b with fetched := putAt b.fetched h.offset msg.payload,
                                       got := b.got ++ [(h.offset - b.window, h.offset - b.window + msg.payload.length)] } }
    if s.boot.windowDone then s.nextWindow else s
  else s)

/-- RECOVERY_WINDOW_TIMEOUT (R499): requested again from the first missing byte, 10 s apart after 30 requests in a row. -/
def execRecoveryWindowTimeout (dt : Nat) (s : State) : Host.Outcome State Fault Refusal :=
  let s := s.elapse dt
  .next (
    let b := s.boot
    let due := b.requestStamp + (if b.requests ≤ 30 then 2 else 10) * sec
    if s.fetching ∧ due ≤ s.stamp then
      let s := if b.requests = 30 then s.log { code := 0x070D } else s
      s.recoveryRequest
    else s)

/-- RECOVERY_FETCH_RESTART (R499): 1 s after the image failed. -/
def execRecoveryFetchRestart (dt : Nat) (s : State) : Host.Outcome State Fault Refusal :=
  let s := s.elapse dt
  .next (if s.boot.phase = .recovery ∧ s.boot.restartWait = true ∧ s.boot.requestStamp + sec ≤ s.stamp then
    ({ s with boot := { s.boot with restartWait := false } } : State).recoveryRequest else s)

/-! ### Firmware update (R501, R502) -/

/-- An update from the host staging area. -/
def State.actFirmwareUpdate (s : State) (len : Nat) (back : Option (List Byte)) : State :=
  let a := s.clampNum 0x7802 1 len
  a.1.updateFlash (a.1.readBytes stagingBase a.2) back

/-- FIRMWARE_UPDATE (R501): a second update requested while one runs is refused (R397). -/
def execFirmwareUpdate (dt len : Nat) (readBack : Bool) (s : State) : Host.Outcome State Fault Refusal :=
  .next ((s.elapse dt).whenUp fun s => if s.boot.updateFrom.isSome then s
    else s.actFirmwareUpdate len (if readBack then none else some []))

/-- An update from a station: its image is requested with the frames of R498 and R499. `back`: what the region will read back once
the image is programmed, where that is not the image. -/
def State.actFirmwareFetch (s : State) (mac : Nat) (back : Option (List Byte)) : State :=
  let a := s.clampNum 0x7802 2 mac
  let s := a.1.setCnt 0x7802 3 1
  ({ s with boot := { s.boot.fetchFresh with updateFrom := some a.2, updateBack := back } } : State).recoveryRequest

/-- FIRMWARE_UPDATE_FETCH (R501): a second update requested while one runs is refused (R397). -/
def execFirmwareUpdateFetch (dt mac : Nat) (left : List Byte) (readBack : Bool) (s : State) : Host.Outcome State Fault Refusal :=
  .next ((s.elapse dt).whenUp fun s => if s.boot.updateFrom.isSome then s
    else s.actFirmwareFetch mac (if readBack then none else some left))

/-! ### Fuses (R503, R509) -/

/-- Raise the minimum security version; the Nat is the answer's code. -/
def State.actRaiseMin (s : State) (v : Nat) : State × Nat :=
  let s := (s.clampNum 0x7803 2 v).1
  let run := min 64 (imageSecurity s.boot.image)
  if run ≤ s.boot.fuses.minSecurity then (s, 0x0606)
  else ({ s with boot := { s.boot with fuses := { s.boot.fuses with minSecurity := run } } }, 0)

/-- RAISE_MIN_SECURITY (R503). -/
def execRaiseMinSecurity (dt v : Nat) (s : State) : Host.Outcome State Fault Refusal :=
  .next ((s.elapse dt).whenUp fun s => (s.actRaiseMin v).1)

def State.actDebugLock (s : State) (v : Nat) : State :=
  let s := (s.clampNum 0x7804 2 v).1
  { s with boot := { s.boot with fuses := { s.boot.fuses with debugLock := true }, debugNext := false } }

/-- DEBUG_LOCK_BLOW (R509). -/
def execDebugLockBlow (dt v : Nat) (s : State) : Host.Outcome State Fault Refusal :=
  .next ((s.elapse dt).whenUp fun s => s.actDebugLock v)

/-! ### Measurement slots (R506) -/

/-- Extend a slot: the slot number is clamped to 4 to 7, and the value to 33 bytes, counted once. -/
def State.actExtend (s : State) (val : List Byte) : State :=
  let b := fitBytes 33 val
  let k0 := (nth 0 b 0).toNat
  let k := clampNat k0 4 7
  let s := if k = k0 ∧ val.length = 33 then s else s.countClamp 0x7812
  { s with boot := { s.boot with slots := s.boot.slots.set k (sm3 (nth (zeroBytes 32) s.boot.slots k ++ b.drop 1)) } }

/-- EXTEND_SLOT (R506). -/
def execExtendSlot (dt : Nat) (val : List Byte) (s : State) : Host.Outcome State Fault Refusal :=
  .next ((s.elapse dt).whenUp fun s => s.actExtend val)

end Sys2Proof.Machine
end

