-- ==== Sys2Proof/Machine/Grain.lean ====
section
/-! DEFINITION. Number formats of the planer and the tensor engine: the mixing function (R110, R112), grain elements and
blocks (R62 to R73), conversion into grain (R79 to R84) and out of grain (R85 to R87). Format codes are those of Table 2-8. -/

namespace Sys2Proof.Machine

/-! ### Keyed stochastic rounding -/

/-- The rounding key of Table 3-4. -/
structure RKey where
  seed : Nat
  tensor : Nat
  step : Nat
  row : Nat
  col : Nat
  site : Nat
  kchunk : Nat
deriving DecidableEq, Repr

def m64 : Nat := 2 ^ 64

def rotl64 (h n : Nat) : Nat := (h * 2 ^ n + h / 2 ^ (64 - n)) % m64

/-- absorb of R112. -/
def absorb (h w : Nat) : Nat :=
  let h := h ^^^ w
  let h := (h * 0xE3D14A972C6B58F1) % m64
  let h := h ^^^ (h >>> 29)
  (rotl64 h 17 + 0x9E3779B97F4A7C15) % m64

/-- The four 64-bit words of a key, bits [63:0] first. -/
def RKey.words (k : RKey) : List Nat :=
  [k.seed % m64, (k.step % 2 ^ 32) * 2 ^ 32 + k.tensor % 2 ^ 32, (k.row % 2 ^ 32) * 2 ^ 32 + k.col % 2 ^ 32,
   (k.kchunk % 2 ^ 16) * 2 ^ 48 + (k.site % 2 ^ 8) * 2 ^ 40]

/-- keyed_mix of R112. -/
def keyedMix (w : List Nat) : Nat :=
  let h := w.foldl absorb 0x7C29E5B3D801A4C9
  let h := h ^^^ (h >>> 32)
  let h := (h * 0x5B0E93C7A1F46D2B) % m64
  h ^^^ (h >>> 29)

def RKey.keyed16 (k : RKey) : Nat := keyedMix k.words % 2 ^ 16

/-- A magnitude shifted right by n ≥ 1 with its key (R113): 16 fraction bits are kept, the rest truncated. -/
def srMag (mag n : Nat) (k : RKey) : Nat :=
  let f := if n > 16 then mag / 2 ^ (n - 16) else mag * 2 ^ (16 - n)
  (f + k.keyed16) / 2 ^ 16

/-! ### Elements and blocks -/

/-- Constants of Tables 2-1 and 2-9. -/
structure GFmt where
  q : Nat
  emax : Nat
  signed : Bool
  nanCode : Nat
  bits : Nat
deriving DecidableEq, Repr

def gfmt (f : Nat) : GFmt :=
  match f with
  | 2 => ⟨6, 127, true, 0x80, 8⟩
  | 3 => ⟨7, 254, false, 0xFF, 8⟩
  | 4 => ⟨2, 7, true, 0x8, 4⟩
  | 5 => ⟨3, 14, false, 0xF, 4⟩
  | _ => ⟨14, 32767, true, 0x8000, 16⟩

def isGrain (f : Nat) : Bool := decide (2 ≤ f)

/-- Block data size (Table 2-1), and bytes of a BF16 or FP32 element. -/
def blockBytes (f : Nat) : Nat := 4 * (gfmt f).bits
def elemBytes (f : Nat) : Nat := if f = 0 then 2 else 4

/-- Blocks of the lines that go together (Table 2-5). -/
def groupBlocks (f : Nat) : Nat := if (gfmt f).bits = 4 then 64 else 32

/-- The integer of an element code; none for NaN (R64). -/
def elemValue (f code : Nat) : Option Int :=
  let g := gfmt f
  if code = g.nanCode then none
  else if g.signed then some (toSigned g.bits code) else some (code : Int)

/-- Element codes of one block as bytes (R67), and back. -/
def packNibbles : List Nat → List Byte
  | a :: b :: l => BitVec.ofNat 8 (a % 16 + 16 * (b % 16)) :: packNibbles l
  | [a] => [BitVec.ofNat 8 (a % 16)]
  | [] => []

def packElems (f : Nat) (l : List Nat) : List Byte :=
  match (gfmt f).bits with
  | 4 => packNibbles l
  | 8 => l.map (BitVec.ofNat 8)
  | _ => l.flatMap (leBytes 2)

def pairBytes : List Byte → List Nat
  | a :: b :: l => (a.toNat + 256 * b.toNat) :: pairBytes l
  | _ => []

def unpackElems (f : Nat) (l : List Byte) : List Nat :=
  match (gfmt f).bits with
  | 4 => l.flatMap (fun b => [b.toNat % 16, b.toNat / 16])
  | 8 => l.map (·.toNat)
  | _ => pairBytes l

/-! ### What the planer counts (Table 2-14) -/

structure PCount where
  sat : Nat := 0
  nan : Nat := 0
  inf : Nat := 0
  flush : Nat := 0
  nanBlock : Nat := 0
deriving DecidableEq, Repr

def PCount.zero : PCount := {}
def PCount.add (a b : PCount) : PCount :=
  { sat := a.sat + b.sat, nan := a.nan + b.nan, inf := a.inf + b.inf, flush := a.flush + b.flush,
    nanBlock := a.nanBlock + b.nanBlock }

/-! ### Into grain (R79 to R84) -/

/-- A BF16 or FP32 source value: NaN, or sign, infinity mark, sig and exp of R80. -/
structure Src where
  nan : Bool
  inf : Bool
  neg : Bool
  sig : Nat
  exp : Int
deriving DecidableEq, Repr

/-- Decode a source word of format 0 or 1; an infinity takes the largest finite magnitude (R81). -/
def decodeSrc (f w : Nat) : Src :=
  let fb := if f = 0 then 7 else 23
  let neg := w.testBit (fb + 8)
  let ex := bits w (fb + 7) fb
  let t := w % 2 ^ fb
  let bias : Int := 127 + fb
  if ex = 255 then
    if t = 0 then { nan := false, inf := true, neg := neg, sig := 2 ^ (fb + 1) - 1, exp := 254 - bias }
    else { nan := true, inf := false, neg := neg, sig := 0, exp := 0 }
  else if ex = 0 then { nan := false, inf := false, neg := neg, sig := t, exp := 1 - bias }
  else { nan := false, inf := false, neg := neg, sig := 2 ^ fb + t, exp := (ex : Int) - bias }

/-- How a conversion rounds: to nearest even, or keyed by element. -/
structure Rounding where
  keyed : Bool
  key : Nat → RKey

/-- round_mag of R80 over 16 fraction bits. -/
def roundMag (r : Rounding) (fixed : Nat) (sticky : Bool) (i : Nat) : Nat :=
  if r.keyed then (fixed + (r.key i).keyed16) / 2 ^ 16
  else
    let mag := fixed / 2 ^ 16
    let frac := fixed % 2 ^ 16
    if frac > 0x8000 ∨ (frac = 0x8000 ∧ (sticky ∨ mag % 2 = 1)) then mag + 1 else mag

/-- One element with the scale s: its code and its saturation. -/
def intoElem (f s : Nat) (r : Rounding) (i : Nat) (x : Src) : Nat × PCount :=
  let g := gfmt f
  if x.nan then (g.nanCode, { nan := 1 })
  else if x.sig = 0 then (0, {})
  else if !g.signed && x.neg then (0, { sat := 1 })
  else
    let sh : Int := x.exp + 127 - s + 16
    let n := (-sh).toNat
    let fixed := if sh > 31 then 0xFFFFFFFFFFFF else if sh ≥ 0 then x.sig * 2 ^ sh.toNat else x.sig / 2 ^ n
    let sticky := decide (sh < 0) && decide (x.sig % 2 ^ n ≠ 0)
    let mag := roundMag r fixed sticky i
    let c : PCount := if mag > g.emax then { sat := 1 } else {}
    let mag := min mag g.emax
    ((if x.neg then (2 ^ g.bits - mag) % 2 ^ g.bits else mag), c)

def intoElems (f s : Nat) (r : Rounding) : Nat → List (Option Src) → List Nat × PCount
  | _, [] => ([], {})
  | i, none :: l => let t := intoElems f s r (i + 1) l; (0 :: t.1, t.2)
  | i, some x :: l =>
    let a := intoElem f s r i x
    let t := intoElems f s r (i + 1) l
    (a.1 :: t.1, a.2.add t.2)

/-- floor(log2) of the largest nonzero, non-NaN magnitude. -/
def amaxLog (l : List (Option Src)) : Option Int :=
  l.foldl (fun b x => match x with
    | some y => if y.nan || y.sig == 0 then b
                else let lg := (Nat.log2 y.sig : Int) + y.exp
                     some (match b with | none => lg | some c => max c lg)
    | none => b) none

/-- The measured scale for a largest floor(log2) (R80, R117). -/
def measuredScale (q : Nat) (lg : Option Int) : Nat :=
  match lg with
  | none => 0
  | some l => (min 254 (max 0 (l - q + 127))).toNat

/-- Convert one block (none is padding): scale, codes, counts. -/
def intoBlock (f : Nat) (given : Option Nat) (r : Rounding) (l : List (Option Src)) : Nat × List Nat × PCount :=
  let real := l.filterMap id
  let infs := (real.filter (fun x => x.inf)).length
  if !real.isEmpty && real.all (fun x => x.nan) then
    (0xFF, l.map (fun x => if x.isSome then (gfmt f).nanCode else 0), { nan := real.length, nanBlock := 1 })
  else
    let s := match given with | some v => v | none => measuredScale (gfmt f).q (amaxLog l)
    let e := intoElems f s r 0 l
    (s, e.1, e.2.add { inf := infs })

/-! ### Out of grain, and between BF16 and FP32 (R85 to R87) -/

def bf16NaN : Nat := 0x7FC0

/-- A magnitude m × 2^e rounded to a significand of 8 bits: (q, exponent of its last place). -/
def bf16Mag (m : Nat) (e : Int) (keyed : Bool) (k : RKey) : Nat × Int :=
  let ulp := (Nat.log2 m : Int) + e - 7
  let n := ulp - e
  if n ≤ 0 then (m * 2 ^ (-n).toNat, ulp)
  else ((if keyed then srMag m n.toNat k else rneShift m n.toNat false), ulp)

/-- A finite value as BF16: flush below 2^-126, largest finite above range. -/
def toBf16 (neg : Bool) (m : Nat) (e : Int) (keyed : Bool) (k : RKey) : Nat × PCount :=
  let sgn := b2n neg * 2 ^ 15
  if m = 0 then (sgn, {})
  else
    let a := bf16Mag m e keyed k
    let q := if a.1 = 256 then 128 else a.1
    let u := if a.1 = 256 then a.2 + 1 else a.2
    -- value q × 2^u with 128 ≤ q: its exponent field is u + 7 + 127
    if u + 7 < -126 then (sgn, { flush := 1 })
    else if u + 7 > 127 then (sgn + 0x7F7F, { sat := 1 })
    else (sgn + (u + 134).toNat * 128 + (q - 128), {})

/-- A finite value as FP32, where it is exact but for overflow. -/
def toFp32 (neg : Bool) (m : Nat) (e : Int) : Nat × PCount :=
  let w := fround neg m e false
  if fIsInf w then (f32Max neg, { sat := 1 }) else (w, {})

/-- A grain element out of grain. -/
def outElem (f s code dst : Nat) (keyed : Bool) (k : RKey) : Nat × PCount :=
  match (if s = 0xFF then none else elemValue f code) with
  | none => (if dst = 0 then bf16NaN else f32NaN, { nan := 1 })
  | some v =>
    if v = 0 then (0, {})
    else if dst = 0 then toBf16 (decide (v < 0)) v.natAbs ((s : Int) - 127) keyed k
    else toFp32 (decide (v < 0)) v.natAbs ((s : Int) - 127)

/-- A BF16 or FP32 word into the other format. -/
def floatConv (src w : Nat) (keyed : Bool) (k : RKey) : Nat × PCount :=
  let x := decodeSrc src w
  let dst := 1 - src
  if x.nan then (if dst = 0 then bf16NaN else f32NaN, { nan := 1 })
  else if x.inf then (if dst = 0 then b2n x.neg * 2 ^ 15 + 0x7F7F else f32Max x.neg, { inf := 1 })
  else if dst = 0 then toBf16 x.neg x.sig x.exp keyed k
  else (w * 65536, {})

/-- How the engines store an FP32 result in a BF16 or FP32 destination (R138): infinities saturate, NaNs are counted. -/
def storeF (dst w : Nat) (keyed : Bool) (k : RKey) : Nat × PCount :=
  match fdec w with
  | .nan => (if dst = 0 then bf16NaN else f32NaN, { nan := 1 })
  | .inf s => (if dst = 0 then b2n s * 2 ^ 15 + 0x7F7F else f32Max s, { sat := 1 })
  | .fin s m e => if dst = 0 then toBf16 s m e keyed k else (w, {})

/-- A BF16 or FP32 word as FP32. -/
def asFp32 (f w : Nat) : Nat := if f = 0 then bf16To w else w

/-- Round an FP32 word to BF16 to nearest even and back, as a contribution travels (R311). -/
def bf16Round (w : Nat) : Nat :=
  bf16To (floatConv 1 w false { seed := 0, tensor := 0, step := 0, row := 0, col := 0, site := 0, kchunk := 0 }).1

end Sys2Proof.Machine
end

