-- ==== Sys2Proof/Machine/Engine.lean ====
section
/-! DEFINITION. What the engine commands share: performance counters (R423 to R426), operands in every region an engine reaches,
access checks and their reports (R46, R170), the reactions of the hardware checkers (R126, R161, R194, R461), and the frame of
an engine's meaning. -/

namespace Sys2Proof.Machine

/-! ### The counter window as a context reads it (R426) -/

def wordAt (l : List Byte) (off : Nat) : Nat := leNat (slice l off 8)

/-- A context's read of 8 bytes at an offset of the counter and sampling window. -/
def State.windowRead (s : State) (c off : Nat) : Nat :=
  if off < 0x5300 then
    let u := off / 0x100
    let k := off % 0x100 / 8
    let w := s.perfConfig u k
    if off % 0x100 < 0x40 && decide (k < unitCounters u) && w.testBit 51 && w.testBit 50 && bits w 63 52 == c
    then s.perfValue u k else 0
  else if 0x100000 ≤ off ∧ off < 0x100000 + 32 * 89 then
    if s.num 0x5130 3 = 1 then wordAt (Assoc.get (zeroBytes 32) s.perf.windows ((off - 0x100000) / 32)) (off % 32) else 0
  else if 0x101000 ≤ off ∧ off < 0x101000 + 32 * 89 then
    if s.num 0x5130 3 = 1 then wordAt (Assoc.get (zeroBytes 32) s.perf.busiest ((off - 0x101000) / 32)) (off % 32) else 0
  else if 0x800000 ≤ off ∧ off < 0x1000000 then
    let r := s.samplingRun ((off - 0x800000) / 0x400000)
    if r.config.testBit 51 && r.config.testBit 50 && bits r.config 63 52 == c
    then wordAt (Assoc.get (zeroBytes 64) r.records (off % 0x400000 / 64)) (off % 64) else 0
  else 0

/-! ### Operands -/

/-- Bytes at an address an engine may read, control region included (R44: words of 8 bytes). -/
def State.engineBytes (s : State) (c a n : Nat) : List Byte :=
  if a < ctlBase then s.getBytes c a n
  else (List.range (n / 8)).flatMap (fun i =>
    let p := a + 8 * i
    leBytes 8 (if p < 0x0F0010000000 then s.doorRead c ((p - ctlBase) % 65536) else s.windowRead c (p - 0x0F0200000000)))

/-- An access of an engine: address, bytes, direction. -/
structure Access where
  addr : Nat
  len : Nat
  isWrite : Bool
deriving DecidableEq, Repr

def rd (a : Nat × Nat) : Access := { addr := a.1, len := a.2, isWrite := false }
def wr (a : Nat × Nat) : Access := { addr := a.1, len := a.2, isWrite := true }

/-- The code of the first failing access, in the order in which they are checked (assumption log 26). -/
def State.firstFault (s : State) (g : Agent) (c : Nat) : List Access → Nat
  | [] => 0
  | x :: l =>
    let k := s.accessCode g c x.addr x.len x.isWrite
    if k = 0 then s.firstFault g c l else k

/-- The code that ranks first over several accesses (R123). -/
def State.worstFault (s : State) (g : Agent) (c : Nat) (l : List Access) : Nat :=
  l.foldl (fun w x => worse w (s.accessCode g c x.addr x.len x.isWrite)) 0

/-- Heat of a list of reads (R183). -/
def State.heatAll (s : State) (g : Agent) (c : Nat) (l : List (Nat × Nat)) : State :=
  l.foldl (fun s x => s.heatRead g c x.1 x.2) s

/-- Bytes written by an engine: memory, or a doorbell page. -/
def State.engineWrite (s : State) (c a : Nat) (l : List Byte) : State :=
  if a < ctlBase then s.putBytes c a l
  else (List.range (l.length / 8)).foldl (fun s i =>
    s.doorWrite c ((a + 8 * i - ctlBase) % 65536) (leNat (slice l (8 * i) 8))) s

def State.writeAll (s : State) (c : Nat) (l : List (Nat × List Byte)) : State :=
  l.foldl (fun s x => s.engineWrite c x.1 x.2) s

/-- Who an engine is (Table 1-6). -/
def engineAgent (e : Nat) : Agent :=
  if e < 256 then .bay (e / 4) else if e < 272 then .update (e - 256) else .reduce

/-- The interrupt source and the fault-log unit of an engine (R463, R422). -/
def engineSource (e : Nat) : Nat := if e < 256 then 32 + e / 4 else if e < 272 then 112 + (e - 256) else 455
def engineUnit (e : Nat) : Nat × Nat := if e < 256 then (1, e / 4) else if e < 272 then (3, e - 256) else (5, 0)

/-- What a failed access does beside its code: translation failures are counted, and of a bay they raise its source (R170). -/
def State.reportAccess (s : State) (e c code : Nat) : State :=
  if [0x0230, 0x0231, 0x0232, 0x0234, 0x0235].contains code then
    let s := s.bump 0x3010 0x0D
    if e < 256 then s.signal (32 + e / 4) (some c) else s
  else s

/-! ### The frame of an engine's meaning -/

/-- The engine has its clock and its unit is in service (R47, R454). -/
def State.engineLive (s : State) (e : Nat) : Bool :=
  (match engineBay e with | some b => !(s.bay b).inReset | none => true) &&
  (match engineDie e with | some d => !s.dieReset d && !(s.die d).tripped && !(s.die d).gated | none => true)

/-- The command that runs on engine `e`, where its opcode is one of the row's; a run that has failed already ends so. -/
def State.onRun (s : State) (e : Nat) (p : Cmd → Bool) (f : State → Run → State) : State :=
  s.whenUp fun s =>
    match (s.engine e).running with
    | none => s
    | some r =>
      if p r.cmd && s.engineLive e && r.await == .none then
        match r.failed with
        | some code => s.endWith e r code
        | none => f s r
      else s

/-- Commands of a queue complete in order: an earlier tile is still in its epilogue (R128, R219). -/
def State.mayEnd (s : State) (e : Nat) (r : Run) : Bool := !((s.engine e).epilogue.elim false (fun q => q.ctx == r.ctx))

/-- An access failed: the run ends with the code. -/
def State.endAccess (s : State) (e : Nat) (r : Run) (code : Nat) : State := (s.reportAccess e r.ctx code).endWith e r code

/-- A checker of engine `e` found a mismatch of a code in work of context `c` (R461, R480): counter, source, health. -/
def State.reactMismatch (s : State) (e c code : Nat) : State :=
  let s := if code = 0x0114 ∨ code = 0x0115 then s.bump 0x7010 9
           else if code = 0x0116 ∨ code = 0x0208 then s.bump 0x7010 0x0A else s
  let s := s.signal (engineSource e) (some c)
  if code = 0x0208 then s.deduct 20 else s.mismatch (engineBay e)

/-- A mismatch, and the end of its run. -/
def State.endMismatch (s : State) (e : Nat) (r : Run) (code : Nat) : State := (s.reactMismatch e r.ctx code).endWith e r code

/-- The number of the next draw on the free values (assumption log 4), and the state after it. -/
def State.draw (s : State) : State × Nat := ({ s with freeCtr := s.freeCtr + 1 }, s.freeCtr)

/-- Some of the writes of a command that was stopped: the first ones, as many as a free value says. -/
def State.writeSome (s : State) (c : Nat) (l : List (Nat × List Byte)) : State :=
  let d := s.draw
  d.1.writeAll c (l.take (Config.freeCount d.2 % (l.length + 1)))

/-- An uncorrectable error met by the run (R194): the Bool says that the run failed. -/
def State.meetUe (s : State) (r : Run) (d : Option Diag) : State × Bool :=
  match d with
  | some (.memory p a) => s.memoryError p a (some r.ctx)
  | _ => (s, false)

/-- Count what the planer did (Table 2-14). -/
def State.countPlaner (s : State) (c : PCount) : State :=
  let up := fun (s : State) (k n : Nat) => if n = 0 then s else s.bumpBy 0x2111 k n
  up (up (up (up (up s 1 c.sat) 2 c.nan) 3 c.inf) 4 c.flush) 6 c.nanBlock

/-- Count what the planer did before it was stopped: of each count, as much as a free value says (R93). -/
def State.countSome (s : State) (c : PCount) : State :=
  let d := s.draw
  let part := fun (i n : Nat) => Config.freeCount (d.2 * 8 + i) % (n + 1)
  d.1.countPlaner { sat := part 0 c.sat, nan := part 1 c.nan, inf := part 2 c.inf, flush := part 3 c.flush,
                    nanBlock := part 4 c.nanBlock }

/-! ### Accumulator slots (R105, R250) -/

/-- The slots that the tiles of an engine hold, `own` apart. -/
def Engine.slotsHeld (g : Engine) (own : Run) : Nat :=
  ([g.running, g.epilogue, g.suspended].map (fun o => (o.filter (fun r => r != own)).elim 0 (·.slots))).foldl (· ||| ·) 0

/-- The slots that a tile of `n` slots takes, where they are free: a tile of one slot takes the other slot than the tile before
it, or the one that is left. -/
def Engine.slotsFor (g : Engine) (n : Nat) (own : Run) : Option Nat :=
  let held := g.slotsHeld own
  let first := 1 + g.accSlot
  if n = 2 then (if held = 0 then some 3 else none)
  else if held &&& first = 0 then some first
  else if held &&& (3 - first) = 0 then some (3 - first)
  else none

/-- Consecutive tiles alternate. -/
def Engine.took (g : Engine) (slots : Nat) : Engine := { g with accSlot := if slots = 1 then 1 else if slots = 2 then 0 else g.accSlot }

/-- A command of a given opcode. -/
def isOp (op : Nat) (m : Cmd) : Bool := m.opcode == op

end Sys2Proof.Machine
end

