-- ==== Sys2Proof/Machine/Rows.lean ====
section
/-! DEFINITION. The vector engine: the row commands of R138 to R142 and the FP32 add of R137. -/

namespace Sys2Proof.Machine

/-- TRAINING_COUNTERS_CLEAR (R165). -/
def execTrainingCountersClear (dt v : Nat) (s : State) : Host.Outcome State Fault Refusal :=
  .next ((s.elapse dt).whenUp fun s => s.execClear 0x2204 v)

/-! ### Row commands (Table 6-15) -/

structure RowCmd where
  x : Nat
  dy : Nat
  y : Nat
  g : Nat
  b : Nat
  dg : Nat
  db : Nat
  mask : Nat
  n : Nat
  rows : Nat
  eps : Nat
  tau : Nat
  tensorId : Nat
  rowBase : Nat
  rounding : Nat
  xFmt : Nat
  dyFmt : Nat
  yFmt : Nat
deriving DecidableEq, Repr

/-- eps after the clamp of Table 4-2. A negative zero counts as negative: it becomes +0 and the clamp is counted (assumption log 137: the
model's choice). -/
def clampEps (w : Nat) : Nat :=
  if fIsNaN w then 0 else if w ≥ 2 ^ 31 then 0 else if flt f32One w then f32One else w

/-- tau after the clamp of Table 4-2. -/
def clampTau (w : Nat) : Nat :=
  if fIsNaN w || fIsZero w then f32One else if fIsInf w then f32Max (w.testBit 31) else w

def decodeRow (m : Nat) : RowCmd :=
  { x := bits m 895 848, dy := bits m 847 800, y := bits m 799 752, g := bits m 751 704, b := bits m 703 656,
    dg := bits m 655 608, db := bits m 607 560, mask := bits m 559 512, n := clampNat (bits m 511 480) 1 262144,
    rows := clampNat (bits m 479 448) 1 65536, eps := clampEps (bits m 447 416), tau := clampTau (bits m 415 384),
    tensorId := bits m 383 352, rowBase := bits m 351 320, rounding := let r := bits m 319 318; if r = 3 then 2 else r,
    xFmt := bits m 317 317, dyFmt := bits m 316 316, yFmt := bits m 315 315 }

/-- Parameters of Table 4-2 that are clamped; eps belongs to 0x20 to 0x23, tau to softmax. -/
def rowClamps (op m : Nat) : Nat :=
  b2n (clampNat (bits m 511 480) 1 262144 != bits m 511 480) + b2n (clampNat (bits m 479 448) 1 65536 != bits m 479 448)
    + b2n (op != 0x24 && op != 0x25 && clampEps (bits m 447 416) != bits m 447 416)
    + b2n ((op == 0x24 || op == 0x25) && clampTau (bits m 415 384) != bits m 415 384)

/-- Bytes of row `r` of an operand of format f. -/
def RowCmd.at (t : RowCmd) (a f r : Nat) : Nat × Nat := (a + r * t.n * elemBytes f, t.n * elemBytes f)

/-- A row as FP32. -/
def State.rowOf (s : State) (c : Nat) (t : RowCmd) (a f r : Nat) : List Nat :=
  let p := t.at a f r
  (words (elemBytes f) (s.engineBytes c p.1 p.2)).map (asFp32 f)

/-- A vector of n FP32 words. -/
def State.vecOf (s : State) (c a n : Nat) : List Nat := words 4 (s.engineBytes c a (4 * n))

/-- Mask bits of row `r`: bit e of the operand's bits, least significant first (assumption log 27). -/
def State.maskOf (s : State) (c : Nat) (t : RowCmd) (r : Nat) : List Bool :=
  if t.mask = 0 then List.replicate t.n false
  else
    let lo := r * t.n
    let b := s.engineBytes c (t.mask + lo / 8) ((lo + t.n - 1) / 8 - lo / 8 + 1)
    (List.range t.n).map (fun e => (nth 0 b ((lo + e) / 8 - lo / 8)).toNat.testBit ((lo + e) % 8))

/-! ### The arithmetic of a row (R140, R141) -/

def mulRow (a b : List Nat) : List Nat := List.zipWith fmul a b
def scaleRow (k : Nat) (a : List Nat) : List Nat := a.map (fmul k)
def invN (n : Nat) : Nat := frecip (fofInt n)

/-- r and xh of RMS normalisation. -/
def rmsStats (n eps : Nat) (x : List Nat) : Nat × List Nat :=
  let r := frsqrt (fadd (fmul (orderedSum 256 (mulRow x x)) (invN n)) eps)
  (r, x.map (fun v => fmul v r))

/-- r and xh of layer normalisation. -/
def layerStats (n eps : Nat) (x : List Nat) : Nat × List Nat :=
  let mu := fmul (orderedSum 256 x) (invN n)
  let xc := x.map (fun v => fsub v mu)
  let r := frsqrt (fadd (fmul (orderedSum 256 (mulRow xc xc)) (invN n)) eps)
  (r, xc.map (fun v => fmul v r))

/-- p of softmax. -/
def softmaxStats (tau : Nat) (z : List Nat) (mask : List Bool) : List Nat :=
  let zs := scaleRow tau z
  let mx := rowMax ((zs.zip mask).filterMap (fun p => if p.2 then none else some p.1))
  let ex := (zs.zip mask).map (fun p => if p.2 then 0 else fexp (fsub p.1 mx))
  let k := frecip (orderedSum 256 ex)
  ex.map (fun v => fmul v k)

/-- What one row yields: the output row, and what it adds to dg and db. -/
structure RowOut where
  y : List Nat
  dg : List Nat
  db : List Nat
deriving DecidableEq, Repr

/-- One row of an opcode from its operands as FP32. -/
def rowResult (op n eps tau : Nat) (x dy g b : List Nat) (mask : List Bool) : RowOut :=
  match op with
  | 0x20 => { y := mulRow (rmsStats n eps x).2 g, dg := [], db := [] }
  | 0x21 =>
    let st := rmsStats n eps x
    let gd := mulRow g dy
    let c := fmul (orderedSum 256 (mulRow gd st.2)) (invN n)
    { y := (gd.zip st.2).map (fun p => fmul st.1 (fsub p.1 (fmul p.2 c))), dg := mulRow dy st.2, db := [] }
  | 0x22 =>
    let st := layerStats n eps x
    { y := List.zipWith fadd (mulRow st.2 g) b, dg := [], db := [] }
  | 0x23 =>
    let st := layerStats n eps x
    let gd := mulRow g dy
    let a := fmul (orderedSum 256 gd) (invN n)
    let c := fmul (orderedSum 256 (mulRow gd st.2)) (invN n)
    { y := (gd.zip st.2).map (fun p => fmul st.1 (fsub (fsub p.1 a) (fmul p.2 c))), dg := mulRow dy st.2, db := dy }
  | 0x24 => { y := softmaxStats tau x mask, dg := [], db := [] }
  | _ =>
    let p := softmaxStats tau x mask
    let dot := orderedSum 256 (mulRow p dy)
    { y := if mask.all id then x.map (fun _ => 0)
           else (p.zip dy).map (fun q => fmul tau (fmul q.1 (fsub q.2 dot))), dg := [], db := [] }

/-! ### Accesses and stores -/

def isBackward (op : Nat) : Bool := op == 0x21 || op == 0x23 || op == 0x25
def isSoftmax (op : Nat) : Bool := op == 0x24 || op == 0x25
def isLayer (op : Nat) : Bool := op == 0x22 || op == 0x23

/-- What a row command reads and writes; it ignores the fields its opcode does not use. -/
def RowCmd.reads (t : RowCmd) (op : Nat) : List (Nat × Nat) :=
  [(t.x, t.rows * t.n * elemBytes t.xFmt)]
    ++ (if isBackward op then [(t.dy, t.rows * t.n * elemBytes t.dyFmt)] else [])
    ++ (if isSoftmax op then (if t.mask = 0 then [] else [(t.mask, ceilDiv (t.rows * t.n) 8)]) else [(t.g, 4 * t.n)])
    ++ (if op = 0x22 then [(t.b, 4 * t.n)] else [])
    ++ (if op = 0x21 ∨ op = 0x23 then [(t.dg, 4 * t.n)] else [])
    ++ (if op = 0x23 then [(t.db, 4 * t.n)] else [])

def RowCmd.writes (t : RowCmd) (op : Nat) : List (Nat × Nat) :=
  [(t.y, t.rows * t.n * elemBytes t.yFmt)]
    ++ (if op = 0x21 ∨ op = 0x23 then [(t.dg, 4 * t.n)] else [])
    ++ (if op = 0x23 then [(t.db, 4 * t.n)] else [])

/-- Store a row of FP32 results in a format (R138): bytes and counts. `key e` is the key of element e. -/
def storeRow (f : Nat) (keyed : Bool) (key : Nat → RKey) (l : List Nat) : List Byte × PCount :=
  let r := l.zipIdx.map (fun x => storeF f x.1 keyed (key x.2))
  (r.flatMap (fun x => leBytes (elemBytes f) x.1), r.foldl (fun c x => c.add x.2) {})

def noKey : RKey := { seed := 0, tensor := 0, step := 0, row := 0, col := 0, site := 0, kchunk := 0 }

/-- Add a row into an FP32 accumulator in bench. -/
def State.accumulateRow (s : State) (c a : Nat) (l : List Nat) : State :=
  if l.isEmpty then s
  else
    let r := storeRow 1 false (fun _ => noKey) (List.zipWith fadd (s.vecOf c a l.length) l)
    (s.engineWrite c a r.1).countPlaner r.2

/-- One row, read, computed and stored. -/
def State.runRow (s : State) (c op : Nat) (t : RowCmd) (keyed : Bool) (r : Nat) : State :=
  let x := s.rowOf c t t.x t.xFmt r
  let dy := if isBackward op then s.rowOf c t t.dy t.dyFmt r else []
  let g := if isSoftmax op then [] else s.vecOf c t.g t.n
  let b := if op = 0x22 then s.vecOf c t.b t.n else []
  let mask := if isSoftmax op then s.maskOf c t r else []
  let o := rowResult op t.n t.eps t.tau x dy g b mask
  let q := s.ctx c
  let st := storeRow t.yFmt keyed
    (fun e => { seed := q.seed, tensor := t.tensorId, step := q.step, row := t.rowBase + r, col := e, site := 0, kchunk := 0xFFFE }) o.y
  let s := (s.engineWrite c (t.at t.y t.yFmt r).1 st.1).countPlaner st.2
  (s.accumulateRow c t.dg o.dg).accumulateRow c t.db o.db

def State.runRows (s : State) (c op : Nat) (t : RowCmd) (keyed : Bool) (n : Nat) : State :=
  (List.range n).foldl (fun s r => s.runRow c op t keyed r) s

/-- A row command of the engine runs its rows in ascending order and completes. A checker's mismatch stops it before a row is
stored; how many rows stand is open (R461). -/
def State.rowCommand (s : State) (e op : Nat) (diag : Option Diag) : State :=
  s.onRun e (isOp op) fun s r =>
    let t := decodeRow r.cmd.body
    let g := Agent.bay (e / 4)
    let code := s.firstFault g r.ctx ((t.reads op).map rd ++ (t.writes op).map wr)
    if code != 0 then s.endAccess e r code
    else
      let keyed := (if t.rounding = 2 then r.defOther else t.rounding) == 1
      let s := (s.heatAll g r.ctx (t.reads op)).countWrites g r.ctx (t.writes op)
      let some_ := fun (s : State) => let d := s.draw; d.1.runRows r.ctx op t keyed (Config.freeCount d.2 % (t.rows + 1))
      match diag with
      | some (.memory p a) =>
        let m := s.memoryError p a (some r.ctx)
        if m.2 then (some_ m.1).endWith e r 0x0233 else (m.1.runRows r.ctx op t keyed t.rows).endWith e r 0
      | some .mismatch => (some_ s).endMismatch e r 0x0114
      | some .planer => if t.yFmt = 0 then (some_ s).endMismatch e r 0x0116 else (s.runRows r.ctx op t keyed t.rows).endWith e r 0
      | _ => (s.runRows r.ctx op t keyed t.rows).endWith e r 0

/-- RMS_FORWARD (R141). -/
def execRmsForward (dt e : Nat) (diag : Option Diag) (s : State) : Host.Outcome State Fault Refusal :=
  .next ((s.elapse dt).rowCommand e 0x20 diag)

/-- RMS_BACKWARD (R140). -/
def execRmsBackward (dt e : Nat) (diag : Option Diag) (s : State) : Host.Outcome State Fault Refusal :=
  .next ((s.elapse dt).rowCommand e 0x21 diag)

/-- LAYER_FORWARD (R141). -/
def execLayerForward (dt e : Nat) (diag : Option Diag) (s : State) : Host.Outcome State Fault Refusal :=
  .next ((s.elapse dt).rowCommand e 0x22 diag)

/-- LAYER_BACKWARD (R140). -/
def execLayerBackward (dt e : Nat) (diag : Option Diag) (s : State) : Host.Outcome State Fault Refusal :=
  .next ((s.elapse dt).rowCommand e 0x23 diag)

/-- SOFTMAX_FORWARD (R141). -/
def execSoftmaxForward (dt e : Nat) (diag : Option Diag) (s : State) : Host.Outcome State Fault Refusal :=
  .next ((s.elapse dt).rowCommand e 0x24 diag)

/-- SOFTMAX_BACKWARD (R140). -/
def execSoftmaxBackward (dt e : Nat) (diag : Option Diag) (s : State) : Host.Outcome State Fault Refusal :=
  .next ((s.elapse dt).rowCommand e 0x25 diag)

/-! ### FP32 add -/

/-- dst[i] = dst[i] + src[i] for one element. -/
def State.addElem (s : State) (c src dst i : Nat) : State :=
  let a := leNat (s.engineBytes c (dst + 4 * i) 4)
  let b := leNat (s.engineBytes c (src + 4 * i) 4)
  let r := storeF 1 (fadd a b) false noKey
  (s.engineWrite c (dst + 4 * i) (leBytes 4 r.1)).countPlaner r.2

def State.addElems (s : State) (c src dst n : Nat) : State :=
  (List.range n).foldl (fun s i => s.addElem c src dst i) s

/-- Source, destination and elements of an FP32 add (Table 6-13). -/
def addFields (m : Nat) : Nat × Nat × Nat := (bits m 895 848, bits m 847 800, max 1 (bits m 799 768))

/-- FP32_ADD (R137): in element order. -/
def execFp32Add (dt e : Nat) (diag : Option Diag) (s : State) : Host.Outcome State Fault Refusal :=
  .next ((s.elapse dt).onRun e (isOp 0x28) fun s r =>
    let f := addFields r.cmd.body
    let g := Agent.bay (e / 4)
    let code := s.firstFault g r.ctx [rd (f.1, 4 * f.2.2), rd (f.2.1, 4 * f.2.2), wr (f.2.1, 4 * f.2.2)]
    if code != 0 then s.endAccess e r code
    else
      let s := (s.heatAll g r.ctx [(f.1, 4 * f.2.2), (f.2.1, 4 * f.2.2)]).countWrites g r.ctx [(f.2.1, 4 * f.2.2)]
      let some_ := fun (s : State) => let d := s.draw; d.1.addElems r.ctx f.1 f.2.1 (Config.freeCount d.2 % (f.2.2 + 1))
      match diag with
      | some (.memory p a) =>
        let m := s.memoryError p a (some r.ctx)
        if m.2 then (some_ m.1).endWith e r 0x0233 else (m.1.addElems r.ctx f.1 f.2.1 f.2.2).endWith e r 0
      | some .mismatch => (some_ s).endMismatch e r 0x0114
      | _ => (s.addElems r.ctx f.1 f.2.1 f.2.2).endWith e r 0)

end Sys2Proof.Machine
end

