-- ==== Sys2Proof/Machine/Update.lean ====
section
/-! DEFINITION. The update engines (R154 to R161): recipe blocks, the recipes, the write-back and the report ring. -/

namespace Sys2Proof.Machine

/-! ### Recipe blocks (Table 4-7, R156) -/

structure Recipe where
  tOpt : Nat
  p2 : Nat
  p1 : Nat
  clipNorm : Nat
  eps2 : Nat
  eps : Nat
  lambda : Nat
  beta2 : Nat
  beta1 : Nat
  lr : Nat
  wId : Nat
  mId : Nat
  vId : Nat
  layer : Nat
  recipe : Nat
deriving DecidableEq, Repr

/-- Clamp 2 of R156: a NaN becomes 0. -/
def noNaN (w : Nat) : Nat := if fIsNaN w then 0 else w
/-- Clamp 3: a negative value becomes 0. -/
def noNeg (w : Nat) : Nat := if flt (noNaN w) 0 then 0 else noNaN w
/-- Clamp 4: a decay rate lies in [0, 1). -/
def decay (w : Nat) : Nat := let b := noNeg w; if flt b f32One then b else 0x3F7FFFFF

/-- The block as its fields stand. -/
def Recipe.raw (b : List Byte) : Recipe :=
  let n := leNat b
  { tOpt := bits n 511 480, p2 := bits n 479 448, p1 := bits n 447 416, clipNorm := bits n 415 384, eps2 := bits n 383 352,
    eps := bits n 351 320, lambda := bits n 319 288, beta2 := bits n 287 256, beta1 := bits n 255 224, lr := bits n 223 192,
    wId := bits n 191 160, mId := bits n 159 128, vId := bits n 127 96, layer := bits n 95 64, recipe := bits n 2 0 }

/-- The block after the clamps of R156. -/
def Recipe.clamp (r : Recipe) : Recipe :=
  { r with p2 := noNaN r.p2, p1 := noNaN r.p1, clipNorm := noNeg r.clipNorm, eps2 := noNeg r.eps2, eps := noNeg r.eps,
           lambda := noNeg r.lambda, beta2 := decay r.beta2, beta1 := decay r.beta1, lr := noNeg r.lr,
           recipe := if 4 < r.recipe then 4 else r.recipe }

def recipeOf (b : List Byte) : Recipe := (Recipe.raw b).clamp
def recipeClamped (b : List Byte) : Bool := recipeOf b != Recipe.raw b

/-- Recipes that read m_id, and v_id. -/
def Recipe.readsM (r : Recipe) : Bool := r.recipe != 0
def Recipe.readsV (r : Recipe) : Bool := r.recipe == 2 || r.recipe == 3

/-- Advance t_opt, p1 and p2 once (R154): the 12 bytes from byte 52 of the block, and what storing the products counts (R138). -/
def Recipe.advanced (r : Recipe) : List Byte × PCount :=
  let a := storeF 1 (fmul r.p1 r.beta1) false noKey
  let b := storeF 1 (fmul r.p2 r.beta2) false noKey
  (leBytes 4 a.1 ++ leBytes 4 b.1 ++ leBytes 4 ((r.tOpt + 1) % 2 ^ 32), a.2.add b.2)

/-! ### Arithmetic (R157) -/

/-- The clip factor. -/
def clipFactor (clipNorm gn : Nat) : Nat :=
  if fIsZero clipNorm then f32One
  else
    let p := fmul clipNorm (frecip gn)
    if fIsNaN p then f32One else if flt p f32One then p else f32One

def oneMinus (b : Nat) : Nat := fsub f32One b

/-- What one element yields: delta, w2, and the moments it writes. -/
structure UpdOut where
  delta : Nat
  w2 : Nat
  m2 : Nat
  v2 : Nat
deriving DecidableEq, Repr

/-- delta = lr × (a + lambda × w), then w2 = w - delta. -/
def Recipe.out (r : Recipe) (a w m2 v2 : Nat) : UpdOut :=
  let delta := fmul r.lr (fadd a (fmul r.lambda w))
  { delta := delta, w2 := fsub w delta, m2 := m2, v2 := v2 }

/-- Exponential average: b × old + (1 - b) × x. -/
def ema (b old x : Nat) : Nat := fadd (fmul b old) (fmul (oneMinus b) x)

/-- The element recipes 0, 1, 2 and 4, and recipe 3 over one dimension. -/
def Recipe.elem (r : Recipe) (d w m v : Nat) : UpdOut :=
  match r.recipe with
  | 0 => r.out d w 0 0
  | 1 => let m2 := fadd (fmul r.beta1 m) d
         r.out m2 w m2 0
  | 2 =>
    let p1 := fmul r.p1 r.beta1
    let p2 := fmul r.p2 r.beta2
    let m2 := ema r.beta1 m d
    let v2 := ema r.beta2 v (fmul d d)
    let u := fdiv (fmul m2 (frecip (oneMinus p1))) (fadd (fsqrt (fmul v2 (frecip (oneMinus p2)))) r.eps)
    r.out u w m2 v2
  | 3 =>
    let v2 := ema r.beta2 v (fmul d d)
    let u := fmul d (frsqrt (fadd v2 r.eps2))
    let m2 := ema r.beta1 m u
    r.out m2 w m2 v2
  | _ =>
    let c := ema r.beta1 m d
    let u := if flt 0 c then f32One else if flt c 0 then fNeg f32One else 0
    r.out u w (ema r.beta2 m d) 0

/-- Row and column statistics of recipe 3 over a matrix, from the clipped gradients row by row (pass 1). -/
def Recipe.factored (r : Recipe) (rs cs : List Nat) (d : List (List Nat)) : List Nat × List Nat :=
  let cols := cs.length
  let sq := d.map (fun l => l.map (fun x => fadd (fmul x x) r.eps2))
  let rs2 := (rs.zip sq).map (fun p => ema r.beta2 p.1 (fmul (orderedSum 64 p.2) (invN cols)))
  let cs2 := cs.zipIdx.map (fun p => ema r.beta2 p.1 (fmul (orderedSum 64 (sq.map (fun l => nth 0 l p.2))) (invN rs.length)))
  (rs2, cs2)

/-- One element of pass 2. -/
def Recipe.factoredElem (r : Recipe) (rbar rs cs d w m : Nat) : UpdOut :=
  let u := fmul d (frsqrt (fmul (fmul rs cs) (frecip rbar)))
  let m2 := ema r.beta1 m u
  r.out m2 w m2 0

/-! ### Placement of elements (R155, R158, R306) -/

def Ctx.tensor (x : Ctx) (id : Nat) : Option Tensor := if id = 0 then none else x.tensors.find? (fun t => t.id == id)

/-- Length and start of slice p of n (R306). -/
def sliceLen (n p : Nat) : Nat := if p < n % 8 then ceilDiv n 8 else n / 8
def sliceStart (n p : Nat) : Nat := (List.range p).foldl (fun a q => a + sliceLen n q) 0

/-- Elements inside one step of an axis. -/
def Tensor.inner (t : Tensor) (axis : Nat) : Nat := (t.dims.take axis).foldl (· * ·) 1

/-- Position in the whole tensor of local element y on position p (R158). -/
def Tensor.wholeIndex (t : Tensor) (p y : Nat) : Nat :=
  if 4 ≤ t.split then y
  else
    let inner := t.inner t.split
    let n := nth 1 t.dims t.split
    let len := max 1 (sliceLen n p)
    (y / inner / len * n + (y / inner % len + sliceStart n p)) * inner + y % inner

/-- Length of the innermost dimension that this device holds. -/
def Tensor.localDim0 (t : Tensor) (p : Nat) : Nat :=
  let n := nth 1 t.dims 0
  max 1 (if t.split = 0 then sliceLen n p else n)

/-- The stack of a context address. -/
def State.stackOf (s : State) (c a : Nat) : Nat := (s.phys c a - hbmBase) / stackBytes

/-- Local elements whose weight pages lie in a stack. -/
def State.elemsIn (s : State) (c : Nat) (t : Tensor) (stack : Nat) : List Nat :=
  (List.range (t.bytes / 2)).filter (fun y => s.stackOf c (t.base + 2 * y) == stack)

/-! ### One update -/

/-- Everything a command computes: the writes in order, the counts of its conversions, and its two sums. -/
structure UpdPlan where
  writes : List (Nat × List Byte)
  counts : PCount
  su : Nat
  sw : Nat
deriving DecidableEq, Repr

/-- Bytes of an element of a tensor. -/
def State.bf16At (s : State) (c : Nat) (t : Tensor) (y : Nat) : Nat := bf16To (leNat (s.getBytes c (t.base + 2 * y) 2))
def State.f32At (s : State) (c : Nat) (t : Tensor) (y : Nat) : Nat := leNat (s.getBytes c (t.base + 4 * y) 4)

/-- Write back one value as BF16 under the key of R158. -/
def State.updWord (s : State) (c : Nat) (w t : Tensor) (y v : Nat) : (Nat × List Byte) × PCount :=
  let x := s.ctx c
  let i := w.wholeIndex x.gridPos y
  let d0 := max 1 (nth 1 w.dims 0)
  let o := storeF 0 v true { seed := x.seed, tensor := t.id, step := x.step, row := i / d0, col := i % d0, site := 0, kchunk := 0xFFFE }
  ((t.base + 2 * y, leBytes 2 o.1), o.2)

/-- The outputs of every element of the engine, in stored order, with the writes of the factored statistics and what storing them counts.
Under recipe 3 the outer dimensions of a tensor fold into the rows of its R × C matrix (assumption log 135), and pass 2 uses rs and cs as
pass 1 computed them, before they are stored (assumption log 136): both are the model's choice. -/
def State.updOuts (s : State) (c stack : Nat) (r : Recipe) (w g : Tensor) (m v : Option Tensor) (cf : Nat) :
    List (Nat × Nat × UpdOut) × List (Nat × List Byte) × PCount :=
  let ys := s.elemsIn c w stack
  let dOf := fun y => fmul (s.f32At c g y) cf
  let mOf := fun y => m.elim 0 (fun t => s.bf16At c t y)
  match r.recipe == 3 && decide (1 < w.ndims), v with
  | true, some vt =>
    let cols := w.localDim0 (s.ctx c).gridPos
    let n := w.bytes / 2
    let rows := n / cols
    let at_ := fun k => leNat (s.getBytes c (vt.base + 4 * k) 4)
    let d := (List.range rows).map (fun i => (List.range cols).map (fun j => dOf (i * cols + j)))
    let st := r.factored ((List.range rows).map at_) ((List.range cols).map (fun j => at_ (rows + j))) d
    let rbar := fmul (orderedSum 64 st.1) (invN rows)
    let put := (st.1 ++ st.2).map (fun v => storeF 1 v false noKey)
    (ys.map (fun y =>
      let wv := s.bf16At c w y
      (y, wv, r.factoredElem rbar (nth 0 st.1 (y / cols)) (nth 0 st.2 (y % cols)) (dOf y) wv (mOf y))),
     put.zipIdx.map (fun p => (vt.base + 4 * p.2, leBytes 4 p.1.1)), put.foldl (fun n p => n.add p.2) {})
  | _, _ =>
    (ys.map (fun y =>
      let wv := s.bf16At c w y
      (y, wv, r.elem (dOf y) wv (mOf y) (v.elim 0 (fun t => s.bf16At c t y)))), [], {})

def State.updPlan (s : State) (c stack : Nat) (r : Recipe) (w g : Tensor) (m v : Option Tensor) (cf : Nat) : UpdPlan :=
  let o := s.updOuts c stack r w g m v cf
  let vWrites := r.readsV && !(r.recipe == 3 && decide (1 < w.ndims))
  let l := o.1.flatMap (fun e =>
    [s.updWord c w w e.1 e.2.2.w2]
      ++ (match m with | some t => if r.readsM then [s.updWord c w t e.1 e.2.2.m2] else [] | none => [])
      ++ (match v with | some t => if vWrites then [s.updWord c w t e.1 e.2.2.v2] else [] | none => []))
  { writes := o.2.1 ++ l.map (·.1), counts := l.foldl (fun n x => n.add x.2) o.2.2,
    su := orderedSum 64 (o.1.map (fun e => fmul e.2.2.delta e.2.2.delta)),
    sw := orderedSum 64 (o.1.map (fun e => fmul e.2.1 e.2.1)) }

/-! ### Report records (R160, Table 4-9) -/

/-- The recipe blocks of the cut list that name a layer: (address, w_id). -/
def State.layerBlocks (s : State) (c layer : Nat) : List (Nat × Nat) :=
  ((s.ctx c).recipes.map (fun a => (a, Recipe.raw (s.getBytes c a 64)))).filterMap
    (fun p => if p.2.layer = layer then some (p.1, p.2.wId) else none)

/-- Put a tensor identifier into an ascending list. -/
def insertAsc (a : Nat) : List Nat → List Nat
  | [] => [a]
  | b :: l => if a < b then a :: b :: l else if a = b then b :: l else b :: insertAsc a l

/-- Sum a figure over the layer: stacks in order within a tensor, then the tensors in ascending w_id. A tensor held whole counts
on position 0 only (R321). -/
def State.layerSum (s : State) (c : Nat) (blocks : List (Nat × Nat)) (f : Nat × Nat × Nat × Nat × Bool → Nat) : Nat :=
  let x := s.ctx c
  let ids := blocks.foldl (fun l b => insertAsc b.2 l) []
  let counts := fun id => x.gridPos == 0 || (match x.tensor id with | some t => t.split != 4 | none => true)
  (ids.filter counts).foldl (fun acc id =>
    let mine := x.updDone.filter (fun u => blocks.contains (u.1, id))
    fadd acc ((List.range 16).foldl (fun a k => (mine.filter (fun u => u.2.1 == k)).foldl (fun a u => fadd a (f u)) a) 0)) 0

/-- The record of a layer. -/
def State.reportBytes (s : State) (c layer : Nat) (su sw : Nat) (clipped skipped : Bool) : List Byte :=
  let ratio := if fIsZero sw then 0 else fsqrt (fmul su (frecip sw))
  leBytes 32 (packFields [(64, s.stamp), (32, su), (32, sw), (32, ratio), (32, (s.ctx c).step), (32, layer), (30, 0),
    (1, b2n clipped), (1, b2n skipped)])

/-- Write a record into the report ring. -/
def State.writeReport (s : State) (c : Nat) (b : List Byte) : State :=
  let x := s.ctx c
  match x.tensor x.reportRing with
  | none => s
  | some t =>
    if t.bytes < 32 then s
    else
      let s := s.putBytes c (t.base + x.reports % (t.bytes / 32) * 32) b
      s.modCtx c (fun x => { x with reports := (x.reports + 1) % 2 ^ 64 })

/-- The record of the layer falls due once every block of it has been updated in the step. -/
def State.layerReport (s : State) (c layer : Nat) (clipped skipped : Bool) : State :=
  let blocks := s.layerBlocks c layer
  let x := s.ctx c
  if !blocks.isEmpty && blocks.all (fun b => x.updDone.any (fun u => u.1 == b.1)) then
    let su := if skipped then 0 else s.layerSum c blocks (fun u => u.2.2.1)
    let sw := if skipped then 0 else s.layerSum c blocks (fun u => u.2.2.2.1)
    let any := clipped || x.updDone.any (fun u => u.2.2.2.2 && blocks.any (fun b => b.1 == u.1))
    s.writeReport c (s.reportBytes c layer su sw any skipped)
  else s

/-! ### The command -/

/-- Address of the recipe block. -/
def recipeAddr (m : Cmd) : Nat := bits m.body 895 848

/-- The tensors a command uses; none where R154 refuses with 0x0433. -/
def Ctx.updTensors (x : Ctx) (r : Recipe) : Option (Tensor × Tensor × Option Tensor × Option Tensor) :=
  match x.tensor r.wId with
  | none => none
  | some w =>
    match x.tensor w.gradTarget with
    | none => none
    | some g =>
      let m := x.tensor r.mId
      let v := x.tensor r.vId
      if (r.readsM && m.isNone) || (r.readsV && v.isNone) then none else some (w, g, m, v)

/-- The pages of a weight that lie in a stack, as (offset, bytes). -/
def State.weightPages (s : State) (c stack : Nat) (w : Tensor) : List (Nat × Nat) :=
  ((List.range (ceilDiv w.bytes pageBytes)).map (fun i => (i * pageBytes, min pageBytes (w.bytes - i * pageBytes)))).filter (fun p =>
    s.stackOf c (w.base + p.1) == stack)

/-- The ranges a command touches, read and written: the elements whose weight pages lie in its stack (R155), and under recipe 3 the whole of
the factored statistics. -/
def State.updRanges (s : State) (c stack : Nat) (r : Recipe) (w g : Tensor) (m v : Option Tensor) :
    List (Nat × Nat) × List (Nat × Nat) :=
  let l := s.weightPages c stack w
  let of_ := fun (t : Tensor) (k : Nat) => l.map (fun p => (t.base + k * p.1, k * p.2))
  let opt := fun (b : Bool) (t : Option Tensor) => match t with | some t => if b then of_ t 1 else [] | none => []
  let vs := if r.recipe == 3 && decide (1 < w.ndims) then v.elim [] (fun t => [(t.base, t.bytes)]) else opt r.readsV v
  let out := of_ w 1 ++ opt r.readsM m ++ vs
  (out ++ of_ g 2, out)

/-- The command completes and is counted (object 0x2203.01). -/
def State.endUpdate (s : State) (e : Nat) (r : Run) (code : Nat) : State :=
  (if code = 0 then s.bump 0x2203 1 else s).endWith e r code

/-- Note the block of a layer as done, and write the record where it is due; a block done again in its step makes no second
record (R160). -/
def State.updNote (s : State) (e c a : Nat) (q : Recipe) (su sw : Nat) (clipped skipped : Bool) : State :=
  let again := (s.ctx c).updDone.any (fun u => u.1 == a)
  let s := s.modCtx c (fun x => { x with updDone := x.updDone ++ [(a, e - 256, su, sw, clipped)] })
  if again then s else s.layerReport c q.layer clipped skipped

/-- An uncorrectable error or a mismatch stops an update (R161): the Bool says that the read failed. -/
def updError (e c : Nat) (m : State × Bool) (stop whole : State → State) : State :=
  if m.2 then stop (m.1.signal (engineSource e) (some c)) else whole m.1

/-- An update whose seal stands (R157 to R161). Of a skipped step the engine has read the recipe block alone. -/
def State.runUpdate (s : State) (e : Nat) (r : Run) (q : Recipe) (t : Tensor × Tensor × Option Tensor × Option Tensor)
    (diag : Option Diag) : State :=
  let c := r.ctx
  let x := s.ctx c
  let a := recipeAddr r.cmd
  let cf := clipFactor q.clipNorm x.gn
  let clipped := flt cf f32One
  if x.nonfinite != 0 && s.num 0x2202 1 == 1 then
    let skip := fun (s : State) =>
      let s := if x.skipCounted then s else (s.modCtx c (fun x => { x with skipCounted := true })).bump 0x2203 2
      (s.updNote e c a q 0 0 clipped true).endUpdate e r 0
    match diag with
    | some (.memory p m) => updError e c (s.memoryError p m (some c)) (fun s => s.endWith e r 0x0133) skip
    | _ => skip s
  else
    let g := Agent.update (e - 256)
    let l := s.updRanges c (e - 256) q t.1 t.2.1 t.2.2.1 t.2.2.2
    let code := s.firstFault g c (l.1.map rd ++ l.2.map wr ++ [wr (a, 64)])
    if code != 0 then (s.reportAccess e c code).endUpdate e r code
    else
      let p := s.updPlan c (e - 256) q t.1 t.2.1 t.2.2.1 t.2.2.2 cf
      let s := s.heatAll g c l.1
      let stop := fun (s : State) => (s.writeSome c p.writes).endWith e r 0x0133
      let whole := fun (s : State) =>
        let s := s.writeAll c p.writes
        let adv := q.advanced
        let s := s.putBytes c (a + 52) adv.1
        let n := p.counts.add adv.2
        let s := if clipped && !x.clipCounted then (s.modCtx c (fun x => { x with clipCounted := true })).bump 0x2203 3 else s
        let s := (s.bumpBy 0x2203 4 n.flush).bumpBy 0x2203 5 n.sat
        let s := if n.nan = 0 then s else s.bumpBy 0x2111 2 n.nan
        let s := s.countEvent (64 + (e - 256)) 0x0104 (s.elemsIn c t.1 (e - 256)).length (some c)
        (s.updNote e c a q p.su p.sw clipped false).endUpdate e r 0
      match diag with
      | some .mismatch => updError e c (s.mismatch none, true) stop whole
      | some (.memory k m) => updError e c (s.memoryError k m (some c)) stop whole
      | _ => whole s

/-- UPDATE (R157): checks of R154, the wait for the seal (R321), then the recipe. -/
def execUpdate (dt e : Nat) (diag : Option Diag) (s : State) : Host.Outcome State Fault Refusal :=
  .next ((s.elapse dt).onRun e (isOp 0x40) fun s r =>
    let c := r.ctx
    let x := s.ctx c
    let a := recipeAddr r.cmd
    let code := s.accessCode (engineAgent e) c a 64 false
    if code != 0 then (s.reportAccess e c code).endUpdate e r code
    else if a % 64 != 0 then s.endUpdate e r 0x0134
    else
      let q := recipeOf r.block
      match x.updTensors q with
      | none => s.endUpdate e r 0x0433
      | some t =>
        if x.sealed then
          if x.sealCode != 0 then s.endUpdate e r x.sealCode else s.runUpdate e r q t diag
        else if (x.queue 272).completed == (x.queue 272).tail then s.endUpdate e r 0x0431
        else s)

end Sys2Proof.Machine
end

