-- ==== Sys2Proof/Machine/CutList.lean ====
section
/-! DEFINITION. The cut-list container (R202 to R208, R305, R313): its sections, and the checks of R203 in their order. -/

namespace Sys2Proof.Machine

structure Sect where
  typ : Nat
  off : Nat
  len : Nat
  optional : Bool
deriving DecidableEq, Repr

/-- A little-endian number at a byte offset. -/
def at_ (b : List Byte) (off n : Nat) : Nat := leNat (slice b off n)

/-- The directory of a container. -/
def sectionsOf (b : List Byte) : List Sect :=
  (List.range (at_ b 6 2)).map (fun i =>
    let e := at_ b (64 + 32 * i) 32
    { typ := bits e 31 0, off := bits e 127 64, len := bits e 191 128, optional := e.testBit 32 })

def sectOf (b : List Byte) (t : Nat) : Option Sect := (sectionsOf b).find? (fun s => s.typ == t)
def sectBytes (b : List Byte) (s : Sect) : List Byte := slice b s.off s.len

/-- Items of a fixed size of a section of one type; none where it is absent. -/
def itemsOf (b : List Byte) (t size : Nat) : List Nat :=
  match sectOf b t with
  | some s => (chunks size (sectBytes b s)).map leNat
  | none => []

/-! ### Meta section (Table 9-1) -/

structure Meta where
  seed : Nat
  replicas : Nat
  stages : Nat
  layers : Nat
  heads : Nat
  experts : Nat
  topK : Nat
  capacity : Nat
  tokens : Nat
  micro : Nat
  split : Bool
  host : Bool
  reportRing : Nat
deriving DecidableEq, Repr

def metaOf (b : List Byte) : Meta :=
  let n := nth 0 (itemsOf b 1 64) 0
  { seed := bits n 511 448, replicas := bits n 447 432, stages := bits n 431 424, layers := bits n 423 408, heads := bits n 407 392,
    experts := bits n 391 376, topK := bits n 375 368, capacity := bits n 367 336, tokens := bits n 335 304, micro := bits n 303 288,
    split := n.testBit 287, host := n.testBit 286, reportRing := bits n 285 254 }

/-- The ranges of Table 9-1 and R303. -/
def Meta.legal (m : Meta) : Bool :=
  decide (1 ≤ m.replicas) && decide (m.replicas ≤ 32768) && decide (1 ≤ m.stages) && decide (m.stages ≤ 64)
    && decide (m.replicas * m.stages * 8 ≤ 262144) && decide (1 ≤ m.layers) && decide (m.layers ≤ 4096) && decide (m.heads ≤ 4096)
    && decide (m.experts ≤ 4096) && (m.experts == 0 || (decide (1 ≤ m.topK) && decide (m.topK ≤ 8)))
    && !flt m.capacity f32One && !fIsNaN m.capacity && !flt 0x41800000 m.capacity
    && decide (1 ≤ m.tokens) && decide (m.tokens ≤ 2 ^ 31) && decide (1 ≤ m.micro)

/-! ### Tensor table (Tables 6-4a, 6-4b) -/

/-- A tensor-table entry; base and bytes are set by the placer. -/
def tensorOf (n : Nat) : Tensor :=
  { id := bits n 191 160, kind := bits n 143 136, fmt := bits n 135 133, ndims := bits n 132 130,
    dims := [bits n 287 256, bits n 319 288, bits n 351 320, bits n 383 352], size := bits n 447 384, gradTarget := bits n 255 224,
    baseId := bits n 223 192, layer := bits n 159 144, split := bits n 129 127, tier := bits n 126 126, base := 0, bytes := 0 }

def tensorsOf (b : List Byte) : List Tensor := (itemsOf b 2 64).map tensorOf

def tensorBad (l : List Nat) (n : Nat) : Bool :=
  let t := tensorOf n
  decide (6 < t.kind) || decide (4 < t.split) || t.ndims == 0 || decide (4 < t.ndims) || t.fmt == 7 || (t.tier == 1 && t.kind != 1)
    || bits n 511 464 != 0 || t.id == 0 || decide (1 < (l.filter (fun m => (tensorOf m).id == t.id)).length)

/-! ### Streams, relocations, plans -/

structure StreamHdr where
  slots : Nat
  stage : Nat
  position : Nat
  bay : Nat
  engine : Nat
  stack : Nat
deriving DecidableEq, Repr

def streamOf (n : Nat) : StreamHdr :=
  { slots := bits n 127 96, stage := bits n 63 48, position := bits n 47 40, bay := bits n 31 24, engine := bits n 23 16,
    stack := bits n 15 8 }

/-- A stream breaks R207. -/
def streamBad (b : List Byte) (p : Nat) (s : Sect) : Bool :=
  let h := streamOf (at_ b s.off 128)
  decide (s.len < 128) || decide (6 < h.engine) || (h.stage != 0xFFFF && decide (p ≤ h.stage)) || (h.position != 0xFF && decide (7 < h.position))
    || s.len != 128 + 128 * h.slots || h.slots == 0 || decide (2 ^ 30 < h.slots) || (decide (h.engine < 4) && decide (63 < h.bay))
    || (h.engine == 4 && decide (15 < h.stack))

structure Reloc where
  tensor : Nat
  item : Nat
  field : Nat
  sect : Nat
deriving DecidableEq, Repr

def relocOf (n : Nat) : Reloc := { tensor := bits n 95 64, item := bits n 63 32, field := bits n 31 16, sect := bits n 15 0 }

/-- Size and count of the items of a section, and the offset of the first. -/
def itemShape (s : Sect) : Nat × Nat × Nat :=
  match s.typ with
  | 3 => (128, s.len / 128 - 1, s.off + 128)
  | 5 => (16, s.len / 16, s.off)
  | 6 => (64, s.len / 64, s.off)
  | _ => (0, 0, 0)

/-- An item of a section belongs to a logical bay. -/
def sectBay (b : List Byte) (s : Sect) : Option Nat :=
  match s.typ with
  | 3 => let h := streamOf (at_ b s.off 128); if h.engine < 4 then some h.bay else none
  | 5 => ((sectionsOf b).filter (fun t => t.typ == 5)).findIdx? (fun t => t == s)
  | _ => none

/-- The 48-bit value that a relocation names. -/
def relocValue (b : List Byte) (s : Sect) (r : Reloc) : Nat :=
  let sh := itemShape s
  bits (at_ b (sh.2.2 + r.item * sh.1) sh.1) (r.field + 47) r.field

def relocBad (b : List Byte) (tensors : Nat) (r : Reloc) : Bool :=
  match (sectionsOf b)[r.sect]? with
  | none => true
  | some s =>
    let sh := itemShape s
    sh.1 == 0 || decide (sh.2.1 ≤ r.item) || decide (8 * sh.1 < r.field + 48)
      || (r.tensor != 0xFFFFFFFF && decide (tensors ≤ r.tensor))
      || (r.tensor == 0xFFFFFFFF && (sectBay b s).isNone && decide (benchEnd ≤ relocValue b s r))

/-- Bits set in a mask. -/
def popcount (m : Nat) : Nat := (List.range 32).foldl (fun n k => if m.testBit k then n + 1 else n) 0

/-- (bank mask, keep mask) of each logical bay (R208). -/
def benchPlan (b : List Byte) : List (Nat × Nat) := (itemsOf b 7 8).map (fun n => (bits n 63 32, bits n 31 0))

def benchBad (p : Nat × Nat) : Bool := p.2 &&& p.1 != p.2 || decide (4 < popcount p.2)

/-- (lanes, segment bytes) of the sticker plan. -/
def stickerPlan (b : List Byte) : Option (Nat × Nat) :=
  match itemsOf b 8 16 with
  | n :: _ => some (bits n 5 0, bits n 47 32 * pageBytes)
  | [] => none

def stickerBad (n : Nat) : Bool :=
  let l := bits n 5 0
  let z := bits n 47 32
  l == 0 || decide (32 < l) || z == 0 || decide (2048 < z) || n != l + z * 2 ^ 32

def planOf (n : Nat) : PlanEntry :=
  { slot := bits n 19 14, kind := bits n 23 20, opcode := bits n 31 24, nMax := bits n 63 32, staging := bits n 127 64,
    bf16 := n.testBit 0 }

def planBad (l : List PlanEntry) (e : PlanEntry) : Bool :=
  decide (3 < e.kind) || decide (e.opcode < 0x50) || decide (0x57 < e.opcode)
    || decide (1 < (l.filter (fun f => f.slot == e.slot)).length)

/-! ### The checks (R203) -/

/-- The length of a section fits its type. -/
def lengthBad (s : Sect) : Bool :=
  match s.typ with
  | 1 => s.len != 64
  | 2 => s.len == 0 || s.len % 64 != 0
  | 4 => s.len % 16 != 0
  | 5 => s.len % 16 != 0 || decide (65535 < s.len / 16)
  | 6 => s.len % 64 != 0
  | 7 => s.len != 512
  | 8 => s.len != 16
  | 9 => s.len % 16 != 0 || decide (64 < s.len / 16)
  | _ => false

/-- The counts of Table 6-3. -/
def countBad (l : List Sect) : Bool :=
  let n := fun t => (l.filter (fun s => s.typ == t)).length
  n 1 != 1 || n 2 != 1 || n 3 == 0 || decide (1 < n 4) || decide (1 < n 6) || n 7 != 1 || decide (1 < n 8) || decide (1 < n 9)
    || decide (1 < n 10)

/-- Check 3. -/
def contentBad (b : List Byte) : Bool :=
  let l := sectionsOf b
  let t := itemsOf b 2 64
  let plan := (itemsOf b 9 16).map planOf
  l.isEmpty || decide (256 < l.length)
    || l.any (fun s => (s.typ == 0 || decide (10 < s.typ)) && !s.optional)
    || l.any (fun s => s.off % 128 != 0) || countBad l || l.any lengthBad
    || t.any (tensorBad t)
    || (l.filter (fun s => s.typ == 3)).any (streamBad b (metaOf b).stages)
    || (itemsOf b 4 16).any (fun n => relocBad b t.length (relocOf n))
    || (benchPlan b).any benchBad || (itemsOf b 8 16).any stickerBad || plan.any (planBad plan)

/-- Check 4: ties (R153). -/
def tied (l : List Tensor) : Bool :=
  let w := l.filter (fun t => t.kind == 0)
  w.any (fun t => t.baseId != 0 || (t.gradTarget != 0 && decide (1 < (w.filter (fun u => u.gradTarget == t.gradTarget)).length)))

/-- The checks of R203 over a container's bytes: 0, or the code of the first failure. -/
def containerCode (b : List Byte) : Nat :=
  let len := at_ b 8 4
  if at_ b 0 4 ≠ 0x4C545543 then 0x0406
  else if at_ b 4 2 ≠ 1 then 0x0407
  else if len < 64 ∨ 0xFFFFFF80 < len then 0x0406
  else if len < 64 + 32 * at_ b 6 2 ∨ (sectionsOf b).any (fun s => decide (len < s.off + s.len)) then 0x0406
  else if sm3 (slice b 64 (len - 64)) ≠ slice b 16 32 then 0x0406
  else if contentBad b then 0x0407
  else if tied (tensorsOf b) then 0x0420
  else 0

end Sys2Proof.Machine
end

