-- ==== Sys2Proof/Machine/Fault.lean ====
section
/-! DEFINITION. Faults and recovery (chapter 15): hangs and quarantine, the watchdog, the reset domains, crash dumps, the health
score and the self-test. -/

namespace Sys2Proof.Machine

/-! ### Hangs (R462 to R466) -/

/-- The tensor clock of an engine's die, and f_e for the reduce engine, in MHz (R437). -/
def State.clockOf (s : State) (e : Nat) : Nat :=
  match engineDie e with
  | some d => max 1 (s.die d).clock
  | none => max 1 s.reduceClock

/-- The stamp at which an engine's monitor reaches the hang time, while the engine holds a started command. -/
def State.hangStamp (s : State) (e : Nat) : Option Nat :=
  let x := s.engine e
  if x.running.isSome || x.epilogue.isSome then some (x.progress + s.num 0x7006 1 * us * 2100 / s.clockOf e) else none

/-- The hang of a bay engine: the bay resets, and its suspects are quarantined in turn. -/
def State.bayHang (s : State) (b e : Nat) : State :=
  let x := s.bay b
  let l := s.suspects b e
  let s := match x.qCurrent with
    | some c =>
      let s := s.setBay b { s.bay b with qReproduced := true }
      let s := (s.bump 0x7010 3).log { code := 0x0707, ctx := some c, severity := 2, unitKind := 1, unit := b, action := 9 }
      let s := s.abandonAs c 0x0705 (some 0x0707)
      s.setBay b { s.bay b with qCurrent := none }
    | none => s
  (s.addSuspects b e l).resetBay b 0x0705

/-- HANG_DETECTED (R463). -/
def execHangDetected (dt e : Nat) (s : State) : Host.Outcome State Fault Refusal :=
  .next ((s.elapse dt).whenUp fun s =>
    match s.hangStamp e with
    | none => s
    | some t =>
      if s.stamp < t ∨ s.engineLive e = false then s
      else
        let u := engineUnit e
        let s := (s.bump 0x7010 2).log { code := 0x0705, severity := if e = 272 then 4 else 2, unitKind := u.1, unit := u.2,
                                         action := if e = 272 then 5 else 3 }
        let s := (s.signal (engineSource e) none).startDump 0x0705
        if e < 256 then s.bayHang (e / 4) e
        else if e < 272 then s.resetDie ((e - 256) / 4) 0x0705
        else s.enterWarmReset 0x0705 true false)

/-- QUARANTINE_LIMIT (R464). -/
def execQuarantineLimit (dt bay : Nat) (s : State) : Host.Outcome State Fault Refusal :=
  .next ((s.elapse dt).whenUp fun s =>
    if (s.bay bay).qCurrent.isSome && decide ((s.bay bay).qSince + s.num 0x7006 2 * ms ≤ s.stamp) then s.endQuarantine bay else s)

/-! ### Heartbeat and watchdog (R467) -/

/-- Device state of Table 15-3. -/
def State.heartbeatState (s : State) : Nat :=
  if s.num 0x7103 1 = 1 then 3 else if s.fault.selfTest = 1 then 2 else if s.bays.any (fun e => e.2.qCurrent.isSome) then 1 else 0

/-- Fault log write index. -/
def State.logIndex (s : State) : Nat := s.fault.logCount % 1024

def State.residentCount (s : State) : Nat := (s.ctxs.filter (fun e => e.2.resident)).length

/-- The device state of Table 14-2: P1 while every bay is gated. -/
def State.deviceState (s : State) : Nat :=
  if s.power.device = 0 ∧ (List.range 64).all (fun b => decide (1 ≤ (s.bay b).power)) then 1 else s.power.device

/-- The payload of Table 15-3. -/
def State.heartbeatBytes (s : State) : List Byte :=
  leBytes 4 (s.cnt 0x7005 4) ++ leBytes 4 s.deviceId ++ leBytes 2 s.health ++ leBytes 2 s.healthCap ++ leBytes 1 s.heartbeatState
    ++ leBytes 1 s.deviceState ++ leBytes 1 s.residentCount ++ leBytes 1 (b2n s.fault.fatalUnacked)
    ++ leBytes 2 (s.fault.log.getLast?.elim 0 (fun e => e.code)) ++ leBytes 2 s.logIndex ++ leBytes 4 (s.num 0x1003 2)
    ++ leBytes 1 s.clock.state ++ zeroBytes 7

/-- HEARTBEAT_KICK (R467): the watchdog restarts its count and a heartbeat frame leaves for the fault manager. -/
def execHeartbeatKick (dt : Nat) (s : State) : Host.Outcome State Fault Refusal :=
  .next ((s.elapse dt).whenUp fun s =>
    let s := { s with fault := { s.fault with lastKick := s.stamp, watchdogOn := true, expired := none } }
    let s := s.efythSend s.recoveryMac 5 1 { EfythHdr.zero with seq := s.cnt 0x7005 4 % 65536, device := s.deviceId }
      s.heartbeatBytes
    s.setCnt 0x7005 4 ((s.cnt 0x7005 4 + 1) % 2 ^ 32))

/-- Source 0 reaches its fast handler: it is enabled and core 0 serves no fast handler (R416). -/
def State.fastReady (s : State) : Bool := (s.config 0).testBit 15 && !(Assoc.get Core.zero s.cores 0).inFast

/-- WATCHDOG_EXPIRY (R467): source 0 signals; its handler takes the dump and enters an announced warm reset. Where the handler
cannot run, the grace is left to run out. -/
def execWatchdogExpiry (dt : Nat) (s : State) : Host.Outcome State Fault Refusal :=
  .next ((s.elapse dt).whenUp fun s =>
    let due := s.fault.lastKick + s.num 0x7005 2 * s.num 0x7005 1 * ms
    if s.fault.watchdogOn && s.fault.expired.isNone && decide (due ≤ s.stamp) then
      let s := { s with fault := { s.fault with expired := some s.stamp } }
      let s := (s.bump 0x7010 5).signal 0 none
      let s := s.deduct 100
      if s.fastReady then s.enterWarmReset 0x0706 true true else s
    else s)

/-- WATCHDOG_GRACE_EXPIRY (R467): the hardware enters warm reset; nothing is announced and no dump is taken. -/
def execWatchdogGraceExpiry (dt : Nat) (s : State) : Host.Outcome State Fault Refusal :=
  .next ((s.elapse dt).whenUp fun s =>
    match s.fault.expired with
    | some t => if t + s.num 0x7005 3 * ms ≤ s.stamp then s.enterWarmReset 0x0706 false false else s
    | none => s)

/-! ### Reset domains (R473, R474) -/

/-- A unit number of object 0x7101.01 brought to its domain's range. -/
def State.clampUnit (s : State) (u last : Nat) : State × Nat := if u ≤ last then (s, u) else (s.countClamp 0x7101, last)

/-- A commanded reset of a bay. -/
def State.actBayReset (s : State) (bay : Nat) : State :=
  let a := s.clampUnit bay 63
  if a.1.benchInReset a.2 then a.1.log { code := 0x0710, unitKind := 1, unit := a.2 }
  else (a.1.log { code := 0x0710, severity := 2, unitKind := 1, unit := a.2, action := 3 }).resetBay a.2 0x0710

/-- BAY_RESET (R473). -/
def execBayReset (dt bay : Nat) (s : State) : Host.Outcome State Fault Refusal :=
  .next ((s.elapse dt).whenUp fun s => s.actBayReset bay)

/-- A reset of a beam die for a cause; within a reset of the die it is absorbed. -/
def State.dieResetFor (s : State) (d cause : Nat) : State :=
  if s.dieReset d then s.log { code := cause, unitKind := 2, unit := d }
  else (s.log { code := cause, severity := 2, unitKind := 2, unit := d, action := 3 }).resetDie d cause

def State.actDieReset (s : State) (d : Nat) : State :=
  let a := s.clampUnit d 3
  a.1.dieResetFor a.2 0x0710

/-- BEAM_DIE_RESET (R473). -/
def execBeamDieReset (dt die : Nat) (s : State) : Host.Outcome State Fault Refusal :=
  .next ((s.elapse dt).whenUp fun s => s.actDieReset die)

/-- WARM_RESET (R474). -/
def execWarmReset (dt : Nat) (s : State) : Host.Outcome State Fault Refusal :=
  .next ((s.elapse dt).whenUp fun s => s.enterWarmReset 0x0710 true true)

def State.actColdReset (s : State) : State := s.announce.enterColdReset 0x0710

/-- COLD_RESET (R473): announced, then everything is reset. -/
def execColdReset (dt : Nat) (s : State) : Host.Outcome State Fault Refusal :=
  .next ((s.elapse dt).whenUp fun s => s.actColdReset)

/-- A bay is back in service. -/
def State.bayBack (s : State) (b : Nat) : State :=
  if (s.bay b).inReset then (s.setBay b { s.bay b with inReset := false, idleSince := s.stamp }).nextSuspect b else s

/-- A beam die is back in service, which takes its rail to be good again (assumption log 124). -/
def State.dieBack (s : State) (d : Nat) : State :=
  if (s.die d).inReset then
    let s := { s with pins := { s.pins with pgBeam := s.pins.pgBeam.set d true } }
    let s := s.setDie d { s.die d with inReset := false, tripped := false, gated := false }
    ((rangeFrom (16 * d) 16).foldl (fun s b => s.bayBack b) s).recoveryOff
  else s

/-- A warm reset waits for the dump it started, up to 5 ms (R479). -/
def State.dumpWaits (s : State) : Bool := s.fault.dumping.elim false (fun t => decide (s.stamp < t + 5 * ms))

def State.completeReset (s : State) (domain unit : Nat) : State :=
  if domain = 1 then s.whenUp (fun s => s.bayBack unit)
  else if domain = 2 then s.whenUp (fun s => s.dieBack unit)
  else if domain = 4 then (if s.dumpWaits then s else s.warmBoot)
  else s

/-- RESET_COMPLETE (R473): every unit of the domain is back in service; after a warm reset, steps 5 to 12 of R494. -/
def execResetComplete (dt domain unit : Nat) (_place : Placement) (s : State) : Host.Outcome State Fault Refusal :=
  .next ((s.elapse dt).completeReset domain unit)

/-! ### Crash dumps (R478, R479, R486) -/

/-- A dump that object 0x7004.04 started is running: a further write there starts nothing (R397). -/
def State.dumpBusy (s : State) : Bool := s.fault.dumping.isSome && s.fault.dumpWritten

/-- A commanded dump; one requested while a dump of another cause runs is refused (R479). -/
def State.actDump (s : State) (v : Nat) : State :=
  if s.dumpBusy then s
  else
    let t := (s.clampNum 0x7004 4 v).1.startDump 0x0401
    if s.fault.dumping.isSome then t else { t with fault := { t.fault with dumpWritten := t.fault.dumping.isSome } }

/-- CRASH_DUMP_START (R478). -/
def execCrashDumpStart (dt : Nat) (s : State) : Host.Outcome State Fault Refusal :=
  .next ((s.elapse dt).whenUp fun s => s.actDump 1)

/-- Leaves of R343: SM3 of each 2 MiB, the last one shorter. -/
def leavesOf (b : List Byte) : List (List Byte) := (chunks pageBytes b).map sm3

/-- Keep a dump as a Sealed object, the four newest of them. -/
def State.keepDump (s : State) (content : List Byte) : State :=
  let id := s.nextObj + 1
  match s.allocSill id none (max 1 (ceilDiv content.length pageBytes)) with
  | none => s.log { code := 0x0709, action := 7 }
  | some a =>
    let s := (a.1.fillSill a.2 content).sealPages a.2 id 0
    let leaves := leavesOf content
    let s := s.setObject id { Obj.none with
      kind := 3, sealed := true, root := sm3 leaves.flatten, leaves := leaves, length := content.length,
      pages := a.2, stamp := s.stamp }
    let s := s.moveRetiring id
    let all := id :: s.fault.dumps
    let s := { s with nextObj := id, fault := { s.fault with dumps := all.take 4 } }
    let s := (all.drop 4).foldl (fun s o => s.freeObject o) s
    let s := ((s.setCnt 0x7004 1 (min 4 all.length)).setCnt 0x7004 2 s.stamp).bump 0x7010 7
    s.log { code := 0, action := 7 }

/-- A dump holds at most 32 MiB. -/
def dumpLimit : Nat := 33554432

def State.endDump (s : State) (content : List Byte) : State :=
  let content := s.fault.dumpItems ++ content
  let s := { s with fault := { s.fault with dumping := none, dumpItems := [] } }
  let s := (s.keepDump (content.take dumpLimit)).releaseUnit 1 .crashDump
  (if s.up && s.fault.selfTest != 1 then s.leaveOrdered else s).signal 452 none

/-- CRASH_DUMP_SEALED (R478): resource 1 is released and source 452 signals. `content` is what the dump holds beside the items of State:
the firmware log and, for a hang, the state of the hung engine. -/
def execCrashDumpSealed (dt : Nat) (content : List Byte) (s : State) : Host.Outcome State Fault Refusal :=
  let s := s.elapse dt
  .next (if s.fault.dumping.isSome then s.endDump content else s)

/-- Dump n, newest 0, into the host staging area. -/
def State.actDumpCopy (s : State) (n : Nat) : State :=
  let a := s.clampNum 0x7004 3 n
  match a.1.fault.dumps[a.2]? with
  | none => a.1
  | some id =>
    let o := a.1.object id
    let bytes := (o.pages.flatMap (fun p => a.1.readBytes (sillPageAddr p) pageBytes)).take o.length
    a.1.coreWrite stagingBase (bytes.take a.1.stagingBytes)

/-- CRASH_DUMP_COPY (R486). -/
def execCrashDumpCopy (dt n : Nat) (s : State) : Host.Outcome State Fault Refusal :=
  .next ((s.elapse dt).whenUp fun s => s.actDumpCopy n)

/-! ### Fault indication, health, admission (R477, R480 to R482) -/

def State.actFatalAck (s : State) (v : Nat) : State :=
  let s := (s.clampNum 0x7003 1 v).1
  ({ s with fault := { s.fault with fatalUnacked := false } } : State).releaseUnit 200 .faultIndication

/-- FATAL_ACK (R477). -/
def execFatalAck (dt v : Nat) (s : State) : Host.Outcome State Fault Refusal :=
  .next ((s.elapse dt).whenUp fun s => s.actFatalAck v)

/-- HEALTH_RESTORE_TICK (R481): one point each 36 s while any transient deduction is in force. -/
def execHealthRestoreTick (dt : Nat) (s : State) : Host.Outcome State Fault Refusal :=
  let s := s.elapse dt
  .next (
    if s.fault.transient = 0 ∨ s.stamp < s.fault.lastRestore + 36 * sec then s
    else
      let before := s.health
      ({ s with fault := { s.fault with transient := s.fault.transient - 1, lastRestore := s.fault.lastRestore + 36 * sec } } :
        State).healthChanged before)

def State.actAdmission (s : State) (v : Nat) : State :=
  let a := s.clampNum 0x7103 1 v
  a.1.setRwp 0x7103 1 (.num a.2)

/-- ADMISSION_STATE_WRITE (R482). -/
def execAdmissionStateWrite (dt v : Nat) (s : State) : Host.Outcome State Fault Refusal :=
  .next ((s.elapse dt).whenUp fun s => s.actAdmission v)

/-! ### Self-test (R483) -/

/-- A reset of the beam-die domain runs, the device sleeps, or a context is defined. -/
def State.testRefused (s : State) : Bool :=
  s.ctxs.any (fun e => e.2.defined) || s.dies.any (fun e => e.2.inReset) || decide (2 ≤ s.power.device)

def State.setSelfTest (s : State) (v : Nat) : State :=
  ({ s with fault := { s.fault with selfTest := v } } : State).setCnt 0x7104 2 v

/-- Start the self-test, or refuse it; while it runs a further start has no effect (R397). -/
def State.actSelfTest (s : State) (v : Nat) : State × Nat :=
  let s := (s.clampNum 0x7104 1 v).1
  if s.fault.selfTest = 1 then (s, 0x0805)
  else if s.testRefused then (s.setSelfTest 4, 0x070B)
  else
    let s := (s.setSelfTest 1).enterOrdered 4
    let s := { s with bays := Assoc.mapVals Bay.inService (fun _ b => { b with power := 0, waking := false }) s.bays }
    (s.recoveryOn, 0)

/-- SELF_TEST_START (R483). -/
def execSelfTestStart (dt : Nat) (s : State) : Host.Outcome State Fault Refusal :=
  .next ((s.elapse dt).whenUp fun s => (s.actSelfTest 1).1)

/-- Retire a page that failed phase 4 or 5: numbers from 393,216 are sill pages. -/
def State.retireTested (s : State) (p : Nat) : State :=
  if p < hbmPages then s.retireHbm p
  else s.retireSill (p - hbmPages)

/-- Bits of object 0x7104.03. -/
def failedBits (bays hbms sills paths : List Nat) : Nat :=
  let put := fun (lo n : Nat) (l : List Nat) => (List.range n).foldl (fun a k => if l.contains k then a + 2 ^ (lo + k) else a) 0
  put 0 64 bays + put 64 16 hbms + put 80 8 sills + put 88 15 paths

/-- SELF_TEST_COMPLETE (R483). -/
def execSelfTestComplete (dt : Nat) (bays hbms sills paths pages : List Nat) (s : State) : Host.Outcome State Fault Refusal :=
  .next ((s.elapse dt).whenUp fun s =>
    if s.fault.selfTest != 1 then s
    else
      let s := (bays.filter (fun b => decide (b < 64))).foldl (fun s b => s.bayOut b) s
      let s := pages.foldl (fun s p => s.retireTested p) s
      let ok := bays.isEmpty && hbms.isEmpty && paths.isEmpty
      let before := s.health
      let s := if ok then ({ s with fault := { s.fault with transient := 0 } } : State).healthChanged before else s
      let s := s.setSelfTest (if ok then 2 else 3)
      let s := (s.setObj 0x7104 3 (.blob (leBytes 16 (failedBits bays hbms sills paths)))).setCnt 0x7104 4 s.stamp
      ((if s.fault.dumping.isNone then s.leaveOrdered else s).recoveryOff).signal 451 none)

/-! ### Counters and firmware faults -/

/-- FAULT_COUNTERS_CLEAR (R487). -/
def execFaultCountersClear (dt v : Nat) (s : State) : Host.Outcome State Fault Refusal :=
  .next ((s.elapse dt).whenUp fun s => s.execClear 0x7011 v)

/-- FIRMWARE_FAULT (R475): an access of a management core that Table 1-6 refuses (R46, source 9), an uncorrectable error in firmware pages or
always-on memory (source 10), or a failed consistency check. An access that may take place raises nothing. -/
def execFirmwareFault (dt : Nat) (cause : FwCause) (s : State) : Host.Outcome State Fault Refusal :=
  .next ((s.elapse dt).whenUp fun s =>
    match cause with
    | .access a n w => if s.accessCode .mgmt 0 a n w = 0 then s else (s.signal 9 none).firmwareFault
    | .memory => (s.signal 10 none).firmwareFault
    | .consistency => s.firmwareFault)

end Sys2Proof.Machine
end

