-- ==== Sys2Proof/Machine/Planer.lean ====
section
/-! DEFINITION. The planer (chapter 2): haul-engine descriptors (R223, R224), conversion words (R74, R75), what a descriptor
reads and writes, and the bytes it forms. -/

namespace Sys2Proof.Machine

/-- PLANER_COUNTERS_CLEAR (R94). -/
def execPlanerCountersClear (dt v : Nat) (s : State) : Host.Outcome State Fault Refusal :=
  .next ((s.elapse dt).whenUp fun s => s.execClear 0x2112 v)

/-! ### Descriptors -/

/-- The conversion word of Table 2-7 after the clamps of R75. -/
structure Conv where
  src : Nat
  dst : Nat
  axis : Nat
  rounding : Nat
  given : Option Nat
deriving DecidableEq, Repr

def decodeConv (w : Nat) : Conv :=
  let sf := if bits w 23 21 = 7 then 0 else bits w 23 21
  let df := if bits w 20 18 = 7 then 0 else bits w 20 18
  let df := if isGrain sf && isGrain df && sf != df then 0 else df
  let g := if bits w 31 24 = 0xFF then 0xFE else bits w 31 24
  { src := sf, dst := df, axis := bits w 17 17, rounding := if bits w 16 15 = 3 then 2 else bits w 16 15,
    given := if w.testBit 14 then some g else none }

/-- Whether R75 clamps the word. -/
def convClamped (w : Nat) : Bool :=
  let sf := bits w 23 21
  let df := bits w 20 18
  sf == 7 || df == 7 || (isGrain sf && isGrain df && sf != df) || bits w 16 15 == 3 || bits w 31 24 == 0xFF

/-- The descriptor of Table 6-16 after the clamps of R226. -/
structure Desc where
  src : Nat
  dst : Nat
  srcScale : Nat
  dstScale : Nat
  conv : Conv
  tensor : Nat
  count : Nat
  rows : Nat
  stride : Nat
  rowBlocks : Nat
  turned : Bool
  rowBase : Nat
  colBase : Nat
  stick : Nat
deriving DecidableEq, Repr

/-- A conversion between grain and BF16 or FP32. -/
def Conv.matrix (c : Conv) : Bool := isGrain c.src != isGrain c.dst

/-- Grain rows and contraction length of a matrix conversion (R224). -/
def grainShape (axis rows count : Nat) : Nat × Nat := if axis = 0 then (rows, count) else (count, rows)

/-- Descriptor bits with their clamps, and whether one was clamped. -/
def decodeDesc (w : Nat) : Desc × Bool :=
  let c := decodeConv (bits w 319 288)
  let count0 := bits w 255 224
  let rows0 := bits w 223 192
  let count := max 1 count0
  let rows := max 1 rows0
  let turned := w.testBit 128 && isGrain c.dst
  let rb0 := bits w 159 136
  let need := ceilDiv (grainShape c.axis rows count).2 32
  let useRb := c.matrix && !turned
  let rb := if useRb then max need rb0 else rb0
  let cb0 := bits w 95 64
  let cb := cb0 / 32 * 32
  ({ src := bits w 511 464, dst := bits w 463 416, srcScale := bits w 415 368, dstScale := bits w 367 320, conv := c,
     tensor := bits w 287 256, count := count, rows := rows, stride := bits w 191 160, rowBlocks := rb,
     turned := turned, rowBase := bits w 127 96, colBase := cb, stick := bits w 63 0 },
   count != count0 || rows != rows0 || rb != rb0 || cb != cb0)

/-- Which side of a descriptor is a stick payload (R224, R536). -/
inductive StickSide where
  | none
  | src
  | dst
deriving DecidableEq, Repr

/-! ### What a descriptor touches -/

def Desc.shape (d : Desc) : Nat × Nat := grainShape d.conv.axis d.rows d.count
def Desc.rowNb (d : Desc) : Nat := ceilDiv d.shape.2 32

/-- Blocks of a plain grain copy, widened to whole groups (R73). -/
def Desc.copyBlocks (d : Desc) : Nat := roundUp d.count (groupBlocks d.conv.src)

/-- Data bytes and blocks of the grain side. -/
def Desc.grainBlocks (d : Desc) : Nat := if d.conv.matrix then d.shape.1 * d.rowNb else d.copyBlocks

/-- Data and scale plane of a dense grain payload (R536). -/
def Desc.planes (d : Desc) (f : Nat) : Nat × Nat :=
  (roundUp (d.grainBlocks * blockBytes f) 1024, roundUp d.grainBlocks 32)

/-- The payload bytes of the stick side of format f: dense. -/
def Desc.stickLen (d : Desc) (f : Nat) : Nat :=
  if isGrain f then (d.planes f).1 + (d.planes f).2
  else if d.conv.matrix then d.rows * d.count * elemBytes f
  else if d.conv.src = d.conv.dst then d.count
  else d.count * elemBytes f

/-- Row stride of the BF16 or FP32 side: dense in a stick. -/
def Desc.rowStride (d : Desc) (f : Nat) (dense : Bool) : Nat := if dense then d.count * elemBytes f else d.stride

/-- The ranges of a grain side at its planes: per grain row, data then scale; one dense range of each in a turned image or a
stick. -/
def Desc.grainRanges (d : Desc) (f data scale : Nat) (dense : Bool) : List (Nat × Nat) :=
  if dense then [(data, (d.planes f).1), (scale, (d.planes f).2)]
  else if d.turned then [(data, d.grainBlocks * blockBytes f), (scale, d.grainBlocks)]
  else (List.range d.shape.1).flatMap (fun g =>
    [(data + g * d.rowBlocks * blockBytes f, d.rowNb * blockBytes f), (scale + g * d.rowBlocks, d.rowNb)])

/-- The ranges of the BF16 or FP32 side of a matrix conversion. -/
def Desc.matrixRanges (d : Desc) (f a : Nat) (dense : Bool) : List (Nat × Nat) :=
  (List.range d.rows).map (fun i => (a + i * d.rowStride f dense, d.count * elemBytes f))

/-- The ranges a side reads or writes, at its addresses. -/
def Desc.sideRanges (d : Desc) (f a scale : Nat) (dense : Bool) : List (Nat × Nat) :=
  if d.conv.matrix then (if isGrain f then d.grainRanges f a scale dense else d.matrixRanges f a dense)
  else if isGrain f then [(a, d.copyBlocks * blockBytes f), (scale, d.copyBlocks)]
  else if d.conv.src = d.conv.dst then [(a, d.count)]
  else [(a, d.count * elemBytes f)]

/-- The address of the scale plane of a stick payload at `a`. -/
def Desc.stickScale (d : Desc) (f a : Nat) : Nat := a + (d.planes f).1

def Desc.reads (d : Desc) (side : StickSide) : List (Nat × Nat) :=
  d.sideRanges d.conv.src d.src (if side = .src then d.stickScale d.conv.src d.src else d.srcScale) (side == .src)

def Desc.writes (d : Desc) (side : StickSide) : List (Nat × Nat) :=
  d.sideRanges d.conv.dst d.dst (if side = .dst then d.stickScale d.conv.dst d.dst else d.dstScale) (side == .dst)

/-- The alignment codes of R77 and R78; the stick side is exempt from 0x0101 (R536). -/
def Desc.alignCode (d : Desc) (side : StickSide) : Nat :=
  let bad := fun (f a sc : Nat) (mine : StickSide) => isGrain f && side != mine && (a % 1024 != 0 || sc % 32 != 0)
  let f := if isGrain d.conv.src then d.conv.dst else d.conv.src
  if bad d.conv.src d.src d.srcScale .src || bad d.conv.dst d.dst d.dstScale .dst then 0x0101
  else if d.conv.matrix && d.stride % elemBytes f != 0 then 0x0102
  else 0

/-! ### The bytes it forms -/

/-- Keys of R83 for the planer. -/
structure KeyBase where
  seed : Nat
  step : Nat
  tensor : Nat
deriving DecidableEq, Repr

def KeyBase.key (b : KeyBase) (site kchunk row col : Nat) : RKey :=
  { seed := b.seed, tensor := b.tensor, step := b.step, row := row, col := col, site := site, kchunk := kchunk }

/-- One element of the matrix side, row-major words. -/
def matrixAt (m : List (List Nat)) (r c : Nat) : Nat := nth 0 (nth [] m r) c

/-- Blocks of grain row `g` formed from a matrix (R77, R79): (data bytes, scale) of each block. -/
def Desc.rowBlocksOf (d : Desc) (m : List (List Nat)) (keyed : Bool) (k : KeyBase) (g : Nat) :
    List (List Byte × Nat) × PCount :=
  let len := d.shape.2
  let l := (List.range d.rowNb).map (fun j =>
    let src := (List.range 32).map (fun i =>
      let c := 32 * j + i
      if c < len then some (decodeSrc d.conv.src (if d.conv.axis = 0 then matrixAt m g c else matrixAt m c g)) else none)
    intoBlock d.conv.dst d.conv.given
      { keyed := keyed, key := fun i => k.key 0 0xFFFF (d.rowBase + g) (d.colBase + 32 * j + i) } src)
  (l.map (fun b => (packElems d.conv.dst b.2.1, b.1)), l.foldl (fun c b => c.add b.2.2) {})

/-- Lay grain rows out as the write ranges want them (R72, R134, R536). -/
def Desc.layOut (d : Desc) (rows : List (List (List Byte × Nat))) (dense : Bool) : List (List Byte) :=
  let nb := d.rowNb
  let order := if d.turned then (List.range nb).flatMap (fun j => rows.map (fun r => nth ([], 0) r j)) else rows.flatten
  let data := order.flatMap (fun b => b.1)
  let scale := order.map (fun b => BitVec.ofNat 8 b.2)
  if dense then [fitBytes (d.planes d.conv.dst).1 data, fitBytes (d.planes d.conv.dst).2 scale]
  else if d.turned then [data, scale]
  else rows.flatMap (fun r => [r.flatMap (fun b => b.1), r.map (fun b => BitVec.ofNat 8 b.2)])

/-- Grain rows as read: element codes and scales of each. -/
def Desc.rowsRead (d : Desc) (l : List (List Byte)) (dense : Bool) : List (List Nat × List Nat) :=
  let f := d.conv.src
  let one := fun (p q : List Byte) => (unpackElems f p, q.map (·.toNat))
  if dense then
    (List.range d.shape.1).map (fun g =>
      one (slice (nth [] l 0) (g * d.rowNb * blockBytes f) (d.rowNb * blockBytes f)) (slice (nth [] l 1) (g * d.rowNb) d.rowNb))
  else (List.range d.shape.1).map (fun g => one (nth [] l (2 * g)) (nth [] l (2 * g + 1)))

/-- One element out of grain, with its key (R83, R85). -/
def Desc.outAt (d : Desc) (rows : List (List Nat × List Nat)) (keyed : Bool) (k : KeyBase) (g c : Nat) : Nat × PCount :=
  let r := nth ([], []) rows g
  outElem d.conv.src (nth 0 r.2 (c / 32)) (nth 0 r.1 c) d.conv.dst keyed (k.key 0 0xFFFE (d.rowBase + g) (d.colBase + c))

/-- The bytes that a descriptor writes, range by range, and what it counts, from the bytes it read. -/
def Desc.move (d : Desc) (side : StickSide) (keyed : Bool) (k : KeyBase) (l : List (List Byte)) : List (List Byte) × PCount :=
  let f := d.conv.src
  let t := d.conv.dst
  if f = t then (l, {})
  else if !d.conv.matrix then
    let w := (words (elemBytes f) (nth [] l 0)).zipIdx.map (fun x =>
      floatConv f x.1 keyed (k.key 0 0xFFFE d.rowBase (d.colBase + x.2)))
    ([w.flatMap (fun x => leBytes (elemBytes t) x.1)], w.foldl (fun c x => c.add x.2) {})
  else if isGrain t then
    let m := l.map (words (elemBytes f))
    let rows := (List.range d.shape.1).map (d.rowBlocksOf m keyed k)
    (d.layOut (rows.map (·.1)) (side == .dst), rows.foldl (fun c r => c.add r.2) {})
  else
    let rows := d.rowsRead l (side == .src)
    let m := (List.range d.rows).map (fun i => (List.range d.count).map (fun j =>
      if d.conv.axis = 0 then d.outAt rows keyed k i j else d.outAt rows keyed k j i))
    (m.map (fun r => r.flatMap (fun x => leBytes (elemBytes t) x.1)),
     m.foldl (fun c r => r.foldl (fun c x => c.add x.2) c) {})

/-- Rounding of a descriptor (R76): the default is the one read at its start. -/
def Desc.keyed (d : Desc) (defGrain defOther : Nat) : Bool :=
  (if d.conv.rounding = 2 then (if isGrain d.conv.dst then defGrain else defOther) else d.conv.rounding) == 1

/-- The key fields of a context and a tensor. -/
def State.keyBase (s : State) (c tensor : Nat) : KeyBase :=
  let x := s.ctx c
  { seed := x.seed, step := x.step, tensor := tensor }

/-- The code of a descriptor before any byte moves: access errors first (R78). -/
def State.descCode (s : State) (g : Agent) (c : Nat) (d : Desc) (side : StickSide) : Nat :=
  let a := s.firstFault g c ((d.reads side).map rd ++ (d.writes side).map wr)
  if a != 0 then a else d.alignCode side

/-- Read, convert, write. The caller has checked the codes. -/
def State.runDesc (s : State) (g : Agent) (c : Nat) (d : Desc) (side : StickSide) (keyed : Bool) : State :=
  let l := (d.reads side).map (fun x => s.engineBytes c x.1 x.2)
  let m := d.move side keyed (s.keyBase c d.tensor) l
  let s := s.heatAll g c (d.reads side)
  let s := s.writeAll c (((d.writes side).zip m.1).map (fun x => (x.1.1, x.2)))
  s.countPlaner m.2

/-- Bytes read and written by a descriptor, for the bay's counters 7 and 8. -/
def totalLen (l : List (Nat × Nat)) : Nat := l.foldl (fun n x => n + x.2) 0

end Sys2Proof.Machine
end

