-- ==== Sys2Proof/Machine/Sticker.lean ====
section
/-! DEFINITION. Hauls and sticker operations (R143 to R152, R223 to R225, R282, R286): one descriptor of a haul engine, the
sticker stack, and the meanings of the haul commands. -/

namespace Sys2Proof.Machine

/-! ### Segments (R143, R144, R147) -/

def segKey (lane bay : Nat) : Nat := lane * 64 + bay

def Ctx.segment (x : Ctx) (lane bay : Nat) : Segment := Assoc.get Segment.empty x.segments (segKey lane bay)
def Ctx.setSegment (x : Ctx) (lane bay : Nat) (y : Segment) : Ctx :=
  { x with segments := Assoc.set Segment.empty x.segments (segKey lane bay) y }

/-- Context address of an offset in a segment. -/
def Ctx.segAddr (x : Ctx) (lane bay off : Nat) : Nat := x.stackBase + (lane * 64 + bay) * x.segSize + off

/-- Bytes a stick of a length occupies. -/
def stickNeed (len : Nat) : Nat := roundUp (32 + len) 256

/-- The header of Table 4-3. -/
structure StickHdr where
  stamp : Nat
  check : Nat
  tag : Nat
  length : Nat
  back : Nat
  epoch : Nat
  lane : Nat
  fmt : Nat
  held : Bool
deriving DecidableEq, Repr

def StickHdr.bytes (h : StickHdr) : List Byte :=
  leBytes 32 (packFields [(64, h.stamp), (64, h.check), (32, h.tag), (32, h.length), (32, h.back), (16, h.epoch), (5, h.lane),
    (3, h.fmt), (7, 0), (1, b2n h.held)])

def StickHdr.parse (b : List Byte) : StickHdr :=
  let n := leNat b
  { stamp := bits n 255 192, check := bits n 191 128, tag := bits n 127 96, length := bits n 95 64, back := bits n 63 32,
    epoch := bits n 31 16, lane := bits n 15 11, fmt := bits n 10 8, held := n.testBit 0 }

/-- The digest of R145 as the check field holds it. -/
def stickCheck (h : StickHdr) (payload : List Byte) : Nat :=
  let leaves := (chunks 4096 payload).flatMap sm3
  leNat ((sm3 (({ h with check := 0, held := false } : StickHdr).bytes ++ leaves)).take 8)

def State.stickHdr (s : State) (c lane bay off : Nat) : StickHdr :=
  StickHdr.parse (s.getBytes c ((s.ctx c).segAddr lane bay off) 32)

/-- end(s) of the stick at an offset (R147). -/
def State.stickEnd (s : State) (c lane bay off : Nat) : Nat := off + stickNeed (s.stickHdr c lane bay off).length

/-- top = max(end(cursor), end of every held stick of the segment). -/
def State.settle (s : State) (c lane bay : Nat) : State :=
  let x := s.ctx c
  let y := x.segment lane bay
  let own := (x.held.filter (fun h => h.bay == bay && h.lane == lane)).map (fun h => s.stickEnd c lane bay h.offset)
  let t := own.foldl max (y.cursor.elim 0 (s.stickEnd c lane bay))
  s.setCtx c (x.setSegment lane bay { y with top := t })

/-- Write the held bit of a stick's header. -/
def State.setHeld (s : State) (c lane bay off : Nat) (v : Bool) : State :=
  let h := s.stickHdr c lane bay off
  s.putBytes c ((s.ctx c).segAddr lane bay off) ({ h with held := v } : StickHdr).bytes

/-- The most recently held stick of a segment with a tag (R149). -/
def Ctx.findHeld (x : Ctx) (bay lane tag : Nat) : Option Held :=
  x.held.reverse.find? (fun h => h.bay == bay && h.lane == lane && h.tag == tag)

/-- Drop the last occurrence of an entry. -/
def dropLast1 (l : List Held) (h : Held) : List Held := (l.reverse.erase h).reverse

/-! ### Stick words (Table 4-4) -/

structure StickWord where
  op : Nat
  lane : Nat
  tag : Nat
deriving DecidableEq, Repr

/-- The word after the clamps of R146; a context without a stack has no lane to clamp to. -/
def stickWord (w lanes : Nat) : StickWord :=
  let op := bits w 39 37
  let l := bits w 36 32
  { op := if 5 < op then 5 else op, lane := if lanes ≠ 0 ∧ lanes ≤ l then lanes - 1 else l, tag := bits w 31 0 }

def stickClamped (w lanes : Nat) : Bool :=
  decide (5 < bits w 39 37) || (lanes != 0 && decide (lanes ≤ bits w 36 32))

/-! ### One descriptor (R224, R461) -/

/-- Where a descriptor's writes go: this device, or messages to another one. -/
abbrev Sink := List (Nat × List Byte)

/-- The result of one descriptor: the state, its code, and what a remote haul has to send. -/
structure HaulOut where
  state : State
  code : Nat
  out : Sink

/-- The bytes that move for a checked descriptor: what it writes, with what it counts. -/
def State.descOut (s : State) (c : Nat) (d : Desc) (side : StickSide) (keyed : Bool) : Sink × PCount :=
  let l := (d.reads side).map (fun x => s.engineBytes c x.1 x.2)
  let m := d.move side keyed (s.keyBase c d.tensor) l
  (((d.writes side).zip m.1).map (fun x => (x.1.1, x.2)), m.2)

/-- Whether a descriptor converts. -/
def Desc.converts (d : Desc) : Bool := d.conv.src != d.conv.dst

/-- Run a descriptor whose codes were checked, under the checkers of R461. A remote descriptor writes nothing here. -/
def State.transfer (s : State) (b c : Nat) (d : Desc) (side : StickSide) (keyed remote : Bool) (diag : Option Diag) : HaulOut :=
  let g := Agent.bay b
  let o := s.descOut c d side keyed
  let s := s.heatAll g c (d.reads side)
  let put := fun (s : State) => if remote then s else s.writeAll c o.1
  let some_ := fun (s : State) => if remote then s else s.writeSome c o.1
  let s := s.countEvent b 7 (totalLen (d.reads side)) (some c)
  let s := s.countEvent b 8 (totalLen (d.writes side)) (some c)
  let s := if remote then s else s.countWrites g c (d.writes side)
  match diag with
  | some .planer =>
    if d.converts then { state := ((some_ s).countSome o.2).reactMismatch (4 * b + 2) c 0x0116, code := 0x0116, out := [] }
    else { state := (put s).countPlaner o.2, code := 0, out := o.1 }
  | some (.memory p a) =>
    let m := s.memoryError p a (some c)
    if m.2 then { state := (some_ m.1).countSome o.2, code := 0x0233, out := [] }
    else { state := (put m.1).countPlaner o.2, code := 0, out := o.1 }
  | some .mismatch => { state := ((put s).countPlaner o.2).reactMismatch (4 * b + 2) c 0x0208, code := 0x0208, out := o.1 }
  | some (.residue _ _) => { state := (put s).countPlaner o.2, code := 0, out := o.1 }
  | none => { state := (put s).countPlaner o.2, code := 0, out := o.1 }

/-- Code of a descriptor before it moves: a remote destination is checked by its receiver. -/
def State.haulCode (s : State) (b c : Nat) (d : Desc) (side : StickSide) (remote : Bool) : Nat :=
  let l := (d.reads side).map rd ++ (if remote then [] else (d.writes side).map wr)
  let a := s.firstFault (.bay b) c l
  if a != 0 then a else d.alignCode side

/-! ### The sticker operations (R147 to R149) -/

/-- A push: payload, then the header with its check. -/
def State.stickPush (s : State) (b c : Nat) (d : Desc) (w : StickWord) (keyed : Bool) (diag : Option Diag) : State × Nat :=
  let x := s.ctx c
  let y := x.segment w.lane b
  let len := d.stickLen d.conv.dst
  let need := stickNeed len
  if x.lanes = 0 ∨ y.top + need > x.segSize then (s, 0x0221)
  else
    let base := x.segAddr w.lane b y.top
    let d := { d with dst := base + 32 }
    let code := s.haulCode b c d .dst false
    let hc := s.accessCode (.bay b) c base 32 true
    if code != 0 then (s, code)
    else if hc != 0 then (s, hc)
    else
      let r := s.transfer b c d .dst keyed false diag
      if r.code != 0 then (r.state, r.code)
      else
        let s := r.state
        let h : StickHdr := {
          stamp := s.stamp, check := 0, tag := w.tag, length := len,
          back := y.cursor.elim 0 (fun k => (y.top - k) / 256), epoch := s.epoch c, lane := w.lane, fmt := d.conv.dst,
          held := false }
        let h := { h with check := stickCheck h (s.getBytes c (base + 32) len) }
        let s := s.putBytes c base h.bytes
        let s := s.modCtx c (fun x => x.setSegment w.lane b { cursor := some y.top, top := y.top + need })
        let s := s.bump 0x2201 1
        (if s.cnt 0x2201 8 < y.top + need then s.setCnt 0x2201 8 (y.top + need) else s, 0)

/-- Checks 2 to 5 of R148 on the stick at an offset. -/
def State.stickChecks (s : State) (b c : Nat) (d : Desc) (w : StickWord) (off : Nat) : Nat :=
  let a := s.accessCode (.bay b) c ((s.ctx c).segAddr w.lane b off) 32 false
  let h := s.stickHdr c w.lane b off
  if a != 0 then a
  else if h.epoch != s.epoch c then 0x0226
  else if h.tag != w.tag then 0x0223
  else if h.length != d.stickLen d.conv.src then 0x0227
  else if h.fmt != d.conv.src then 0x0229
  else 0

/-- Each byte of a destination may or may not have landed (R148). -/
def State.writeMaybe (s : State) (c : Nat) (l : Sink) : State :=
  l.foldl (fun s x =>
    let old := s.engineBytes c x.1 x.2.length
    let b := (x.2.zip old).zipIdx.map (fun p => if Config.freeBit (s.freeCtr + p.2) then p.1.1 else p.1.2)
    ({ s with freeCtr := s.freeCtr + x.2.length } : State).engineWrite c x.1 b) s

/-- Move the payload of a checked stick and verify its digest (R148 check 6). -/
def State.stickMove (s : State) (b c : Nat) (d : Desc) (w : StickWord) (off : Nat) (keyed remote : Bool) (diag : Option Diag) :
    HaulOut :=
  let base := (s.ctx c).segAddr w.lane b off
  let d := { d with src := base + 32 }
  let code := s.haulCode b c d .src remote
  if code != 0 then { state := s, code := code, out := [] }
  else
    let h := s.stickHdr c w.lane b off
    if stickCheck h (s.getBytes c (base + 32) h.length) = h.check then s.transfer b c d .src keyed remote diag
    else
      let o := s.descOut c d .src keyed
      let s := if remote then s else s.writeMaybe c o.1
      { state := (s.countPlaner o.2).bump 0x2201 5, code := 0x0220, out := [] }

/-- A pop, with or without hold. -/
def State.stickPop (s : State) (b c : Nat) (d : Desc) (w : StickWord) (hold keyed remote : Bool) (diag : Option Diag) : HaulOut :=
  let x := s.ctx c
  let y := x.segment w.lane b
  if hold && decide (2048 ≤ x.held.length) then { state := s, code := 0x0225, out := [] }
  else
    match y.cursor with
    | none => { state := s, code := 0x0222, out := [] }
    | some k =>
      let code := s.stickChecks b c d w k
      if code != 0 then { state := s, code := code, out := [] }
      else
        let h := s.stickHdr c w.lane b k
        let r := s.stickMove b c d w k keyed remote diag
        if r.code != 0 then r
        else
          let s := if hold then
              ((r.state.setHeld c w.lane b k true).modCtx c
                (fun x => { x with held := x.held ++ [{ bay := b, lane := w.lane, tag := w.tag, offset := k }] })).bump 0x2201 3
            else r.state
          let s := s.modCtx c (fun x => x.setSegment w.lane b
            { cursor := if h.back = 0 then none else some (k - h.back * 256), top := y.top })
          { r with state := (s.settle c w.lane b).bump 0x2201 2 }

/-- A read of a held stick. -/
def State.stickRead (s : State) (b c : Nat) (d : Desc) (w : StickWord) (keyed remote : Bool) (diag : Option Diag) : HaulOut :=
  match (s.ctx c).findHeld b w.lane w.tag with
  | none => { state := s, code := 0x0224, out := [] }
  | some h =>
    let code := s.stickChecks b c d w h.offset
    if code != 0 then { state := s, code := code, out := [] } else s.stickMove b c d w h.offset keyed remote diag

/-- A release. -/
def State.stickRelease (s : State) (b c : Nat) (w : StickWord) : State × Nat :=
  match (s.ctx c).findHeld b w.lane w.tag with
  | none => (s, 0x0224)
  | some h =>
    let code := s.accessCode (.bay b) c ((s.ctx c).segAddr w.lane b h.offset) 32 true
    if code != 0 then (s, code)
    else
      let s := s.setHeld c w.lane b h.offset false
      let s := s.modCtx c (fun x => { x with held := dropLast1 x.held h })
      ((s.settle c w.lane b).bump 0x2201 4, 0)

/-- One descriptor of a haul engine of bay `b`, with its stick operation; failures are reported (R152, R170). -/
def State.haulDesc (s : State) (b c : Nat) (d : Desc) (keyed remote : Bool) (diag : Option Diag) : HaulOut :=
  let w := stickWord d.stick (s.ctx c).lanes
  let r : HaulOut := match w.op with
    | 0 =>
      let code := s.haulCode b c d .none remote
      if code != 0 then { state := s, code := code, out := [] } else s.transfer b c d .none keyed remote diag
    | 1 => let a := s.stickPush b c d w keyed diag; { state := a.1, code := a.2, out := [] }
    | 2 => s.stickPop b c d w false keyed remote diag
    | 3 => s.stickPop b c d w true keyed remote diag
    | 4 => s.stickRead b c d w keyed remote diag
    | _ => let a := s.stickRelease b c w; { state := a.1, code := a.2, out := [] }
  let st := r.state.reportAccess (4 * b + 2) c r.code
  let again := [0x0116, 0x0208, 0x0230, 0x0231, 0x0232, 0x0234, 0x0235].contains r.code
  { r with state := if w.op != 0 && r.code != 0 && !again then st.signal (32 + b) (some c) else st }

/-! ### Haul commands -/

/-- The descriptor of a haul command's body. -/
def haulDescOf (m : Cmd) : Desc := (decodeDesc (bits m.body 895 384)).1

/-- Stick op of a haul command; 0 for none. -/
def haulOp (m : Cmd) : Nat := min 5 (bits (haulDescOf m).stick 39 37)

/-- The remote bit (Table 6-17): only haul engine 0 writes other devices, and a push or a release writes none. -/
def isRemote (q : Nat) (m : Cmd) : Bool := engineKind q == 2 && m.body.testBit 383 && haulOp m != 1 && haulOp m != 5

/-- The segment of a sticker operation. -/
def State.stickLane (s : State) (r : Run) : Nat := (stickWord (haulDescOf r.cmd).stick (s.ctx r.ctx).lanes).lane

/-- Sticker operations of one segment take effect in the order of their issue in the bay's queues (R150): the other haul engine
of the bay holds a started operation of the run's context and segment that was issued before it (assumption log 142). -/
def State.stickBefore (s : State) (e : Nat) (r : Run) : Bool :=
  let g := s.engine (4 * (e / 4) + (5 - e % 4))
  [g.running, g.suspended].any (fun o => o.elim false (fun q =>
    q.ctx == r.ctx && q.cmd.opcode == 0x30 && haulOp q.cmd != 0 && q.await == .none && q.failed.isNone
      && s.stickLane q == s.stickLane r && decide (q.issued < r.issued)))

/-- A local haul or sticker operation of the engine runs and completes; a sticker operation waits for those issued before it. -/
def State.localHaul (s : State) (e : Nat) (op : Nat) (diag : Option Diag) : State :=
  s.onRun e (fun m => m.opcode == 0x30 && haulOp m == op && !isRemote e m) fun s r =>
    if op != 0 && s.stickBefore e r then s
    else
      let d := haulDescOf r.cmd
      let o := s.haulDesc (e / 4) r.ctx d (d.keyed r.defGrain r.defOther) false diag
      o.state.endWith e r o.code

/-- HAUL (R224). -/
def execHaul (dt e : Nat) (diag : Option Diag) (s : State) : Host.Outcome State Fault Refusal :=
  .next ((s.elapse dt).localHaul e 0 diag)

/-- PUSH (R147). -/
def execPush (dt e : Nat) (diag : Option Diag) (s : State) : Host.Outcome State Fault Refusal :=
  .next ((s.elapse dt).localHaul e 1 diag)

/-- POP (R148). -/
def execPop (dt e : Nat) (diag : Option Diag) (s : State) : Host.Outcome State Fault Refusal :=
  .next ((s.elapse dt).localHaul e 2 diag)

/-- POP_AND_HOLD (R149). -/
def execPopAndHold (dt e : Nat) (diag : Option Diag) (s : State) : Host.Outcome State Fault Refusal :=
  .next ((s.elapse dt).localHaul e 3 diag)

/-- READ_HELD (R147). -/
def execReadHeld (dt e : Nat) (diag : Option Diag) (s : State) : Host.Outcome State Fault Refusal :=
  .next ((s.elapse dt).localHaul e 4 diag)

/-- RELEASE (R147). -/
def execRelease (dt e : Nat) (diag : Option Diag) (s : State) : Host.Outcome State Fault Refusal :=
  .next ((s.elapse dt).localHaul e 5 diag)

/-! ### Remote hauls (R225, R282, R286, R291) -/

/-- The remote word of Table 6-17. -/
structure RemoteWord where
  device : Nat
  roleEpoch : Nat
  ctx : Nat
  ctxEpoch : Nat
  mortise : Nat
  notify : Bool
  value : Nat
deriving DecidableEq, Repr

def remoteWord (m : Cmd) : RemoteWord :=
  let w := m.body
  let t := bits w 320 305
  { device := bits w 382 365, roleEpoch := bits w 364 349, ctx := bits w 348 337, ctxEpoch := bits w 336 321,
    mortise := if 0x0400 ≤ t then 0xFFFF else t, notify := w.testBit 304, value := bits w 303 272 }

/-- Cut one range at every 4,096-byte boundary of the destination (R282). The fuel bounds the pieces. -/
def cutMessages : Nat → Nat → List Byte → Sink
  | 0, _, _ => []
  | f + 1, a, l =>
    if l.isEmpty then []
    else let k := 4096 - a % 4096
         (a, l.take k) :: cutMessages f (a + k) (l.drop k)

/-- Join ranges that follow one another. -/
def joinRanges : Sink → Sink
  | [] => []
  | (a, l) :: rest => match joinRanges rest with
    | (b, m) :: t => if a + l.length = b then (a, l ++ m) :: t else (a, l) :: (b, m) :: t
    | [] => [(a, l)]

/-- Messages of a length at an address. -/
def messageCount (a n : Nat) : Nat := if n = 0 then 0 else (a + n - 1) / 4096 - a / 4096 + 1

/-- Ranges (address, length) that follow one another, joined as their data is. -/
def joinSpans : List (Nat × Nat) → List (Nat × Nat)
  | [] => []
  | (a, n) :: rest => match joinSpans rest with
    | (b, m) :: t => if a + n = b then (a, n + m) :: t else (a, n) :: (b, m) :: t
    | [] => [(a, n)]

/-- Messages that a descriptor's ranges need. -/
def Desc.messages (d : Desc) (side : StickSide) : Nat :=
  (joinSpans (d.writes side)).foldl (fun n x => n + messageCount x.1 x.2) 0

/-- The largest count, bit by bit from above, that needs at most 4,096 messages. -/
def largestCount (d : Desc) (side : StickSide) : Nat → Nat → Nat
  | 0, n => n
  | k + 1, n =>
    let t := n + 2 ^ k
    if t ≤ d.count ∧ ({ d with count := t } : Desc).messages side ≤ 4096 then largestCount d side k t
    else largestCount d side k n

/-- The descriptor after the clamp of R282. -/
def remoteDesc (d : Desc) : Desc :=
  let side := if d.stick / 2 ^ 37 % 8 = 0 then StickSide.none else StickSide.src
  if d.messages side ≤ 4096 then d else { d with count := max 1 (largestCount d side 32 0) }

/-- The messages of a remote haul: (address, payload), at most 4,096. -/
def remoteMessages (o : Sink) : Sink := ((joinRanges o).flatMap (fun x => cutMessages (x.2.length / 4096 + 2) x.1 x.2)).take 4096

/-- Header of message `i` of `n` of a remote haul. -/
def remoteHdr (w : RemoteWord) (r : Run) (epoch i n addr : Nat) : FabHdr :=
  { FabHdr.zero with
    flags := if i + 1 = n then 0xC0 + 0x20 * b2n w.notify else 0,
    roleEpoch := w.roleEpoch, srcCtx := r.ctx, dstCtx := w.ctx, srcCtxEpoch := epoch, dstCtxEpoch := w.ctxEpoch,
    mortise := w.mortise, dstAddr := addr, srcSlot := r.slot, srcQueue := r.queue, msgIndex := i, msgCount := n - 1,
    value := w.value }

/-- The messages of a remote haul in order; one that moves no byte is a fill alone. -/
def State.haulMessages (s : State) (w : RemoteWord) (r : Run) (l : Sink) : List (FabHdr × List Byte) :=
  if l.isEmpty then [(remoteHdr w r (s.epoch r.ctx) 0 1 0, [])]
  else l.zipIdx.map (fun x => (remoteHdr w r (s.epoch r.ctx) x.2 l.length x.1.1, x.1.2))

/-- REMOTE_HAUL (R282): the data leaves as Cranany writes, and the haul awaits its acknowledgement. -/
def execRemoteHaul (dt e : Nat) (diag : Option Diag) (s : State) : Host.Outcome State Fault Refusal :=
  .next ((s.elapse dt).onRun e (fun m => m.opcode == 0x30 && isRemote e m) fun s r =>
    let w := remoteWord r.cmd
    let d := remoteDesc (haulDescOf r.cmd)
    if haulOp r.cmd != 0 && s.stickBefore e r then s
    else if s.inPeerReset w.device then s.endWith e r 0x0303
    else if (s.upLinks w.device).isEmpty && s.upPorts.isEmpty then s.endWith e r 0x0305
    else
      let o := s.haulDesc (e / 4) r.ctx d (d.keyed r.defGrain r.defOther) true diag
      if o.code != 0 && o.code != 0x0208 then o.state.endWith e r o.code
      else
        let l := remoteMessages o.out
        let n := max 1 l.length
        if s.unanswered w.device + n > 4096 then s
        else
          let first := Assoc.get 0 o.state.fab.txSeq w.device
          let a := o.state.sendCommand w.device (if l.isEmpty then 0x03 else 0x01) (o.state.haulMessages w r l)
          let t := a.1
          let g := t.engine e
          t.setEngine e { g with
            running := some { r with
              out := a.2, purlin := (s.upLinks w.device).isEmpty, waitFrom := t.stamp,
              await := .ack w.device w.roleEpoch w.ctx w.ctxEpoch first n t.stamp 0,
              failed := if o.code = 0 then none else some o.code },
            progress := t.stamp })

end Sys2Proof.Machine
end

