-- ==== Sys2Proof/Machine/Memory.lean ====
section
/-! DEFINITION. The memory tiers at work (chapter 5): heat and transparent copies, prefetch schedules, patrol scrub and the zeroing of
benches. -/

namespace Sys2Proof.Machine

/-! ### Heat and copies (R183 to R188, R201) -/

/-- Drop copies that a rule picks, counting demotions where asked. Object 0x3010.0A counts the drops after a halving, which R187 calls
demotions, and no other drop (assumption log 129: the model's choice). -/
def State.dropCopies (s : State) (p : Copy → Bool) (counted : Bool) : State :=
  (s.copies.filter p).foldl (fun s x => let s := s.dropCopy x.sill; if counted then s.bump 0x3010 0x0A else s) s

/-- Halve every counter; a page whose counter falls below the promotion threshold may be considered again (R185). -/
def SillPage.halve (p : SillPage) (threshold : Nat) : SillPage :=
  let h := p.heat / 2
  { p with heat := h, refused := p.refused && decide (threshold ≤ h) }

/-- HEAT_HALVING (R183, R187). -/
def execHeatHalving (dt : Nat) (s : State) : Host.Outcome State Fault Refusal :=
  .next ((s.elapse dt).whenUp fun s =>
    if s.stamp % ms != 0 then s
    else
      let t := s.num 0x3003 2
      let s := { s with sill := Assoc.mapVals SillPage.free (fun _ p => p.halve t) s.sill }
      s.dropCopies (fun x => x.done && decide ((s.sillPage x.sill).heat < s.num 0x3003 3)) true)

/-- A copy is complete: the pool page holds the sill page's bytes and its directory entry stands (R186). -/
def State.installCopy (s : State) (x : Copy) : State :=
  let b := s.saveRange (sillPageAddr x.sill) (sillPageAddr x.sill + pageBytes)
  let s := s.zeroRange (hbmPageAddr x.page) (hbmPageAddr x.page + pageBytes)
  let s := s.loadRange (hbmPageAddr x.page) b
  { s with copies := s.copies.map (fun y => if y.sill = x.sill then { y with done := true } else y) }

/-- COPY_COMPLETE (R186, R188). -/
def execCopyComplete (dt pkg : Nat) (ue : Bool) (s : State) : Host.Outcome State Fault Refusal :=
  .next ((s.elapse dt).whenUp fun s =>
    match Assoc.get [] s.copyQueue pkg with
    | [] => s
    | p :: rest =>
      let s := { s with copyQueue := Assoc.set [] s.copyQueue pkg rest }
      match s.copies.find? (fun x => x.sill == p) with
      | none => s
      | some x => if ue then ((s.dropCopy p).memoryError .cell (sillPageAddr p) none).1 else s.installCopy x)

/-- Drop the coldest copies of a stack until no more than `n` stand. The fuel bounds the pool. -/
def State.shrinkPool : Nat → State → Nat → Nat → State
  | 0, s, _, _ => s
  | f + 1, s, k, n =>
    if s.poolUsed k ≤ n then s
    else match s.coldestCopy (s.copies.filter (fun x => pageStack x.page == k)) with
      | some x => State.shrinkPool f (s.dropCopy x.sill) k n
      | none => s

def State.actCopyPool (s : State) (stack v : Nat) : State :=
  let a := s.clampNum 0x3002 (stack + 1) v
  (a.1.setRwp 0x3002 (stack + 1) (.num a.2)).shrinkPool 1024 stack a.2

/-- COPY_POOL_WRITE (R201). -/
def execCopyPoolWrite (dt stack v : Nat) (s : State) : Host.Outcome State Fault Refusal :=
  .next ((s.elapse dt).whenUp fun s => if stack < 16 then s.actCopyPool stack v else s)

def State.actCopies (s : State) (v : Nat) : State :=
  let a := s.clampNum 0x3003 1 v
  let s := a.1.setObj 0x3003 1 (.num a.2)
  if a.2 = 0 then s.dropCopies (fun _ => true) false else s

/-- TRANSPARENT_COPIES_WRITE (R199). -/
def execTransparentCopiesWrite (dt v : Nat) (s : State) : Host.Outcome State Fault Refusal :=
  .next ((s.elapse dt).whenUp fun s => s.actCopies v)

/-! ### Prefetch (R189 to R191) -/

/-- What context `c` may fire on a bay: a descriptor that a swap stopped, else the next entry of the schedule. Entries fire while a step of
the context is open and not abandoned (assumption log 130: the model's choice). On a bay out of service an entry waits for no marker
(R534). -/
def State.nextPref (s : State) (c b : Nat) : Option (Flight ⊕ Nat) :=
  let x := s.ctx c
  let y := x.bayStep b
  let out := (s.bay b).out
  if x.state != 2 || !x.stepOpen || x.abandoned.isSome || (!out && decide (8 ≤ y.inFlight.length)) then none
  else if !out && (!x.grantedOn b || s.benchInReset b) then none
  else match y.stopped with
    | f :: _ => some (.inl f)
    | [] =>
      if y.pos < Assoc.get 0 x.prefCount b && (out || decide ((s.prefEntry c b y.pos).1.fireAt ≤ y.marker)) then some (.inr y.pos) else none

/-- The descriptor of a target-0 entry is read as it starts (R76), and its clamped words are counted (R75, R146). -/
def State.readPref (s : State) (c b i a : Nat) : State × Flight :=
  let k := s.accessCode (.bay b) c a 64 false
  let code := if k != 0 then k else if a % 64 != 0 then 0x0203 else 0
  let f : Flight := { entry := i, code := code, desc := 0, defGrain := s.num 0x2110 1, defOther := s.num 0x2110 2 }
  if k != 0 then (s.reportAccess (4 * b + 3) c k, f)
  else if code != 0 then (s, f)
  else
    let w := leNat (s.getBytes c a 64)
    let s := s.heatRead (.bay b) c a 64
    let s := if convClamped (bits w 319 288) then s.bump 0x2111 5 else s
    (if stickClamped (bits w 63 0) (s.ctx c).lanes then s.bump 0x2201 6 else s, { f with desc := w })

/-- An entry is in flight; on a bay out of service it counts at once, a descriptor with 0x020A (R534). -/
def State.fly (s : State) (c b : Nat) (f : Flight) : State :=
  if (s.bay b).out then s.endPref c b 0x020A f
  else s.modCtx c (fun x => let y := x.bayStep b; x.setBayStep b { y with inFlight := y.inFlight ++ [f] })

/-- Fire what may fire: a stopped descriptor goes on as it started, a new entry counts its clamps (R189). -/
def State.firePref (s : State) (c b : Nat) : Flight ⊕ Nat → State
  | .inl f =>
    (s.modCtx c (fun x => let y := x.bayStep b; x.setBayStep b { y with stopped := y.stopped.erase f })).fly c b f
  | .inr i =>
    let e := s.prefEntry c b i
    let s := if e.2 then s.bump 0x3010 0x10 else s
    let s := s.modCtx c (fun x => let y := x.bayStep b; x.setBayStep b { y with pos := y.pos + 1 })
    let r := if e.1.target = 0 && !(s.bay b).out then s.readPref c b i e.1.addr
             else (s, { entry := i, code := 0, desc := 0, defGrain := 0, defOther := 0 })
    r.1.fly c b r.2

/-- PREFETCH_FIRE (R190): the first resident context of the bay with an entry that may fire. -/
def execPrefetchFire (dt bay : Nat) (s : State) : Host.Outcome State Fault Refusal :=
  .next ((s.elapse dt).whenUp fun s =>
    match s.ctxs.find? (fun e => (s.nextPref e.1 bay).isSome) with
    | some e => (match s.nextPref e.1 bay with | some p => s.firePref e.1 bay p | none => s)
    | none => s)

/-- A warm reads the lines of its range into the loft, page by page: of HBM, and of a sill page with a copy, which heats the page. A failed
translation is reported (R170); a bench address and a sill page without a copy read nothing (R190). -/
def State.warm (s : State) (c b a n : Nat) : State :=
  if a < hbmBase ∨ sillEnd ≤ a then s
  else (pageCuts a n).foldl (fun s x =>
    let t := s.translate c x.1 false false
    let p := (t.2 - sillBase) / pageBytes
    if t.1 != 0 then s.reportAccess (4 * b + 3) c t.1
    else if t.2 < sillBase then s.loftServe (.bay b) c x.1 x.2
    else if s.copies.any (fun y => y.done && y.sill == p) then (s.loftServe (.bay b) c x.1 x.2).heatPage (.bay b) p x.2
    else s) s

/-- The transfer of a target-0 entry: the code, 0 for success. -/
def State.prefDescriptor (s : State) (c b : Nat) (f : Flight) (diag : Option Diag) : State × Nat :=
  if f.code != 0 then (s, f.code)
  else
    let d := (decodeDesc f.desc).1
    let o := s.haulDesc b c d (d.keyed f.defGrain f.defOther) false diag
    (o.state, o.code)

/-- A warm meets an uncorrectable error: it is recorded as of any read, and the step of the context is abandoned where the read fails (R194). -/
def State.warmError (s : State) (c : Nat) : Option Diag → State
  | some (.memory p a) =>
    let m := s.memoryError p a (some c)
    if m.2 then m.1.abandon c 0x0233 else m.1
  | _ => s

/-- PREFETCH_COMPLETE (R191). -/
def execPrefetchComplete (dt bay entry : Nat) (diag : Option Diag) (s : State) : Host.Outcome State Fault Refusal :=
  .next ((s.elapse dt).whenUp fun s =>
    match s.ctxs.find? (fun e => (e.2.bayStep bay).inFlight.any (fun f => f.entry == entry)) with
    | none => s
    | some e =>
      let c := e.1
      match (e.2.bayStep bay).inFlight.find? (fun f => f.entry == entry) with
      | none => s
      | some f =>
        let p := (s.prefEntry c bay entry).1
        let s := s.modCtx c (fun x => let y := x.bayStep bay; x.setBayStep bay { y with inFlight := y.inFlight.erase f })
        if p.target = 1 then ((s.warm c bay p.addr p.length).prefDone c bay).warmError c diag
        else
          let r := s.prefDescriptor c bay f diag
          let s := if r.2 = 0 then r.1 else r.1.prefRecord c bay r.2
          let s := s.prefDone c bay
          if abandonCode r.2 then s.abandon c r.2 else s)

/-! ### Patrol scrub (R192 to R196) -/

/-- Corrected errors of a page within 24 h, and whether they reach the retirement threshold. -/
def State.correctedNow (s : State) (l : List Nat) : List Nat × Bool :=
  let l := l.filter (fun t => decide (s.stamp < t + day)) ++ [s.stamp]
  (l, decide (s.num 0x3006 1 ≤ l.length))

/-- A corrected error at an address (R193). -/
def State.correctAt (s : State) (unit a : Nat) : State :=
  match unit with
  | 0 => s.bump 0x3010 1
  | 1 | 4 => s.bump 0x3010 3
  | 2 =>
    let s := s.bump 0x3010 4
    let p := (a - hbmBase) / pageBytes
    let x := s.hbmPage p
    let l := s.correctedNow x.corrected
    let s := s.setHbmPage p { x with corrected := l.1 }
    if l.2 then s.retireHbm p else s
  | _ =>
    let s := s.bump 0x3010 6
    let p := (a - sillBase) / pageBytes
    let x := s.sillPage p
    let l := s.correctedNow x.corrected
    let s := s.setSillPage p { x with corrected := l.1 }
    if l.2 then s.retireSill p else s

/-- An uncorrectable error that a scrub read finds in a memory's cells, or in a loft's data or tags (R195, R196); in a firmware page it is a
firmware fault (R475). -/
def State.scrubBad (s : State) (unit a : Nat) : State :=
  match unit with
  | 1 => (s.memoryError .loftData a none).1
  | 4 => (s.memoryError .loftTag a none).1
  | _ =>
    let fw := unit == 2 && (s.hbmPage ((a - hbmBase) / pageBytes)).use == .firmware
    let s := (s.memoryError .cell a none).1
    if fw then (s.signal 10 none).firmwareFault else s

/-- Addresses of a memory: 0 bench, 1 the HBM lines that a loft holds, 2 HBM, 3 sill, 4 the tags of the lofts, by an HBM address of their
set. -/
def inUnit (unit a : Nat) : Bool :=
  match unit with
  | 0 => decide (a < benchEnd)
  | 1 | 2 | 4 => decide (hbmBase ≤ a) && decide (a < hbmEnd)
  | 3 => decide (sillBase ≤ a) && decide (a < sillEnd)
  | _ => false

/-- PATROL_SCRUB (R196); it pauses in device P2 (R457). -/
def execPatrolScrub (dt unit : Nat) (corrected bad : List Nat) (s : State) : Host.Outcome State Fault Refusal :=
  .next ((s.elapse dt).whenUp fun s =>
    if 2 ≤ s.power.device then s
    else
      let s := (corrected.filter (inUnit unit)).foldl (fun s a => s.correctAt unit a) s
      (bad.filter (inUnit unit)).foldl (fun s a => if s.up then s.scrubBad unit a else s) s)

/-! ### Zeroing -/

/-- The grants that wait on a bay take effect. -/
def State.grantWaiting (s : State) (b : Nat) : State :=
  let x := s.bay b
  let s := x.grantWaits.foldl (fun s w => s.modCtx w.1 (fun y => { y with grant := Assoc.set 0 y.grant b w.2 })) s
  s.setBay b { s.bay b with grantWaits := [] }

/-- BENCH_ZEROING_COMPLETE (R198). -/
def execBenchZeroingComplete (dt bay : Nat) (s : State) : Host.Outcome State Fault Refusal :=
  .next ((s.elapse dt).whenUp fun s =>
    let x := s.bay bay
    if !x.zeroing then s
    else
      let s := s.zeroBanks bay x.dirty
      (s.setBay bay { x with zeroing := false, dirty := 0 }).grantWaiting bay)

/-- MEMORY_COUNTERS_CLEAR (R201). -/
def execMemoryCountersClear (dt v : Nat) (s : State) : Host.Outcome State Fault Refusal :=
  .next ((s.elapse dt).whenUp fun s => s.execClear 0x3013 v)

end Sys2Proof.Machine
end

