-- ==== Sys2Proof/Machine/Context.lean ====
section
/-! DEFINITION. Contexts (R209 to R218, R230): creation with its placement (assumption log 25), teardown, doorbells. -/

namespace Sys2Proof.Machine

/-! ### The create block (Table 6-8) -/

structure Create where
  slotClass : Nat
  cutList : Nat
  seed : Nat
  ringLog2 : Nat
  queueLog2 : Nat
  wayClass : Nat
  layoutEpoch : Nat
  id : Nat
deriving DecidableEq, Repr

def Create.raw (n : Nat) : Create :=
  { slotClass := bits n 223 192, cutList := bits n 191 128, seed := bits n 127 64, ringLog2 := bits n 44 40, queueLog2 := bits n 39 36,
    wayClass := bits n 35 32, layoutEpoch := bits n 31 16, id := bits n 15 4 }

/-- The clamps of Table 6-18. A cut-list address that is not aligned to 128 bytes is neither clamped nor refused: the container is read where
it says (assumption log 134: the model's choice). -/
def Create.clamp (b : Create) : Create :=
  { b with slotClass := min 255 b.slotClass, cutList := b.cutList % 2 ^ 48, ringLog2 := clampNat b.ringLog2 4 20,
           queueLog2 := clampNat b.queueLog2 4 15, wayClass := min 6 b.wayClass }

/-! ### Grid and slices (R303 to R307) -/

/-- The light stages of P stages in their order: 0, P - 1, 1, P - 2, … -/
def lightOrder (p : Nat) : List Nat := (List.range p).map (fun i => if i % 2 = 0 then i / 2 else p - 1 - i / 2)

/-- Layers on stage s of P. -/
def stageLayers (l p s : Nat) : Nat :=
  let h := l % p
  if h = 0 then l / p else if ((lightOrder p).take (p - h)).contains s then l / p else l / p + 1

/-- The stage that holds a layer; one beyond the last layer counts as the last stage's. -/
def stageOf (l p layer : Nat) : Nat :=
  match (List.range p).find? (fun s => decide (layer < ((List.range (s + 1)).map (stageLayers l p)).foldl (· + ·) 0)) with
  | some s => s
  | none => p - 1

/-- A tensor lies on a stage; one of no layer lies on every stage. -/
def onStage (m : Meta) (stage : Nat) (t : Tensor) : Bool := t.layer == 0xFFFF || stageOf m.layers m.stages t.layer == stage

/-- Stored bytes of a tensor on position p: the whole, or its slice in the tensor's own format (R72, R306). -/
def localBytes (t : Tensor) (p : Nat) : Nat :=
  if 4 ≤ t.split then t.size
  else
    let d := t.dims.set t.split (sliceLen (nth 1 t.dims t.split) p)
    let outer := (d.drop 1).foldl (· * ·) 1
    let d0 := nth 1 d 0
    if isGrain t.fmt then
      let n := outer * ceilDiv d0 32
      roundUp (n * blockBytes t.fmt) 1024 + roundUp n 32
    else outer * d0 * elemBytes t.fmt

/-- The space that every device of the stage gives it (R334). -/
def spaceOf (t : Tensor) : Nat := roundUp (localBytes t 0) pageBytes

/-- The frame table of the next creation: its entries, or the device's own bent for a single one; none where it cannot be had. -/
def State.frameTable (s : State) (m : Meta) : Option (List Nat) :=
  let a := s.num 0x4301 1
  if a = 0 then (if m.replicas = 1 ∧ m.stages = 1 then some [s.deviceId / 8] else none)
  else some ((List.range (m.replicas * m.stages)).map (fun i => s.readNat (a + 2 * i) 2))

/-- The table agrees with the grid: bents only, no bent twice, and this device's own among them (R304, R305). -/
def State.frameOk (s : State) (l : List Nat) : Bool :=
  l.all (fun e => decide (e < 2 ^ 15)) && decide (l.Nodup) && l.contains (s.deviceId / 8)

/-- The report ring names a tensor of kind ring of at least 32 bytes. -/
def ringOk (m : Meta) (l : List Tensor) : Bool :=
  m.reportRing == 0 || l.any (fun t => t.id == m.reportRing && t.kind == 5 && decide (32 ≤ t.size))

/-! ### The bench plan (R208, R213) -/

/-- Banks of a bay granted to pinned contexts. -/
def State.pinnedBanks (s : State) (b : Nat) : Nat :=
  (s.ctxs.filter (fun e => s.pinned e.2)).foldl (fun m e => m ||| e.2.mask b) 0

/-- A device bay can serve a logical bay's mask. -/
def State.bayFits (s : State) (mask b : Nat) : Bool :=
  mask == 0 || (!(s.bay b).out && mask &&& s.pinnedBanks b == 0)

def State.mapOk (s : State) (plan : List (Nat × Nat)) (m : List Nat) : Bool :=
  m.length == 64 && decide (m.Nodup) && m.all (fun b => decide (b < 64))
    && (List.range 64).all (fun l => s.bayFits (nth (0, 0) plan l).1 (nth 0 m l))

/-- Find a device bay for logical bay `l`, moving earlier ones where that helps. Devices seen, and (device, logical) pairs. -/
def augment (fits : Nat → Nat → Bool) : Nat → Nat → List Nat → List Nat → List (Nat × Nat) → List Nat × Option (List (Nat × Nat))
  | 0, _, _, seen, _ => (seen, none)
  | _ + 1, _, [], seen, _ => (seen, none)
  | f + 1, l, d :: rest, seen, m =>
    if seen.contains d || !fits l d then augment fits f l rest seen m
    else
      match m.find? (fun e => e.1 == d) with
      | none => (d :: seen, some ((d, l) :: m))
      | some e =>
        let r := augment fits f e.2 (List.range 64) (d :: seen) (m.erase e)
        match r.2 with
        | some m' => (r.1, some ((d, l) :: m'))
        | none => augment fits f l rest r.1 m

/-- A mapping that meets the plan: the placer's own where it does, else the identity, else any there is. -/
def State.chooseBays (s : State) (plan : List (Nat × Nat)) (own : List Nat) : Option (List Nat) :=
  if s.mapOk plan own then some own
  else if s.mapOk plan (List.range 64) then some (List.range 64)
  else
    let fits := fun l d => s.bayFits (nth (0, 0) plan l).1 d
    let need := (List.range 64).filter (fun l => (nth (0, 0) plan l).1 != 0)
    let got := need.foldl (fun (m : Option (List (Nat × Nat))) l =>
      m.bind (fun m => (augment fits 8192 l (List.range 64) [] m).2)) (some [])
    got.map (fun m =>
      let free := (List.range 64).filter (fun d => !m.any (fun e => e.1 == d))
      let rest := (List.range 64).filter (fun l => !need.contains l)
      (List.range 64).map (fun l => match m.find? (fun e => e.2 == l) with
        | some e => e.1
        | none => nth 0 free (rest.findIdx (· == l))))

/-! ### The container as the placer rewrites it (R204, R205) -/

/-- Set a field of the item at an offset. -/
def setItem (b : List Byte) (off size hi lo v : Nat) : List Byte :=
  b.take off ++ leBytes size (setBits (at_ b off size) hi lo v) ++ b.drop (off + size)

/-- The value a relocation puts into its field. -/
def relocated (b : List Byte) (tensors : List Tensor) (bays : List Nat) (sect : Sect) (r : Reloc) : Nat :=
  let v := relocValue b sect r
  if r.tensor != 0xFFFFFFFF then v + (tensors[r.tensor]?).elim 0 (fun t => t.base)
  else match sectBay b sect with
    | some l => v + nth 0 bays l * benchBytes
    | none => v % benchBytes + nth 0 bays (v / benchBytes) * benchBytes

/-- Apply a relocation; none where the value does not fit. -/
def applyReloc (tensors : List Tensor) (bays : List Nat) (b : List Byte) (r : Reloc) : Option (List Byte) :=
  match (sectionsOf b)[r.sect]? with
  | none => some b
  | some sect =>
    let v := relocated b tensors bays sect r
    if 2 ^ 48 ≤ v then none
    else
      let sh := itemShape sect
      some (setItem b (sh.2.2 + r.item * sh.1) sh.1 (r.field + 47) r.field v)

/-- The placed base of each entry of the tensor table. -/
def placeBases (b : List Byte) (l : List Tensor) : List Byte :=
  match sectOf b 2 with
  | none => b
  | some sect => l.zipIdx.foldl (fun b p => setItem b (sect.off + 64 * p.2) 64 511 464 p.1.base) b

/-! ### Phantom heads (R100, R205, R308) -/

/-- A position holds a phantom head slot: the heads do not fill it. -/
def phantomPosition (heads pos : Nat) : Bool := heads % 8 != 0 && decide (heads % 8 ≤ pos % 8)

/-- A slot's word as a phantom tensor command: opcode 0x10, and the phantom bit of its arithmetic word. -/
def phantomSlot (w : Nat) : Nat := setBits (setBits w 7 0 0x10) (128 + 832 + 23) (128 + 832 + 23) 1

/-- Insert a command slot into a stream of a tensor engine: what lies behind it moves on by one slot, and the directory, the length,
the stream header and the relocations follow. -/
def insertSlot (b : List Byte) (p : Phantom) : List Byte :=
  match (sectionsOf b)[p.sect]? with
  | none => b
  | some x =>
    let h := streamOf (at_ b x.off 128)
    if x.typ != 3 || h.engine != 0 || decide (h.slots < p.item) then b
    else
      let here := x.off + 128 + 128 * p.item
      let moved := (itemsOf b 4 16).map relocOf
      let b := match sectOf b 4 with
        | none => b
        | some y => moved.zipIdx.foldl (fun b r =>
            if r.1.sect = p.sect ∧ p.item ≤ r.1.item then setItem b (y.off + 16 * r.2) 16 63 32 (r.1.item + 1) else b) b
      let b := (sectionsOf b).zipIdx.foldl (fun b y =>
        if here ≤ y.1.off then setItem b (64 + 32 * y.2) 32 127 64 (y.1.off + 128)
        else if y.2 = p.sect then setItem b (64 + 32 * y.2) 32 191 128 (y.1.len + 128) else b) b
      let b := setItem (setItem b x.off 128 127 96 (h.slots + 1)) 8 4 31 0 (at_ b 8 4 + 128)
      b.take here ++ leBytes 128 (phantomSlot p.slot) ++ b.drop here

/-- The container with the phantom commands of a position's phantom head. -/
def withPhantoms (b : List Byte) (heads pos : Nat) (l : List Phantom) : List Byte :=
  if phantomPosition heads pos then l.foldl insertSlot b else b

/-- The slots of the streams: (offset, engine). -/
def slotsOf (b : List Byte) : List (Nat × Nat) :=
  ((sectionsOf b).filter (fun x => x.typ == 3)).flatMap (fun x =>
    let e := (streamOf (at_ b x.off 128)).engine
    (List.range (x.len / 128 - 1)).map (fun i => (x.off + 128 * (i + 1), e)))

/-- wait_queue follows the mapping of the bays. -/
def mapWaits (bays : List Nat) (b : List Byte) : List Byte :=
  (slotsOf b).foldl (fun b p =>
    let w := at_ b p.1 128
    let k := bits w 54 52
    let q := bits w 63 55
    if q < 256 && (k == 2 || (k == 1 && decide (4 ≤ p.2))) then setItem b p.1 128 63 55 (4 * nth 0 bays (q / 4) + q % 4) else b) b

/-- Remote words in order: those of the hauls of haul engine 0 (R225). -/
def remoteSlots (b : List Byte) : List Nat :=
  (slotsOf b).filterMap (fun p =>
    let w := at_ b p.1 128
    if p.2 == 2 && bits w 7 0 == 0x30 && w.testBit 511 then some p.1 else none)

/-- The device, epochs and context of each remote word, as far as the placer gives them. -/
def placeRemotes (l : List Peer) (b : List Byte) : List Byte :=
  ((remoteSlots b).zip l).foldl (fun b p =>
    let r := p.2
    let b := setItem b p.1 128 510 493 r.device
    let b := setItem b p.1 128 492 477 r.roleEpoch
    let b := setItem b p.1 128 476 465 r.ctx
    setItem b p.1 128 464 449 r.ctxEpoch) b

/-! ### Addresses (R334) -/

/-- Context addresses: container, queues, completion ring, staging areas of the plan (so at one address on every stage), HBM tensors
in table order, sticker stack;
sill tensors from the start of sill. -/
structure Layout where
  container : Nat
  queues : Nat
  ring : Nat
  tensors : List Tensor
  plan : List PlanEntry
  staging : Nat
  stack : Nat
deriving DecidableEq, Repr

/-- Give the tensors of this stage their bases: (HBM cursor, sill cursor). -/
def placeTensors (m : Meta) (stage pos : Nat) : List Tensor → Nat → Nat → List Tensor × Nat
  | [], h, _ => ([], h)
  | t :: l, h, z =>
    if onStage m stage t then
      let t' := { t with base := if t.tier = 1 then z else h, bytes := localBytes t pos }
      let r := if t.tier = 1 then placeTensors m stage pos l h (z + spaceOf t) else placeTensors m stage pos l (h + spaceOf t) z
      (t' :: r.1, r.2)
    else
      let r := placeTensors m stage pos l h z
      (t :: r.1, r.2)

def layoutOf (b : List Byte) (c : Create) (m : Meta) (stage pos : Nat) : Layout :=
  let q := hbmBase + roundUp b.length pageBytes
  let r := q + roundUp (274 * 2 ^ c.queueLog2 * 128) pageBytes
  let g := r + roundUp (2 ^ c.ringLog2 * 32) pageBytes
  let plan := (itemsOf b 9 16).map planOf
  let t := placeTensors m stage pos (tensorsOf b) (plan.foldl (fun a e => a + roundUp e.staging pageBytes) g) sillBase
  { container := hbmBase, queues := q, ring := r, tensors := t.1, plan := plan, staging := g, stack := t.2 }

/-! ### Pages -/

/-- Map pages of a use at consecutive context pages, each in its spot. Answers the pages and the preferences left. -/
def State.placePages (s : State) (c : Nat) (a : Nat) (attr : PageAttr) (use : PageUse) (prefer : List Nat) :
    List Spot → Option (State × List Nat × List Nat)
  | [] => some (s, [], prefer)
  | k :: rest =>
    match s.allocHbm prefer k use with
    | none => none
    | some r =>
      match r.1.mapPage c a (pte attr (hbmPageAddr r.2.1)) with
      | none => none
      | some s => (State.placePages s c (a + pageBytes) attr use r.2.2 rest).map (fun x => (x.1, r.2.1 :: x.2.1, x.2.2))

/-- Map pages that were allocated before. -/
def State.mapPages (s : State) (c : Nat) (a : Nat) (attr : PageAttr) : List Nat → Option State
  | [] => some s
  | p :: rest => (s.mapPage c a (pte attr (hbmPageAddr p))).bind (fun s => State.mapPages s c (a + pageBytes) attr rest)

/-- The spots of `n` bytes from a context address that several agents use. -/
def plainSpots (stack : Option Nat) (a n : Nat) : List Spot :=
  (List.range (ceilDiv n pageBytes)).map (fun i => Spot.shared stack false (a + i * pageBytes))

def plainAttr (write remote : Bool) : PageAttr := { tier := 0, write := write, remote := remote, shared := false, sticker := false, loft := 0 }

/-- The sticker stack: segment (l, b) in stack b / 4 (R174), in bay b's quarter (R244). -/
def stackPages (lanes seg : Nat) : List Spot :=
  (List.range lanes).flatMap (fun _ => (List.range 64).flatMap (fun b => List.replicate (seg / pageBytes) (Spot.ofBay (some (b / 4)) true b)))

/-- The recipes of the cut list. -/
def recipesOf (b : List Byte) : List Recipe := (itemsOf b 6 64).map (fun n => recipeOf (leBytes 64 n))

/-- Who uses each tensor: (index in the tensor table, device bay) of every relocation of an item of a bay (assumption log 131). -/
def tensorUses (b : List Byte) (bays : List Nat) : List (Nat × Nat) :=
  ((itemsOf b 4 16).map relocOf).filterMap (fun r =>
    if r.tensor = 0xFFFFFFFF then none
    else (((sectionsOf b)[r.sect]?).bind (sectBay b)).map (fun l => (r.tensor, nth 0 bays l)))

/-- What the placer goes by: the recipes, the tensor table, and the uses. -/
structure PlaceBy where
  recipes : List Recipe
  tensors : List Tensor
  uses : List (Nat × Nat)
deriving DecidableEq, Repr

/-- The bays that use a tensor, in ascending order. -/
def PlaceBy.bays (w : PlaceBy) (t : Tensor) : List Nat :=
  let i := w.tensors.findIdx (fun u => u.id == t.id)
  (List.range 64).filter (fun b => w.uses.contains (i, b))

/-- The update engines use a tensor: a recipe names it, or it is the gradient of a weight that a recipe names. -/
def PlaceBy.updated (w : PlaceBy) (t : Tensor) : Bool :=
  w.recipes.any (fun r => r.wId == t.id || (r.readsM && r.mId == t.id) || (r.readsV && r.vId == t.id)
    || w.tensors.any (fun u => u.id == r.wId && u.gradTarget == t.id))

/-- The home stack of the first bay that uses a tensor (R34). -/
def PlaceBy.home (w : PlaceBy) (t : Tensor) : Option Nat := (w.bays t).head?.map (· / 4)

/-- The spots of a tensor's pages (R34, R244). -/
def PlaceBy.spots (w : PlaceBy) (t : Tensor) : List Spot :=
  match w.bays t with
  | [b] => if w.updated t then plainSpots (some (b / 4)) t.base t.bytes
           else List.replicate (ceilDiv t.bytes pageBytes) (Spot.ofBay (some (b / 4)) false b)
  | _ => plainSpots (w.home t) t.base t.bytes

/-- The recipe of a weight, and the tensors whose pages go with the weight's (R155). -/
def PlaceBy.recipe (w : PlaceBy) (t : Tensor) : Option Recipe := w.recipes.find? (fun r => r.wId == t.id)
def PlaceBy.moments (w : PlaceBy) (t : Tensor) : List Tensor :=
  match w.recipe t with
  | none => []
  | some r => w.tensors.filter (fun u => u.base != 0 && u.kind != 1 && u.id != t.id && ((r.readsM && u.id == r.mId) || (r.readsV && u.id == r.vId)))

/-- The sets of pages that share a stack, as (tensor, context address): each weight page with the moments at its offset, or under recipe 3 the
whole of the tensor with its statistics (R155). -/
def PlaceBy.pageSets (w : PlaceBy) (t : Tensor) : List (List (Nat × Nat)) :=
  let all := (t :: w.moments t).flatMap (fun u => (List.range (ceilDiv u.bytes pageBytes)).map (fun i => (i, u.id, u.base + i * pageBytes)))
  if (w.recipe t).elim false (fun r => r.recipe == 3) then [all.map (·.2)]
  else (List.range (all.foldl (fun n e => max n (e.1 + 1)) 0)).map (fun i => (all.filter (fun e => e.1 == i)).map (·.2))

/-- Allocate such sets: each in the home stack where that has room, else in the first that does. Answers (tensor, page) in order. -/
def State.allocSets (s : State) (use : PageUse) (home : Option Nat) (prefer : List Nat) :
    List (List (Nat × Nat)) → Option (State × List (Nat × Nat) × List Nat)
  | [] => some (s, [], prefer)
  | l :: rest =>
    match (home.toList ++ List.range 16).find? (fun k => decide (l.length ≤ s.stackRoom k)) with
    | none => none
    | some k => (s.allocMany prefer use (l.map (fun e => Spot.shared (some k) true e.2))).bind (fun r =>
        (State.allocSets r.1 use home r.2.2 rest).map (fun x => (x.1, (l.map (·.1)).zip r.2.1 ++ x.2.1, x.2.2)))

/-- Weights are placed before the moments that follow them; the rest keep their order. -/
def placeOrder (l : List Tensor) : List Tensor := l.filter (fun t => t.kind == 0) ++ l.filter (fun t => t.kind != 0)

/-- A frozen tensor is an object of its own, or the one Sealed object of its shared base (R341). -/
def State.objectFor (s : State) (t : Tensor) : Option Nat :=
  if t.baseId = 0 then none
  else s.objects.findSome? (fun e => if e.2.kind = 1 ∧ e.2.sealed ∧ e.2.baseId = t.baseId ∧ e.2.tensor = t.id ∧ e.2.length = t.bytes then some e.1 else none)

/-- A frozen tensor's new object, with its pages; those of a shared base are of no one bay. -/
def State.newObject (s : State) (w : PlaceBy) (t : Tensor) (prefer : List Nat) : Option (State × Nat × List Nat) :=
  let id := s.nextObj + 1
  let n := ceilDiv t.bytes pageBytes
  let o : Obj := { Obj.none with
    kind := if t.baseId = 0 then 0 else 1, baseId := t.baseId, tensor := t.id, length := t.bytes, inHbm := t.tier == 0 }
  if t.tier = 0 then
    (s.allocMany prefer (.object id) (if t.baseId = 0 then w.spots t else plainSpots (w.home t) t.base t.bytes)).map (fun r =>
      (({ r.1 with nextObj := id } : State).setObject id { o with pages := r.2.1 }, id, r.2.2))
  else
    (s.allocSill id none n).map (fun r => (({ r.1 with nextObj := id } : State).setObject id { o with pages := r.2 }, id, prefer))

/-- The sill pages of an object gain or lose a mapping context. -/
def State.countMaps (s : State) (id : Nat) (up : Bool) : State :=
  let o := s.object id
  if o.inHbm then s
  else o.pages.foldl (fun s p =>
    let x := s.sillPage p
    s.setSillPage p { x with maps := if up then x.maps + 1 else x.maps - 1 }) s

/-- The attributes of an object's pages in a context (R172). -/
def objAttr (o : Obj) : PageAttr :=
  { tier := if o.inHbm then 0 else 1, write := false, remote := false, shared := o.kind == 1, sticker := false, loft := 0 }

def objPageAddr (o : Obj) (p : Nat) : Nat := if o.inHbm then hbmPageAddr p else sillPageAddr p

/-- Map an object's pages at a tensor's address, in the context's first version: one more context maps it. -/
def State.mapObject (s : State) (c : Nat) (t : Tensor) (id : Nat) : Option State :=
  let o := s.object id
  let n := ceilDiv t.bytes pageBytes
  ((o.pages.take n).zipIdx.foldl (fun (r : Option State) p =>
    r.bind (fun s => s.mapPage c (t.base + p.2 * pageBytes) (pte (objAttr o) (objPageAddr o p.1)))) (some s)).map (fun s =>
    let first := !(s.ctx c).objects.contains id
    let s := s.modCtx c (fun x => { x with
      objects := if first then x.objects ++ [id] else x.objects,
      versions := match x.versions with
        | v :: l => { v with objs := v.objs ++ [(t.id, id)] } :: l
        | [] => [{ version := 0, raised := false, set := [], objs := [(t.id, id)] }] })
    if first then (s.setObject id { s.object id with refs := (s.object id).refs + 1 }).countMaps id true else s)

/-- Place one tensor; `done` holds the pages that were allocated for moments with their weight. A weight under a recipe takes those of its
moments with its own (R155). -/
def State.placeTensor (s : State) (c : Nat) (w : PlaceBy) (done : List (Nat × Nat)) (prefer : List Nat) (t : Tensor) :
    Option (State × List (Nat × Nat) × List Nat) :=
  if t.kind = 1 then
    match s.objectFor t with
    | some id => (s.mapObject c t id).map (fun s => (s, done, prefer))
    | none => (s.newObject w t prefer).bind (fun r => (r.1.mapObject c t r.2.1).map (fun s => (s, done, r.2.2)))
  else
    let attr := plainAttr true (t.kind == 2 || t.kind == 5 || t.kind == 6)
    let mine := fun (l : List (Nat × Nat)) => (l.filter (fun e => e.1 == t.id)).map (·.2)
    if !(mine done).isEmpty then (s.mapPages c t.base attr (mine done)).map (fun s => (s, done, prefer))
    else if (w.recipe t).isSome then
      (s.allocSets (.owned c) (w.home t) prefer (w.pageSets t)).bind (fun r =>
        (r.1.mapPages c t.base attr (mine r.2.1)).map (fun s => (s, done ++ r.2.1, r.2.2)))
    else (s.placePages c t.base attr (.owned c) prefer (w.spots t)).map (fun r => (r.1, done, r.2.2))

/-! ### Image reservation (R350, R356) -/

/-- Context pages of an image: the record and the tensor table (R349). -/
def ctxPageCount (tensors : Nat) : Nat := ceilDiv (ctxRecordBytes + 64 * tensors) pageBytes

/-- Pages of one image: header, further leaf pages, the context pages, the pages of weights and optimizer state on a position, and
the pages of the recipe blocks. -/
def imagePages (m : Meta) (stage pos recipePages : Nat) (l : List Tensor) : Nat :=
  let n := ((l.filter (fun t => (t.kind == 0 || t.kind == 4) && onStage m stage t)).map (fun t =>
    ceilDiv (localBytes t pos) pageBytes)).foldl (· + ·) 0
  let k := ctxPageCount l.length + n + recipePages
  1 + leafPageCount k + k

/-! ### Creation (R213) -/

/-- The context as creation leaves it, before its pages. -/
def newCtx (b : List Byte) (c : Create) (m : Meta) (l : Layout) (frame : List Nat) (own epochIdx : Nat) (pos : Nat)
    (bays : List Nat) (place : Placement) : Ctx :=
  let plan := benchPlan b
  let on := fun (f : Nat × Nat → Nat) => (List.range 64).foldl (fun (a : Sparse Nat) k => Assoc.set 0 a (nth 0 bays k) (f (nth (0, 0) plan k))) []
  let pref := (sectionsOf b).filter (fun x => x.typ == 5)
  let sticker := (stickerPlan b).getD (0, 0)
  { Ctx.undefined with
    state := 1, roleEpoch := c.layoutEpoch, layoutEpoch := c.layoutEpoch, seed := c.seed, wayClass := c.wayClass, slotClass := c.slotClass,
    dirBase := hbmPageAddr own, tensorTable := l.container + (sectOf b 2).elim 0 (fun x => x.off), tensorCount := l.tensors.length,
    reportRing := m.reportRing, queueBase := l.queues, queueLog2 := c.queueLog2, ringBase := l.ring, ringLog2 := c.ringLog2,
    plan := on (·.1), keep := on (·.2), bayMap := bays, lanes := sticker.1, segSize := sticker.2,
    stackBase := if sticker.1 = 0 then 0 else l.stack,
    prefAddr := pref.zipIdx.foldl (fun (a : Sparse Nat) p => Assoc.set 0 a (nth 0 bays p.2) (l.container + p.1.off)) [],
    prefCount := pref.zipIdx.foldl (fun (a : Sparse Nat) p => Assoc.set 0 a (nth 0 bays p.2) (p.1.len / 16)) [],
    tensors := l.tensors,
    recipes := (match sectOf b 6 with | some x => (List.range (x.len / 64)).map (fun i => l.container + x.off + 64 * i) | none => []),
    collPlan := l.plan, gridR := m.replicas, gridP := m.stages, gridRep := epochIdx / m.stages, gridStage := epochIdx % m.stages,
    gridPos := pos, layers := m.layers, heads := m.heads, experts := m.experts, topK := m.topK, capacity := m.capacity, tokens := m.tokens,
    micro := m.micro, splitBack := m.split, hostBit := m.host, frameTable := frame, peers := place.peers,
    remotes := (place.remotes.map (·.device)).eraseDups, cutList := l.container,
    sections := (sectionsOf b).map (fun x => (x.typ, x.off, x.len)), firmPages := [own] }

/-- The members of every group kind of the collective plan join the notice set (R313, R326). -/
def Ctx.planDevices (x : Ctx) (own : Nat) : List Nat :=
  (((x.collPlan.map (·.kind)).eraseDups.flatMap x.members).filter (· != own)).eraseDups

/-- Place everything but the sticker stack; none where pages do not suffice. -/
def State.placeAll (s : State) (c : Nat) (b : List Byte) (l : Layout) (bays : List Nat) (qlog rlog : Nat) (prefer : List Nat) : Option State :=
  let w : PlaceBy := { recipes := recipesOf b, tensors := l.tensors, uses := tensorUses b bays }
  let plain := fun (s : State) (a n : Nat) (remote : Bool) (prefer : List Nat) =>
    s.placePages c a (plainAttr true remote) (.owned c) prefer (plainSpots none a n)
  let start := plain s l.container b.length false prefer
  let r1 := start.bind (fun r => plain r.1 l.queues (274 * 2 ^ qlog * 128) false r.2.2)
  let r2 := r1.bind (fun r => plain r.1 l.ring (2 ^ rlog * 32) false r.2.2)
  let r3 := r2.bind (fun r => (placeOrder (l.tensors.filter (fun t => t.base != 0))).foldl
    (fun (a : Option (State × List (Nat × Nat) × List Nat)) t => a.bind (fun a => a.1.placeTensor c w a.2.1 a.2.2 t))
    (some (r.1, [], r.2.2)))
  let r4 := r3.bind (fun r => (l.plan.foldl (fun (a : Option (State × List Nat × Nat)) e => a.bind (fun a =>
    (plain a.1 a.2.2 e.staging true a.2.1).map (fun x =>
      (x.1, x.2.2, a.2.2 + roundUp e.staging pageBytes)))) (some (r.1, r.2.2, l.staging))))
  r4.map (·.1)

/-- The mortise table: 1,216 slots of 32 bytes (R290). -/
def mortiseBytes : Nat := 38912

/-- Firmware pages for the save area and, after it, the mortise table, which stays in place across swaps (R212, R290; assumption log 149). -/
def State.placeSave (s : State) (c : Nat) : Option State :=
  let n := ceilDiv (saveBytes (s.ctx c).keep + mortiseBytes) pageBytes
  (s.allocMany [] .firmware (List.replicate n Spot.any)).map (fun r =>
    r.1.modCtx c (fun x => { x with firmPages := x.firmPages ++ r.2.1, savePages := r.2.1 }))

/-- The sill that the images need: the buddy's two slots must fit; the local copy takes two more where it is on and fits. -/
def State.reserveImages (s : State) (c : Nat) (b : List Byte) (m : Meta) : Option State :=
  let x := s.ctx c
  let rp := (sectOf b 6).elim 0 (fun q => (pagesIn (x.cutList + q.off) q.len).length)
  let n := fun p => 2 * imagePages m x.gridStage p rp x.tensors
  let need := n (x.gridPos ^^^ 4)
  let own := n x.gridPos
  if s.sillRoom none < need then none
  else
    let here := s.num 0x4303 4 == 1 && decide (need + own ≤ s.sillRoom none)
    some (s.modCtx c (fun x => { x with imageReserve := need + (if here then own else 0), localReserved := here }))

/-- The container with every change of the placer, and the relocations; none where one does not fit. -/
def rewritten (b : List Byte) (l : Layout) (bays : List Nat) (place : Placement) : Option (List Byte) :=
  (((itemsOf b 4 16).map relocOf).foldl (fun (a : Option (List Byte)) r => a.bind (fun b => applyReloc l.tensors bays b r)) (some b)).map
    (fun b' => placeRemotes place.remotes (mapWaits bays (placeBases b' l.tensors)))

/-- Step 3 and after, for a container that passed its checks: the state with the context in state 3, or the code. -/
def State.placeContext (s : State) (b : List Byte) (c : Create) (place : Placement) : State × Nat :=
  let m := metaOf b
  match s.frameTable m with
  | none => (s, 0x0430)
  | some frame =>
    if !m.legal || !s.frameOk frame || m.seed != c.seed || !ringOk m (tensorsOf b) then (s, 0x0430)
    else if (stickerPlan b).elim false (fun p => decide (p.1 < min (min m.micro m.stages) 32)) then (s, 0x0430)
    else
      let b := withPhantoms b m.heads s.position place.phantoms
      let idx := frame.findIdx (· == s.deviceId / 8)
      let l := layoutOf b c m (idx % m.stages) s.position
      let sp := (stickerPlan b).getD (0, 0)
      match s.allocHbm [] Spot.any .firmware with
      | none => (s, 0x0405)
      | some own =>
        let bays := s.chooseBays (benchPlan b) place.bayMap
        let x := newCtx b c m l frame own.2.1 idx s.position (bays.getD (List.range 64)) place
        let x := { x with remotes := (x.remotes ++ x.planDevices s.deviceId).eraseDups }
        let t := own.1.setCtx c.id x
        match t.placePages c.id l.stack { plainAttr true false with sticker := true, loft := 1 } (.owned c.id) place.pages
            (stackPages sp.1 sp.2) with
        | none => (s, 0x0404)
        | some r =>
          match ((r.1.placeAll c.id b l (bays.getD (List.range 64)) c.queueLog2 c.ringLog2 r.2.2).bind (fun t => t.placeSave c.id)).bind
              (fun t => t.reserveImages c.id b m) with
          | none => (s, 0x0405)
          | some t =>
            match bays with
            | none => (s, 0x040A)
            | some bays =>
              match rewritten b l bays place with
              | none => (s, 0x0407)
              | some b' => (t.putBytes c.id l.container b', 0)

/-- The container at a local address, as long as its header says. -/
def State.containerAt (s : State) (a : Nat) : List Byte :=
  let n := s.readNat (a + 8) 4
  if s.readNat a 4 = 0x4C545543 ∧ s.readNat (a + 4) 2 = 1 ∧ 64 ≤ n ∧ n ≤ 0xFFFFFF80 then s.readBytes a n else s.readBytes a 64

/-- Steps 4 and 5: the epoch advances, and the context is swapped out. Peer-reset state ends for the devices it names
(R299), with what was kept of their sequences (R284). -/
def State.enterContext (s : State) (c : Nat) : State :=
  let e := (s.epoch c + 1) % 65536
  let s := { s with epochs := Assoc.set 0 s.epochs c e }
  let s := s.modCtx c (fun x => { x with state := 3 })
  let x := s.ctx c
  let back := fun (d : Nat) => x.remotes.contains d && s.inPeerReset d
  { s with fab := { s.fab with
      resetPeers := s.fab.resetPeers.filter (fun p => !back p.1), txSeq := s.fab.txSeq.filter (fun p => !back p.1),
      rx := s.fab.rx.filter (fun p => !back p.1) } }

/-- The creation of a clamped block: the state, and the code of R213. -/
def State.create (s : State) (c : Create) (place : Placement) : State × Nat :=
  if s.fault.selfTest = 1 then (s, 0x070B)
  else if s.num 0x7103 1 = 1 then (s, 0x070A)
  else if (s.ctx c.id).defined then (s, 0x0403)
  else
    let b := s.containerAt c.cutList
    let code := containerCode b
    if code != 0 then (s, code)
    else
      let r := s.placeContext b c place
      if r.2 != 0 then (s, r.2) else (r.1.enterContext c.id, 0)

/-- A write of a create block (objects 0x3103, 0x3110.05, .08): the state, and the code that the write is answered with. -/
def State.actCreate (s : State) (block : List Byte) (place : Placement) : State × Nat :=
  let n := Create.raw (leNat (fitBytes 64 block))
  let c := n.clamp
  let s := if c != n || block.length != 64 then s.bump 0x3110 2 else s
  let r := s.create c place
  let s := r.1.setCnt 0x3103 2 r.2
  if r.2 = 0 then (((s.setCnt 0x3103 3 (s.epoch c.id)).bump 0x3110 5), 0) else (s.bump 0x3110 8, r.2)

/-- CONTEXT_CREATE (R213). -/
def execContextCreate (dt : Nat) (block : List Byte) (place : Placement) (s : State) : Host.Outcome State Fault Refusal :=
  .next ((s.elapse dt).whenUp fun s => (s.actCreate block place).1)

/-! ### Teardown (R230) -/

/-- Nothing started of the context runs any more: no command, parked wait, prefetch entry or image in arrival. -/
def State.drained (s : State) (c : Nat) : Bool :=
  let x := s.ctx c
  !s.hasRunning c && x.parked.isEmpty && x.baySteps.all (fun e => e.2.inFlight.isEmpty) && x.image.isNone

def zeroList (n : Nat) : List Nat := List.replicate n 0

/-- Step 3: a close notice to every device that the context's remote words name, under what the placer knows of its context
there. -/
def State.closeNotices (s : State) (c : Nat) : State :=
  (s.ctx c).remotes.foldl (fun s d =>
    let p := s.peerOf c d
    (s.fabSend d 0x30 { FabHdr.zero with
      value := c, roleEpoch := p.roleEpoch, srcCtx := c, dstCtx := p.ctx, srcCtxEpoch := s.epoch c, dstCtxEpoch := p.ctxEpoch }
      []).1) s

/-- The drain is over: notices, then the invalidation of every translation (steps 3 and 4). -/
def State.endDrain (s : State) (c : Nat) : State :=
  let s := s.closeNotices c
  s.modCtx c (fun x => { x with closePhase := 2 })

/-- An image that is being sent ends without success (R355): the local copy goes with it, and a re-shard that needed it ends
(assumption log 43). -/
def State.failImage (s : State) (c : Nat) : State :=
  match (s.ctx c).image with
  | none => s
  | some im =>
    let s := (im.localObj.elim s (fun id => s.freeObject id)).dropPages c scarfQueue (fun _ => true)
    let s := s.modCtx c (fun x => { x with
      image := none, reshard := if x.reshard = 2 then 0 else x.reshard, lastImage := (x.lastImage.take 4 ++ zeroList (4 - x.lastImage.length)) ++ [0x0701] })
    (s.bump 0x4310 8).signal 243 (some c)

/-- Step 1: state 4. A context that was swapped out skips the drain; an image of it in arrival fails (R355). -/
def State.beginClose (s : State) (c : Nat) : State :=
  let x := s.ctx c
  let s := s.noteResident
  let s := s.setCtx c { x with state := 4, closeStamp := s.stamp, closePhase := 1, closePending := false, waitSince := none }
  if x.state = 3 then (s.failImage c).endDrain c else s

/-- The write of an ID to 0x3104.01; the code of R230. -/
def State.actClose (s : State) (id : Nat) : State × Nat :=
  let a := s.clampNum 0x3104 1 id
  let s := a.1
  let x := s.ctx a.2
  if !x.defined then (s.setCnt 0x3104 2 0x040B, 0x040B)
  else if x.state = 4 then (s, 0)
  else if s.sched.swapping = some a.2 ∨ s.sched.outgoing.contains a.2 then (s.modCtx a.2 (fun x => { x with closePending := true }), 0)
  else (s.leaveQuarantine a.2 |>.beginClose a.2, 0)

/-- CONTEXT_CLOSE (R230). -/
def execContextClose (dt id : Nat) (s : State) : Host.Outcome State Fault Refusal :=
  .next ((s.elapse dt).whenUp fun s => (s.actClose id).1)

/-- What still runs at the drain limit completes with 0x0408 and aborted 1. -/
def State.abortAll (s : State) (c : Nat) : State :=
  let s := (s.endRuns c 0x0408 true).endParked c 0x0408 true
  let s := s.modCtx c (fun x => { x with baySteps := Assoc.mapVals BayStep.zero (fun _ y => { y with inFlight := [], stopped := [] }) x.baySteps })
  s.failImage c

/-- HBM pages of a context: its own, and the firmware pages that only it uses. -/
def State.pagesOfCtx (s : State) (c : Nat) : List Nat :=
  (s.hbm.filter (fun e => e.2.use == .owned c)).map (·.1) ++ (s.ctx c).firmPages ++ (s.ctx c).leafPages.map (fun e => e.2 - 1)

/-- The objects of a version, each once. -/
def Version.ids (v : Version) : List Nat := (v.objs.map (·.2)).eraseDups

/-- A version lets go of its objects; an object that no version of any context holds is freed (R341, R348). -/
def State.releaseIds (s : State) (ids : List Nat) : State :=
  ids.foldl (fun s id =>
    let o := s.object id
    if o.refs ≤ 1 then s.freeObject id else s.setObject id { o with refs := o.refs - 1 }) s

/-- HBM pages of the objects that go with a closing context. -/
def State.lastPages (s : State) (x : Ctx) : List Nat :=
  x.objects.flatMap (fun id =>
    let o := s.object id
    if o.refs ≤ (x.versions.filter (fun v => v.ids.contains id)).length && o.inHbm then o.pages else [])

/-- Every version of a context lets go: each that holds an object is freed, counted, and signalled (R348). -/
def State.releaseVersions (s : State) (c : Nat) : State :=
  let x := s.ctx c
  let s : State := match x.versions.find? (fun v => v.version == x.mapped) with
    | some v => v.ids.foldl (fun (s : State) id => s.countMaps id false) s
    | none => s
  let s := (x.versions.filter (fun v => !v.objs.isEmpty)).foldl (fun (s : State) _ => (s.bump 0x4310 0x0C).signal 246 (some c)) s
  (s.modCtx c (fun x => { x with versions := [], objects := [] })).releaseIds (x.versions.flatMap (fun v : Version => v.ids))

/-- Step 5: every page and bench bank goes to zeroing. Sill pages that another mapping names stay. -/
def State.zeroContext (s : State) (c : Nat) : State :=
  let x := s.ctx c
  let own := s.pagesOfCtx c
  let last := s.lastPages x
  let s := (own.foldl (fun s p => s.zeroHbm p) s).releaseVersions c
  let s := x.grant.foldl (fun s g =>
    let y := s.bay g.1
    s.setBay g.1 { y with dirty := y.dirty ||| g.2, zeroing := true }) s
  s.modCtx c (fun x => { x with
    closePhase := 3, grant := [], saved := [], held := [], segments := [], parked := [],
    pages := (own ++ last).eraseDups })
  |>.armTimer

/-- INVALIDATION_COMPLETE (R173, R230): no agent uses an entry of the context as it was any more. The closing context's pages and banks go to
zeroing, and pages that waited follow. -/
def execInvalidationComplete (dt ctx : Nat) (s : State) : Host.Outcome State Fault Refusal :=
  .next ((s.elapse dt).whenUp fun s =>
    let s := { s with stale := s.stale.filter (fun e => e.ctx != ctx) }
    (if (s.ctx ctx).closePhase = 2 then s.zeroContext ctx else s).zeroUnnamed)

/-- An HBM page is zero: free again, or retired; no line of it stands in a loft any more (R197). -/
def State.hbmZeroed (s : State) (p : Nat) : State :=
  let x := s.hbmPage p
  if x.use != .zeroing then s
  else
    let s := ((s.zeroRange (hbmPageAddr p) (hbmPageAddr p + pageBytes)).dropPageLines p).bump 0x3010 0x0C
    let s := s.setHbmPage p { x with use := if x.retiring then .retired else .free, retiring := false }
    { s with ctxs := Assoc.mapVals Ctx.undefined (fun _ c => { c with pages := c.pages.erase p }) s.ctxs }

/-- A sill page is zero: free again, or retired. -/
def State.sillZeroed (s : State) (p : Nat) : State :=
  let x := s.sillPage p
  if x.state != 3 then s
  else
    let s := (s.zeroRange (sillPageAddr p) (sillPageAddr p + pageBytes)).bump 0x3010 0x0C
    s.setSillPage p { SillPage.free with state := if x.retiring then 4 else 0, corrected := x.corrected }

/-- The zeroing of sill after a cold boot reaches a page: each package's pages go in ascending order (step 13 of R494, R495; assumption log
158). -/
def State.reachSill (s : State) (p : Nat) : State :=
  let k := p / 65536
  if k < 8 ∧ p % 65536 = Assoc.get 0 s.boot.sillReached k then
    { s with boot := { s.boot with sillReached := Assoc.set 0 s.boot.sillReached k (p % 65536 + 1) } }
  else s

/-- PAGE_ZEROING_COMPLETE (R197): page numbers from 393,216 on are those of sill. -/
def execPageZeroingComplete (dt page : Nat) (s : State) : Host.Outcome State Fault Refusal :=
  .next ((s.elapse dt).whenUp fun s =>
    if page < hbmPages then s.hbmZeroed page else (s.reachSill (page - hbmPages)).sillZeroed (page - hbmPages))

/-- A session of a context that closes: a kind-2 event (Table 11-5), then the session closes too (R366). -/
def State.closeBound (s : State) (c n : Nat) : State :=
  let r : EventRec := { count := 0, ctxEpoch := s.epoch c, ctx := c, queue := 0, source := 0, kind := 2, error := 0, tag := 0 }
  let a := s.eventTo n r s.stamp
  (if a.2 then a.1.signal 215 none else a.1).closeSession n

def State.closeSessionsOf (s : State) (c : Nat) : State :=
  (s.sessionsOf (fun k => k.kind == 1 && k.ctx == c && k.ctxEpoch == s.epoch c)).foldl (fun s n => s.closeBound c n) s

/-- Counters and sampling runs whose filter names a context lose enable and user at its teardown; a run stops (R425). -/
def State.clearFilters (s : State) (c : Nat) : State :=
  let named := fun (w : Nat) => w.testBit 51 && bits w 63 52 == c
  let s := { s with perf := { s.perf with config := s.perf.config.map (fun e =>
    if named e.2 then (e.1, setBits (setBits e.2 50 50 0) 48 48 0) else e) } }
  [0, 1].foldl (fun s n =>
    let r := s.samplingRun n
    if named r.config then
      let st := if r.state = 1 ∨ r.state = 3 then 0 else r.state
      (s.releaseAll (.sampling n)).setSamplingRun n { r with config := setBits r.config 50 50 0, state := st }
    else s) s

/-- Step 6: the ID is undefined. -/
def State.undefine (s : State) (c : Nat) : State :=
  let g := (s.ctx c).dovetail
  let s := match g with
    | some d => (s.modCtx d (fun x => { x with dovetail := none, isGuest := false })).modCtx c (fun x => { x with dovetail := none })
    | none => s
  let s := ((s.closeSessionsOf c).clearFilters c).setCtx c Ctx.undefined
  let s := { s with engines := Assoc.mapVals Engine.idle (fun _ e => { e with lastStart := Assoc.erase c e.lastStart }) s.engines }
  ((s.setCnt 0x3104 2 0).bump 0x3110 6).recoveryOff

/-- TEARDOWN_COMPLETE (R230): every page and bench bank of the context is zero. -/
def execTeardownComplete (dt id : Nat) (s : State) : Host.Outcome State Fault Refusal :=
  .next ((s.elapse dt).whenUp fun s =>
    if (s.ctx id).closePhase = 3 && (s.ctx id).pages.isEmpty
      && (List.range 64).all (fun b => (s.ctx id).plan.all (fun p => p.1 != b) || !(s.bay b).zeroing)
    then s.undefine id else s)

/-! ### Doorbells and counters -/

/-- DOORBELL_TAIL_WRITE (R218). -/
def execDoorbellTailWrite (dt ctx q v : Nat) (s : State) : Host.Outcome State Fault Refusal :=
  .next ((s.elapse dt).whenUp fun s => if q ≤ 273 then s.doorWrite ctx (8 * q) v else s)

/-- COMPLETION_HEAD_WRITE (R218). -/
def execCompletionHeadWrite (dt ctx v : Nat) (s : State) : Host.Outcome State Fault Refusal :=
  .next ((s.elapse dt).whenUp fun s => s.doorWrite ctx 0x2000 v)

/-- CONTEXT_COUNTERS_CLEAR (R234). -/
def execContextCountersClear (dt v : Nat) (s : State) : Host.Outcome State Fault Refusal :=
  .next ((s.elapse dt).whenUp fun s => s.execClear 0x3111 v)

end Sys2Proof.Machine
end

