-- ==== Sys2Proof/Machine/Reshard.lean ====
section
/-! DEFINITION. The re-shard of a context (R327, R328): step 3, the new map. -/

namespace Sys2Proof.Machine

/-- Take the private pages of the tensors back, and their mappings. -/
def State.unplace (s : State) (c : Nat) (l : List Tensor) : State :=
  l.foldl (fun s t =>
    (pagesIn t.base t.bytes).foldl (fun s a =>
      match s.pteAt (s.ctx c).dirBase a with
      | none => s
      | some e =>
        let p := (bits e 47 21 * pageBytes - hbmBase) / pageBytes
        let s := if (s.hbmPage p).use = .owned c then s.zeroHbm p else s
        s.changePte c a (fun e => e % 2 ^ 63)) s) s

def Ctx.versionOf (x : Ctx) (v : Nat) : Option Version := x.versions.find? (fun y => y.version == v)

/-- Map one tensor to an object's pages. -/
def State.remap (s : State) (c : Nat) (t : Tensor) (id : Nat) : State :=
  let o := s.object id
  ((o.pages.take (ceilDiv t.bytes pageBytes)).zipIdx).foldl (fun s p =>
    s.changePte c (t.base + p.2 * pageBytes) (fun _ => pte (objAttr o) (objPageAddr o p.1))) s

/-- The container under new placed bases: the relocated fields and the tensor table follow (R204, R205). -/
def rebased (b : List Byte) (old new : List Tensor) : List Byte :=
  let base := fun (l : List Tensor) (i : Nat) => (l[i]?).elim 0 (fun t => t.base)
  ((itemsOf b 4 16).map relocOf).foldl (fun b r =>
    match (sectionsOf b)[r.sect]? with
    | none => b
    | some sect =>
      if r.tensor = 0xFFFFFFFF then b
      else
        let sh := itemShape sect
        setItem b (sh.2.2 + r.item * sh.1) sh.1 (r.field + 47) r.field
          ((relocValue b sect r + base new r.tensor + 2 ^ 48 - base old r.tensor) % 2 ^ 48)) (placeBases b new)

/-- The versions of a context hold only objects of tensors that are placed; the others go. -/
def State.keepVersions (s : State) (c : Nat) (placed : Nat → Bool) : State :=
  let x := s.ctx c
  let gone := (x.versions.flatMap (fun v =>
    let rest := { v with objs := v.objs.filter (fun o => placed o.1) }
    v.ids.filter (fun id => !rest.ids.contains id)))
  let mapped := ((x.versionOf x.mapped).elim [] (fun v : Version => v.objs.filter (fun o => !placed o.1))).map (·.2)
  let s := mapped.eraseDups.foldl (fun (s : State) id => s.countMaps id false) s
  let kept := x.versions.map (fun v => { v with objs := v.objs.filter (fun o => placed o.1) })
  (s.modCtx c (fun x => { x with versions := kept, objects := (kept.flatMap (fun v : Version => v.ids)).eraseDups })).releaseIds gone

/-- Place one tensor of a new map: a frozen tensor that the context has holds on to its object, at its new address. -/
def State.placeAgain (s : State) (c : Nat) (w : PlaceBy) (done : List (Nat × Nat)) (prefer : List Nat) (t : Tensor) :
    Option (State × List (Nat × Nat) × List Nat) :=
  let x := s.ctx c
  match ((x.versionOf x.mapped).bind (fun v : Version => v.objs.find? (fun o => o.1 == t.id))) with
  | some o => if t.kind = 1 then some (s.remap c t o.2, done, prefer) else s.placeTensor c w done prefer t
  | none => s.placeTensor c w done prefer t

/-- The bytes of a context's container. -/
def State.containerOf (s : State) (c : Nat) : List Byte :=
  let x := s.ctx c
  s.getBytes c x.cutList (at_ (s.getBytes c x.cutList 64) 8 4)

/-- What the placer goes by for a context as it stands. -/
def State.placeBy (s : State) (c : Nat) : PlaceBy :=
  let b := s.containerOf c
  { recipes := recipesOf b, tensors := (s.ctx c).tensors, uses := tensorUses b (s.ctx c).bayMap }

/-- The tensors of the context under a new stage, with the placed-base and the relocated fields; none where they do not fit. -/
def State.replace (s : State) (c : Nat) (m : Meta) (stage : Nat) (prefer : List Nat) : Option State :=
  let x := s.ctx c
  let b := s.containerOf c
  let own := x.tensors.filter (fun t => t.base != 0)
  let start := (own.filter (fun t => t.tier != 1)).foldl (fun a t => min a t.base) hbmEnd
  let s := s.unplace c own
  let old := x.tensors.map (fun t => { t with base := 0, bytes := 0 })
  -- behind the sticker stack where the space before it does not hold them
  let start := if x.lanes ≠ 0 ∧ x.stackBase < (placeTensors m stage x.gridPos old start sillBase).2 ∧ start ≤ x.stackBase
               then x.stackBase + x.lanes * 64 * x.segSize else start
  let t := (placeTensors m stage x.gridPos old start sillBase).1
  let s := (s.modCtx c (fun x => { x with tensors := t })).keepVersions c (fun id => t.any (fun u => u.id == id && u.base != 0))
  let s := s.putBytes c x.cutList (rebased b x.tensors t)
  let w := s.placeBy c
  ((placeOrder (t.filter (fun t => t.base != 0))).foldl
    (fun (a : Option (State × List (Nat × Nat) × List Nat)) t => a.bind (fun a => a.1.placeAgain c w a.2.1 a.2.2 t))
    (some (s, [], prefer))).map (·.1)

/-- Step 3 of R328: the new epoch and grid; a device whose place changes advances its role epoch (R214). DESIGN CHOICE (assumption
log 143): where the tensors of the new place find no pages, the re-shard stays in state 3, mapping, with the old map, until the
context is restored or closed. -/
def State.mapReshard (s : State) (c : Nat) : State :=
  let x := s.ctx c
  let k := reshardOf x.reshardBlock
  let table := (List.range (k.newR * k.newP)).map (fun i => s.readNat (k.table + 2 * i) 2 % 2 ^ 15)
  let i := table.findIdx (· == s.deviceId / 8)
  let here := decide (i < table.length)
  let rep := if here then i / max 1 k.newP else x.gridRep
  let stage := if here then i % max 1 k.newP else x.gridStage
  let moved := here && (rep != x.gridRep || stage != x.gridStage)
  let place := x.reshardPlace
  let y := { x with
    reshard := 4, layoutEpoch := k.epoch, frameTable := table, gridR := k.newR, gridP := k.newP, gridRep := rep, gridStage := stage,
    roleEpoch := if moved then (x.roleEpoch + 1) % 65536 else x.roleEpoch,
    peers := if place.peers.isEmpty then x.peers else place.peers, collSent := [] }
  let y := { y with remotes := (y.remotes ++ y.planDevices s.deviceId).eraseDups }
  let s := s.setCtx c y
  if here && (stage != x.gridStage || k.newP != x.gridP) then
    let m := metaOf (s.containerOf c)
    match s.replace c { m with stages := k.newP, replicas := k.newR } stage place.pages with
    | some s => s
    | none => s.modCtx c (fun x => { x with reshard := 3 })
  else s

end Sys2Proof.Machine
end

