-- ==== Sys2Proof/Machine/Image.lean ====
section
/-! DEFINITION. Scarf images as they are sent (R349 to R356): what an image holds, its transfers to the buddy, its local copy,
and its end; the pages that a member of a chain hands on (R339, R340). -/

namespace Sys2Proof.Machine

/-! ### Page transfers (R287, Table 8-8a) -/

structure PagePre where
  item : Nat
  index : Nat
  offset : Nat
  layoutEpoch : Nat
  image : Bool
deriving DecidableEq, Repr

/-- Preambles are little-endian (assumption log 24). -/
def PagePre.bytes (p : PagePre) : List Byte :=
  leBytes 32 (packFields [(32, p.item), (32, p.index), (32, p.offset), (16, p.layoutEpoch), (1, b2n p.image), (143, 0)])

def PagePre.parse (b : List Byte) : PagePre :=
  let n := leNat (fitBytes 32 b)
  { item := bits n 255 224, index := bits n 223 192, offset := bits n 191 160, layoutEpoch := bits n 159 144, image := n.testBit 143 }

/-- Messages of a page of the largest size. -/
def pageMessages : Nat := 517

/-- Send one page as a page-transfer command to a device; the Bool says that a path was there. -/
def State.sendPage (s : State) (c d queue slot : Nat) (p : PagePre) (data : List Byte) : State × Bool :=
  let q := s.peerOf c d
  let parts := chunks 4064 data
  let n := parts.length
  let a := s.sendCommand d 0x11 (parts.zipIdx.map (fun x =>
    ({ FabHdr.zero with
        flags := if x.2 + 1 = n then 0xC0 else 0, roleEpoch := q.roleEpoch, srcCtx := c, dstCtx := q.ctx, srcCtxEpoch := s.epoch c,
        dstCtxEpoch := q.ctxEpoch, srcSlot := slot, srcQueue := queue, msgIndex := x.2, msgCount := n - 1 },
      ({ p with offset := 4064 * x.2 } : PagePre).bytes ++ x.1)))
  if a.2.isEmpty then (s, false)
  else
    let o : PageOut := {
      ctx := c, queue := queue, slot := slot, device := d, msgs := a.2, purlin := (s.upLinks d).isEmpty, lastSend := s.stamp,
      resends := 0 }
    let f := a.1.fab
    ({ a.1 with fab := { f with pageOut := f.pageOut.filter (fun y => !(y.ctx == c && y.queue == queue && y.slot == slot)) ++ [o] } }, true)

/-! ### Content (R349) -/

/-- Context addresses of the pages of an image: weights and optimizer state in table order, then the recipe blocks. -/
def Ctx.imageAddrs (x : Ctx) : List Nat :=
  ((x.tensors.filter (fun t => (t.kind == 0 || t.kind == 4) && t.base != 0)).flatMap (fun t => pagesIn t.base t.bytes))
    ++ (x.recipes.map (fun a => a / pageBytes * pageBytes)).eraseDups

/-- The context pages of an image: the record, then the tensor table (R349). -/
def State.ctxPages (s : State) (c : Nat) : List (List Byte) :=
  let x := s.ctx c
  let b := s.ctxRecord c ++ s.getBytes c x.tensorTable (64 * x.tensorCount)
  (List.range (ctxPageCount x.tensorCount)).map (fun i => fitBytes pageBytes (slice b (i * pageBytes) pageBytes))

/-- The header of Table 10-4. -/
def imageHeader (root : List Byte) (stamp step layout device c pages version : Nat) (isLocal : Bool) (gen : Nat) : List Byte :=
  leBytes 64 (packFields [(256, leNat root), (64, stamp), (32, step), (16, layout), (18, device), (12, c), (32, pages), (32, version),
    (1, b2n isLocal), (1, gen), (48, 0)])

/-- Leaves of content pages, the header page and the leaf pages that follow it. -/
def leafPagesOf (leaves : List (List Byte)) : List (List Byte) := (chunks 65536 (leaves.drop 65534)).map (fun l => fitBytes pageBytes l.flatten)
def headerPage (hdr : List Byte) (leaves : List (List Byte)) : List Byte := fitBytes pageBytes (hdr ++ (leaves.take 65534).flatten)

/-! ### Slots (R354) -/

/-- The slot of a new image: the one that does not hold the newest committed image; with none committed, one that is empty. -/
def newSlot (l : List (Nat × Nat × Bool)) : Option Nat :=
  match (l.filter (fun e => e.2.2)).foldl (fun (b : Option (Nat × Nat)) e => match b with
      | none => some (e.1, e.2.1)
      | some y => if y.2 ≤ e.2.1 then some (e.1, e.2.1) else some y) none with
  | some y => some (1 - y.1)
  | none => [0, 1].find? (fun g => !l.any (fun e => e.1 == g))

/-! ### Sending (R352, R353) -/

/-- The next page to send: those of the pool first, then those that a writer waits on, then those not read yet, the header once all
others are acknowledged. At most 16 are in flight (assumption log 35). -/
def ImageOut.next (im : ImageOut) : Option Nat :=
  if 16 ≤ (im.sends.filter (fun e => !e.2)).length then none
  else match im.pool ++ im.waiting, im.unread with
    | i :: _, _ => some i
    | [], u :: _ => some u.1
    | [], [] => if im.sends.all (fun e => e.2) && !im.sends.any (fun e => e.1 == 0) then some 0 else none

/-- The bytes of a page of the image. -/
def ImageOut.page (im : ImageOut) (i : Nat) : List Byte := if i = 0 then im.header else nth [] im.pages (i - 1)

/-- Send pages while the window allows. The fuel bounds the pages; no path ends the image (R355). -/
def State.pumpImage : Nat → State → Nat → State
  | 0, s, _ => s
  | f + 1, s, c =>
    match (s.ctx c).image with
    | none => s
    | some im =>
      match im.next with
      | none => s
      | some i =>
        if s.unanswered im.device + pageMessages > 4096 then s
        else
        let a := s.sendPage c im.device scarfQueue i { item := i, index := im.step, offset := 0, layoutEpoch := im.layoutEpoch, image := true } (im.page i)
        if !a.2 then a.1.failImage c
        else
          -- a place that comes free in the pool goes to the writer that has waited longest
          let next := im.waiting.erase i
          let freed := im.pool.contains i
          let im := { im with sends := im.sends.filter (fun e => e.1 != i) ++ [(i, false)],
                              pool := im.pool.erase i ++ (if freed then next.take 1 else []),
                              waiting := if freed then next.drop 1 else next, unread := im.unread.filter (fun u => u.1 != i) }
          State.pumpImage f (a.1.modCtx c (fun x => { x with image := some im })) c

/-- An image held for this device's own context, in a slot. -/
def State.findImage (s : State) (device c : Nat) (p : Obj → Bool) : Option Nat :=
  s.objects.findSome? (fun e => if e.2.kind = 2 && e.2.srcDevice == device && e.2.srcCtx == c && p e.2 then some e.1 else none)

/-- The local copy: its object in Filling, every page written (R350, R353); none where the sill lacks pages. -/
def State.localCopy (s : State) (c : Nat) (o : Obj) (pages : List (List Byte)) : State × Option Nat :=
  let s := match s.findImage s.deviceId c (fun x => x.isLocal && x.generation == o.generation) with
    | some id => s.freeObject id
    | none => s
  let id := s.nextObj + 1
  match s.allocSill id (some c) pages.length with
  | none => (s, none)
  | some r =>
    let s := ({ r.1 with nextObj := id } : State).setObject id { o with pages := r.2 }
    (s.fillSill r.2 pages.flatten, some id)

/-- Start an image of a context at its step close (R351, R352). -/
def State.startImage (s : State) (c gen : Nat) : State :=
  let x := s.ctx c
  let addrs := x.imageAddrs
  let own := s.ctxPages c
  let content := own ++ addrs.map (fun a => s.getBytes c a pageBytes)
  let leaves := content.map sm3
  let root := sm3 leaves.flatten
  let lp := leafPagesOf leaves
  let n := lp.length + content.length
  let here := x.localReserved
  let hdr := fun l => headerPage (imageHeader root s.stamp x.step x.layoutEpoch s.deviceId c n x.version l gen) leaves
  let o : Obj := { Obj.none with
    kind := 2, root := root, leaves := leaves, length := (n + 1) * pageBytes, srcDevice := s.deviceId, srcCtx := c, step := x.step,
    generation := gen, stamp := s.stamp, layoutEpoch := x.layoutEpoch, version := x.version, isLocal := true }
  let l := if here then s.localCopy c o (hdr true :: lp ++ content) else (s, none)
  let im : ImageOut := {
    step := x.step, stamp := s.stamp, generation := gen, layoutEpoch := x.layoutEpoch, header := hdr false, pages := lp ++ content,
    unread := (rangeFrom 1 (lp.length + own.length)).map (fun i => (i, 0))
      ++ (addrs.zipIdx.map (fun p => (lp.length + own.length + 1 + p.2, p.1))),
    pool := [], waiting := [], sends := [], localObj := l.2, device := buddyOf s.deviceId }
  let s := l.1.modCtx c (fun x => { x with
    image := some im, checkpointAsked := false, imageDeferred := false, imageSlots := x.imageSlots.filter (fun e => e.1 != gen) })
  if s.inPeerReset im.device then s.failImage c else s.pumpImage 32 c

/-- The interval of a context's images: its raise block's, or object 0x4303.01. -/
def State.interval (s : State) (x : Ctx) : Nat := if x.interval = 0 then s.num 0x4303 1 else x.interval

/-- An image is due at the close of the context's step (R351). -/
def State.imageDue (s : State) (x : Ctx) : Bool :=
  (decide (1 ≤ x.step) && x.step % s.interval x == 0) || x.checkpointAsked || x.imageDeferred

/-- Start an image that is due, or defer it, counted once (R351). -/
def State.closeImage (s : State) (c : Nat) : State :=
  let x := s.ctx c
  if !s.imageDue x then s
  else
    match x.image, newSlot x.imageSlots with
    | none, some g => s.startImage c g
    | _, _ => if x.imageDeferred then s else (s.setCtx c { x with imageDeferred := true }).bump 0x4310 9

/-- Step 2 of R328 begins once the last old step has closed and a slot is free. -/
def State.startReshard (s : State) (c : Nat) : State :=
  let x := s.ctx c
  if !x.reshardDue then s
  else match x.image, newSlot x.imageSlots with
    | none, some g => (s.modCtx c (fun x => { x with reshard := 2 })).startImage c g
    | _, _ => if x.imageDeferred then s else (s.setCtx c { x with imageDeferred := true }).bump 0x4310 9

/-- Every page and the root match: the image is sealed at the buddy, and here (R353); that of a re-shard lets the new map follow. -/
def State.sealImage (s : State) (c : Nat) (im : ImageOut) : State :=
  let bytes := (im.pages.length + 1) * pageBytes
  let s := match im.localObj with
    | some id => ((s.sealPages (s.object id).pages id 0).setObject id { s.object id with sealed := true }).moveRetiring id
    | none => s
  let s := s.modCtx c (fun x => { x with
    image := none, imageSlots := x.imageSlots ++ [(im.generation, im.step, false)],
    lastImage := [im.step, im.stamp, bytes, (s.stamp - im.stamp) / us, 0] })
  let s := (s.bump 0x4310 7).signal 242 (some c)
  if (s.ctx c).reshard = 2 then s.mapReshard c else s.startReshard c

/-- A page of an image is acknowledged. -/
def State.imageAck (s : State) (c i : Nat) : State :=
  match (s.ctx c).image with
  | none => s
  | some im =>
    if !im.sends.contains (i, false) then s
    else
      let s := s.dropPages c scarfQueue (fun o => o.slot == i)
      let im := { im with sends := im.sends.map (fun e => if e.1 = i then (i, true) else e) }
      let s := s.modCtx c (fun x => { x with image := some im })
      if i = 0 then s.sealImage c im else s.pumpImage 32 c

/-- A page of an image is refused: one that failed its leaf is sent again, anything else ends the image (R355). The receiver, which
has the leaves, says which by its code. -/
def State.imageNack (s : State) (c i code : Nat) : State :=
  match (s.ctx c).image with
  | none => s
  | some im =>
    if !im.sends.contains (i, false) then s
    else
    let s := s.dropPages c scarfQueue (fun o => o.slot == i)
    if code = 0x0601 then
      -- the header names the leaves: with it refused, the pages go again
      let again := if i = 0 then rangeFrom 1 im.pages.length else [i]
      let im := { im with sends := im.sends.filter (fun e => !(again.contains e.1 || e.1 == i)), waiting := im.waiting ++ again }
      (s.modCtx c (fun x => { x with image := some im })).pumpImage 32 c
    else s.failImage c

/-! ### Chains (R339, R340) -/

/-- The member that follows this device: the first behind it that is not in peer-reset state. -/
def State.successor (s : State) (c slice : Nat) : Option Nat :=
  let l := (s.ctx c).chainOf slice
  (l.drop (l.findIdx (· == s.deviceId) + 1)).find? (fun d => d != s.deviceId && !s.inPeerReset d)

/-- Send what waits, in the order of its verification: at most 16 pages in flight, and never more than 4,096 messages without a
response (R284). A page with no member left to take it is done. The fuel bounds the pages. -/
def State.pumpForwards : Nat → State → Nat → State
  | 0, s, _ => s
  | f + 1, s, c =>
    let x := s.ctx c
    if 16 ≤ (x.forwards.filter (fun w => w.device.isSome)).length then s
    else match x.forwards.find? (fun w => w.device.isNone) with
      | none => s
      | some w =>
        let drop := fun (s : State) => s.modCtx c (fun x => { x with forwards := x.forwards.filter (fun v => v.slot != w.slot) })
        match s.successor c w.slice with
        | none => State.pumpForwards f (drop s) c
        | some d =>
          if s.unanswered d + pageMessages > 4096 then s
          else
            let a := s.sendPage c d raiseQueue w.slot { item := w.entry, index := w.leaf, offset := 0, layoutEpoch := 0, image := false } w.data
            if !a.2 then State.pumpForwards f (drop s) c
            else
              let s := a.1.bump 0x4310 2
              State.pumpForwards f (s.modCtx c (fun x => { x with
                forwards := x.forwards.map (fun v => if v.slot = w.slot then { v with device := some d } else v) })) c

/-- A verified page goes to the next member. -/
def State.forward (s : State) (c : Nat) (h : Shard) (leaf : Nat) (data : List Byte) : State :=
  let x := s.ctx c
  let w : Forward := { slot := x.forwardNo, entry := h.entry, leaf := leaf, slice := h.slice, data := data, device := none }
  (s.setCtx c { x with forwards := x.forwards ++ [w], forwardNo := (x.forwardNo + 1) % m32 }).pumpForwards 32 c

/-- A forwarded page is answered. -/
def State.forwardEnd (s : State) (c slot : Nat) : State :=
  let s := s.dropPages c raiseQueue (fun o => o.slot == slot)
  (s.modCtx c (fun x => { x with forwards := x.forwards.filter (fun w => w.slot != slot) })).pumpForwards 32 c

/-- A device enters peer-reset state: pages in flight to it go to the member after it (R340). -/
def State.rechain (s : State) (d : Nat) : State :=
  s.ctxs.foldl (fun s e =>
    if e.2.forwards.any (fun w => w.device == some d) then
      (s.modCtx e.1 (fun x => { x with
        forwards := x.forwards.map (fun w => if w.device = some d then { w with device := none } else w) })).pumpForwards 32 e.1
    else s) s

/-- A shard that was fetched from a device is fetched from the next nearest member (R344). -/
def State.refetch (s : State) (d : Nat) : State :=
  (s.objects.filter (fun e => e.2.askedOf == some d)).foldl (fun s e => s.setObject e.1 { s.object e.1 with askedOf := s.fetchFrom e.1 }) s

/-- An image that a device had begun to store for another ends unfinished: its pages are freed (R355). -/
def State.dropFilling (s : State) (device : Nat) (p : Nat → Bool) : State :=
  (s.objects.filter (fun e => e.2.kind == 2 && !e.2.isLocal && !e.2.sealed && e.2.srcDevice == device && p e.2.srcCtx)).foldl
    (fun s e => s.freeObject e.1) s

/-- Peer-reset state for a device, and what was on its way: images to it fail, those from it end, pages of a chain go to the member behind it, and a shard
fetched from it comes from another (R299, R340, R344, R355). -/
def State.peerReset (s : State) (d : Nat) : State :=
  let s := ((s.enterPeerReset d).dropFilling d (fun _ => true)).refetch d
  s.ctxs.foldl (fun s e => match e.2.image with
    | some im => if im.device = d then s.failImage e.1 else s
    | none => s) (s.rechain d)

end Sys2Proof.Machine
end

