-- ==== Sys2Proof/Machine/Link.lean ====
section
/-! DEFINITION. Rafter links and purlin ports (chapter 8, R264 to R281): codewords, credits and retries, link states, spares, the
exchange with the time leader, and port states. -/

namespace Sys2Proof.Machine

/-- A control flit (Table 8-3), which returns what is owed on its link. -/
def controlFlit (kind : Nat) (l : Link) (a b c : Nat) : Nat :=
  packFields [(4, kind), (10, l.ack), (2, 0), (16, nth 0 l.owed 0), (16, nth 0 l.owed 1), (16, nth 0 l.owed 2), (64, a), (64, b), (64, c)]

def flitKind (f : Nat) : Nat := bits f 255 252

/-- Send a control flit on a link: the credits owed go with it (R271). -/
def State.sendFlit (s : State) (n kind a b c : Nat) : State :=
  let l := s.link n
  (s.setLink n { l with owed := [0, 0, 0] }).push (.flit n (controlFlit kind l a b c))

/-! ### Peers (R264, R265, R298) -/

/-- The spare that serves a working link (R265). -/
def State.spareFor (s : State) (n : Nat) : Option Nat :=
  (if n < 16 then [14, 15] else [30, 31]).find? (fun k => sparePeer s.position k == some (peerPosition s.position n))

/-- Every rafter link to a device of the bent, spares included. -/
def State.linksTo (s : State) (d : Nat) : List Nat :=
  workingLinks s.position (d % 8) ++ [14, 15, 30, 31].filter (fun k => sparePeer s.position k == some (d % 8))

/-- Every link to a device is lost: it counts as reset, and its buddy tells the mirrored notice set (R298). -/
def State.checkPeer (s : State) (d : Nat) : State :=
  if (s.linksTo d).any (fun n => (s.link n).isUp) || s.inPeerReset d then s
  else
    let s := s.peerReset d
    if d = buddyOf s.deviceId then s.peerResetTo s.mirrored d else s

/-- The end of peer-reset state for a device (R284, R299). -/
def State.endPeerReset (s : State) (d : Nat) : State :=
  ({ s with fab := { s.fab with
      resetPeers := Assoc.erase d s.fab.resetPeers, txSeq := Assoc.erase d s.fab.txSeq, rx := Assoc.erase d s.fab.rx } } : State).findLeader

/-! ### Changes of state (R274) -/

/-- A change of state raises source 160 + n. -/
def State.setLinkState (s : State) (n : Nat) (l : Link) (st : Nat) : State :=
  let before := (s.link n).state
  let s := s.setLink n { l with state := st }
  if before = st then s else s.signal (160 + n) none

/-- A contribution that cannot be sent ends its collective, running or parked, with a code; the Bool says that it was there. -/
def State.collRefused (s : State) (c slot code : Nat) : State × Bool :=
  match (s.runsOf c).find? (fun e => e.1 == 272 && e.2.slot == slot) with
  | some e => ((s.clearEngine 272 (fun r => r == e.2)).finishRun e.2 code false, true)
  | none =>
    match (s.ctx c).parked.find? (fun (p : Parked) => p.queue == 272 && p.slotIndex == slot && p.run.isSome) with
    | some p =>
      let s := s.modCtx c (fun x => x.setParked (x.parked.filter (fun q => q != p)))
      ((p.run.elim s (fun r => s.finishRun r code false)), true)
    | none => (s, false)

/-- What a message that finds no path ends (R281): its own command with 0x0305, the collective of a contribution, the image or the hand-on of
a page transfer. A response, a notice or a peer-reset message is of no command here. -/
def State.noPath (s : State) (ty : Nat) (h : FabHdr) : State :=
  if 0x20 ≤ ty then s
  else if ty = 0x10 then (s.collRefused h.srcCtx h.srcSlot 0x0305).1
  else if ty = 0x11 then (if h.srcQueue = scarfQueue then s.failImage h.srcCtx else s.forwardEnd h.srcCtx h.srcSlot)
  else (s.endRemote h.srcCtx h.srcQueue h.srcSlot 0x0305).1

/-- A message of a link that went Down goes another way under its seq (R270, R281). -/
def State.reroute (s : State) (m : Nat × FabHdr × List Byte) : State :=
  let a := s.route m.2.1.dstDevice m.1 m.2.1 m.2.2
  if a.2 then a.1 else a.1.noPath m.1 m.2.1

/-- A link leaves its state for Down or Disabled: its messages are handed on, its spare is given back. -/
def State.dropLink (s : State) (n st : Nat) : State :=
  let l := s.link n
  let msgs := l.msgs.map (·.2) ++ l.held
  let fresh : Link := {
    Link.down with peer := l.peer, downSince := s.stamp, deducted := l.deducted,
                   lostSince := if l.isUp then s.stamp else l.lostSince }
  let s := s.setLinkState n fresh st
  let s := if st = 0 then s.bump 0x4010 7 else s
  let s := match l.spare with
    | 0 => s
    | k + 1 => let y := s.link k
               s.setLink k { y with lent := y.lent.filter (fun e => e.1 != n) }
  msgs.foldl (fun s m => s.reroute m) s

/-- A link on which another lane is gone for good: three lanes, or Down (R277). -/
def State.fewerLanes (s : State) (n : Nat) : State :=
  let l := s.link n
  if l.lanes < 4 then s.dropLink n 0
  else (s.setLinkState n { l with lanes := 3 } 6).deduct 5

/-- A link goes Down or is Disabled, with what its spare lanes carried; then its peer may be lost. -/
def State.linkLeaves (s : State) (n st : Nat) : State :=
  let l := s.link n
  let up := l.isUp
  let s := s.dropLink n st
  let users := (l.lent.map (·.1)).eraseDups
  let s := users.foldl (fun s m =>
    let k := (l.lent.filter (fun e => e.1 == m)).length
    let y := s.link m
    let s := s.setLink m { y with spare := 0 }
    if k = 4 then s.dropLink m 0 else (List.range k).foldl (fun s _ => if (s.link m).isUp then s.fewerLanes m else s) s) s
  if up then s.checkPeer (s.linkPeer n) else s

def State.linkDown (s : State) (n : Nat) : State := s.linkLeaves n 0

/-! ### Codewords (R267 to R271) -/

/-- A retry request names the seq that is expected. -/
def State.askRetry (s : State) (n : Nat) : State :=
  let l := s.link n
  (s.setLink n { l with waiting := true }).sendFlit n 9 0 0 l.rxSeq

/-- Flits of the message that a first header flit opens: two of the header, and those of its payload (R268, Table 8-7). -/
def messageLength (f : Nat) : Nat := 2 + ceilDiv (bits f 107 95) 32

/-- Split flits at message boundaries: the flits of a message still open, and what ended, in order. At a boundary 0x1 in bits [255:252] opens a
message and 0x8 to 0xF is a control flit; any other flit there is neither (R268). -/
def splitFlits : List Nat → List Nat → List (List Nat) → List Nat × List (List Nat)
  | [], cur, out => (cur, out)
  | f :: l, [], out => if bits f 255 252 = 1 then splitFlits l [f] out
                       else splitFlits l [] (if 8 ≤ bits f 255 252 then out ++ [[f]] else out)
  | f :: l, g :: cur, out =>
    if messageLength g ≤ (g :: cur).length + 1 then splitFlits l [] (out ++ [g :: cur ++ [f]]) else splitFlits l (g :: cur ++ [f]) out

/-- An accepted codeword: the next seq, its messages and control flits (R268), an acknowledgement and the credits owed (assumption log 39). What
the flits it ends say comes as commands of their own (assumption log 153). -/
def State.acceptCodeword (s : State) (n : Nat) (flits : List Nat) : State :=
  let l := s.link n
  let p := splitFlits flits l.rxOpen []
  let s := s.setLink n { l with rxSeq := (l.rxSeq + 1) % 1024, waiting := false, rxOpen := p.1, rxSplit := p.2 }
  (s.countEvent (linkUnit n) 0x0302 20 none).sendFlit n 8 0 0 0

/-- The checks of R269: FEC, CRC-10, seq. -/
def State.codeword (s : State) (n : Nat) (fecOk : Bool) (corrected seq crc : Nat) (flits : List Nat) : State :=
  let l := s.link n
  if !fecOk then (s.bump 0x4010 2).askRetry n
  else
    let s := if corrected = 0 then s else s.bump 0x4010 1
    if crc10 flits != crc then (s.bump 0x4010 3).askRetry n
    else if seq = l.rxSeq then s.acceptCodeword n flits
    else if l.waiting then s
    else s.askRetry n

/-- Codewords travel in Identify and Up. -/
def Link.carries (l : Link) : Bool := l.isUp || l.state == 4

/-- CODEWORD_RECEIVE (R269). -/
def execCodewordReceive (dt link : Nat) (fecOk : Bool) (corrected seq crc : Nat) (flits : List Nat) (s : State) :
    Host.Outcome State Fault Refusal :=
  .next ((s.elapse dt).whenUp fun s =>
    if (s.link link).carries then s.codeword link fecOk corrected seq crc flits else s)

/-- A virtual channel's buffer (Table 8-4). -/
def vcBuffer : List Nat := [4096, 512, 128]

/-- The acknowledgement and the credits of a control flit (R269, R271). -/
def Link.take (l : Link) (f : Nat) : Link :=
  let a := bits f 251 242
  let rest := match l.unacked.findIdx? (fun u => u.1 == a) with
    | some i => l.unacked.drop (i + 1)
    | none => l.unacked
  let kept := rest.map (fun u => u.1)
  { l with
    unacked := rest, msgs := l.msgs.filter (fun m => kept.contains m.1),
    credits := [min 4096 (nth 0 l.credits 0 + bits f 239 224), min 512 (nth 0 l.credits 1 + bits f 223 208),
                min 128 (nth 0 l.credits 2 + bits f 207 192)] }

/-- What every control flit of a link does, and then what its kind does: a flit of another kind has no effect. -/
def State.onFlit (s : State) (n f kind : Nat) (g : State → State) : State :=
  s.whenUp fun s =>
    if (s.link n).carries && flitKind f == kind then
      let s := s.setLink n ((s.link n).take f)
      g (s.drainHeld (s.link n).held.length n [])
    else s

/-- IDLE_CREDIT_FLIT (R271). -/
def execIdleCreditFlit (dt link flit : Nat) (s : State) : Host.Outcome State Fault Refusal :=
  .next ((s.elapse dt).onFlit link flit 8 (fun s => s))

/-- Resend the unacknowledged codewords from one on, in order; none goes while a lane swap holds codewords back (R269, R277). -/
def State.resendFrom (s : State) (n q : Nat) : State :=
  let l := s.link n
  if l.swapping then s
  else match l.unacked.findIdx? (fun u => u.1 == q) with
  | none => s
  | some i =>
    let again := l.unacked.drop i
    let s := s.setLink n { l with unacked := l.unacked.take i ++ again.map (fun u => (u.1, u.2.1, u.2.2 + 1)) }
    again.foldl (fun s u => (s.push (.resend n u.1)).push (.codeword n u.1 (crc10 u.2.1) u.2.1 (s.lanesOf n))) s

/-- RETRY_REQUEST (R269): the named codeword and those after it go again; past the limit of object 0x4003.02 the link goes
Down. -/
def execRetryRequest (dt link flit : Nat) (s : State) : Host.Outcome State Fault Refusal :=
  .next ((s.elapse dt).onFlit link flit 9 fun s =>
    let q := bits flit 9 0
    match (s.link link).unacked.find? (fun u => u.1 == q) with
    | none => s
    | some u =>
      if s.num 0x4003 2 ≤ u.2.2 then s.linkDown link
      else ((s.bump 0x4010 4).countEvent (linkUnit link) 0x0308 1 none).resendFrom link q)

/-! ### The time leader (R272, R273) -/

/-- SYNC_INTERVAL (R272): a follower asks its leader over one Up link. -/
def execSyncInterval (dt : Nat) (s : State) : Host.Outcome State Fault Refusal :=
  .next ((s.elapse dt).whenUp fun s =>
    if s.leads then s
    else match s.leaderLinks with
      | [] => s
      | n :: _ => ({ s with clock := { s.clock with syncSent := some s.stamp } } : State).sendFlit n 0xA s.stamp 0 0)

/-- SYNC_REQUEST (R272): the leader answers with t1, t2 and t3; its reply leaves as the request arrives (assumption log 40). -/
def execSyncRequest (dt link flit : Nat) (s : State) : Host.Outcome State Fault Refusal :=
  .next ((s.elapse dt).onFlit link flit 0xA fun s =>
    if s.leads then s.sendFlit link 0xB (bits flit 191 128) s.stamp s.stamp else s)

/-- The offset of an exchange, in stamp units; the division rounds toward zero (R10, R272). -/
def syncOffset (t1 t2 t3 t4 : Nat) : Int := (((t2 : Int) - t1) - ((t4 : Int) - t3)).tdiv 2

/-- SYNC_REPLY (R272). -/
def execSyncReply (dt link flit : Nat) (s : State) : Host.Outcome State Fault Refusal :=
  .next ((s.elapse dt).onFlit link flit 0xB fun s =>
    let t1 := bits flit 191 128
    if s.clock.syncSent = some t1 then
      let off := syncOffset t1 (bits flit 127 64) (bits flit 63 0) s.stamp
      let s := { s with clock := { s.clock with syncSent := none }, fab := { s.fab with offset := off } }
      s.follow off 1
    else s)

/-- LEADER_LOSS_TIMEOUT (R273): a follower without an Up link to its leader follows IEEE 1588. -/
def execLeaderLossTimeout (dt : Nat) (s : State) : Host.Outcome State Fault Refusal :=
  .next ((s.elapse dt).whenUp fun s =>
    if s.leads || !s.leaderLinks.isEmpty then s else { s with fab := { s.fab with fallback := true } })

/-! ### Bring-up (R274, R275) -/

/-- LINK_DOWN_TIMEOUT (R274): 1 ms in Down. -/
def execLinkDownTimeout (dt link : Nat) (s : State) : Host.Outcome State Fault Refusal :=
  .next ((s.elapse dt).whenUp fun s =>
    let l := s.link link
    if link < 32 ∧ l.state = 0 ∧ l.downSince + ms ≤ s.stamp then s.setLinkState link l 1 else s)

/-- PARTNER_SIGNAL (R274). -/
def execPartnerSignal (dt link : Nat) (s : State) : Host.Outcome State Fault Refusal :=
  .next ((s.elapse dt).whenUp fun s =>
    if (s.link link).state = 1 then s.setLinkState link (s.link link) 2 else s)

/-- TRAINING_DONE (R274). -/
def execTrainingDone (dt link : Nat) (ok : Bool) (s : State) : Host.Outcome State Fault Refusal :=
  .next ((s.elapse dt).whenUp fun s =>
    if (s.link link).state = 2 then (if ok then s.setLinkState link (s.link link) 3 else s.linkDown link) else s)

/-- The identify flit of a link: device ID, link number, lane map, spare (R275). -/
def State.identity (s : State) (n : Nat) : Nat :=
  packFields [(18, s.deviceId), (5, n), (8, (s.link n).laneMap), (1, b2n (isSpare n)), (32, 0)]

/-- ALIGN_DONE (R274): the lanes are in order, and the link sends its identity. -/
def execAlignDone (dt link laneMap : Nat) (s : State) : Host.Outcome State Fault Refusal :=
  .next ((s.elapse dt).whenUp fun s =>
    let l := s.link link
    if l.state = 3 then
      let s := s.setLinkState link { Link.down with peer := l.peer, laneMap := laneMap % 256, downSince := l.downSince,
                                                    lostSince := l.lostSince, deducted := l.deducted } 4
      s.sendFlit link 0xC (s.identity link) 0 0
    else s)

/-- The number that the far end of a link has (R264, R265). -/
def State.farNumber (s : State) (n : Nat) : Nat :=
  if isSpare n then n
  else
    let p := s.position
    let q := peerPosition p n
    2 * (if p < q then p else p - 1) + n % 2 + n / 16 * 16

/-- The identity is accepted (R275). -/
def State.identityOk (s : State) (n f : Nat) : Bool :=
  let d := bits f 191 174
  d / 8 == s.deviceId / 8 && d % 8 != s.position && bits f 173 169 == s.farNumber n

/-- IDENTIFY (R275): Up or Miswired; peer-reset state ends for the device of an Up link (R299). -/
def execIdentify (dt link flit : Nat) (s : State) : Host.Outcome State Fault Refusal :=
  .next ((s.elapse dt).whenUp fun s =>
    let l := s.link link
    if l.state = 4 ∧ flitKind flit = 0xC then
      let d := bits flit 191 174
      let ok := s.identityOk link flit
      let s := s.setLinkState link { l with peer := d } (if ok then 5 else 7)
      let s := if ok && s.inPeerReset d then s.endPeerReset d else s
      s.findLeader
    else s)

/-! ### Loss and spares (R277, R298) -/

/-- The lane-map flit of a link: the fields of the identify flit, with the lanes on the spare in the four low bits of the lane map
(assumption log 41). -/
def State.laneMapFlit (s : State) (n : Nat) : Nat :=
  let l := s.link n
  let mine := if l.spare = 0 then [] else ((s.link (l.spare - 1)).lent.filter (fun e => e.1 == n)).map (·.2)
  packFields [(18, s.deviceId), (5, n), (8, sumList (mine.map (fun i => 2 ^ i))), (1, b2n (isSpare n)), (32, 0)]

/-- The swap of lanes begins: lane-map flits are exchanged, and codewords wait. -/
def State.beginSwap (s : State) (n : Nat) : State :=
  ((s.setLink n { s.link n with swapping := true }).sendFlit n 0xD (s.laneMapFlit n) 0 0).deduct 5

/-- The spare may serve: it is Up and does not serve a whole link (assumption log 42). -/
def Link.lends (l : Link) : Bool := l.isUp && !(l.lent.any (fun e => (l.lent.filter (fun x => x.1 == e.1)).length == 4))

/-- A working link takes the whole spare where no other link holds a lane of it. -/
def State.wholeSpare (s : State) (n : Nat) : Option Nat :=
  match s.spareFor n with
  | none => none
  | some k =>
    let y := s.link k
    if s.num 0x4003 1 = 1 && !isSpare n && y.lends && y.lanes == 4 && y.lent.all (fun e => e.1 == n) then some k else none

def State.takeWhole (s : State) (n k : Nat) : State :=
  let y := s.link k
  let s := s.setLink k { y with lent := (List.range 4).map (fun i => (n, i)) }
  let s := s.setLinkState n { s.link n with spare := k + 1, lanes := 4, lost := [] } 5
  (s.bump 0x4010 6).beginSwap n

/-- One lane of the spare replaces a lane. -/
def State.takeLane (s : State) (n k lane : Nat) : State :=
  let y := s.link k
  let l := s.link n
  let s := s.setLink k { y with lent := y.lent ++ [(n, lane)] }
  let s := s.setLink n { l with spare := k + 1, lost := l.lost ++ [lane] }
  (s.bump 0x4010 5).beginSwap n

/-- A lane is lost: a whole spare for a second one, else a spare lane, else three lanes or Down. -/
def State.loseLane (s : State) (n lane : Nat) : State :=
  let l := s.link n
  match (if l.lost.isEmpty && l.lanes == 4 then none else s.wholeSpare n) with
  | some k => s.takeWhole n k
  | none =>
    let k := if s.num 0x4003 1 = 1 && !isSpare n then s.spareFor n else none
    match k.filter (fun k => (s.link k).lends && decide ((s.link k).lent.length < (s.link k).lanes)) with
    | some k => s.takeLane n k lane
    | none =>
      if l.lanes < 4 then s.linkDown n
      else
        let s := s.setLink n { l with lost := l.lost ++ [lane] }
        s.fewerLanes n

/-- LANE_LOSS (R277). -/
def execLaneLoss (dt link lane : Nat) (s : State) : Host.Outcome State Fault Refusal :=
  .next ((s.elapse dt).whenUp fun s =>
    if (s.link link).isUp && decide (lane < 4) then s.loseLane link lane else s)

/-- The far end has begun a swap: this end moves the same lanes to the same spare, and answers with its own map (R277). -/
def State.joinSwap (s : State) (n flit : Nat) : State :=
  let l := s.link n
  let m := bits flit 168 161
  let fresh := (List.range 4).filter (fun i => m.testBit i && !l.lost.contains i)
  match s.spareFor n with
  | none => s.sendFlit n 0xD (s.laneMapFlit n) 0 0
  | some k =>
    if isSpare n then s.sendFlit n 0xD (s.laneMapFlit n) 0 0
    else if m % 16 = 15 then s.takeWhole n k
    else match fresh with
      | [] => s.sendFlit n 0xD (s.laneMapFlit n) 0 0
      | i :: _ => s.takeLane n k i

/-- LANE_MAP (R277): both ends have exchanged their maps; codewords resume, and the unacknowledged ones go again. -/
def execLaneMap (dt link flit : Nat) (s : State) : Host.Outcome State Fault Refusal :=
  .next ((s.elapse dt).onFlit link flit 0xD fun s =>
    let s := if (s.link link).swapping then s else s.joinSwap link flit
    let s := s.setLink link { s.link link with swapping := false }
    let s := match (s.link link).unacked with
      | u :: _ => s.resendFrom link u.1
      | [] => s
    s.drainHeld (s.link link).held.length link [])

/-- LINK_SILENCE_TIMEOUT (R274, R277, R298): a working link takes its whole spare, or the link goes Down. -/
def execLinkSilenceTimeout (dt link : Nat) (s : State) : Host.Outcome State Fault Refusal :=
  .next ((s.elapse dt).whenUp fun s =>
    let l := s.link link
    if l.isUp then
      match (if l.spare = 0 then s.wholeSpare link else none) with
      | some k => s.takeWhole link k
      | none => s.linkDown link
    else if l.state = 3 ∨ l.state = 4 then s.linkDown link
    else s)

/-! ### Commands on links (Table 8-5, Table 8-17) -/

/-- A write to 0x4003.05: the named links go to Down. -/
def State.actRetrain (s : State) (mask : Nat) : State :=
  (List.range 32).foldl (fun s n =>
    if mask.testBit n ∧ (s.link n).state ≠ 0 ∧ (s.link n).state ≠ 8 then s.linkDown n else s) s

/-- LINK_RETRAIN (R274). -/
def execLinkRetrain (dt mask : Nat) (s : State) : Host.Outcome State Fault Refusal :=
  .next ((s.elapse dt).whenUp fun s => s.actRetrain mask)

/-- A write to 0x4003.04: set bits disable, cleared bits return to Down. -/
def State.actDisable (s : State) (mask : Nat) : State :=
  let s := s.setRwp 0x4003 4 (.num (mask % 2 ^ 32))
  (List.range 32).foldl (fun s n =>
    let st := (s.link n).state
    if mask.testBit n then (if st = 8 then s else s.linkLeaves n 8)
    else if st = 8 then s.linkDown n else s) s

/-- LINK_DISABLE_WRITE (R274). -/
def execLinkDisableWrite (dt mask : Nat) (s : State) : Host.Outcome State Fault Refusal :=
  .next ((s.elapse dt).whenUp fun s => s.actDisable mask)

/-- LINK_DOWN_DEDUCTION (R480): a working link not Up for more than 10 min, with no spare. -/
def execLinkDownDeduction (dt link : Nat) (s : State) : Host.Outcome State Fault Refusal :=
  .next ((s.elapse dt).whenUp fun s =>
    let l := s.link link
    if link < 32 && !isSpare link && decide (l.state ≤ 4) && !l.deducted && decide (l.lostSince + 600 * sec < s.stamp) then
      (s.setLink link { l with deducted := true }).deductPermanent (linkKey link) 25
    else s)

/-! ### Purlin ports (R278, R281, R302) -/

/-- The framing that a training takes from the objects. -/
def State.takeFraming (s : State) (p : Nat) : State :=
  let f := (rangeFrom 1 5).map (s.num 0x4104) ++ [s.num 0x4105 (p + 1)]
  { s with fab := { s.fab with frames := Assoc.set [] s.fab.frames p f } }

/-- A port's new state; a port that object 0x4104.06 disables stays so when it would train. -/
def State.setPort (s : State) (p st : Nat) : State :=
  let st := if st = 1 ∧ (s.num 0x4104 6).testBit p then 3 else st
  let s := if st = 1 then s.takeFraming p else s
  if Assoc.get 0 s.ports p = st then s
  else
    let s := if st = 2 then s else { s with clock := { s.clock with masters := Assoc.erase (p + 2) s.clock.masters } }
    ({ s with ports := Assoc.set 0 s.ports p st } : State).signal (192 + p) none

/-- PORT_STATE_CHANGE (R281, Table 8-15). -/
def execPortStateChange (dt port st : Nat) (s : State) : Host.Outcome State Fault Refusal :=
  .next ((s.elapse dt).whenUp fun s => if port < 16 ∧ st ≤ 3 then s.setPort port st else s)

end Sys2Proof.Machine
end

