-- ==== Sys2Proof/Machine/Intr.lean ====
section
/-! DEFINITION. The interrupt controller (R411 to R421): signals, the register writes of the management cores, delivery and the
end of a handler. -/

namespace Sys2Proof.Machine

/-! ### Registers as they read (Table 13-1) -/

def State.core (s : State) (k : Nat) : Core := Assoc.get Core.zero s.cores k
def State.setCore (s : State) (k : Nat) (x : Core) : State := { s with cores := Assoc.set Core.zero s.cores k x }

def State.pend (s : State) (n : Nat) : Bool := (s.sourceOf n).pend

/-- PENDw. -/
def State.pendWord (s : State) (w : Nat) : Nat :=
  (List.range 64).foldl (fun a b => a + b2n (s.pend (64 * w + b)) * 2 ^ b) 0

/-- Fields of Table 13-2. -/
def cfgEnable (w : Nat) : Bool := w.testBit 15
def cfgFast (w : Nat) : Bool := w.testBit 14
def cfgPriority (w : Nat) : Nat := bits w 13 11
def cfgCore (w : Nat) : Nat := bits w 10 9

/-- SUMMARY. -/
def State.intrSummary (s : State) : Nat :=
  (List.range 8).foldl (fun a w => a + b2n ((List.range 64).any (fun b =>
    s.pend (64 * w + b) && cfgEnable (s.config (64 * w + b)))) * 2 ^ w) 0

/-! ### Delivery (R415 to R417) -/

/-- A source is deliverable to a core. Ordered mode ignores core fields: everything goes to core 0. -/
def State.deliverable (s : State) (k n : Nat) : Bool :=
  let w := s.config n
  s.pend n && cfgEnable w && (if s.intr.ordered then k == 0 else cfgCore w == k)
    && !((s.core k).service.any (fun e => e.1 == n))

/-- The normal handler in service on a core with the highest priority. -/
def State.servicePriority (s : State) (k : Nat) : Option Nat :=
  (s.core k).service.foldl (fun (m : Option Nat) e => some (max (m.getD 0) (cfgPriority (s.config e.1)))) none

/-- Of the deliverable normal sources, the highest priority, the lowest number on a tie. -/
def State.bestNormal (s : State) (k : Nat) : Option Nat :=
  (List.range 512).foldl (fun (b : Option Nat) n =>
    if s.deliverable k n && !cfgFast (s.config n) then
      match b with
      | none => some n
      | some m => if cfgPriority (s.config m) < cfgPriority (s.config n) then some n else b
    else b) none

/-- NEXT: the source that a core would take next (R416, R417). -/
def State.nextSource (s : State) (k : Nat) : Option Nat :=
  let x := s.core k
  if s.intr.ordered then
    if x.service.isEmpty then (List.range 512).find? (fun n => s.deliverable k n) else none
  else if x.inFast then none
  else
    match (List.range 32).find? (fun n => s.deliverable k n && cfgFast (s.config n)) with
    | some n => some n
    | none =>
      match s.bestNormal k, s.servicePriority k with
      | some n, some p => if p < cfgPriority (s.config n) then some n else none
      | b, _ => b

/-- Entry into the handler of a source: the fast bank for the fast class, else the normal entry address (R415, R416). -/
def Core.enterHandler (x : Core) (n : Nat) (fast : Bool) : Core :=
  if fast then { x with service := (n, x.pc) :: x.service, inFast := true, fastPc := x.fastVec }
  else { x with service := (n, x.pc) :: x.service, pc := x.normVec }

/-- INTERRUPT_DELIVERY (R415 to R417). -/
def State.deliver (s : State) (k : Nat) : State :=
  if k < 4 ∧ (s.core k).running then
    match s.nextSource k with
    | some n => s.setCore k ((s.core k).enterHandler n (cfgFast (s.config n)))
    | none => s
  else s

def execInterruptDelivery (dt core : Nat) (s : State) : Host.Outcome State Fault Refusal :=
  .next ((s.elapse dt).whenUp fun s => s.deliver core)

/-- The handler of `n` ends: the interrupted code resumes where the handler is the innermost one; a source not in service changes
nothing (R415). A handler below another keeps the innermost one running (assumption log 48). -/
def Core.endService (x : Core) (n : Nat) : Core :=
  match x.service with
  | [] => x
  | e :: l =>
    if e.1 = n then
      if x.inFast then { x with service := l, inFast := false } else { x with service := l, pc := e.2 }
    else { x with service := e :: l.filter (fun f => f.1 != n) }

/-- END (R415, R416). -/
def execEndHandler (dt core source : Nat) (s : State) : Host.Outcome State Fault Refusal :=
  .next ((s.elapse dt).whenUp fun s =>
    if core < 4 then s.setCore core ((s.core core).endService (source % 1024)) else s)

/-! ### Signals and register writes (R411 to R413) -/

/-- A power-gated or reset unit sends no signal; the always-on sources and the software sources still do (R420). -/
def State.canSignal (s : State) (n : Nat) : Bool :=
  s.up || (s.boot.phase != .coldReset && (decide (n ≤ 7) || decide (480 ≤ n)))

/-- INTERRUPT_SIGNAL (R412). -/
def execInterruptSignal (dt source : Nat) (ctx : Option Nat) (s : State) : Host.Outcome State Fault Refusal :=
  let s := s.elapse dt
  .next (if s.canSignal source && decide (source < 512) then s.signal source ctx else s)

/-- TAKE_INFO (Table 13-3). -/
def Source.takeInfo (x : Source) (n : Nat) : Nat :=
  packFields [(16, if x.ctx.isSome then x.epoch else 0), (12, x.ctx.getD 0), (1, b2n x.ctx.isSome), (8, x.count), (17, 0), (10, n)]

/-- Copy a source into a core's TAKE registers and clear it. -/
def State.takeSource (s : State) (k n : Nat) : State :=
  let x := s.sourceOf n
  let s := s.setCore k { s.core k with takeInfo := x.takeInfo n, takeFirst := x.first, takeLast := x.last }
  s.setSourceOf n { x with pend := false, count := 0 }

/-- TAKE (R413). -/
def execTake (dt core source : Nat) (s : State) : Host.Outcome State Fault Refusal :=
  .next ((s.elapse dt).whenUp fun s =>
    if core < 4 ∧ source % 1024 < 512 then s.takeSource core (source % 1024) else s)

/-- Clear the pending bits that a mask names, and no count. -/
def State.clearPend (s : State) (w mask : Nat) : State :=
  (List.range 64).foldl (fun s b =>
    if mask.testBit b && s.pend (64 * w + b) then s.setSourceOf (64 * w + b) { s.sourceOf (64 * w + b) with pend := false }
    else s) s

/-- PEND_CLEAR (R413). -/
def execPendClear (dt w mask : Nat) (s : State) : Host.Outcome State Fault Refusal :=
  .next ((s.elapse dt).whenUp fun s => if w < 8 then s.clearPend w mask else s)

/-- A write to SET: sources 448 to 511; another number has no effect. -/
def State.setSoftware (s : State) (n : Nat) : State := if 448 ≤ n ∧ n ≤ 511 then s.signal n none else s

/-- SET (R411). -/
def execSetSource (dt source : Nat) (s : State) : Host.Outcome State Fault Refusal :=
  .next ((s.elapse dt).whenUp fun s => s.setSoftware (source % 1024))

/-- A write to MODE: 0 leaves ordered delivery; 1 enters it, and no reason is stated for it (assumption log 49). -/
def State.writeMode (s : State) (v : Nat) : State :=
  if v.testBit 0 then (if s.intr.ordered then s else s.enterOrdered 0) else s.leaveOrdered

/-- MODE_WRITE (R417). -/
def execModeWrite (dt v : Nat) (s : State) : Host.Outcome State Fault Refusal :=
  .next ((s.elapse dt).whenUp fun s => s.writeMode v)

/-- JTAG_TEST_MODE_ENTRY (R417). -/
def execJtagTestModeEntry (dt : Nat) (s : State) : Host.Outcome State Fault Refusal :=
  let s := s.elapse dt
  let s : State := { s with pins := { s.pins with jtagTest := true } }
  .next (s.enterOrdered 2)

/-! ### The register map (Table 13-1) -/

/-- A source configuration word brought to what its register holds: bits [4:0] are reserved, the fast bit is one of sources 0 to 31 only. -/
def sourceWord (n w : Nat) : Nat := w % 65536 &&& (if n < 32 then 0xFFE0 else 0xBFE0)

/-- Counts of eight sources. -/
def State.countWord (s : State) (j : Nat) : Nat :=
  (List.range 8).foldl (fun a i => a + (s.sourceOf (8 * j + i)).count * 2 ^ (8 * i)) 0

/-- A core's read of 8 bytes at an offset of the controller; every offset that Table 13-1 does not name reads 0. -/
def State.intrReg (s : State) (k off : Nat) : Nat :=
  let x := s.core k
  if off % 8 ≠ 0 then 0
  else if off < 0x40 then s.pendWord (off / 8)
  else if 0x800 ≤ off ∧ off < 0xA00 then s.countWord ((off - 0x800) / 8)
  else if 0x1000 ≤ off ∧ off < 0x2000 then s.config ((off - 0x1000) / 8)
  else match off with
    | 0x40 => s.intrSummary
    | 0x48 => b2n s.intr.ordered
    | 0x100 => (s.nextSource k).getD 0x200
    | 0x110 => x.takeInfo
    | 0x118 => x.takeFirst
    | 0x120 => x.takeLast
    | 0x130 => x.service.length % 16 + 16 * b2n x.inFast
    | 0x138 => x.fastVec
    | 0x140 => x.normVec
    | _ => 0

/-- A core's write of 8 bytes at an offset of the controller; a register that is only read, and an offset that Table 13-1 does not name, takes
no write. -/
def State.writeIntr (s : State) (k off v : Nat) : State :=
  let x := s.core k
  if off % 8 ≠ 0 then s
  else if off < 0x40 then s.clearPend (off / 8) v
  else if 0x1000 ≤ off ∧ off < 0x2000 then
    let n := (off - 0x1000) / 8
    { s with intr := { s.intr with config := Assoc.set 0 s.intr.config n (sourceWord n v) } }
  else match off with
    | 0x48 => s.writeMode v
    | 0x50 => s.setSoftware (v % 1024)
    | 0x108 => if v % 1024 < 512 then s.takeSource k (v % 1024) else s
    | 0x128 => s.setCore k (x.endService (v % 1024))
    | 0x138 => s.setCore k { x with fastVec := v }
    | 0x140 => s.setCore k { x with normVec := v }
    | _ => s

/-! ### Objects (R431, R432) -/

/-- A write to 0x5003.01. -/
def State.actSoftware (s : State) (v : Nat) : State :=
  let a := s.clampNum 0x5003 1 v
  a.1.signal a.2 none

/-- RAISE_SOFTWARE_SOURCE (R411). -/
def execRaiseSoftwareSource (dt source : Nat) (s : State) : Host.Outcome State Fault Refusal :=
  .next ((s.elapse dt).whenUp fun s => s.actSoftware source)

/-- The CONFIG words that a value of object 0x5002.01 gives: 1,024 bytes, bits [4:0] reserved, the fast bit on sources 0 to 31 only. -/
def configValue (b : List Byte) : List Byte :=
  let b := fitBytes 1024 b
  (List.range 512).flatMap (fun n =>
    let w := leNat (slice b (2 * n) 2)
    leBytes 2 (sourceWord n w))

/-- A write to 0x5002.01: clamped, kept, and loaded at once. -/
def State.actConfig (s : State) (b : List Byte) : State :=
  let v := configValue b
  let s := if v = b then s else s.countClamp 0x5002
  (s.setRwp 0x5002 1 (.blob v)).loadConfig

/-- SOURCE_CONFIG_WRITE (R431). -/
def execSourceConfigWrite (dt : Nat) (val : List Byte) (s : State) : Host.Outcome State Fault Refusal :=
  .next ((s.elapse dt).whenUp fun s => s.actConfig val)

/-- INTERRUPT_COUNTERS_CLEAR (R433). -/
def execInterruptCountersClear (dt v : Nat) (s : State) : Host.Outcome State Fault Refusal :=
  .next ((s.elapse dt).whenUp fun s => s.execClear 0x5011 v)

end Sys2Proof.Machine
end

