-- ==== Sys2Proof/Machine/Count.lean ====
section
/-! DEFINITION. Performance counters, precise sampling and bandwidth windows (R423 to R432). -/

namespace Sys2Proof.Machine

/-! ### Counters -/

/-- A counter at its highest value counts once more (R424): its own event or, chained, the wrap below it. -/
def State.wrapCounter (s : State) (u k : Nat) : State :=
  let w := s.perfConfig u k
  if w.testBit 48 && (w.testBit 49 || bits w 47 32 != 0) then (s.setPerfValue u k (2 ^ 48 - 1)).addCounter u k 1 else s

/-- COUNTER_WRAP (R424). -/
def execCounterWrap (dt unit k : Nat) (s : State) : Host.Outcome State Fault Refusal :=
  .next ((s.elapse dt).whenUp fun s => if unit ≤ 82 ∧ k < unitCounters unit then s.wrapCounter unit k else s)

def State.actCounterReset (s : State) (v : Nat) : State :=
  let s := (s.clampNum 0x5102 1 v).1
  { s with perf := { s.perf with values := [], overflow := [], lost := [] } }

/-- COUNTER_RESET (R432). -/
def execCounterReset (dt v : Nat) (s : State) : Host.Outcome State Fault Refusal :=
  .next ((s.elapse dt).whenUp fun s => s.actCounterReset v)

/-! ### Precise sampling (R427, R428) -/

/-- Fields of a run's configuration word. -/
def runCtx (w : Nat) : Nat := bits w 63 52
def runFilter (w : Nat) : Bool := w.testBit 51
def runEvent (w : Nat) : Nat := bits w 49 34
def runPeriod (w : Nat) : Nat := bits w 33 10 + 1
def runThreshold (w : Nat) : Nat := bits w 9 0 * 64

/-- An empty buffer, from record 0. -/
def Sampling.empty (r : Sampling) : Sampling :=
  { r with records := [], recSeq := 0, writeIndex := 0, readMark := 0, unread := 0, lastRec := [], counts := [] }

/-- Start a run, or have its request refused. A run that runs already goes on (assumption log 52). -/
def State.startSampling (s : State) (n : Nat) : State :=
  if (s.samplingRun n).state = 1 then s
  else
    let a := s.requestUnit (n + 1) (.sampling n) 5
    if a.2 = 0 then a.1.setSamplingRun n { (a.1.samplingRun n).empty with state := 1 }
    else a.1.setSamplingRun n { a.1.samplingRun n with state := 2, code := a.2 }

/-- Stop a run: its trace SRAM is released and a wait to re-arm ends (R58). -/
def State.stopSampling (s : State) (n : Nat) : State :=
  (s.releaseAll (.sampling n)).setSamplingRun n { s.samplingRun n with state := 0 }

def State.selectedRun (s : State) : Nat := s.num 0x5120 1

/-- SAMPLING_START (R428). -/
def execSamplingStart (dt : Nat) (s : State) : Host.Outcome State Fault Refusal :=
  .next ((s.elapse dt).whenUp fun s => s.startSampling s.selectedRun)

/-- SAMPLING_STOP (R428). -/
def execSamplingStop (dt : Nat) (s : State) : Host.Outcome State Fault Refusal :=
  .next ((s.elapse dt).whenUp fun s => s.stopSampling s.selectedRun)

/-- A sampling record (Table 13-11). -/
def State.sampleBytes (s : State) (o : Occurrence) (seq : Nat) : List Byte :=
  leBytes 64 (packFields [(64, s.stamp), (48, o.addr), (32, o.tag), (32, o.slotIndex), (16, s.epoch o.ctx), (12, o.ctx), (9, o.queue),
    (8, o.opcode), (6, o.bay), (16, o.event), (16, min o.latency 0xFFFF), (32, seq), (221, 0)])

/-- Source 437 at the first drop or overwrite after a write to the read mark. -/
def State.signalLoss (s : State) (n : Nat) : State :=
  let r := s.samplingRun n
  if r.armed437 then (s.setSamplingRun n { r with armed437 := false }).signal 437 none else s

/-- Write a record into the ring: the oldest unread one is overwritten where all 65,536 are unread, and the threshold source signals
where the unread records reach it (assumption log 51). -/
def State.writeSample (s : State) (n : Nat) (o : Occurrence) : State :=
  let r := s.samplingRun n
  let full := decide (65536 ≤ r.unread)
  let r' : Sampling := { r with
    records := Assoc.set (zeroBytes 64) r.records r.writeIndex (s.sampleBytes o (r.recSeq % 2 ^ 32)),
    writeIndex := (r.writeIndex + 1) % 65536, recSeq := r.recSeq + 1, unread := min 65536 (r.unread + 1),
    lastRec := Assoc.insert o.bay s.stamp r.lastRec }
  let s := (s.setSamplingRun n r').bump 0x5110 1
  let s := if full then (s.bump 0x5110 3).signalLoss n else s
  if !full && r'.unread == runThreshold r.config
  then s.signal (435 + n) (if runFilter r.config then some (runCtx r.config) else none) else s

/-- The last record of a bay is less than 256 tensor clocks old. -/
def State.recentSample (s : State) (r : Sampling) (bay : Nat) : Bool :=
  match r.lastRec.find? (fun e => e.1 == bay) with
  | some e => decide ((s.stamp - e.2) * (s.die (bay / 16)).clock < 256 * us)
  | none => false

/-- An occurrence counts toward N where the run watches it; every Nth one is sampled. -/
def State.sample1 (s : State) (o : Occurrence) : State :=
  let n := o.bay / 32
  let r := s.samplingRun n
  if r.state = 1 && o.event != 0 && runEvent r.config == o.event && (!runFilter r.config || runCtx r.config == o.ctx) then
    let k := Assoc.get 0 r.counts o.bay + 1
    if k < runPeriod r.config then s.setSamplingRun n { r with counts := Assoc.set 0 r.counts o.bay k }
    else
      let s := s.setSamplingRun n { r with counts := Assoc.set 0 r.counts o.bay 0 }
      if s.recentSample r o.bay then (s.bump 0x5110 2).signalLoss n else s.writeSample n o
  else s

/-- SAMPLE_RECORD (R427, R428): an occurrence of an event on a bay. -/
def execSampleRecord (dt : Nat) (occ : Occurrence) (s : State) : Host.Outcome State Fault Refusal :=
  .next ((s.elapse dt).whenUp fun s => if occ.bay < 64 then s.sample1 occ else s)

/-- A write to the read mark of the selected run. -/
def State.actReadMark (s : State) (v : Nat) : State :=
  let a := s.clampNum 0x5120 6 v
  let s := a.1
  let n := s.selectedRun
  let r := s.samplingRun n
  s.setSamplingRun n { r with readMark := a.2, unread := (r.writeIndex + 65536 - a.2) % 65536, armed437 := true }

/-- READ_MARK_WRITE (R428). -/
def execReadMarkWrite (dt v : Nat) (s : State) : Host.Outcome State Fault Refusal :=
  .next ((s.elapse dt).whenUp fun s => s.actReadMark v)

/-- The unread records of a run, oldest first. -/
def Sampling.unreadRecords (r : Sampling) : List (List Byte) :=
  (List.range r.unread).map (fun i => Assoc.get (zeroBytes 64) r.records ((r.writeIndex + 65536 - r.unread + i) % 65536))

/-- Copy the unread records of the selected run to the start of the host staging area, as far as it reaches. -/
def State.actSamplingCopy (s : State) (v : Nat) : State :=
  let s := (s.clampNum 0x5121 1 v).1
  s.writeBytes stagingBase (((s.samplingRun s.selectedRun).unreadRecords.flatMap id).take s.stagingBytes)

/-- SAMPLING_COPY (R432). -/
def execSamplingCopy (dt : Nat) (s : State) : Host.Outcome State Fault Refusal :=
  .next ((s.elapse dt).whenUp fun s => s.actSamplingCopy 1)

/-! ### Bandwidth windows (R429, R430) -/

/-- A port's rate in bytes per microsecond and direction (Tables 0-1, 1-3 and 5-2), by its index. -/
def portRate (i : Nat) : Nat :=
  if i < 2 then 50000 else if i < 50 then 100000 else if i < 66 then 1280000 else if i < 74 then 85300
  else if i < 80 then 1600000 else if i < 88 then 1200000 else 400000

/-- What counts against the rate: for a memory both directions together, else the busier one (assumption log 50). -/
def portLoad (i : Nat) (t : Nat × Nat) : Nat := if 50 ≤ i ∧ i < 74 then t.1 + t.2 else max t.1 t.2

/-- A window record (Table 13-12). -/
def windowRec (stamp : Nat) (t : Nat × Nat) : List Byte :=
  leBytes 32 (packFields [(64, stamp), (64, t.1), (64, t.2), (63, 0), (1, 1)])

/-- Bytes of a window record in both directions. -/
def windowSum (b : List Byte) : Nat := leNat (slice b 8 8) + leNat (slice b 16 8)

def State.windowUnits (s : State) : Nat := s.num 0x5130 1 * us

/-- The window that ends now ran whole: its records are written, the busiest ones kept, and the alarm signals once. -/
def State.endWindow (s : State) (traffic : List (Nat × Nat)) : State :=
  let t := fun (i : Nat) => nth (0, 0) traffic i
  let recs : Sparse (List Byte) := (List.range 89).map (fun i => (i, windowRec s.stamp (t i)))
  let best := recs.foldl (fun (l : Sparse (List Byte)) e =>
    let old := Assoc.get (zeroBytes 32) l e.1
    if old = zeroBytes 32 ∨ windowSum old < windowSum e.2 then Assoc.set (zeroBytes 32) l e.1 e.2 else l) s.perf.nextBusiest
  let s := { s with perf := { s.perf with windows := recs, nextBusiest := best } }
  let pct := s.num 0x5130 2
  if pct != 0 && (List.range 89).any (fun i => decide (pct * portRate i * s.num 0x5130 1 < portLoad i (t i) * 100))
  then s.signal 438 none else s

/-- BANDWIDTH_WINDOW_END (R429, R430), at a stamp that ends a window. -/
def execBandwidthWindowEnd (dt : Nat) (traffic : List (Nat × Nat)) (s : State) : Host.Outcome State Fault Refusal :=
  .next ((s.elapse dt).whenUp fun s =>
    if s.perf.windowOn ∧ s.stamp % s.windowUnits = 0 ∧ s.perf.windowFrom + s.windowUnits ≤ s.stamp then s.endWindow traffic else s)

end Sys2Proof.Machine
end

