-- ==== Sys2Proof/Machine/Pins.lean ====
section
/-! DEFINITION. The pins and the reference clock (R521, R522, R528), and what chapter 1 lists as events of the part itself:
re-arming, the refusal counters, and the die-to-die paths (R37, R57, R61). -/

namespace Sys2Proof.Machine

/-! ### Pins -/

/-- RESET_N_ASSERT (R521): RESET_N low for 1 µs. -/
def execResetNAssert (dt : Nat) (s : State) : Host.Outcome State Fault Refusal :=
  let s := s.elapse dt
  .next (({ s with pins := { s.pins with resetN := false } } : State).enterColdReset 0x0711)

/-- Every domain but the always-on one is held in warm reset, whatever ran (R528). A reset already in progress goes on into it. -/
def State.holdWarm (s : State) : State :=
  let s := match s.boot.phase with
    | .running | .p3 => s.enterWarmReset 0x0502 false false
    | _ => (s.log { code := 0x0502, severity := 4, unitKind := 8, action := 5 }).warmClear
  let s := (s.setCnt 0x7101 2 0x0502).setCnt 0x7101 3 s.stamp
  { s with boot := { s.boot with phase := .warmHold } }

/-- REFCLK_LOSS (R528, R380): source 7, a fault log entry, clock state 5, an unannounced warm reset that is held. A loss in cold
reset only holds it. -/
def execRefclkLoss (dt : Nat) (s : State) : Host.Outcome State Fault Refusal :=
  let s := s.elapse dt
  .next (if s.pins.refLost then s
  else
    let s := { s with pins := { s.pins with refLost := true } }
    if s.boot.phase = .coldReset then s
    else ((((s.bump 0x7F04 3).signal 7 none).setClockState 5)).holdWarm)

/-- The warm-reset boot after the hold (R496, R528). -/
def State.endHold (s : State) : State :=
  if s.boot.phase = .warmHold then ({ s with boot := { s.boot with phase := .warmBoot } } : State).warmBoot else s

/-- REFCLK_RESTORED (R528). -/
def execRefclkRestored (dt : Nat) (s : State) : Host.Outcome State Fault Refusal :=
  let s := s.elapse dt
  .next (({ s with pins := { s.pins with refLost := false } } : State).endHold)

/-- A write to 0x7F03.01 or .02: the pin that the assignment held is released first (R532), then the new one requests it. -/
def State.actJobSignal (s : State) (k v : Nat) : State :=
  let a := s.clampNum 0x7F03 (k + 1) v
  let s := a.1.setRwp 0x7F03 (k + 1) (.num a.2)
  (s.releaseUnit (202 + k) .jobSignal).requestJobPin k

/-- JOB_SIGNAL_ASSIGN (R522): subindex 1 is STAT2, 2 is STAT3. -/
def execJobSignalAssign (dt pin v : Nat) (s : State) : Host.Outcome State Fault Refusal :=
  .next ((s.elapse dt).whenUp fun s => if pin = 1 ∨ pin = 2 then s.actJobSignal (pin - 1) v else s)

/-- STAT n is asserted: held by fault indication or recovery, by a job signal whose source pends, or by a debug holder (R477, R522). -/
def State.statAsserted (s : State) (n : Nat) : Bool :=
  match (s.resUnit (200 + n)).holder with
  | none => false
  | some h => match h.asker with
    | .jobSignal => s.pend (bits (s.num 0x7F03 (n - 1)) 8 0)
    | .debugPin => s.pins.debugPins.testBit n
    | _ => true

/-! ### The part as one (chapter 1) -/

/-- The units among which a waiting function of a unit may re-arm: any timer of the pool, else the unit (R55, R57). -/
def rearmUnits (u : Nat) : List Nat := if 100 ≤ u ∧ u < 132 then timerUnits else [u]

/-- The waiter that goes first: the highest level, then the earliest loss (R57). -/
def State.firstWaiter (s : State) (u : Nat) : Option (Asker × Nat × Nat) :=
  ((rearmUnits u).flatMap (fun v => (s.resUnit v).waiters)).foldl (fun (b : Option (Asker × Nat × Nat)) w => match b with
    | none => some w
    | some c => if w.2.1 < c.2.1 ∨ (w.2.1 = c.2.1 ∧ w.2.2 < c.2.2) then some w else some c) none

/-- A re-armed function resumes with an empty buffer or a restarted window. -/
def State.rearmHooks (s : State) (a : Asker) : State :=
  match a with
  | .sampling n => s.setSamplingRun n { (s.samplingRun n).empty with state := 1 }
  | .windows => { s with perf := { s.perf with windowOn := true, windowFrom := s.stamp } }
  | .crashDump | .debugTrace | .recoveryDeadline | .remoteWait | .debugTimer | .faultIndication | .recovery | .jobSignal | .debugPin
  | .console | .debugUart => s

/-- Take a function's waits away. -/
def State.forgetWaits (s : State) (a : Asker) : State :=
  { s with res := Assoc.mapVals ResUnit.free (fun _ x => { x with waiters := x.waiters.filter (fun w => w.1 != a) }) s.res }

/-- A unit that is free goes to the waiter that is first (R57). -/
def State.rearm (s : State) (u : Nat) : State :=
  if (s.resUnit u).holder.isSome then s
  else match s.firstWaiter u with
    | none => s
    | some w => ((s.forgetWaits w.1).grantUnit u w.1 w.2.1).rearmHooks w.1

/-- RESOURCE_REARM (R57). -/
def execResourceRearm (dt unit : Nat) (s : State) : Host.Outcome State Fault Refusal :=
  .next ((s.elapse dt).whenUp fun s => s.rearm unit)

/-- REFUSAL_COUNTERS_CLEAR (R61). -/
def execRefusalCountersClear (dt v : Nat) (s : State) : Host.Outcome State Fault Refusal :=
  .next ((s.elapse dt).whenUp fun s => s.execClear 0x2042 v)

/-- A path loses a lane: a spare replaces it, or the path is down, and stays so. -/
def State.losePath (s : State) (p : Nat) (spare : Bool) : State :=
  if s.cnt 0x2004 (p + 1) = 2 then s
  else if spare then s.setCnt 0x2004 (p + 1) 1
  else ((s.setCnt 0x2004 (p + 1) 2).signal 8 none).deductPermanent (pathKey p) 100

/-- DIE_PATH_LANE_LOSS (R37). -/
def execDiePathLaneLoss (dt path : Nat) (spare : Bool) (s : State) : Host.Outcome State Fault Refusal :=
  .next ((s.elapse dt).whenUp fun s => if path < 15 then s.losePath path spare else s)

end Sys2Proof.Machine
end

