-- ==== Sys2Proof/Machine/Clock.lean ====
section
/-! DEFINITION. Time (R375 to R382): the choice of an IEEE 1588 master, Sync, PPS_IN and PPS_OUT, and holdover. -/

namespace Sys2Proof.Machine

/-- A device steers by 1588 where it leads its bent or has fallen back (R273, R377). -/
def State.steers (s : State) : Bool := s.leads || s.fab.fallback

/-- A host or purlin port is Up; ports 0 and 1 are HP0 and HP1, 2 to 17 PP00 to PP15. -/
def State.clockPortUp (s : State) (p : Nat) : Bool :=
  if p < 2 then Assoc.get 0 s.hostPorts p == 2 else p < 18 && Assoc.get 0 s.ports (p - 2) == 2

/-- One data set ranks before another (IEEE 1588-2019): the first field that differs. -/
def rankBefore : List Nat → List Nat → Bool
  | [], [] => false
  | [], _ :: _ => true
  | _ :: _, [] => false
  | a :: l, b :: m => if a = b then rankBefore l m else decide (a < b)

/-- The port of the chosen master: the best data set, the lower port on equal ones (R377). -/
def State.masterPort (s : State) : Option Nat :=
  (s.clock.masters.foldl (fun (b : Option (Nat × List Nat)) e => match b with
    | none => some e
    | some c => if rankBefore e.2 c.2 then some e else some c) none).map (fun e => e.1)

/-- A port takes 1588 messages of the one domain of object 0x4807.02 while it is Up (Table 11-6). -/
def State.takesPtp (s : State) (port domain : Nat) : Bool := s.clockPortUp port && s.num 0x4807 2 == domain

/-- PTP_ANNOUNCE (R376, R377). -/
def execPtpAnnounce (dt port : Nat) (msg : PtpAnnounce) (s : State) : Host.Outcome State Fault Refusal :=
  .next ((s.elapse dt).whenUp fun s =>
    if s.takesPtp port msg.domain then { s with clock := { s.clock with masters := Assoc.insert port msg.rank s.clock.masters } } else s)

def State.usesPps (s : State) : Bool := s.num 0x4807 3 == 1

/-- An integer as the object of type I32 that holds it; one outside its range is held at its end (assumption log 53). -/
def i32Of (i : Int) : Nat := ofSigned 32 (max (-2147483648) (min 2147483647 i))

/-- The nearest whole multiple of `n` to `i`. -/
def nearestMultiple (i n : Int) : Int := (i + n / 2) / n * n

/-- A Sync from the chosen master, whose offset in ns is that of the own clock from the master. Once locked, a clock whose phase
comes from PPS_IN takes only whole seconds from it (R378, R381). -/
def State.acceptSync (s : State) (offset : Int) : State :=
  let s := s.setObj 0x4807 5 (.num (i32Of offset))
  if s.usesPps && s.clock.locked then
    let whole := nearestMultiple offset 1000000000
    let c := s.clock
    let c := if whole = 0 then { c with lastSync := s.stamp }
      else { c with lastSync := s.stamp, slew := -(whole * 4), slewFrac := 0 }
    ({ s with clock := c } : State).setClockState 3
  else s.follow (-(offset * 4)) (if s.usesPps then 3 else 2)

/-- PTP_SYNC (R376, R377, R381, R382). -/
def execPtpSync (dt port : Nat) (msg : PtpSync) (s : State) : Host.Outcome State Fault Refusal :=
  .next ((s.elapse dt).whenUp fun s =>
    if s.steers && s.masterPort == some port && s.takesPtp port msg.domain then s.acceptSync msg.offset else s)

/-- Three of the shortest Sync intervals, 2^-7 s (Table 11-6): no timeout comes sooner after a Sync or an edge. -/
def syncLoss : Nat := 3 * (sec / 128)

/-- SYNC_TIMEOUT (R381): the master's own interval is not the device's to know, so the command is the end of three of them. -/
def execSyncTimeout (dt : Nat) (s : State) : Host.Outcome State Fault Refusal :=
  .next ((s.elapse dt).whenUp fun s =>
    if (s.clock.state = 2 ∨ s.clock.state = 3) ∧ s.clock.lastSync + syncLoss ≤ s.stamp then s.setClockState 4 else s)

/-- HOLDOVER_LIMIT (R381): 1 s after the last accepted Sync or edge. -/
def execHoldoverLimit (dt : Nat) (s : State) : Host.Outcome State Fault Refusal :=
  .next ((s.elapse dt).whenUp fun s =>
    if s.clock.state = 4 ∧ s.clock.lastSync + sec ≤ s.stamp then s.setClockState 5 else s)

/-- An edge against the expected multiple. A clock that was never locked has no expected multiple: it steps to the nearest one
(assumption logs 54, 156). -/
def State.acceptEdge (s : State) : State :=
  let d := nearestMultiple s.stamp 4000000000 - (s.stamp : Int)
  if s.clock.locked && decide (us < d.natAbs) then (s.bump 0x4810 9).signal 217 none else s.follow d 3

/-- PPS_IN_EDGE (R378). -/
def execPpsInEdge (dt : Nat) (s : State) : Host.Outcome State Fault Refusal :=
  .next ((s.elapse dt).whenUp fun s => if s.usesPps && s.steers then s.acceptEdge else s)

/-- PPS_OUT_PULSE (R379). -/
def execPpsOutPulse (dt : Nat) (s : State) : Host.Outcome State Fault Refusal :=
  .next ((s.elapse dt).whenUp fun s =>
    if s.num 0x4807 4 == 1 && s.clock.state != 0 && s.clock.state != 5 && s.stamp % sec == 0
    then { s with pins := { s.pins with ppsOut := true, ppsRise := s.stamp } } else s)

/-- PPS_OUT_FALL (R379): 100 ms after its rise. -/
def execPpsOutFall (dt : Nat) (s : State) : Host.Outcome State Fault Refusal :=
  let s := s.elapse dt
  .next (if s.pins.ppsOut && decide (s.pins.ppsRise + 100 * ms ≤ s.stamp)
    then { s with pins := { s.pins with ppsOut := false } } else s)

end Sys2Proof.Machine
end

