-- ==== Sys2Proof/Machine/Fabric.lean ====
section
/-! DEFINITION. Cranany messages as they arrive (R282 to R293): the checks of R285 in order, strays, landing, the end of a command at
its receiver, notices, and peer-reset state. -/

namespace Sys2Proof.Machine

/-! ### The path (R269, R271) -/

/-- The message arrives on a link or port that is Up. -/
def State.viaUp (s : State) : Via → Bool
  | .rafter n => (s.link n).isUp
  | .purlin p => Assoc.get 0 s.ports p == 2

/-- The buffer flits of a message are freed as it lands; more than 64 are returned at once (R271). -/
def State.freeFlits (s : State) (n ty len : Nat) : State :=
  let l := s.link n
  let owed := l.owed.set (vcOf ty) (nth 0 l.owed (vcOf ty) + 2 + ceilDiv len 32)
  let s := s.setLink n { l with owed := owed }
  if sumList owed > 64 then s.sendFlit n 8 0 0 0 else s

/-- What arrival costs whatever the message says: buffers, byte counts, and the wake of a device in P2 (R441). -/
def State.arrive (s : State) (via : Via) (ty : Nat) (m : FabMsg) : State :=
  let s := match via with
    | .rafter n => s.freeFlits n ty m.payload.length
    | .purlin p => s.countEvent (portUnit p) 0x0304 (frameBytes (s.framing p 0 == 1) m.payload.length) (some m.hdr.dstCtx)
  if s.power.device = 2 then s.startWake else s

/-! ### Sequence numbers (R284, R285) -/

def State.rxOf (s : State) (d : Nat) : RxState := Assoc.get RxState.zero s.fab.rx d
def State.setRx (s : State) (d : Nat) (x : RxState) : State :=
  { s with fab := { s.fab with rx := Assoc.set RxState.zero s.fab.rx d x } }

/-- A seq below the lowest unlanded one, or already marked. -/
def RxState.seen (x : RxState) (q : Nat) : Bool := decide (2 ^ 31 ≤ sub32 q x.low) || x.marked.contains q

/-- A seq at or above the lowest unlanded seq + 4,096. -/
def RxState.beyond (x : RxState) (q : Nat) : Bool := decide (4096 ≤ sub32 q x.low) && decide (sub32 q x.low < 2 ^ 31)

/-- The lowest unlanded seq moves over those marked. The fuel bounds the bitmap. -/
def RxState.advance : Nat → RxState → RxState
  | 0, x => x
  | f + 1, x => if x.marked.contains x.low then RxState.advance f { x with low := (x.low + 1) % m32, marked := x.marked.erase x.low } else x

/-- Commands that a retry can no longer reach are forgotten. -/
def RxState.prune (x : RxState) : RxState :=
  { x with cmds := x.cmds.filter (fun k => decide (sub32 x.low ((k.first + k.count) % m32) < 4096)
                                            || decide (2 ^ 31 ≤ sub32 x.low ((k.first + k.count) % m32))) }

/-- Mark a seq as landed. -/
def RxState.mark (x : RxState) (q : Nat) : RxState :=
  if x.seen q || x.beyond q then x else (RxState.advance 4097 { x with marked := x.marked ++ [q] }).prune

def State.markSeq (s : State) (h : FabHdr) : State := s.setRx h.srcDevice ((s.rxOf h.srcDevice).mark h.seq)

/-- The first seq of a message's command. -/
def firstSeq (h : FabHdr) : Nat := sub32 h.seq h.msgIndex

def RxState.cmd (x : RxState) (h : FabHdr) : RxCmd :=
  (x.cmds.find? (fun k => k.first == firstSeq h)).getD
    { first := firstSeq h, count := h.msgCount + 1, landed := [], refused := false, last := none }

def RxState.setCmd (x : RxState) (k : RxCmd) : RxState := { x with cmds := x.cmds.filter (fun y => y.first != k.first) ++ [k] }

/-- A message of a command is refused: the command neither fills nor is acknowledged (R285). A contribution has neither (R314). -/
def State.refuseCmd (s : State) (h : FabHdr) : State :=
  let x := s.rxOf h.srcDevice
  let k := x.cmd h
  s.setRx h.srcDevice (x.setCmd { k with refused := true, landed := (k.landed ++ [h.seq]).eraseDups })

/-- A message that fails a check is answered with its code and marked. -/
def State.refuse (s : State) (ty : Nat) (h : FabHdr) (code : Nat) : State :=
  let s := s.markSeq h
  let s := if ty < 0x20 ∧ ty ≠ 0x10 then s.refuseCmd h else s
  s.respond 0x21 code h

/-- Every message of the duplicate's command has landed and none was refused. -/
def RxState.wholeBefore (x : RxState) (h : FabHdr) : Bool :=
  !x.cmds.any (fun k => k.first == firstSeq h)
    && (List.range (h.msgCount + 1)).all (fun i => x.seen ((firstSeq h + i) % m32))

/-- A duplicate is counted; that of a whole command's last message is acknowledged again, with no fill. -/
def State.duplicate (s : State) (ty : Nat) (h : FabHdr) : State :=
  let s := s.bump 0x4110 7
  if ty < 0x20 && h.flags.testBit 7 && h.flags.testBit 6 && (s.rxOf h.srcDevice).wholeBefore h then s.respond 0x20 0 h else s

/-! ### Strays (R292) -/

def State.stray (s : State) (ty : Nat) (h : FabHdr) : State :=
  let want := (s.ctx h.dstCtx).roleEpoch
  let r := leBytes 32 (packFields [(64, h.stamp), (64, s.stamp), (18, h.srcDevice), (12, h.srcCtx), (12, h.dstCtx), (16, h.roleEpoch),
    (16, want), (8, ty), (46, 0)])
  let s := { s with fab := { s.fab with strays := Assoc.insert (s.fab.strayIndex % 256) r s.fab.strays,
                                        strayIndex := s.fab.strayIndex + 1 } }
  let s := [(1, h.stamp), (2, s.stamp), (3, h.srcDevice), (4, h.srcCtx), (5, h.dstCtx), (6, h.roleEpoch), (7, want)].foldl
    (fun (s : State) (o : Nat × Nat) => s.setCnt 0x4111 o.1 o.2) s
  ((s.bump 0x4110 3).signal 210 none).refuse ty h 0x0301

/-! ### The checks in order (R285) -/

/-- Legal lengths (Table 8-8). -/
def lengthLegal (ty n : Nat) : Bool :=
  match ty with
  | 0x01 | 0x10 => decide (1 ≤ n) && decide (n ≤ 4096)
  | 0x02 => n == 8
  | 0x11 => decide (33 ≤ n) && decide (n ≤ 4096)
  | _ => n == 0

/-- Checks 2 to 4: a code, or 0. -/
def State.formCode (s : State) (ty : Nat) (m : FabMsg) : Nat :=
  if m.hdr.version != 1 || !fabTypes.contains (fabType ty m) || !lengthLegal ty m.hdr.length || m.payload.length != m.hdr.length then 0x0306
  else if m.hdr.dstDevice != s.deviceId then 0x0302
  else if payloadCrc m.payload != m.hdr.pcrc then 0x0307
  else 0

/-- Check 1. -/
def wireOk (via : Via) (ty : Nat) (m : FabMsg) : Bool :=
  crc32 (fabHead (fabType ty m) m.hdr) == m.hdr.hcrc && (match via with | .rafter _ => true | .purlin _ => m.ok)

/-- The context of check 7 receives: states 2 and 3, and its epoch. A response to a command of a context that is closing still reaches it
while it drains (R230, Table 6-20; assumption log 145). -/
def State.receives (s : State) (ty : Nat) (h : FabHdr) : Bool :=
  let st := (s.ctx h.dstCtx).state
  (st == 2 || st == 3 || (st == 4 && (ty == 0x20 || ty == 0x21))) && h.dstCtxEpoch == s.epoch h.dstCtx

/-- What a type does once checks 1 to 7 have passed. -/
abbrev Lander := State → FabHdr → List Byte → State

/-- A message arrives (R285): checks 1 to 4 for all types, 5 to 7 but for a peer reset; then `act`. -/
def State.receive (s : State) (ty : Nat) (via : Via) (m : FabMsg) (act : Lander) : State :=
  s.whenUp fun s =>
    if !s.viaUp via then s
    else
      let s := s.arrive via ty m
      let h := m.hdr
      let x := s.rxOf h.srcDevice
      let code := s.formCode ty m
      if !wireOk via ty m then s.bump 0x4110 8
      else if code != 0 then s.refuse (fabType ty m) h code
      else if ty = 0x31 then act (s.markSeq h) h []
      else if s.inPeerReset h.srcDevice then s.bump 0x4110 0x0A
      else if x.seen h.seq then s.duplicate ty h
      else if x.beyond h.seq then s.respond 0x21 0x0308 h
      else if !s.receives ty h then
        let s := s.bump 0x3110 3
        if ty < 0x20 then s.refuse ty h 0x0409 else s.markSeq h
      else if ty < 0x20 && h.roleEpoch != (s.ctx h.dstCtx).roleEpoch then s.stray ty h
      else act s h m.payload

/-- A translation failed (R170): it is counted. -/
def State.countTranslation (s : State) (code : Nat) : State :=
  if [0x0230, 0x0231, 0x0232, 0x0234, 0x0235].contains code then s.bump 0x3010 0x0D else s

/-- Check 9: the destination of a write, a doorbell or a fill, the codes in the order of R48. -/
def State.landCode (s : State) (ty : Nat) (h : FabHdr) : Nat :=
  let a := h.dstAddr
  let code :=
    if ty = 0x03 then 0
    else if ty = 0x02 then
      let page := ctlBase + 65536 * h.dstCtx
      if a % 8 ≠ 0 then 0x0203 else if a < page ∨ page + 65536 ≤ a then 0x0205 else 0
    else s.accessCode .remote h.dstCtx a h.length true
  if code != 0 then code
  else if h.mortise ≤ 0x03FF ∨ h.mortise = 0xFFFF then 0 else 0x0306

/-! ### Landing (R286) -/

/-- Everything of a command has landed: fill, interrupt, acknowledgement. -/
def State.endCommand (s : State) (h last : FabHdr) : State :=
  let s := if h.mortise = 0xFFFF then s
           else s.fillSlot h.dstCtx h.mortise { value := h.value, code := 0, device := h.srcDevice, ctx := h.srcCtx, slot := h.srcSlot }
  let s := if last.flags.testBit 5 then s.signal (288 + h.dstCtx % 32) (some h.dstCtx) else s
  if last.flags.testBit 6 then s.respond 0x20 0 last else s

/-- Note a landed message; with the last of its command landed, the header of that command's last message. -/
def State.noteLanded (s : State) (h : FabHdr) : State × Option FabHdr :=
  let x := (s.rxOf h.srcDevice).mark h.seq
  let k := x.cmd h
  let k := { k with landed := (k.landed ++ [h.seq]).eraseDups, last := if h.msgIndex = h.msgCount then some h else k.last }
  let s := s.bump 0x4110 2
  match k.last with
  | some l =>
    if k.landed.length = k.count ∧ !k.refused then
      (s.setRx h.srcDevice { x with cmds := x.cmds.filter (fun y => y.first != k.first) }, some l)
    else (s.setRx h.srcDevice (x.setCmd k), none)
  | none => (s.setRx h.srcDevice (x.setCmd k), none)

/-- A write, a doorbell or a fill: check 9, then the data, then the end of its command. -/
def State.landData (s : State) (ty : Nat) (put : Lander) (h : FabHdr) (p : List Byte) : State :=
  let code := s.landCode ty h
  if code != 0 then
    (s.countTranslation code).refuse ty h code
  else
    let a := (put s h p).noteLanded h
    match a.2 with
    | some l => a.1.endCommand h l
    | none => a.1

/-- FABRIC_WRITE (R286): the payload lands at dst_addr. -/
def execFabricWrite (dt : Nat) (via : Via) (msg : FabMsg) (s : State) : Host.Outcome State Fault Refusal :=
  .next ((s.elapse dt).receive 0x01 via msg fun s => s.landData 0x01 (fun s h p => s.engineWrite h.dstCtx h.dstAddr p))

/-- FABRIC_DOORBELL (R286): a tail or head write of R217. -/
def execFabricDoorbell (dt : Nat) (via : Via) (msg : FabMsg) (s : State) : Host.Outcome State Fault Refusal :=
  .next ((s.elapse dt).receive 0x02 via msg fun s =>
    s.landData 0x02 (fun s h p => s.doorWrite h.dstCtx (h.dstAddr % 65536) (leNat p)))

/-- FILL_ONLY (R286). -/
def execFillOnly (dt : Nat) (via : Via) (msg : FabMsg) (s : State) : Host.Outcome State Fault Refusal :=
  .next ((s.elapse dt).receive 0x03 via msg fun s => s.landData 0x03 (fun s _ _ => s))

/-- CLOSE_NOTICE (R290, R300): slot 0x0440 takes the closed context's ID. An image of it that has not been sealed has ended (R355). -/
def execCloseNotice (dt : Nat) (via : Via) (msg : FabMsg) (s : State) : Host.Outcome State Fault Refusal :=
  .next ((s.elapse dt).receive 0x30 via msg fun s h _ =>
    (((s.markSeq h).bump 0x4110 2).dropFilling h.srcDevice (· == h.srcCtx)).fillSlot h.dstCtx 0x0440
      { value := h.value, code := 0, device := h.srcDevice, ctx := h.srcCtx, slot := h.srcSlot })

/-- PEER_RESET_MESSAGE (R299): the named device enters peer-reset state here. -/
def execPeerResetMessage (dt : Nat) (via : Via) (msg : FabMsg) (s : State) : Host.Outcome State Fault Refusal :=
  .next ((s.elapse dt).receive 0x31 via msg fun s h _ =>
    let s := (s.bump 0x4110 2).bump 0x4110 9
    let d := h.value % 2 ^ 18
    if s.inPeerReset d then s else s.peerReset d)

/-- PEER_RESET_HOLD_EXPIRY (R299). -/
def execPeerResetHoldExpiry (dt dev : Nat) (s : State) : Host.Outcome State Fault Refusal :=
  .next ((s.elapse dt).whenUp fun s =>
    if s.inPeerReset dev && decide (Assoc.get 0 s.fab.resetPeers dev ≤ s.stamp) then s.endPeerReset dev else s)

/-! ### Counters (R302) -/

/-- RAFTER_COUNTERS_CLEAR (R302). -/
def execRafterCountersClear (dt v : Nat) (s : State) : Host.Outcome State Fault Refusal :=
  .next ((s.elapse dt).whenUp fun s => s.execClear 0x4011 v)

/-- The counters, the last stray and the stray log. -/
def State.actTransportClear (s : State) (v : Nat) : State :=
  let s := s.execClear 0x4113 v
  { s with fab := { s.fab with strays := [], strayIndex := 0 } }

/-- TRANSPORT_COUNTERS_CLEAR (R302). -/
def execTransportCountersClear (dt v : Nat) (s : State) : Host.Outcome State Fault Refusal :=
  .next ((s.elapse dt).whenUp fun s => s.actTransportClear v)

end Sys2Proof.Machine
end

