-- ==== Sys2Proof/Machine/Tensor.lean ====
section
/-! DEFINITION. The tensor engine (chapter 3): arithmetic words, products and block partials, the accumulator, the drain and the
epilogue. -/

namespace Sys2Proof.Machine

/-- TENSOR_COUNTERS_CLEAR (R131). -/
def execTensorCountersClear (dt v : Nat) (s : State) : Host.Outcome State Fault Refusal :=
  .next ((s.elapse dt).whenUp fun s => s.execClear 0x2122 v)

/-! ### The command (Tables 3-1 and 6-14) -/

structure TensorCmd where
  kBase : Nat
  predScale : Nat
  aFmt : Nat
  bFmt : Nat
  outFmt : Nat
  predicted : Bool
  rounding : Nat
  outAxis : Nat
  aTurned : Bool
  bTurned : Bool
  outTurned : Bool
  phantom : Bool
  aData : Nat
  aScale : Nat
  bData : Nat
  bScale : Nat
  yData : Nat
  yScale : Nat
  record : Nat
  tensorId : Nat
  tileRow : Nat
  tileCol : Nat
  aRowBlocks : Nat
  bRowBlocks : Nat
  yStride : Nat
  chunks : Nat
  rows : Nat
  cols : Nat
  kLen : Nat
deriving DecidableEq, Repr

/-- Whether R99 clamps the arithmetic word. -/
def arithClamped (w : Nat) : Bool :=
  let ok := fun f => decide (2 ≤ f) && decide (f ≤ 6)
  !ok (bits w 39 37) || !ok (bits w 36 34) || bits w 33 31 == 7 || bits w 29 28 == 3 || bits w 47 40 == 0xFF

/-- Kc (R95). -/
def chunkLen (a b : Nat) : Nat := if (a = 4 ∨ a = 5) ∧ (b = 4 ∨ b = 5) then 384 else 192

/-- The body after the clamps of R99 and R226, and whether one of R226 applied. -/
def decodeTensor (body : Nat) : TensorCmd × Bool :=
  let w := bits body 895 832
  let af := let f := bits w 39 37; if 2 ≤ f ∧ f ≤ 6 then f else 2
  let bf := let f := bits w 36 34; if 2 ≤ f ∧ f ≤ 6 then f else 2
  let kc := chunkLen af bf
  let c0 := bits body 319 304
  let c := max 1 c0
  let r0 := bits body 303 293
  let r := clampNat r0 1 1536
  let n0 := bits body 292 285
  let n := clampNat n0 1 192
  let k0 := bits body 284 260
  let k := if k0 = 0 ∨ ((c - 1) * kc + 1 ≤ k0 ∧ k0 ≤ c * kc) then k0 else 0
  let need := ceilDiv (if k = 0 then c * kc else k) 32
  let at_ := w.testBit 26
  let bt := w.testBit 25
  let ar0 := bits body 399 376
  let br0 := bits body 375 352
  let ar := max (if at_ then 1 else need) ar0
  let br := max (if bt then 1 else need) br0
  ({ kBase := bits w 63 48, predScale := if bits w 47 40 = 0xFF then 0xFE else bits w 47 40, aFmt := af, bFmt := bf,
     outFmt := if bits w 33 31 = 7 then 1 else bits w 33 31, predicted := w.testBit 30,
     rounding := if bits w 29 28 = 3 then 2 else bits w 29 28, outAxis := bits w 27 27, aTurned := at_, bTurned := bt,
     outTurned := w.testBit 24, phantom := w.testBit 23, aData := bits body 831 784, aScale := bits body 783 736,
     bData := bits body 735 688, bScale := bits body 687 640, yData := bits body 639 592, yScale := bits body 591 544,
     record := bits body 543 496, tensorId := bits body 495 464, tileRow := bits body 463 432, tileCol := bits body 431 400,
     aRowBlocks := ar, bRowBlocks := br, yStride := bits body 351 320, chunks := c, rows := r, cols := n, kLen := k },
   c != c0 || r != r0 || n != n0 || k != k0 || ar != ar0 || br != br0)

def TensorCmd.kc (t : TensorCmd) : Nat := chunkLen t.aFmt t.bFmt

/-- Real elements of the contraction (R95). -/
def TensorCmd.k (t : TensorCmd) : Nat := if t.kLen = 0 then t.chunks * t.kc else t.kLen

/-- Blocks that hold a real element. -/
def TensorCmd.nb (t : TensorCmd) : Nat := ceilDiv t.k 32

/-! ### Operands (R71, R72, R134) -/

/-- Block ranges of `n` grain rows: whole rows, or block by block in a turned image. Each row's data pieces then scale pieces. -/
def operandRanges (f data scale rb n nb : Nat) (turned : Bool) : List (Nat × Nat) :=
  if turned then
    (List.range nb).flatMap (fun j => [(data + j * rb * blockBytes f, n * blockBytes f), (scale + j * rb, n)])
  else
    (List.range n).flatMap (fun g => [(data + g * rb * blockBytes f, nb * blockBytes f), (scale + g * rb, nb)])

def TensorCmd.reads (t : TensorCmd) : List (Nat × Nat) :=
  if t.phantom then []
  else operandRanges t.aFmt t.aData t.aScale t.aRowBlocks t.rows t.nb t.aTurned
    ++ operandRanges t.bFmt t.bData t.bScale t.bRowBlocks t.cols t.nb t.bTurned

/-- One operand block: its scale and its elements as (code, NaN or value). -/
structure OpBlock where
  scale : Nat
  elems : List (Option Int)
deriving DecidableEq, Repr

/-- Row `g`, block `j` of an operand, from its ranges as read. -/
def operandBlock (f : Nat) (turned : Bool) (l : List (List Byte)) (g j : Nat) : OpBlock :=
  let i := if turned then j else g
  let at_ := if turned then g else j
  { scale := (nth 0 (nth [] l (2 * i + 1)) at_).toNat,
    elems := (unpackElems f (slice (nth [] l (2 * i)) (at_ * blockBytes f) (blockBytes f))).map (elemValue f) }

/-- The blocks of grain row `g`. -/
def operandRow (f : Nat) (turned : Bool) (l : List (List Byte)) (nb g : Nat) : List OpBlock :=
  (List.range nb).map (operandBlock f turned l g)

/-! ### Products and block partials (R101 to R103) -/

/-- The half of an element that a pass takes: 0 the whole element, 1 hi, 2 lo (R67). -/
def halfOf (h : Nat) (v : Int) : Int :=
  match h with
  | 0 => v
  | 1 => v / 256
  | _ => v % 256

/-- The passes of a pair (Table 3-2): half of A, half of B, exponent offset. -/
def passes (a b : Nat) : List (Nat × Nat × Int) :=
  match decide (a = 6), decide (b = 6) with
  | false, false => [(0, 0, 0)]
  | true, false => [(1, 0, 8), (2, 0, 0)]
  | false, true => [(0, 1, 8), (0, 2, 0)]
  | true, true => [(1, 1, 16), (1, 2, 8), (2, 1, 8), (2, 2, 0)]

/-- An element as it enters a product: NaN and every element of a NaN-scale block enter as 0. -/
def entering (scale : Nat) (e : Option Int) : Int := if scale = 0xFF then 0 else e.getD 0
def isNanElem (scale : Nat) (e : Option Int) : Bool := scale == 0xFF || e.isNone

/-- Exact sum of the products of one block over its first `n` elements, and whether a NaN reaches it. -/
def blockPart (n ha hb : Nat) (a b : OpBlock) : Int × Bool :=
  let l := (a.elems.zip b.elems).take n
  (l.foldl (fun s p => s + halfOf ha (entering a.scale p.1) * halfOf hb (entering b.scale p.2)) 0,
   l.any (fun p => isNanElem a.scale p.1 || isNanElem b.scale p.2))

/-! ### The accumulator (R104 to R109) -/

def Acc.start : Acc := { nan := false, inexact := false, empty := true, e := 0, m := 0 }

/-- RES, mod(M, 7) (R125). -/
def Acc.res (a : Acc) : Nat := (a.m % 7).toNat

/-- sr_shift of R113: the shifted value, and whether a nonzero bit went. -/
def srShift (v : Int) (n : Nat) (k : RKey) : Int × Bool :=
  let mag := v.natAbs
  let r := srMag mag n k
  ((if v < 0 then -(r : Int) else (r : Int)), mag % 2 ^ n != 0)

/-- One group's blocks: (partial, exponent, NaN). -/
abbrev Group := List (Int × Int × Bool)

/-- add_group of R107; the Nat counts renormalisations. -/
def addGroup (key : Nat → RKey) (p : Nat) (g : Group) (a : Acc) : Acc × Nat :=
  let a := { a with nan := a.nan || g.any (fun b => b.2.2) }
  let live := g.filter (fun b => b.1 != 0)
  match live with
  | [] => (a, 0)
  | b0 :: rest =>
    let xg := rest.foldl (fun x b => max x b.2.1) b0.2.1
    let sum := g.zipIdx.foldl (fun (st : Int × Bool) x =>
      let b := x.1
      if b.1 = 0 then st
      else
        let d := (xg - b.2.1).toNat
        if d ≤ 32 then (st.1 + b.1 * 2 ^ (32 - d), st.2)
        else let r := srShift b.1 (d - 32) (key (0x10 + 0x10 * p + x.2)); (st.1 + r.1, st.2 || r.2)) (0, false)
    let a := { a with inexact := a.inexact || sum.2 }
    if a.empty then ({ a with m := sum.1, e := xg, empty := false }, 0)
    else
      let up := decide (a.e < xg)
      let r := if a.e < xg then srShift a.m (xg - a.e).toNat (key (0x50 + p))
               else if xg < a.e then srShift sum.1 (a.e - xg).toNat (key (0x50 + p)) else (sum.1, false)
      let t := if up then r.1 + sum.1 else a.m + r.1
      let e := max a.e xg
      if t > 2 ^ 63 - 1 ∨ t < -(2 ^ 63) then
        let q := srShift t 8 (key (0x54 + p))
        ({ a with m := q.1, e := e + 8, inexact := a.inexact || r.2 || q.2 }, 1)
      else ({ a with m := t, e := e, inexact := a.inexact || r.2 }, 0)

/-- The groups of one output element in order: (chunk, pass, blocks). -/
def TensorCmd.groups (t : TensorCmd) (a b : List OpBlock) : List (Nat × Nat × Group) :=
  let per := t.kc / 32
  (List.range t.chunks).flatMap (fun c =>
    (passes t.aFmt t.bFmt).zipIdx.map (fun ps =>
      (c, ps.2, (List.range per).filterMap (fun i =>
        let j := c * per + i
        match a[j]?, b[j]? with
        | some x, some y =>
          let r := blockPart (t.k - 32 * j) ps.1.1 ps.1.2.1 x y
          some (r.1, (x.scale : Int) + y.scale - 254 + ps.1.2.2, r.2)
        | _, _ => none))))

/-- The key of an output element of a tile at a chunk or drain. -/
def TensorCmd.key (t : TensorCmd) (b : KeyBase) (i j kchunk site : Nat) : RKey :=
  b.key site kchunk (t.tileRow + i) (t.tileCol + j)

/-- One accumulator over the whole contraction. -/
def TensorCmd.accumulate (t : TensorCmd) (kb : KeyBase) (i j : Nat) (a b : List OpBlock) : Acc × Nat :=
  (t.groups a b).foldl (fun (st : Acc × Nat) g =>
    let r := addGroup (fun site => t.key kb i j (t.kBase + g.1) site) g.2.1 g.2.2 st.1
    (r.1, st.2 + r.2)) (Acc.start, 0)

/-- The tile from its operands as read. -/
def TensorCmd.tile (t : TensorCmd) (kb : KeyBase) (l : List (List Byte)) : Tile :=
  if t.phantom then { accs := List.replicate t.rows (List.replicate t.cols Acc.start), renorms := 0 }
  else
    let na := 2 * (if t.aTurned then t.nb else t.rows)
    let la := l.take na
    let lb := l.drop na
    let bs := (List.range t.cols).map (operandRow t.bFmt t.bTurned lb t.nb)
    let rows := (List.range t.rows).map (fun i =>
      let a := operandRow t.aFmt t.aTurned la t.nb i
      bs.zipIdx.map (fun b => t.accumulate kb i b.2 a b.1))
    { accs := rows.map (fun r => r.map (·.1)), renorms := rows.foldl (fun n r => r.foldl (fun n x => n + x.2) n) 0 }

/-- Run the tile from memory. -/
def State.computeTile (s : State) (c : Nat) (t : TensorCmd) : Tile :=
  t.tile (s.keyBase c t.tensorId) (t.reads.map (fun x => s.engineBytes c x.1 x.2))

/-- Stationary tiles that a tile runs, C × Π (R128), and the rows that enter the array for them; a phantom command runs none. -/
def TensorCmd.stationary (t : TensorCmd) : Nat := if t.phantom then 0 else t.chunks * (passes t.aFmt t.bFmt).length

/-- The bay's counters 2 and 3 over one contraction (Table 13-9). -/
def State.countTile (s : State) (b c : Nat) (t : TensorCmd) : State :=
  (s.countEvent b 2 (t.rows * t.stationary) (some c)).countEvent b 3 t.stationary (some c)

/-! ### Outputs (R116 to R119, R136) -/

/-- Blocks along the blocking axis of the grain output, and lines across it. -/
def TensorCmd.outShape (t : TensorCmd) : Nat × Nat :=
  if t.outAxis = 0 then (t.rows, ceilDiv t.cols 32) else (t.cols, ceilDiv t.rows 32)

/-- Output ranges: rows of a BF16 or FP32 tile (columns where out_turned), or the blocks of a grain tile by grain row; where
out_turned, the dense turned image of the tile's blocks (R134, R136; assumption log 67). -/
def TensorCmd.writes (t : TensorCmd) : List (Nat × Nat) :=
  if isGrain t.outFmt then
    let sh := t.outShape
    let bb := blockBytes t.outFmt
    if t.outTurned then
      (List.range sh.2).flatMap (fun j => [(t.yData + j * sh.1 * bb, sh.1 * bb), (t.yScale + j * sh.1, sh.1)])
    else
      (List.range sh.1).flatMap (fun g => [(t.yData + g * t.yStride * bb, sh.2 * bb), (t.yScale + g * t.yStride, sh.2)])
  else
    let es := elemBytes t.outFmt
    if t.outTurned then (List.range t.cols).map (fun j => (t.yData + j * t.yStride, t.rows * es))
    else (List.range t.rows).map (fun i => (t.yData + i * t.yStride, t.cols * es))

/-- Element (i, j) of a tile. -/
def Tile.at (t : Tile) (i j : Nat) : Acc := nth Acc.start (nth [] t.accs i) j

/-- drain_fp32 of R116; the Nat counts a saturation. -/
def drainFp32 (a : Acc) (keyed : Bool) (k : RKey) : Nat × Nat :=
  if a.nan then (f32NaN, 0)
  else if a.m = 0 then (0, 0)
  else
    let mag := a.m.natAbs
    let e := a.e - 32
    let neg := decide (a.m < 0)
    let ulp := max ((Nat.log2 mag : Int) + e - 23) (-149)
    let n := ulp - e
    let q := if n ≤ 0 then mag * 2 ^ (-n).toNat
             else if keyed then srMag mag n.toNat k else rneShift mag n.toNat false
    let w := fpack neg q ulp
    if fIsInf w then (f32Max neg, 1) else (w, 0)

/-- drain_grain of R117: code, whether it exceeded emax, whether a negative value saturated. -/
def drainGrain (f : Nat) (a : Acc) (s : Nat) (keyed : Bool) (k : RKey) : Nat × Bool × Bool :=
  let g := gfmt f
  if a.nan then (g.nanCode, false, false)
  else if a.m = 0 then (0, false, false)
  else if !g.signed && decide (a.m < 0) then (0, false, true)
  else
    let mag := a.m.natAbs
    let sh := a.e + 95 - (s : Int)
    let n := (-sh).toNat
    let q := if sh ≥ 0 then mag * 2 ^ sh.toNat else if keyed then srMag mag n k else rneShift mag n false
    let v := min q g.emax
    ((if a.m < 0 then (2 ^ g.bits - v) % 2 ^ g.bits else v), decide (g.emax < q), false)

/-- floor(log2 |value|) of an accumulator that is neither NaN nor 0. -/
def Acc.lg (a : Acc) : Option Int := if a.nan || a.m == 0 then none else some ((Nat.log2 a.m.natAbs : Int) + a.e - 32)

def maxLg (l : List Acc) : Option Int :=
  l.foldl (fun b a => match a.lg with
    | none => b
    | some x => some (match b with | none => x | some y => max x y)) none

/-- What an emission counts. -/
structure EmitCount where
  sat : Nat := 0
  overs : Nat := 0
  planer : PCount := {}
deriving DecidableEq, Repr

def EmitCount.add (a b : EmitCount) : EmitCount :=
  { sat := a.sat + b.sat, overs := a.overs + b.overs, planer := a.planer.add b.planer }

/-- One grain output block of non-padding accumulators with their keys: scale, codes, counts. `pred` is the predicted scale. -/
def emitBlock (f : Nat) (pred : Option Nat) (keyed : Bool) (l : List (Acc × RKey)) : Nat × List Nat × EmitCount :=
  let g := gfmt f
  -- NaN elements and NaN blocks pass the store path and count there (R87, R80)
  let nan : PCount := { nan := (l.filter (fun x => x.1.nan)).length }
  if l.all (fun x => x.1.nan) then (0xFF, l.map (fun _ => g.nanCode), { planer := { nan with nanBlock := 1 } })
  else
    let s := match pred with | some v => v | none => measuredScale g.q (maxLg (l.map (·.1)))
    let r := l.map (fun x => drainGrain f x.1 s keyed x.2)
    let overs := (r.filter (fun x => x.2.1)).length
    let neg := (r.filter (fun x => x.2.2)).length
    (s, r.map (·.1), if pred.isSome then { sat := neg, overs := overs, planer := nan } else { sat := neg + overs, planer := nan })

/-- The accumulators of block `j` of grain row `g` of the output, with their keys. -/
def TensorCmd.blockAccs (t : TensorCmd) (kb : KeyBase) (tile : Tile) (g j : Nat) : List (Acc × RKey) :=
  let n := if t.outAxis = 0 then t.cols else t.rows
  (List.range (min 32 (n - 32 * j))).map (fun i =>
    let r := if t.outAxis = 0 then g else 32 * j + i
    let c := if t.outAxis = 0 then 32 * j + i else g
    (tile.at r c, t.key kb r c 0xFFFD 0x61))

/-- One BF16 or FP32 output element; it passes the store path (R116), which counts its NaN (R87). -/
def TensorCmd.outFloat (t : TensorCmd) (kb : KeyBase) (tile : Tile) (keyed : Bool) (i j : Nat) : Nat × EmitCount :=
  let d := drainFp32 (tile.at i j) keyed (t.key kb i j 0xFFFD 0x60)
  if t.outFmt = 1 then (d.1, { sat := d.2, planer := { nan := b2n (tile.at i j).nan } })
  else
    let b := floatConv 1 d.1 keyed (t.key kb i j 0xFFFE 0)
    (b.1, { sat := d.2, planer := b.2 })

/-- The bytes of one emission, range by range as `writes` lists them, and its counts (R122). -/
def TensorCmd.emit (t : TensorCmd) (kb : KeyBase) (tile : Tile) (keyed : Bool) (pred : Option Nat) :
    List (List Byte) × EmitCount :=
  if isGrain t.outFmt then
    let sh := t.outShape
    let rows := (List.range sh.1).map (fun g => (List.range sh.2).map (fun j =>
      let b := emitBlock t.outFmt pred keyed (t.blockAccs kb tile g j)
      (packElems t.outFmt (b.2.1 ++ List.replicate (32 - b.2.1.length) 0), b.1, b.2.2)))
    let cnt := rows.foldl (fun c r => r.foldl (fun c b => c.add b.2.2) c) {}
    let lines := if t.outTurned then (List.range sh.2).map (fun j => rows.map (fun r => nth ([], 0, {}) r j)) else rows
    (lines.flatMap (fun r => [r.flatMap (fun b => b.1), r.map (fun b => BitVec.ofNat 8 b.2.1)]), cnt)
  else
    let m := if t.outTurned then (List.range t.cols).map (fun j => (List.range t.rows).map (fun i => t.outFloat kb tile keyed i j))
             else (List.range t.rows).map (fun i => (List.range t.cols).map (fun j => t.outFloat kb tile keyed i j))
    (m.map (fun r => r.flatMap (fun x => leBytes (elemBytes t.outFmt) x.1)), m.foldl (fun c r => r.foldl (fun c x => c.add x.2) c) {})

/-! ### Codes and the record (R99, R123, R124) -/

/-- The code of a tensor command before it starts its work: access errors rank first. -/
def State.tensorCode (s : State) (b c : Nat) (t : TensorCmd) : Nat :=
  let a := s.worstFault (.bay b) c (t.reads.map rd ++ t.writes.map wr ++ [wr (t.record, 64)])
  if a != 0 then a
  else if t.kBase + t.chunks - 1 > 0xFFFC then 0x0111
  else if t.record % 64 != 0 then 0x0112
  else if t.outAxis = 1 ∧ isGrain t.outFmt ∧ t.tileRow % 32 ≠ 0 then 0x0113
  else 0

/-- Bin of Table 3-7. -/
def histBin (top : Option Int) (a : Acc) : Nat :=
  match top, a.lg with
  | some x, some y =>
    let d := (x - y).toNat
    if d = 0 then 0 else if d = 1 then 1 else if d ≤ 3 then 2 else if d ≤ 7 then 3 else if d ≤ 15 then 4
    else if d ≤ 31 then 5 else 6
  | _, _ => 7

/-- amax: the largest magnitude in FP32, to nearest even, never an infinity. -/
def tileAmax (l : List Acc) : Nat :=
  l.foldl (fun m a => if a.nan then m else
    let w := (drainFp32 { a with m := a.m.natAbs } false { seed := 0, tensor := 0, step := 0, row := 0, col := 0, site := 0, kchunk := 0 }).1
    max m w) 0

/-- The tile record of Table 3-6. -/
def tileRecord (t : TensorCmd) (tile : Tile) (sat overs : Nat) (reemitted recomputed : Bool) : List Byte :=
  let l := tile.accs.flatten
  let top := maxLg l
  let live := l.filter (fun a => !a.nan)
  let hist := (List.range 8).map (fun b => (live.filter (fun a => histBin top a == b)).length)
  leBytes 64 (packFields ([(32, 0), (32, overs)] ++ (hist.reverse.map (fun n => (32, n))) ++
    [(32, t.tileCol), (32, t.tileRow), (8, 0), (8, if t.predicted then t.predScale else 0xFF), (11, 0), (1, b2n t.phantom),
     (1, b2n (tile.renorms != 0)), (1, b2n (l.any (fun a => a.inexact))), (1, b2n recomputed), (1, b2n reemitted),
     (32, (l.filter (fun a => a.nan)).length), (32, sat), (32, tileAmax l)]))

/-- Whether the first and the last grain blocks of a tile's lines are shared with another tile, so that they hold undefined
values (R118): the tile starts off a block boundary, or ends off one inside the output tensor of the context's table. -/
def State.sharedBlock (s : State) (c : Nat) (t : TensorCmd) : Bool × Bool :=
  let first := if t.outAxis = 0 then t.tileCol else t.tileRow
  let last := if t.outAxis = 0 then t.tileCol + t.cols else t.tileRow + t.rows
  (isGrain t.outFmt && first % 32 != 0,
   isGrain t.outFmt && last % 32 != 0 &&
    (s.ctx c).tensors.any (fun x => x.id == t.tensorId && decide (last < nth 0 x.dims 0)))

/-- The shared blocks of every line of a tile take free bytes. -/
def State.freeShared (s : State) (t : TensorCmd) (at_ : Bool × Bool) (l : List (List Byte)) : State × List (List Byte) :=
  let d := s.draw
  let bb := blockBytes t.outFmt
  let free := fun (i lo hi : Nat) (old : List Byte) => old.zipIdx.map (fun x =>
    if lo ≤ x.2 ∧ x.2 < hi then Config.freeByte (d.2 * 2 ^ 32 + i * 2 ^ 16 + x.2) else x.1)
  (d.1, l.zipIdx.map (fun x =>
    let n := x.1.length
    if t.outTurned then
      (if (at_.1 && x.2 / 2 == 0) || (at_.2 && x.2 / 2 + 1 == t.outShape.2) then free x.2 0 n x.1 else x.1)
    else
      let w := if x.2 % 2 = 0 then bb else 1
      let a := if at_.1 then free x.2 0 w x.1 else x.1
      if at_.2 then free x.2 (n - w) n a else a))

/-! ### The two rows of the tensor engine -/

/-- The last mismatch of the tensor array (Table 3-14): its bay, column and stage. -/
def State.noteResidue (s : State) (b col stage : Nat) : State :=
  (((s.setCnt 0x2123 1 s.stamp).setCnt 0x2123 2 b).setCnt 0x2123 3 col).setCnt 0x2123 4 stage

/-- A mismatch in the tensor engine of bay `b`, recorded and counted (R126): a mod-7 residue at its column and stage; the
compare of the duplicated adders (R125) at a column and stage that the spec leaves open. -/
def State.tensorMismatch (s : State) (b : Nat) (diag : Option Diag) : State :=
  match diag with
  | some (.residue col stage) => (s.noteResidue b col stage).bump 0x2121 9
  | _ =>
    let d := s.draw
    (d.1.noteResidue b (Config.freeCount (2 * d.2) % 192) (Config.freeCount (2 * d.2 + 1) % 3)).bump 0x2121 9

/-- Engine `e` is a bay's tensor engine and runs ballast (R450). -/
def State.ballastOn (s : State) (e : Nat) : Bool :=
  decide (e < 256) && e % 4 == 0 && (s.bay (e / 4)).ballast && (s.engine e).running.isNone && (s.engine e).epilogue.isNone

/-- A tile of ballast (R450): its results are discarded; a mismatch is that of the bay and affects no context. -/
def State.ballastTile (s : State) (b : Nat) (diag : Option Diag) : State :=
  match diag with
  | some (.residue _ _) | some .mismatch => ((s.tensorMismatch b diag).signal (32 + b) none).mismatch (some b)
  | _ => s

/-- A whole tile of at most 768 rows goes on to its epilogue and leaves the array free for the next one (R105, R128). -/
def Engine.passOn (g : Engine) : Engine :=
  match g.running with
  | some r =>
    if r.tile.isSome && g.epilogue.isNone && decide ((decodeTensor r.cmd.body).1.rows ≤ 768)
    then { g with running := none, epilogue := some r } else g
  | none => g

/-- TENSOR_PRODUCT (R122): the contraction runs into the accumulators, in slots that no other tile holds (R105, R250); the tile
then waits for its epilogue. On an engine that runs ballast it is a tile of ballast. -/
def execTensorProduct (dt e : Nat) (diag : Option Diag) (s : State) : Host.Outcome State Fault Refusal :=
  let s := s.elapse dt
  .next (if s.ballastOn e then s.whenUp (fun s => s.ballastTile (e / 4) diag) else s.onRun e (fun m => m.opcode == 0x10) fun s r =>
    if r.tile.isSome then s
    else
      let t := (decodeTensor r.cmd.body).1
      let code := s.tensorCode (e / 4) r.ctx t
      -- a completion without an epilogue waits for the tile before it (R219)
      if (code != 0 || diag.isSome) && !s.mayEnd e r then s
      else if code != 0 then s.endAccess e r code
      else
        let u := s.meetUe r diag
        let slots := if r.slots != 0 then some r.slots else (s.engine e).slotsFor (if t.rows ≤ 768 then 1 else 2) r
        if u.2 then u.1.endWith e r 0x0233
        else if slots = none then s
        else
          let s := u.1
          let tile := s.computeTile r.ctx t
          let s := (s.heatAll (.bay (e / 4)) r.ctx t.reads).countTile (e / 4) r.ctx t
          let s := s.bumpBy 0x2121 6 tile.renorms
          match diag with
          | some (.residue _ _) | some .mismatch =>
            -- R126: the tile never commits
            (s.tensorMismatch (e / 4) diag).endMismatch e r 0x0110
          | _ =>
            let g := (s.engine e).took (if r.slots = 0 then slots.getD 0 else 0)
            s.setEngine e ({ g with running := some { r with tile := some tile, slots := slots.getD 0 }, progress := s.stamp }).passOn)

/-- The run whose tile is due for its epilogue. -/
def Engine.epilogueRun (g : Engine) : Option Run :=
  match g.epilogue with
  | some r => some r
  | none => g.running.filter (fun r => r.tile.isSome)

/-- End an epilogue's run. -/
def State.endTile (s : State) (e : Nat) (r : Run) (code : Nat) : State :=
  let s := (s.clearEngine e (fun q => q == r)).finishRun r code false
  let s := s.setEngine e (s.engine e).passOn
  if abandonCode code then s.abandon r.ctx code else s

/-- The ranges a tile writes with their bytes. -/
def TensorCmd.sink (t : TensorCmd) (l : List (List Byte)) : List (Nat × List Byte) := (t.writes.zip l).map (fun x => (x.1.1, x.2))

/-- What an epilogue that a checker stops leaves of the writes of its emissions (R126): the final residue check of the words, and
a mismatch in a recomputation, come between emissions; one in a drain comes after any part of them. `first` and `second` are
the emissions' writes, `second` empty where there is none. -/
def State.stoppedWrites (s : State) (c : Nat) (diag : Option Diag) (recompute : Bool) (first second : List (Nat × List Byte)) : State :=
  match diag with
  | some (.residue _ stage) =>
    if stage = 2 then s.writeSome c (first ++ second)
    else if recompute then s.writeAll c first else s
  | _ => s.writeSome c (first ++ second)

/-- TILE_EPILOGUE (R122): residue check, emission, the re-emission of R120 where a predicted scale overflowed, the record,
the commit. DESIGN CHOICE (assumption logs 138, 139): object 0x2121.06 counts the renormalisations of the first contraction only,
not again those of a recomputation, and object 0x2121.05 the saturations of the final emission only. -/
def execTileEpilogue (dt e : Nat) (diag : Option Diag) (s : State) : Host.Outcome State Fault Refusal :=
  .next ((s.elapse dt).whenUp fun s =>
    match (s.engine e).epilogueRun with
    | none => s
    | some r =>
      match r.tile with
      | none => s
      | some tile =>
        if !s.engineLive e then s
        else
          let b := e / 4
          let t := (decodeTensor r.cmd.body).1
          let kb := s.keyBase r.ctx t.tensorId
          let keyed := (if t.rounding = 2 then (if isGrain t.outFmt then r.defGrain else r.defOther) else t.rounding) == 1
          let pred := if t.predicted && isGrain t.outFmt && !t.phantom then some t.predScale else none
          let first := t.emit kb tile keyed pred
          let again := pred.isSome && first.2.overs != 0
          let recompute := again && decide (t.rows > 768)
          let fresh := if recompute then s.computeTile r.ctx t else tile
          let second := if again then t.emit kb fresh keyed none else first
          let planed := if again then first.2.planer.add second.2.planer else first.2.planer
          let stopped := (s.stoppedWrites r.ctx diag recompute (t.sink first.1) (if again then t.sink second.1 else [])).countSome planed
          match diag with
          | some (.residue _ _) | some .mismatch => ((stopped.tensorMismatch b diag).reactMismatch e r.ctx 0x0110).endTile e r 0x0110
          | some .planer => (stopped.reactMismatch e r.ctx 0x0116).endTile e r 0x0116
          | _ =>
            -- outputs may have lost their bay, pages or rights since the start
            let code := s.worstFault (.bay b) r.ctx (t.writes.map wr ++ [wr (t.record, 64)])
            let u := if recompute then s.meetUe r diag else (s, false)
            if code != 0 then (s.reportAccess e r.ctx code).endTile e r code
            -- the operands of a recomputation may meet an uncorrectable error (R194)
            else if u.2 then ((u.1.writeAll r.ctx (t.sink first.1)).countPlaner first.2.planer).endTile e r 0x0233
            else
              let s := u.1
              let undefined_ := fresh != tile
              let record := tileRecord t fresh second.2.sat first.2.overs again recompute
              let s := if recompute then s.countTile b r.ctx t else s
              let s := s.bumpBy 0x2121 4 first.2.overs
              let s := if again then s.bump 0x2121 (if recompute then 3 else 2) else s
              let s := s.bumpBy 0x2121 5 second.2.sat
              let s := s.countPlaner planed
              -- R121: operands changed before a recomputation leave the results undefined
              let d := if undefined_ then s.draw else (s, 0)
              let s := d.1
              let bytes := if undefined_ then
                  second.1.zipIdx.map (fun x => x.1.zipIdx.map (fun y => Config.freeByte (d.2 * 2 ^ 32 + x.2 * 2 ^ 16 + y.2)))
                else second.1
              let record := if undefined_ then record.zipIdx.map (fun y => Config.freeByte (d.2 * 2 ^ 32 + 2 ^ 31 + y.2)) else record
              let at_ := s.sharedBlock r.ctx t
              let sh := if at_.1 || at_.2 then s.freeShared t at_ bytes else (s, bytes)
              let s := sh.1.writeAll r.ctx (t.sink sh.2 ++ [(t.record, record)])
              let s := s.bump 0x2121 1
              let s := if fresh.accs.any (fun l => l.any (fun a => a.inexact)) then s.bump 0x2121 7 else s
              let s := (s.countWrites (.bay b) r.ctx (t.writes ++ [(t.record, 64)])).countEvent b 4 1 (some r.ctx)
              let s := if again then s.countEvent b 5 1 (some r.ctx) else s
              s.endTile e r 0)

end Sys2Proof.Machine
end

