-- ==== Sys2Proof/Machine/Queue.lean ====
section
/-! DEFINITION. The start of commands (R219 to R226, R239 to R241, R249 to R251, R537), and the commands of no engine's
datapath: no-op, layer marker, step open and step close. -/

namespace Sys2Proof.Machine

/-! ### Clamps of a command at its start (R226 and the tables it names) -/

/-- Whether R226 clamps a field of the body. -/
def bodyClamped (q : Nat) (m : Cmd) : Bool :=
  match m.opcode with
  | 0x10 => (decodeTensor m.body).2
  | 0x28 => bits m.body 799 768 == 0
  | 0x30 =>
    let d := decodeDesc (bits m.body 895 384)
    let mo := bits m.body 320 305
    d.2 || (m.body.testBit 383 && engineKind q == 3)
      || (isRemote q m && ((decide (0x0400 ≤ mo) && mo != 0xFFFF) || remoteDesc d.1 != d.1))
  | _ => false

/-- Members of a group kind of a context. -/
def Ctx.groupSize (x : Ctx) (kind : Nat) : Nat :=
  match kind with
  | 0 => 8
  | 1 => x.gridR
  | 2 => 8 * x.gridP
  | _ => 8 * x.gridP * x.gridR

/-- Whether a collective's body holds an illegal field (R312, Table 9-4), whether or not its opcode uses the field. -/
def collClamped (x : Ctx) (m : Cmd) : Bool :=
  decide (3 < bits m.body 583 580)
    || decide (x.groupSize (collKind m) ≤ bits m.body 607 590)
    || bits m.body 639 608 % 4 != 0

/-- The counts of a started command's clamped fields that tables of other chapters cover (R75, R99, R142, R146, R154). DESIGN
CHOICE (assumption log 140): the clamped conversion word of a descriptor that is then refused with 0x0101, 0x0102 or an access
error counts too: R75 counts each clamped word, and R93 speaks of converted elements. -/
def State.countFieldClamps (s : State) (c : Nat) (m : Cmd) (block : List Byte) : State :=
  let one := fun (s : State) (b : Bool) (i k : Nat) => if b then s.bump i k else s
  match m.opcode with
  | 0x10 => one s (arithClamped (bits m.body 895 832)) 0x2121 8
  | 0x20 | 0x21 | 0x22 | 0x23 | 0x24 | 0x25 => s.bumpBy 0x2201 6 (rowClamps m.opcode m.body)
  | 0x30 =>
    let d := bits m.body 895 384
    one (one s (convClamped (bits d 319 288)) 0x2111 5) (stickClamped (bits d 63 0) (s.ctx c).lanes) 0x2201 6
  | 0x40 => one s (recipeClamped block) 0x2203 6
  | op => one s (decide (0x50 ≤ op) && collClamped (s.ctx c) m) 0x4210 6

/-! ### Choosing (R239) -/

/-- What an engine takes next for a context. -/
inductive Pick where
  /-- its suspended command goes on (R250) -/
  | resume (r : Run)
  /-- its parked command was filled or timed out (R252, R256) -/
  | woken (p : Parked)
  /-- the command at the head of its queue -/
  | head
deriving DecidableEq, Repr

/-- The wait of kind 3 at a queue's head is past its deadline (R253, R256). -/
def Ctx.headTimedOut (x : Ctx) (q : Nat) : Bool :=
  (x.queue q).timedOut || (x.headRecord q).elim false (fun p => p.state == 2)

/-- Engine `e` is one of a bay that is out of service for good (R534). -/
def State.engineOut (s : State) (e : Nat) : Bool := (engineBay e).elim false (fun b => (s.bay b).out)

/-- The code with which the head of a queue completes at once (R469, R534). -/
def State.instantCode (s : State) (c q : Nat) (m : Cmd) : Option Nat :=
  let x := s.ctx c
  if s.engineOut q then some 0x020A
  else if x.abandoned.isSome && m.opcode != 2 && m.opcode != 3 then x.abandoned
  else if x.headTimedOut q then some 0x0410
  else none

/-- The head may start, its wait condition apart. -/
def State.headOpen (s : State) (c q : Nat) (fence : Bool) : Bool :=
  let x := s.ctx c
  let y := x.queue q
  y.waiting && (!fence || y.completed == y.head) && x.ringFree && x.barrierOk q && !x.startedParked q

/-- The head of a queue of a bay out of service completes at once, whatever it waits for, once those before it have (R219, R534). -/
def State.headDone (s : State) (c q : Nat) : Bool :=
  let x := s.ctx c
  let y := x.queue q
  (x.state == 2 || x.state == 3) && !x.draining && y.waiting && y.completed == y.head && x.ringFree

/-- What engine `e` may take for context `c`. A command that completes at once does so after those before it (R219). -/
def State.pickOf (s : State) (e c : Nat) (ue : Bool) : Option Pick :=
  let x := s.ctx c
  let live := x.state == 2 || x.state == 4
  match (s.engine e).suspended.filter (fun r => r.ctx == c) with
  | some r => if live then some (.resume r) else none
  | none =>
    match x.wokenRecord e with
    | some p => if live then some (.woken p) else none
    | none =>
      if s.engineOut e then (if s.headDone c e then some .head else none)
      else if x.state != 2 || x.draining then none
      else if engineKind e == 3 && (s.nextPref c (e / 4)).isSome then none
      else if ue then (if s.headOpen c e true then some .head else none)
      else
        let m := (s.headCmd c e).1
        match s.instantCode c e m with
        | some _ => if s.headOpen c e true && (x.waitHolds e m || x.headTimedOut e) then some .head else none
        | none => if s.headReady c e then some .head else none

/-- A quarantined bay runs only the quarantined context (R464). -/
def State.quarantineLets (s : State) (e c : Nat) : Bool :=
  match engineBay e with
  | some b => !(s.bay b).qActive || (s.bay b).qCurrent == some c
  | none => true

/-- The rank of a context's work on an engine now: 2 in quarantine, 3 guaranteed, 4, and a guest after them (R239, R324). -/
def State.rankOf (s : State) (e c : Nat) : Nat :=
  if (engineBay e).elim false (fun b => (s.bay b).qActive && (s.bay b).qCurrent == some c) then 2
  else if (s.ctx c).isGuest then 5
  else s.levelOf e (s.ctx c).slotClass

/-- Shed holds back level 4, and level 3 at the end (R453); the control queue is run by firmware. -/
def State.shedLets (s : State) (e rank : Nat) : Bool :=
  e == 273 || !((s.power.shed && decide (4 ≤ rank)) || (s.power.shedL3 && decide (3 ≤ rank)))

/-- A choice: rank, stamp of the last start, context, what. -/
structure Choice where
  rank : Nat
  last : Nat
  ctx : Nat
  pick : Pick
deriving DecidableEq, Repr

/-- R239's order: rank, oldest last start, lower ID. -/
def Choice.before (a b : Choice) : Bool :=
  decide (a.rank < b.rank) || (a.rank == b.rank && (decide (a.last < b.last) || (a.last == b.last && decide (a.ctx < b.ctx))))

def State.choices (s : State) (e : Nat) (ue : Bool) : List Choice :=
  s.ctxs.filterMap (fun x =>
    let r := s.rankOf e x.1
    if s.engineOut e || (s.quarantineLets e x.1 && s.shedLets e r) then
      (s.pickOf e x.1 ue).map (fun p => { rank := r, last := Assoc.get 0 (s.engine e).lastStart x.1, ctx := x.1, pick := p })
    else none)

def firstChoice : List Choice → Option Choice
  | [] => none
  | a :: l => match firstChoice l with
    | none => some a
    | some b => if b.before a then some b else some a

def State.choose (s : State) (e : Nat) (ue : Bool) : Option Choice := firstChoice (s.choices e ue)

/-! ### Starting -/

/-- Rounding defaults read at the start: into grain, otherwise (R76, R99). -/
def State.roundingDefaults (s : State) (m : Cmd) : Nat × Nat :=
  if m.opcode = 0x10 then (s.num 0x2120 2, s.num 0x2120 1) else (s.num 0x2110 1, s.num 0x2110 2)

/-- The recipe block as the engine reads it (R154); empty where it may not. -/
def State.blockOf (s : State) (e c : Nat) (m : Cmd) : List Byte :=
  if m.opcode = 0x40 ∧ s.accessCode (engineAgent e) c (recipeAddr m) 64 false = 0 ∧ recipeAddr m % 64 = 0
  then s.getBytes c (recipeAddr m) 64 else []

/-- A pre-emption counts, and on a bay's engine in the bay's counters too (Table 13-9). -/
def State.countPreempt (s : State) (e : Nat) (c : Option Nat) : State :=
  let s := s.bump 0x3210 1
  if e < 256 then s.countEvent (e / 4) 0x0D 1 c else s

/-- The engine takes up work: its bay leaves P1 and ballast. Ballast that runs on the engine is pre-empted, which counts (R249, R251). -/
def State.touchBay (s : State) (e : Nat) : State :=
  match engineBay e with
  | some b => (if s.ballastOn e then s.countPreempt e none else s).setBay b { s.bay b with power := 0, ballast := false, idleSince := s.stamp }
  | none => s

/-- Put a run on an engine. -/
def State.place (s : State) (e : Nat) (r : Run) : State :=
  let s := s.touchBay e
  s.setEngine e { s.engine e with running := some r, progress := s.stamp }

/-- Whether the head command of a queue has a clamped field, those of its header found before (R226). -/
def State.headClamped (s : State) (c e : Nat) (h : Cmd × Bool) : Bool :=
  h.2 || bodyClamped e h.1 || (decide (0x50 ≤ h.1.opcode) && collClamped (s.ctx c) h.1)

/-- The head command of a queue starts and runs. -/
def State.startHead (s : State) (e c rank : Nat) : State :=
  let x := s.ctx c
  let h := s.headCmd c e
  let m := h.1
  let clamped := s.headClamped c e h
  let d := s.roundingDefaults m
  let block := s.blockOf e c m
  let r : Run := {
    ctx := c, queue := e, slot := (x.queue e).head, cmd := m, clamped := clamped, start := s.stamp,
    issued := (x.queue e).arrivalOf (x.queue e).head, level := min 4 rank,
    defGrain := d.1, defOther := d.2, block := block, tile := none, slots := 0, await := .none, waitFrom := s.stamp, failed := none, woken := false, out := [], purlin := false }
  let s := s.setCtx c (x.takeHead e m s.stamp)
  let s := (if clamped then s.bump 0x3110 2 else s).countFieldClamps c m block
  let g := s.engine e
  let s := s.setEngine e { g with lastStart := Assoc.set 0 g.lastStart c s.stamp }
  (s.place e r).track c

/-- A slot whose read meets an uncorrectable error (R537). -/
def State.badSlot (s : State) (e c : Nat) : State :=
  let x := s.ctx c
  let a := s.phys c (x.slotAddr e (x.queue e).head)
  let s := (s.memoryError .cell a (some c)).1
  let m : Cmd := { tag := 0, waitValue := 0, waitQueue := 0, waitKind := 0, irq := false, fence := false, cmpl := true,
                   opcode := 0, body := 0 }
  (s.finishHead c e m false 0x0233).abandon c 0x0233

/-- A parked command that was filled or timed out: it completes, or its collective goes on (R252, R256). -/
def State.resumeParked (s : State) (e c rank : Nat) (p : Parked) : State :=
  let s := (s.modCtx c (fun x => x.setParked (x.parked.filter (fun q => q != p)))).armTimer
  match p.run with
  | none => s
  | some r =>
    if p.ctxEpoch != s.epoch c then s
    else if p.state = 2 then (s.modCtx c (fun x => x.noteLate p.kind p.mortise p.queue p.slotIndex)).finishRun r 0x0410 false
    else if p.kind = 1 then
      let code := if p.code = 0 then r.failed.getD 0 else p.code
      let s := s.finishRun r code false
      if abandonCode code then s.abandon c code else s
    else (s.place e { r with await := .none, woken := true, level := min 4 rank }).track c

/-- What the chosen context runs. -/
def State.take (s : State) (e : Nat) (k : Choice) (ue : Bool) : State :=
  match k.pick with
  | .resume r =>
    ((s.setEngine e { s.engine e with suspended := none }).place e { r with level := min 4 k.rank }).track k.ctx
  | .woken p => s.resumeParked e k.ctx k.rank p
  | .head =>
    if ue then s.badSlot e k.ctx
    else
      let h := s.headCmd k.ctx e
      match s.instantCode k.ctx e h.1 with
      | some code => s.finishHead k.ctx e h.1 (s.headClamped k.ctx e h) code
      | none => s.startHead e k.ctx k.rank

/-! ### Parking (R252, R253) -/

/-- The wait kind and slot of a started command that awaits a remote event. -/
def Run.remoteWait (r : Run) : Option (Nat × Nat) :=
  match r.await with
  | .ack _ _ _ _ _ _ _ _ => some (1, 0x0400 + r.queue / 4)
  | .contributions => some (2, 0x0480 + collSlot r.cmd)
  | .none => none

/-- The deadline of a remote wait that began at `t` (R255). -/
def State.deadlineFrom (s : State) (t : Nat) : Nat := if s.num 0x3202 1 = 0 then 2 ^ 64 - 1 else t + s.num 0x3202 1 * us

def Ctx.recordsFree (x : Ctx) : Bool := decide (x.parked.length < 640)

/-- A record is written; the record table was not full. The 640th fills it: source 234, once a full period (R253). -/
def State.addRecord (s : State) (c : Nat) (p : Parked) : State :=
  let s := (s.modCtx c (fun x => { x with parked := x.parked ++ [p] })).bump 0x3210 2
  let full := decide (640 ≤ (s.ctx c).parked.length) && !(s.ctx c).parkFull
  (((if full then (s.modCtx c (fun x => { x with parkFull := true })).signal 234 (some c) else s).saveParked c).armTimer).track c

/-- With the table full nothing parks; the deadline of a head counts toward the timer (R253). -/
def State.tableFull (s : State) (c : Nat) : State := s.armTimer.track c

/-- Park the started command that engine `e` runs. -/
def State.parkRun (s : State) (e : Nat) (r : Run) : State :=
  match r.remoteWait with
  | none => s
  | some w =>
    if !(s.ctx r.ctx).recordsFree then s.tableFull r.ctx
    else
      let g := s.engine e
      let s := s.setEngine e { g with running := none, progress := s.stamp }
      s.addRecord r.ctx {
        parkStamp := s.stamp, deadline := s.deadlineFrom r.waitFrom, fillStamp := 0, tag := r.cmd.tag, progress := 0,
        ctxEpoch := s.epoch r.ctx, mortise := w.2, slotIndex := r.slot, queue := r.queue, kind := w.1, state := 0, code := 0,
        fired := false, run := some r }

/-! ### Pre-emption (R249 to R251) -/

/-- The rank of a run now. -/
def State.runRank (s : State) (e : Nat) (r : Run) : Nat := s.rankOf e r.ctx

/-- The engine has a pre-emption point inside the command (Table 7-3). -/
def Engine.canSuspend (g : Engine) (r : Run) : Bool :=
  g.suspended.isNone && r.tile.isNone &&
    match r.cmd.opcode with
    | 0x10 => decide ((decodeTensor r.cmd.body).1.rows ≤ 768)
    | 0x30 => haulOp r.cmd == 0
    | op => decide (4 ≤ op)

def State.suspend (s : State) (e : Nat) (r : Run) : State :=
  let g := s.engine e
  -- a suspended tile keeps its slot; the pre-empting work has the other one
  let r := if r.cmd.opcode = 0x10 ∧ r.slots = 0 then { r with slots := (g.slotsFor 1 r).getD 0 } else r
  let g := if r.slots = 0 then g else g.took r.slots
  (s.setEngine e { g with running := none, suspended := some r, progress := s.stamp }).countPreempt e (some r.ctx)

/-- A choice is placed ahead of the run: the run has level 4 (a guest ranks after), and the choice ranks before it. -/
def State.ahead (s : State) (e : Nat) (r : Run) (k : Choice) : Bool :=
  decide (4 ≤ s.runRank e r) && decide (k.rank < s.runRank e r)

/-- A pre-emption point of a busy engine. -/
def State.preempt (s : State) (e : Nat) (r : Run) (ue : Bool) : State :=
  let g := s.engine e
  let k := (s.choose e ue).filter (fun k => s.ahead e r k)
  let held := !s.shedLets e (s.runRank e r)
  if k.isNone && !held then s
  else if r.await != .none then
    -- while another command is suspended, only a command boundary pre-empts (R250)
    if g.suspended.isSome then s
    else if (s.ctx r.ctx).recordsFree then
      let s := (s.parkRun e r).countPreempt e (some r.ctx)
      k.elim s (fun k => s.take e k ue)
    else s.tableFull r.ctx
  else if g.canSuspend r then
    let s := s.suspend e r
    k.elim s (fun k => s.take e k ue)
  else s

/-- The engine may take work: in service or out for good, clocked, awake. -/
def State.engineReady (s : State) (e : Nat) : Bool :=
  s.engineOut e
    || (s.engineLive e && (engineBay e).elim true (fun b => (s.bay b).power != 2 && !(s.bay b).waking))

/-- COMMAND_START (R239): at a command boundary the first ready command; on a busy engine its pre-emption point (R249). `ue`
says that the read of the slot met an uncorrectable error (R537). -/
def execCommandStart (dt e : Nat) (ue : Bool) (s : State) : Host.Outcome State Fault Refusal :=
  .next ((s.elapse dt).whenUp fun s =>
    let s := s.expireWaits
    if 273 < e || !s.engineReady e then s
    else
      match (s.engine e).running with
      | some r => s.preempt e r ue
      | none => (s.choose e ue).elim s (fun k => s.take e k ue))

/-! ### No-op and layer marker -/

/-- NO_OP (R227). -/
def execNoOp (dt e : Nat) (s : State) : Host.Outcome State Fault Refusal :=
  .next ((s.elapse dt).onRun e (isOp 0) fun s r => if s.mayEnd e r then s.endWith e r 0 else s)

/-- LAYER_MARKER (R190, R257). -/
def execLayerMarker (dt e : Nat) (s : State) : Host.Outcome State Fault Refusal :=
  .next ((s.elapse dt).onRun e (isOp 1) fun s r =>
    if s.mayEnd e r then
      let s := s.modCtx r.ctx (fun x =>
        let y := x.bayStep (e / 4)
        x.setBayStep (e / 4) { y with marker := (y.marker + 1) % 65536, swapFlag := r.cmd.body.testBit 895 })
      s.endWith e r 0
    else s)

/-! ### Weight versions (R347, R348) -/

/-- The frozen tensors are mapped to a version's pages, where another one stood. -/
def State.mapVersion (s : State) (c v : Nat) : State :=
  let x := s.ctx c
  if x.mapped = v then s
  else
    match x.versionOf v with
    | none => s
    | some w =>
      let s := w.objs.foldl (fun (s : State) o => match x.tensors.find? (fun t => t.id == o.1) with
        | some t => s.remap c t o.2
        | none => s) s
      let old := (x.versionOf x.mapped).elim [] (fun w : Version => w.ids)
      let s := old.foldl (fun (s : State) id => s.countMaps id false) s
      let s := w.ids.foldl (fun (s : State) id => s.countMaps id true) s
      s.modCtx c (fun x => { x with mapped := v })

/-- A version that is not current and that no open step pins goes (R348). -/
def State.dropVersion (s : State) (c v : Nat) : State :=
  let x := s.ctx c
  match x.versionOf v with
  | none => s
  | some w =>
    if x.current = v || x.pins v then s
    else
      let s := if x.mapped = v then s.mapVersion c x.current else s
      let rest := (s.ctx c).versions.filter (fun y => y.version != v)
      let s := s.modCtx c (fun x => { x with versions := rest, objects := (rest.flatMap (fun y : Version => y.ids)).eraseDups })
      ((s.releaseIds w.ids).bump 0x4310 0x0C).signal 246 (some c)

/-! ### Step open and step close -/

/-- A bay's counts at step open: prefetch entries in flight run on and count in the new step; those that a swap stopped are dropped (R191;
DESIGN CHOICE, assumption log 141). -/
def BayStep.opened (y : BayStep) : BayStep := { BayStep.zero with inFlight := y.inFlight, swapFlag := y.swapFlag }

/-- The context as step open leaves it (R221, R319, R468): contributions and aborts that came early stay, and of those of earlier steps the
eight values that refuse a repeat (R316). -/
def Ctx.opened (x : Ctx) (n : Nat) : Ctx :=
  { x with
    step := n, admitStamp := x.nextStamp, version := x.nextVersion, baySteps := Assoc.mapVals BayStep.zero (fun _ y => y.opened) x.baySteps, stepOpen := true, admitted := false,
    statSmall := 0, statBig := 0, statNonfinite := 0, sealed := false, sealCode := 0, gn := 0, nonfinite := 0,
    contribs := x.contribs.map (fun k => if k.step = n ∨ 2 ^ 31 ≤ sub32 n k.step then k else k.spent), collSent := [], aborts := x.aborts.filter (fun a => a.2.1 == n),
    abortsSent := x.abortsSent.filter (fun a => a.2 == n), updDone := [], skipCounted := false, clipCounted := false,
    abandoned := none }

/-- STEP_OPEN (R221): the admitted step opens; its version is mapped first (R347). -/
def execStepOpen (dt : Nat) (s : State) : Host.Outcome State Fault Refusal :=
  .next ((s.elapse dt).onRun 273 (isOp 2) fun s r =>
    let s := s.mapVersion r.ctx (s.ctx r.ctx).nextVersion
    ((s.modCtx r.ctx (fun x => x.opened (bits r.cmd.body 895 864))).clearWaits r.ctx).endWith 273 r 0)

/-- The sticks of a segment by their back pointers from an offset; the fuel is the segment's size in sticks. -/
def State.stickChain (s : State) (c lane bay : Nat) : Nat → Option Nat → Nat
  | 0, _ => 0
  | _, none => 0
  | f + 1, some k =>
    let h := s.stickHdr c lane bay k
    1 + s.stickChain c lane bay f (if h.back = 0 ∨ k < h.back * 256 then none else some (k - h.back * 256))

/-- R151: held sticks are released and unpopped ones discarded; the number of them. -/
def State.emptyStack (s : State) (c : Nat) : State × Nat :=
  let x := s.ctx c
  let n := (x.segments.map (fun e => s.stickChain c (e.1 / 64) (e.1 % 64) (x.segSize / 256 + 1) e.2.cursor)).foldl (· + ·) 0
    + x.held.length
  let s := x.held.foldl (fun s h => s.setHeld c h.lane h.bay h.offset false) s
  ((s.modCtx c (fun x => { x with segments := [], held := [] })).bumpBy 0x2201 7 n, n)

/-- σ in unsigned 8.8 fixed point (R247). -/
def slowdown (t d : Nat) : Nat := if t - d = 0 then 0xFFFF else min 0xFFFF (t * 256 / (t - d))

/-- Stamp units in 4 tensor clocks at a clock in MHz, counted in thousandths: 4 / f µs. -/
def delayUnits (n mhz : Nat) : Nat := if mhz = 0 then 0 else n * 4 * us / mhz

/-- The stalls named for a bay. -/
def sumAt (l : List (Nat × Nat)) (b : Nat) : Nat := l.foldl (fun n p => if p.1 = b then n + p.2 else n) 0

/-- The bay with the largest delay, the lowest number on a tie, and that delay (R247). -/
def worstDelay (l : List (Nat × Nat)) : Nat × Nat := l.foldl (fun b p => if b.2 < p.2 then p else b) (0, 0)

/-- R247, R248 and R444: the slowdown and the energy of the closing step. The model counts W; `stalls` gives I by bay (assumption log 97). -/
def State.measureStep (s : State) (c : Nat) (stalls : List (Nat × Nat)) : State :=
  let x := s.ctx c
  let t := (s.stamp + 2 ^ 64 - x.admitStamp) % 2 ^ 64
  let w := worstDelay (x.grant.map (fun g =>
    (g.1, delayUnits (s.waitUnits c g.1 + sumAt stalls g.1) (s.die (g.1 / 16)).clock)))
  let s := s.clearWaits c
  let d := min t w.2
  let g := slowdown t d
  let s := if s.num 0x3102 1 = c then
      ((((s.setObj 0x3220 1 (.num x.step)).setObj 0x3220 2 (.num (t / 4))).setObj 0x3220 3 (.num (d / 4))).setObj 0x3220 4 (.num g)).setObj
        0x3220 5 (.num w.1)
    else s
  let s := if s.sched.worstSigma < g then { s with sched := { s.sched with worstSigma := g, worstCtx := c } } else s
  s.modCtx c (fun x => { x with stats := { x.stats with closed := true, ePrev := x.stats.stepEnergy, stepEnergy := 0, tPrev := t, sigma := g } })

/-- STEP_CLOSE (R151, R248, R351, R464, R469). `delays` are I of the context's bays in units of 4 tensor clocks. -/
def execStepClose (dt : Nat) (delays : List (Nat × Nat)) (s : State) : Host.Outcome State Fault Refusal :=
  .next ((s.elapse dt).onRun 273 (isOp 3) fun s r =>
    let c := r.ctx
    let a := s.emptyStack c
    let s := a.1.measureStep c delays
    let x := s.ctx c
    let code := x.abandoned.getD (if a.2 = 0 then 0 else 0x0228)
    let s := s.modCtx c (fun x => { x with stepOpen := false, abandoned := none })
    let s := (s.leaveQuarantine c).dropVersion c x.version
    let s := if x.abandoned.isSome then s else (if (s.ctx c).reshardDue then s.startReshard c else s.closeImage c)
    (s.endWith 273 r code).admitTest)

end Sys2Proof.Machine
end

