-- ==== Sys2Proof/Machine/Collective.lean ====
section
/-! DEFINITION. The reduce engine (chapter 9): contributions as they arrive (R314 to R317, R326), the exchange and the fold of R311
and R315, the collectives of Table 9-2, the step seal and its statistics (R319 to R321), expert dispatch and combine (R309),
dovetailing (R324) and re-shard commands (R327). -/

namespace Sys2Proof.Machine

/-! ### Collective bodies (Table 9-4) -/

structure Coll where
  op : Nat
  slot : Nat
  kind : Nat
  src : Nat
  dst : Nat
  staging : Nat
  n : Nat
  scale : Nat
  aux : Nat
  rowBytes : Nat
  root : Nat
  wire : Bool
  counted : Bool
  size : Nat
  me : Nat
deriving DecidableEq, Repr

def collOf (x : Ctx) (m : Cmd) : Coll :=
  let b := m.body
  let kind := collKind m
  let size := x.groupSize kind
  let root := bits b 607 590
  { op := m.opcode, slot := collSlot m, kind := kind, src := bits b 895 848, dst := bits b 847 800, staging := bits b 799 752,
    n := bits b 751 720, scale := bits b 719 688, aux := bits b 687 640, rowBytes := bits b 639 608 / 4 * 4,
    root := if root < size then root else 0, wire := b.testBit 576, counted := b.testBit 575, size := size, me := x.memberIndex kind }

/-- All-reduce, reduce-scatter, seal and barrier fold; the others gather. -/
def Coll.folds (k : Coll) : Bool := k.op == 0x50 || k.op == 0x51 || k.op == 0x56 || k.op == 0x57

/-! ### Blocks, shards and owners (R315) -/

def Coll.blockCount (k : Coll) : Nat := ceilDiv k.size 64
def Coll.blockSize (k : Coll) (b : Nat) : Nat := min 64 (k.size - 64 * b)
def Coll.levels (k : Coll) : Nat := if k.size ≤ 64 then 1 else if k.size ≤ 4096 then 2 else 3

/-- Shards of a collective. -/
def Coll.shards (k : Coll) : Nat :=
  match k.op with
  | 0x50 | 0x51 => if k.size ≤ 64 then k.size else 64
  | 0x52 | 0x55 => k.size
  | 0x54 => 0
  | _ => 1

/-- Experts on a position, and the rows each accepts (R309). -/
def Ctx.localExperts (x : Ctx) (p : Nat) : Nat := (x.experts + 7 - p % 8) / 8
def Ctx.expertRows (x : Ctx) (t : Nat) : Nat :=
  if x.experts = 0 then 0 else (frat x.capacity * (t : Rat) * (x.topK : Rat) / (x.experts : Rat)).ceil.toNat

/-- First element and length of shard j. -/
def Coll.shard (k : Coll) (x : Ctx) (j : Nat) : Nat × Nat :=
  match k.op with
  | 0x50 | 0x51 | 0x52 =>
    let q := ceilDiv k.n (max 1 k.shards)
    (min (j * q) k.n, min ((j + 1) * q) k.n - min (j * q) k.n)
  | 0x53 => (0, k.n)
  | 0x55 => (0, x.localExperts j * x.expertRows k.n * (k.rowBytes / 4))
  | 0x56 => (0, 3)
  | _ => (0, 0)

/-- The owner of shard j in the block of member i; among the blocks of its 64 blocks; among those (assumption log 44). -/
def Coll.owner0 (k : Coll) (i j : Nat) : Nat := let b := i / 64; 64 * b + j % max 1 (k.blockSize b)
def Coll.owner1 (k : Coll) (i j : Nat) : Nat :=
  let h := i / 4096
  k.owner0 (64 * (64 * h + j % max 1 (min 64 (k.blockCount - 64 * h)))) j
def Coll.owner2 (k : Coll) (j : Nat) : Nat := k.owner1 (4096 * (j % max 1 (ceilDiv k.blockCount 64))) j
def Coll.owner (k : Coll) (l i j : Nat) : Nat := if l = 0 then k.owner0 i j else if l = 1 then k.owner1 i j else k.owner2 j

/-- The members whose parts of shard j are folded at a level where member i takes part, in order. -/
def Coll.parts (k : Coll) (l i j : Nat) : List Nat :=
  match l with
  | 0 => rangeFrom (64 * (i / 64)) (k.blockSize (i / 64))
  | 1 => (List.range (min 64 (k.blockCount - 64 * (i / 4096)))).map (fun b => k.owner0 (64 * (64 * (i / 4096) + b)) j)
  | _ => (List.range (ceilDiv k.blockCount 64)).map (fun h => k.owner1 (4096 * h) j)

/-- Member i needs the result of shard j. -/
def Coll.needs (k : Coll) (x : Ctx) (i j : Nat) : Bool :=
  if k.op = 0x51 then
    let q := ceilDiv k.n (max 1 k.size)
    let r := k.shard x j
    decide (r.1 < min ((i + 1) * q) k.n) && decide (min (i * q) k.n < r.1 + r.2)
  else decide (j < k.shards)

/-! ### Pieces and chunks (R314) -/

/-- Elements travel as BF16: inputs and results, but not the partial sums between blocks. -/
def Coll.bf16 (k : Coll) (l ph : Nat) : Bool := k.wire && k.op != 0x56 && k.op != 0x57 && (ph == 1 || l == 0)

def perChunk (bf : Bool) : Nat := if bf then 2032 else 1016
def chunkCount (bf : Bool) (len : Nat) : Nat := max 1 (ceilDiv len (perChunk bf))

/-- A barrier sends one chunk without elements; an empty shard of another collective sends nothing. -/
def Coll.chunkTotal (k : Coll) (x : Ctx) (l ph j : Nat) : Nat :=
  let len := (k.shard x j).2
  if len = 0 ∧ k.op ≠ 0x57 then 0 else chunkCount (k.bf16 l ph) len

/-- Elements of chunk c of shard j. -/
def Coll.chunkElems (k : Coll) (x : Ctx) (l ph j c : Nat) : Nat :=
  let p := perChunk (k.bf16 l ph)
  min p ((k.shard x j).2 - c * p)

def packWords (bf : Bool) (l : List Nat) : List Byte :=
  if bf then l.flatMap (fun w => leBytes 2 (bf16Round w / 65536)) else l.flatMap (leBytes 4)
def unpackWords (bf : Bool) (l : List Byte) : List Nat := if bf then (words 2 l).map bf16To else words 4 l

/-- The piece of shard j that a member gave at a level and phase, where every chunk of it is there. -/
def Ctx.piece (x : Ctx) (k : Coll) (member j l ph : Nat) : Option (List Nat) :=
  let mine := x.contribs.filter (fun q => !q.used && q.slot == k.slot && q.member == member && q.shard == j && q.level == l && q.phase == ph
    && q.step == x.step && q.layoutEpoch == x.layoutEpoch)
  (List.range (k.chunkTotal x l ph j)).foldl (fun (a : Option (List Nat)) c =>
    a.bind (fun a => (mine.find? (fun q => q.chunk == c)).map (fun q => a ++ unpackWords q.bf16 q.data))) (some [])

/-- The result of shard j here, from whichever level brought it; that of an empty shard, which nobody sends, is there at once. -/
def Ctx.result (x : Ctx) (k : Coll) (j : Nat) : Option (List Nat) :=
  if k.chunkTotal x 0 1 j = 0 then some []
  else (List.range 3).findSome? (fun l =>
    (x.contribs.find? (fun q => !q.used && q.slot == k.slot && q.shard == j && q.level == l && q.phase == 1 && q.step == x.step
      && q.layoutEpoch == x.layoutEpoch)).bind (fun q => x.piece k q.member j l 1))

def Ctx.didSend (x : Ctx) (k : Coll) (l ph j : Nat) : Bool :=
  x.collSent.contains { slot := k.slot, level := l, phase := ph, shard := j }

def State.noteSent (s : State) (c : Nat) (k : Coll) (l ph j : Nat) : State :=
  s.modCtx c (fun x => { x with collSent := x.collSent ++ [{ slot := k.slot, level := l, phase := ph, shard := j }] })

/-- Record sent contributions on the running command, for a resend (R296). -/
def State.keepSent (s : State) (l : List (FabHdr × List Byte)) : State :=
  let g := s.engine 272
  s.setEngine 272 { g with running := g.running.map (fun r => { r with out := r.out ++ l, purlin := false }) }

/-- Member i folds shard j at a level. -/
def Coll.ownsAt (k : Coll) (l i j : Nat) : Bool := k.owner l i j == i && (l == 0 || k.owner (l - 1) i j == i)

/-- Messages that this member sends to member m over the whole collective: inputs, partial sums and results, or what it gathers. -/
def Coll.sendsTo (k : Coll) (x : Ctx) (m : Nat) : Nat :=
  if m = k.me then 0
  else if k.folds then
    sumList ((List.range k.shards).map (fun j =>
      (if k.owner0 k.me j = m then k.chunkTotal x 0 0 j else 0)
        + sumList ((List.range k.levels).map (fun l =>
            (if l + 1 < k.levels ∧ k.ownsAt l k.me j ∧ k.owner (l + 1) k.me j = m then k.chunkTotal x (l + 1) 0 j else 0)
              + (if k.owner l k.me j = k.me ∧ (k.parts l k.me j).contains m ∧ (l ≠ 0 ∨ k.needs x m j) then k.chunkTotal x l 1 j else 0)))))
  else if k.op = 0x54 ∨ (k.op = 0x53 ∧ k.me ≠ k.root) then 0
  else k.chunkTotal x 0 1 (if k.op = 0x53 then 0 else k.me)

/-- The header of message `sent` of `total` to one member: commands of at most 4,096 messages (R282), the last with flag 7; chunk `c` of `n`
goes to the member's place in the staging area (R314). -/
def State.contribHdr (s : State) (c : Nat) (r : Run) (k : Coll) (d n chunk sent total : Nat) : FabHdr :=
  let q := s.peerOf c d
  let i := sent % 4096
  let count := min 4096 (total - (sent - i)) - 1
  { FabHdr.zero with
    flags := if i = count then 0x80 else 0, roleEpoch := q.roleEpoch, srcCtx := c, dstCtx := q.ctx, srcCtxEpoch := s.epoch c,
    dstCtxEpoch := q.ctxEpoch, dstAddr := k.staging + (k.me * n + chunk) * 4096, srcSlot := r.slot, srcQueue := 272, msgIndex := i,
    msgCount := count, aux := (s.ctx c).layoutEpoch }

/-- Give one piece to a member: to oneself at once, to another member as contributions. -/
def State.givePiece (s : State) (c : Nat) (r : Run) (k : Coll) (dest l ph j : Nat) (ws : List Nat) : State :=
  let x := s.ctx c
  let bf := k.bf16 l ph
  let n := k.chunkTotal x l ph j
  let total := k.sendsTo x dest
  let parts := (List.range n).map (fun i => (ws.drop (i * perChunk bf)).take (perChunk bf))
  let d := nth 0 (x.members k.kind) dest
  parts.zipIdx.foldl (fun s p =>
    let data := packWords bf p.1
    if dest = k.me then
      s.modCtx c (fun x => { x with contribs := x.contribs ++ [{
        slot := k.slot, member := k.me, shard := j, chunk := p.2, level := l, phase := ph, step := x.step,
        layoutEpoch := x.layoutEpoch, opcode := k.op, kind := k.kind, elements := p.1.length, bf16 := bf, data := data, used := false }] })
    else
      let pre : Preamble := {
        step := x.step, member := k.me, slot := k.slot, kind := k.kind, level := l, abort := false, bf16 := bf, chunk := p.2,
        elements := p.1.length, opcode := k.op, lost := 0, shard := j, phase := ph }
      let sent := ((s.engine 272).running.map (fun r => (r.out.filter (fun m => m.1.dstDevice == d)).length)).getD 0
      let a := s.sendCommand d 0x10 [(s.contribHdr c r k d n p.2 sent total, pre.bytes ++ data)]
      a.1.keepSent a.2) s

/-! ### The fold (R311) -/

/-- Fold one element of the parts in order; the third value of a seal is an integer that saturates (R320). -/
def foldAt (k : Coll) (e : Nat) (l : List Nat) : Nat :=
  if k.op = 0x56 ∧ e = 2 then min 0xFFFFFFFF (sumList l)
  else match l with
    | [] => 0
    | a :: l => l.foldl fadd a

def foldPieces (k : Coll) (len : Nat) (l : List (List Nat)) : List Nat :=
  (List.range len).map (fun e => foldAt k e (l.map (fun p => nth 0 p e)))

/-- The result: the fold times f, rounded to BF16 where it travels so. -/
def Coll.finish (k : Coll) (l : List Nat) : List Nat :=
  if k.op = 0x56 then l
  else (l.map (fmul k.scale)).map (fun w => if k.wire then bf16Round w else w)

/-- The own input of shard j. -/
def State.inputOf (s : State) (c : Nat) (k : Coll) (j : Nat) : List Nat :=
  let x := s.ctx c
  let r := k.shard x j
  match k.op with
  | 0x56 => [x.statSmall, x.statBig, x.statNonfinite]
  | 0x57 => []
  | 0x52 => words 4 (s.engineBytes c k.src (4 * r.2))
  | _ => words 4 (s.engineBytes c (k.src + 4 * r.1) (4 * r.2))

/-- Send every shard of the own input to its owner. -/
def State.sendInputs (s : State) (c : Nat) (r : Run) (k : Coll) : State :=
  (List.range k.shards).foldl (fun s j =>
    if (s.ctx c).didSend k 0 0 j then s
    else (s.givePiece c r k (k.owner0 k.me j) 0 0 j (s.inputOf c k j)).noteSent c k 0 0 j) s

/-- Fold shard j at level l where it is owned here and every part is there: the partial sum goes up, the last one is the result. -/
def State.foldShard (s : State) (c : Nat) (r : Run) (k : Coll) (l j : Nat) : State :=
  let x := s.ctx c
  if k.owner l k.me j != k.me || x.didSend k l 3 j || (l ≠ 0 && k.owner (l - 1) k.me j != k.me) then s
  else
    let parts := (k.parts l k.me j).map (fun m => x.piece k m j l 0)
    if parts.any (fun p => p.isNone) then s
    else
      let y := foldPieces k (k.shard x j).2 (parts.filterMap id)
      let s := (s.noteSent c k l 3 j).countEvent 80 0x0201 (y.length * parts.length) (some c)
      if l + 1 = k.levels then s.givePiece c r k k.me l 1 j (k.finish y)
      else s.givePiece c r k (k.owner (l + 1) k.me j) (l + 1) 0 j y

def State.foldAll (s : State) (c : Nat) (r : Run) (k : Coll) : State :=
  (List.range k.levels).foldl (fun s l => (List.range k.shards).foldl (fun s j => s.foldShard c r k l j) s) s

/-- Return the result of shard j from its owner at level l to those that gave it parts. -/
def State.returnShard (s : State) (c : Nat) (r : Run) (k : Coll) (l j : Nat) : State :=
  let x := s.ctx c
  if k.owner l k.me j != k.me || x.didSend k l 1 j then s
  else match x.result k j with
    | none => s
    | some y =>
      let dest := (k.parts l k.me j).filter (fun m => m != k.me && (l ≠ 0 || k.needs x m j))
      (dest.foldl (fun s m => s.givePiece c r k m l 1 j y) s).noteSent c k l 1 j

def State.returnAll (s : State) (c : Nat) (r : Run) (k : Coll) : State :=
  (List.range k.levels).foldl (fun s l =>
    (List.range k.shards).foldl (fun s j => s.returnShard c r k (k.levels - 1 - l) j) s) s

/-- A gathered shard goes straight from its member to every other (assumption log 44). -/
def State.sendGathered (s : State) (c : Nat) (r : Run) (k : Coll) : State :=
  let x := s.ctx c
  let j := if k.op = 0x53 then 0 else k.me
  if (k.op = 0x53 && k.me != k.root) || k.op = 0x54 || x.didSend k 0 1 j then s
  else
    let y := s.inputOf c k j
    (((List.range k.size).foldl (fun s m => s.givePiece c r k m 0 1 j y) s)).noteSent c k 0 1 j

/-! ### Results in memory -/

/-- What member `me` stores of the result of shard j: address and words. -/
def Coll.store (k : Coll) (x : Ctx) (j : Nat) (y : List Nat) : Nat × List Nat :=
  let r := k.shard x j
  if k.op = 0x51 then
    let q := ceilDiv k.n (max 1 k.size)
    let lo := max r.1 (min (k.me * q) k.n)
    let hi := min (r.1 + r.2) (min ((k.me + 1) * q) k.n)
    (k.dst + 4 * (lo - k.me * q), (y.drop (lo - r.1)).take (hi - lo))
  else (k.dst + 4 * r.1, y)

/-- Elements as they are stored: folded ones as R86 and R87 state, gathered ones as they came. -/
def Coll.stored (k : Coll) (w : Nat) : Nat := if k.folds then fstore w else w

/-- Store the results that are there and not stored yet. Combine stores nothing before all are there. -/
def State.storeResults (s : State) (c : Nat) (k : Coll) : State :=
  if k.op ≥ 0x54 then s
  else (List.range k.shards).foldl (fun s j =>
    let x := s.ctx c
    if !k.needs x k.me j || x.didSend k 3 1 j then s
    else match x.result k j with
      | none => s
      | some y =>
        let p := k.store x j y
        (s.engineWrite c p.1 ((p.2.map k.stored).flatMap (leBytes 4))).noteSent c k 3 1 j) s

/-- Every result needed here is here, and everything owed is sent. -/
def Coll.done (k : Coll) (x : Ctx) : Bool :=
  let js := List.range k.shards
  if k.folds then
    js.all (fun j => (!k.needs x k.me j || (x.result k j).isSome)
      && (List.range k.levels).all (fun l => k.owner l k.me j != k.me || (l ≠ 0 && k.owner (l - 1) k.me j != k.me) || x.didSend k l 1 j))
  else js.all (fun j => (x.result k j).isSome)

/-! ### Statistics and the seal (R319, R320) -/

def countedParts (x : Ctx) (k : Coll) (j : Nat) : List (List Nat) := (k.parts 0 k.me j).filterMap (fun m => x.piece k m j 0 0)

/-- Words of chunk c. -/
def chunkOf (k : Coll) (c : Nat) (l : List Nat) : List Nat :=
  (l.drop (c * perChunk (k.bf16 0 0))).take (perChunk (k.bf16 0 0))

def squares (l : List Nat) : List Nat := l.map (fun w => fmul w w)

/-- The statistics of shard j as its first-level owner: small of a kind-1 collective, and the count of NaN and infinite elements. -/
def Ctx.statInputs (x : Ctx) (k : Coll) (j : Nat) : Ctx :=
  if k.owner0 k.me j != k.me then x
  else
    let parts := countedParts x k j
    let f := fmul (fofInt (x.gridR : Nat)) k.scale
    (List.range (k.chunkTotal x 0 0 j)).foldl (fun x c =>
      let l := parts.map (chunkOf k c)
      let small := l.foldl (fun a p => fadd a (orderedSum 64 (squares (p.map (fmul f))))) 0
      { x with
        statSmall := if k.kind = 1 then fadd x.statSmall small else x.statSmall,
        statNonfinite := min 0xFFFFFFFF (x.statNonfinite + sumList (l.map (fun p => (p.filter fNonfinite).length))) }) x

/-- The statistics of shard j as its last owner: big, over the scaled result. -/
def Ctx.statResult (x : Ctx) (k : Coll) (j : Nat) : Ctx :=
  if k.owner (k.levels - 1) k.me j != k.me then x
  else match x.result k j with
    | none => x
    | some y => (List.range (k.chunkTotal x 0 1 j)).foldl (fun x c =>
        { x with statBig := fadd x.statBig (orderedSum 64 (squares (chunkOf k c y))) }) x

def Ctx.addStats (x : Ctx) (k : Coll) : Ctx :=
  if k.counted && (k.op == 0x50 || k.op == 0x51) then
    (List.range k.shards).foldl (fun x j => (x.statInputs k j).statResult k j) x
  else x

/-- The record of Table 9-7 and its values. -/
structure SealOut where
  nonfinite : Nat
  small : Nat
  big : Nat
  gn : Nat
  g2 : Nat
  trSigma : Nat
  noise : Nat
  invalid : Bool
deriving DecidableEq, Repr

def positive (w : Nat) : Bool := flt 0 w

def sealOut (r tokens micro : Nat) (y : List Nat) : SealOut :=
  let rf := fofInt (r : Nat)
  let r1 := fofInt ((r : Int) - 1)
  let small := fmul (nth 0 y 0) (frecip rf)
  let big := nth 0 y 1
  let b := fofInt ((tokens * micro : Nat) : Int)
  let g2 := fdiv (fsub (fmul rf big) small) r1
  let tr := fdiv (fmul (fmul b rf) (fsub small big)) r1
  let bad := r == 1 || !positive g2 || !positive tr
  { nonfinite := nth 0 y 2, small := small, big := big, gn := fsqrt big, g2 := g2, trSigma := tr,
    noise := if bad then 0 else fdiv tr g2, invalid := bad }

/-- An average follows a valid step. -/
def average (alpha old new : Nat) : Nat := fadd (fmul alpha old) (fmul (fsub f32One alpha) new)

/-- The seal of the step: averages, the record at aux_addr and in object 0x4208.01, gn and nonfinite for the update engines. -/
def State.sealStep (s : State) (c : Nat) (k : Coll) (y : List Nat) : State :=
  let x := s.ctx c
  let o := sealOut x.gridR x.tokens x.micro y
  let skipped := o.nonfinite != 0 && s.num 0x2202 1 == 1
  let keep := o.invalid || skipped
  let a := s.num 0x4207 1
  let g := if keep then x.g2Ema else if x.emaValid then average a x.g2Ema o.g2 else o.g2
  let t := if keep then x.trEma else if x.emaValid then average a x.trEma o.trSigma else o.trSigma
  let b := leBytes 64 (packFields [(64, s.stamp), (32, x.step), (16, x.layoutEpoch), (16, 0), (32, o.nonfinite), (32, o.small),
    (32, o.big), (32, o.gn), (32, o.g2), (32, o.trSigma), (32, o.noise), (32, g), (32, t), (32, fdiv t g), (32, x.gridR), (30, 0),
    (1, b2n o.invalid), (1, b2n skipped)])
  let s := s.setCtx c { x with
    g2Ema := g, trEma := t, emaValid := x.emaValid || !keep, gn := o.gn, nonfinite := o.nonfinite }
  (s.engineWrite c k.aux b).setObj 0x4208 1 (.blob b)

/-! ### Experts (R309) -/

/-- Route table entry of token t and choice j. -/
def State.routeAt (s : State) (c : Nat) (k : Coll) (t j : Nat) : Nat × Nat :=
  let w := leNat (s.engineBytes c (k.aux + 8 * (t * (s.ctx c).topK + j)) 8)
  (bits w 63 48, bits w 31 0)

/-- Assignments in order of choice rank, then token: (token, rank, expert). -/
def State.assignments (s : State) (c : Nat) (k : Coll) : List (Nat × Nat × Nat) :=
  (List.range (s.ctx c).topK).flatMap (fun j => (List.range k.n).map (fun t => (t, j, (s.routeAt c k t j).1)))

/-- The accepted assignments of an expert, in order, and those dropped. -/
def State.accepted (s : State) (c : Nat) (k : Coll) (e : Nat) : List (Nat × Nat × Nat) × Nat :=
  let l := (s.assignments c k).filter (fun a => a.2.2 == e)
  let n := (s.ctx c).expertRows k.n
  (l.take n, l.length - n)

/-- Dispatch: C rows for each local expert, unused rows zero; assignments that find an expert full are counted (assumption log 45). -/
def State.dispatch (s : State) (c : Nat) (k : Coll) : State :=
  let x := s.ctx c
  let cap := x.expertRows k.n
  (List.range (x.localExperts x.gridPos)).foldl (fun s i =>
    let a := s.accepted c k (8 * i + x.gridPos)
    let rows := a.1.map (fun p => s.engineBytes c (k.src + p.1 * k.rowBytes) k.rowBytes)
    let s := s.engineWrite c (k.dst + i * cap * k.rowBytes) (fitBytes (cap * k.rowBytes) rows.flatten)
    if a.2 = 0 then s else s.bumpBy 0x4210 5 a.2) s

/-- One token of the combine: the weighted rows of its accepted choices in ascending rank. -/
def State.combineToken (s : State) (c : Nat) (k : Coll) (shards : List (List Nat)) (places : List (List (Nat × Nat × Nat))) (t : Nat) :
    List Nat :=
  let x := s.ctx c
  let cap := x.expertRows k.n
  let n := k.rowBytes / 4
  let terms := (List.range x.topK).filterMap (fun j =>
    let r := s.routeAt c k t j
    ((nth [] places r.1).findIdx? (fun p => p.1 == t && p.2.1 == j)).map (fun i =>
      (((nth [] shards (r.1 % 8)).drop ((r.1 / 8 * cap + i) * n)).take n).map (fmul r.2)))
  match terms with
  | [] => List.replicate n 0
  | a :: l => l.foldl (fun a b => List.zipWith fadd a b) a

def State.combine (s : State) (c : Nat) (k : Coll) : State :=
  let x := s.ctx c
  let shards := (List.range k.size).map (fun j => (x.result k j).getD [])
  let places := (List.range x.experts).map (fun e => (s.accepted c k e).1)
  (List.range k.n).foldl (fun t i =>
    t.engineWrite c (k.dst + i * k.rowBytes) (((s.combineToken c k shards places i).map fstore).flatMap (leBytes 4))) s

/-! ### A running collective -/

/-- Staging bytes a command needs (R312). -/
def Coll.stagingNeed (k : Coll) : Nat :=
  if k.op = 0x50 ∨ k.op = 0x51 then
    let need := k.size * ceilDiv (ceilDiv k.n (max 1 k.size)) 1016 * 4096
    if k.wire then need / 2 else need
  else 0

/-- The command agrees with the collective plan (R313). -/
def Ctx.planOk (x : Ctx) (k : Coll) : Bool :=
  match x.collPlan.find? (fun e => e.slot == k.slot) with
  | none => false
  | some e => e.opcode == k.op && e.kind == k.kind && decide (k.n ≤ e.nMax) && decide (k.stagingNeed ≤ e.staging)

/-- An accepted contribution disagrees with the command (R317). -/
def Coll.disagrees (k : Coll) (x : Ctx) (q : Contrib) : Bool :=
  !q.used && q.slot == k.slot && q.step == x.step && q.layoutEpoch == x.layoutEpoch
    && (q.opcode != k.op || q.kind != k.kind || q.bf16 != k.bf16 q.level q.phase || decide (k.shards ≤ q.shard)
        || q.elements != k.chunkElems x q.level q.phase q.shard q.chunk)

/-- The ranges that a collective reads and writes. -/
def Coll.accesses (k : Coll) (x : Ctx) : List Access :=
  let q := ceilDiv k.n (max 1 k.size)
  let route := 8 * k.n * x.topK
  match k.op with
  | 0x50 => [rd (k.src, 4 * k.n), wr (k.dst, 4 * k.n)]
  | 0x51 => [rd (k.src, 4 * k.n), wr (k.dst, 4 * (min ((k.me + 1) * q) k.n - min (k.me * q) k.n))]
  | 0x52 => [rd (k.src, 4 * (k.shard x k.me).2), wr (k.dst, 4 * k.n)]
  | 0x53 => (if k.me = k.root then [rd (k.src, 4 * k.n)] else []) ++ [wr (k.dst, 4 * k.n)]
  | 0x54 => [rd (k.src, k.n * k.rowBytes), rd (k.aux, route), wr (k.dst, x.localExperts x.gridPos * x.expertRows k.n * k.rowBytes)]
  | 0x55 => [rd (k.src, 4 * (k.shard x x.gridPos).2), rd (k.aux, route), wr (k.dst, k.n * k.rowBytes)]
  | 0x56 => [wr (k.aux, 64)]
  | _ => []

/-- A member that is lost: in peer-reset state, without a path, or named by an abort (R326, R329). -/
def State.lostMember (s : State) (c : Nat) (k : Coll) : Option Nat :=
  let x := s.ctx c
  match x.aborts.find? (fun a => a.1 == k.slot && a.2.1 == x.step) with
  | some a => some a.2.2
  | none => if k.op = 0x54 then none else ((x.members k.kind).filter (fun d => d != s.deviceId)).find? (fun d =>
      s.inPeerReset d || ((s.upLinks d).isEmpty && s.upPorts.isEmpty))

/-- A barrier of kind 3 under the new layout ends a re-shard (R328, step 4). -/
def State.endReshard (s : State) (c : Nat) (k : Coll) : State :=
  if (s.ctx c).reshard = 4 && k.op == 0x57 && k.kind == 3 then
    (((s.modCtx c (fun x => { x with reshard := 0 })).bump 0x4210 7).signal 239 (some c)).admitTest
  else s

/-- The contributions of a completed collective have served: their data goes, their eight values stay (R316). -/
def Ctx.spend (x : Ctx) (slot : Nat) : Ctx :=
  { x with
    contribs := x.contribs.map (fun q => if q.slot = slot ∧ q.step = x.step then q.spent else q),
    collSent := x.collSent.filter (fun q => q.slot != slot) }

/-- The collective ends: what it computes last, its statistics, its completion. -/
def State.endColl (s : State) (c : Nat) (r : Run) (k : Coll) : State :=
  let s := match k.op with
    | 0x54 => s.dispatch c k
    | 0x55 => s.combine c k
    | 0x56 => s.sealStep c k (((s.ctx c).result k 0).getD [])
    | _ => s
  let s := s.modCtx c (fun x => (x.addStats k).spend k.slot)
  let s := s.modCtx c (fun x => if k.op = 0x56 then { x with sealed := true, sealCode := 0 } else x)
  ((s.bump 0x4210 1).endWith 272 r 0).endReshard c k

/-- It ends with an error; a seal counts as completed with the code. -/
def State.failColl (s : State) (r : Run) (k : Coll) (code : Nat) : State :=
  let s := if k.op = 0x56 then s.modCtx r.ctx (fun x => { x with sealed := true, sealCode := code }) else s
  s.endAccess 272 r code

/-- The exchange as far as it can go now. -/
def State.exchange (s : State) (c : Nat) (r : Run) (k : Coll) : State :=
  let s := if k.folds then ((s.sendInputs c r k).foldAll c r k).returnAll c r k else s.sendGathered c r k
  s.storeResults c k

/-- The running collective goes on: it sends what it owes, folds what is there, stores what has come, and completes with all of it;
else it awaits contributions. -/
def State.runColl (s : State) (r : Run) (diag : Option Diag) : State :=
  let c := r.ctx
  let x := s.ctx c
  let k := collOf x r.cmd
  if !x.planOk k || x.contribs.any (k.disagrees x) then s.failColl r k 0x0312
  else
    let code := s.worstFault .reduce c (k.accesses x)
    if code != 0 then s.failColl r k code
    else match s.lostMember c k with
      | some d => s.memberLost c r.slot r.cmd d
      | none =>
        match diag with
        | some (.memory p a) =>
          let m := s.memoryError p a (some c)
          if m.2 then m.1.failColl r k 0x0233 else m.1
        | some _ =>
          let s := if k.op = 0x56 then s.modCtx c (fun x => { x with sealed := true, sealCode := 0x0115 }) else s
          s.endMismatch 272 r 0x0115
        | none =>
          let s := s.exchange c r k
          if k.done (s.ctx c) then
            match (s.engine 272).running with
            | some r => s.endColl c r k
            | none => s
          else
            let g := s.engine 272
            s.setEngine 272 { g with running := g.running.map (fun r =>
              if r.await = .contributions then r else { r with await := .contributions, waitFrom := s.stamp }) }

/-- The frame of a collective's meaning: the run of the row's opcode on engine 272, whether or not it awaits contributions. -/
def State.onColl (s : State) (op : Nat) (diag : Option Diag) : State :=
  s.whenUp fun s =>
    match (s.engine 272).running with
    | none => s
    | some r =>
      if isOp op r.cmd then
        match r.failed with
        | some code => s.endWith 272 r code
        | none => s.runColl r diag
      else s

/-- ALL_REDUCE (R311). -/
def execAllReduce (dt : Nat) (diag : Option Diag) (s : State) : Host.Outcome State Fault Refusal :=
  .next ((s.elapse dt).onColl 0x50 diag)

/-- REDUCE_SCATTER (R311). -/
def execReduceScatter (dt : Nat) (diag : Option Diag) (s : State) : Host.Outcome State Fault Refusal :=
  .next ((s.elapse dt).onColl 0x51 diag)

/-- ALL_GATHER (R310). -/
def execAllGather (dt : Nat) (diag : Option Diag) (s : State) : Host.Outcome State Fault Refusal :=
  .next ((s.elapse dt).onColl 0x52 diag)

/-- BROADCAST (R310). -/
def execBroadcast (dt : Nat) (diag : Option Diag) (s : State) : Host.Outcome State Fault Refusal :=
  .next ((s.elapse dt).onColl 0x53 diag)

/-- EXPERT_DISPATCH (R309). -/
def execExpertDispatch (dt : Nat) (diag : Option Diag) (s : State) : Host.Outcome State Fault Refusal :=
  .next ((s.elapse dt).onColl 0x54 diag)

/-- EXPERT_COMBINE (R309). -/
def execExpertCombine (dt : Nat) (diag : Option Diag) (s : State) : Host.Outcome State Fault Refusal :=
  .next ((s.elapse dt).onColl 0x55 diag)

/-- STEP_SEAL (R320). -/
def execStepSeal (dt : Nat) (diag : Option Diag) (s : State) : Host.Outcome State Fault Refusal :=
  .next ((s.elapse dt).onColl 0x56 diag)

/-- BARRIER (R310). -/
def execBarrier (dt : Nat) (diag : Option Diag) (s : State) : Host.Outcome State Fault Refusal :=
  .next ((s.elapse dt).onColl 0x57 diag)

/-! ### Contributions (R316, R317, R326) -/

def contribOf (p : Preamble) (layout : Nat) (data : List Byte) : Contrib :=
  { slot := p.slot, member := p.member, shard := p.shard, chunk := p.chunk, level := p.level, phase := p.phase, step := p.step,
    layoutEpoch := layout, opcode := p.opcode, kind := p.kind, elements := p.elements, bf16 := p.bf16,
    data := data.take (p.elements * (if p.bf16 then 2 else 4)), used := false }

/-- The eight values of R316. -/
def Contrib.same (a b : Contrib) : Bool :=
  a.slot == b.slot && a.member == b.member && a.shard == b.shard && a.chunk == b.chunk && a.level == b.level && a.phase == b.phase
    && a.step == b.step && a.layoutEpoch == b.layoutEpoch

/-- The collective of a slot in the step of a context: running or parked, as (slot number, command). -/
def State.liveColl (s : State) (c slot : Nat) : Option (Nat × Cmd) :=
  let l := ((s.runsOf c).filter (fun e => e.1 == 272)).map (fun e => (e.2.slot, e.2.cmd))
    ++ (s.ctx c).parked.filterMap (fun p => if p.queue = 272 then p.run.map (fun r => (r.slot, r.cmd)) else none)
  l.find? (fun m => collSlot m.2 == slot && decide (0x50 ≤ m.2.opcode))

/-- An abort: the collective of its slot loses the member, or will as it starts (R326). -/
def State.onAbort (s : State) (c : Nat) (p : Preamble) : State :=
  let x := s.ctx c
  if x.aborts.contains (p.slot, p.step, p.lost) then s
  else
    let s := s.setCtx c { x with aborts := x.aborts ++ [(p.slot, p.step, p.lost)] }
    if p.step != x.step then s
    else match s.liveColl c p.slot with
      | some m => s.memberLost c m.1 m.2 p.lost
      | none => s

/-- An accepted contribution wakes the collective that awaits it through its slot (R252, Table 8-9). -/
def State.wakeColl (s : State) (c : Nat) (h : FabHdr) (p : Preamble) : State :=
  s.fillSlot c (0x0480 + p.slot) { value := h.value, code := 0, device := h.srcDevice, ctx := h.srcCtx, slot := h.srcSlot }
    |>.wakeParked c (fun q => q.kind == 2 && q.mortise == 0x0480 + p.slot) s.stamp 0

/-- A contribution that passed checks 1 to 8: check 9 over the bytes of its elements, whatever its collective and phase; then the discards of
R316 and R317, before any byte is written; then its elements land (R314). -/
def State.takeContribution (s : State) (h : FabHdr) (b : List Byte) : State :=
  let c := h.dstCtx
  let p := Preamble.parse b
  let code := if b.length ≤ 32 then 0 else s.accessCode .remote c h.dstAddr (b.length - 32) true
  if code != 0 then (s.countTranslation code).refuse 0x10 h code
  else if h.mortise > 0x03FF ∧ h.mortise ≠ 0xFFFF then s.refuse 0x10 h 0x0306
  else
    let s := (s.markSeq h).bump 0x4110 2
    let x := s.ctx c
    let q := contribOf p h.aux (b.drop 32)
    if h.aux != x.layoutEpoch then s.bump 0x4210 3
    else if p.abort then s.onAbort c p
    else if x.contribs.any (fun y => y.same q) then s.bump 0x4210 2
    else
      let s := s.setCtx c { x with contribs := x.contribs ++ [q] }
      let s := s.putBytes c h.dstAddr q.data
      let s := s.countEvent 80 0x0202 1 (some c)
      s.wakeColl c h p

/-- CONTRIBUTION (R316). -/
def execContribution (dt : Nat) (via : Via) (msg : FabMsg) (s : State) : Host.Outcome State Fault Refusal :=
  .next ((s.elapse dt).receive 0x10 via msg fun s h b => s.takeContribution h b)

/-! ### Dovetailing (R324) -/

/-- End the pairing of the device. -/
def State.unpair (s : State) : State :=
  { s with ctxs := Assoc.mapVals Ctx.undefined (fun _ x => { x with dovetail := none, isGuest := false }) s.ctxs }

/-- The pairing is refused (assumption log 46). -/
def State.pairRefused (s : State) (host guest : Nat) : Bool :=
  let x := s.ctx host
  let y := s.ctx guest
  s.num 0x4203 1 = 0 || !x.defined || !y.defined || host == guest || !x.hostBit || decide (8 < x.gridP) || s.guaranteedClass y.slotClass

/-- A write of a pair to 0x4203.02. -/
def State.actPair (s : State) (host guest : Nat) : State × Nat :=
  if s.pairRefused host guest then (s.setCnt 0x4203 3 0x0432, 0x0432)
  else
    let s := (s.unpair.modCtx host (fun x => { x with dovetail := some guest })).modCtx guest (fun x => { x with dovetail := some host, isGuest := true })
    (s.setCnt 0x4203 3 0, 0)

/-- DOVETAIL_PAIR (R324). -/
def execDovetailPair (dt host guest : Nat) (s : State) : Host.Outcome State Fault Refusal :=
  .next ((s.elapse dt).whenUp fun s => (s.actPair host guest).1)

/-- DOVETAIL_UNPAIR (R324). -/
def execDovetailUnpair (dt : Nat) (s : State) : Host.Outcome State Fault Refusal :=
  .next ((s.elapse dt).whenUp fun s => s.unpair.setCnt 0x4203 3 0)

/-! ### Re-shard (R327) -/

/-- A block written to 0x4204.01. -/
def State.actReshard (s : State) (block : List Byte) (place : Placement) : State :=
  let k := reshardOf block
  let x := s.ctx k.ctx
  if (x.state != 2 && x.state != 3) || x.reshard != 0 then s
  else
    let want := (x.layoutEpoch + 1) % 65536
    let n := setBits (leNat (fitBytes 32 block)) 171 156 want
    let s := if k.epoch = want ∧ block.length = 32 then s else s.bump 0x4210 6
    (s.setCtx k.ctx { x with reshard := 1, reshardBlock := leBytes 32 n, reshardPlace := place }).startReshard k.ctx

/-- RESHARD (R328). -/
def execReshard (dt : Nat) (block : List Byte) (place : Placement) (s : State) : Host.Outcome State Fault Refusal :=
  .next ((s.elapse dt).whenUp fun s => s.actReshard block place)

/-- MAPPING_COUNTERS_CLEAR (R331). -/
def execMappingCountersClear (dt v : Nat) (s : State) : Host.Outcome State Fault Refusal :=
  .next ((s.elapse dt).whenUp fun s => s.execClear 0x4211 v)

end Sys2Proof.Machine
end

