-- ==== Sys2Proof/Machine/Power.lean ====
section
/-! DEFINITION. Power (R434 to R459): clocks and voltages, power states, the energy ledger, the governor and ballast, and the
limits of Table 14-3. Energies are exact, in mJ; powers in W. -/

namespace Sys2Proof.Machine

/-! ### Clips (R451) -/

/-- Clip reasons in force (object 0x6004.06). -/
def State.clipReasons (s : State) : Nat :=
  let t := decide (s.power.edgeTherm.limit < 2100) || (List.range 4).any (fun d => decide ((s.die d).therm.limit < 2100))
  let w := (List.range 4).any (fun d => decide ((s.die d).wear < 2100))
  b2n (decide (s.power.band < 2100)) + 2 * b2n (decide (s.power.elec < 2100)) + 4 * b2n t + 8 * b2n w + 16 * b2n s.power.shed

/-- One clip step was taken (R451). -/
def State.noteClip (s : State) : State := s.stopBallast.bump 0x6040 1

/-- CLOCK_RAISE_AFTER_SETTLE (R437). -/
def execClockRaiseAfterSettle (dt die : Nat) (s : State) : Host.Outcome State Fault Refusal :=
  .next ((s.elapse dt).whenUp fun s =>
    let x := s.die die
    if x.settle && decide (die < 4) then s.setDie die { x with clock := s.dieLimit die, settle := false } else s)

/-! ### Shed (R453) -/

/-- Causes of shed: 1 electrical, 2 regulator under-voltage, 10 + d the trip of die d. -/
def tripCause (d : Nat) : Nat := 10 + d

/-- Enter shed, or add a cause to it; none is SHED_N. -/
def State.enterShed (s : State) (cause : Option Nat) : State :=
  let s := s.stopBallast
  let s := match cause with
    | none => ({ s with power := { s.power with shed := true, shedPin := true } } : State)
    | some k =>
      if s.power.shedCauses.contains k then s
      else ({ s with power := { s.power with shed := true, shedCauses := s.power.shedCauses ++ [k] } } : State).bump 0x6040 6
  s.applyClocks

/-- Note the moment at which the last internal cause went. -/
def State.noteClear (s : State) : State :=
  if s.power.shedCauses.isEmpty then { s with power := { s.power with shedClearSince := s.stamp } } else s

def State.clearCause (s : State) (k : Nat) : State :=
  if s.power.shedCauses.contains k then
    ({ s with power := { s.power with shedCauses := s.power.shedCauses.filter (· != k) } } : State).noteClear
  else s

/-- A hardware safety action works in every phase but a cold reset and P3, in which no unit that it acts on is powered (R510). -/
def State.whenSafe (s : State) (f : State → State) : State :=
  match s.boot.phase with
  | .coldReset | .p3 => s
  | _ => f s

/-- SHED_N_ASSERT (R453): a hardware path. Its source is an always-on one and signals in P3 too (R420). -/
def execShedNAssert (dt : Nat) (s : State) : Host.Outcome State Fault Refusal :=
  let s := s.elapse dt
  let s := { s with pins := { s.pins with shedN := false } }
  .next (match s.boot.phase with
    | .coldReset => s
    | _ => if s.power.shedPin then s else ((s.enterShed none).bump 0x6040 5).signal 3 none)

/-- SHED_N_DEASSERT (R453): shed may end as soon as no internal cause stands in its way. -/
def execShedNDeassert (dt : Nat) (s : State) : Host.Outcome State Fault Refusal :=
  let s := s.elapse dt
  .next { s with pins := { s.pins with shedN := true }, power := { s.power with shedPin := false } }

/-! ### The ledger (R442, R443) -/

/-- The mean of the first n of a list, 0 for none. -/
def meanOf (n : Nat) (l : List Rat) : Rat :=
  let t := l.take n
  if t.isEmpty then 0 else t.foldl (· + ·) 0 / (t.length : Nat)

/-- The 1 ms mean of the package power, D of R447, and W10 of R448. -/
def State.mean1ms (s : State) : Rat := meanOf 1000 s.power.windows
def State.meanWork (s : State) : Rat := meanOf 1000 s.power.workWindows
def State.work10 (s : State) : Rat := meanOf 10 s.power.workWindows

/-- SHED_END (R453). -/
def execShedEnd (dt : Nat) (s : State) : Host.Outcome State Fault Refusal :=
  .next ((s.elapse dt).whenUp fun s =>
    let p := s.power
    if p.shed && !p.shedPin && p.shedCauses.isEmpty && decide (p.shedClearSince + 10 * ms ≤ s.stamp) then
      (({ s with power := { p with shed := false, shedL3 := false, shedOver := none, g := s.meanWork } } : State).applyClocks).admitTest
    else s)

/-- Accounts beside the contexts. -/
def ballastAccount : Nat := 4096
def idleAccount : Nat := 4097

/-- The scale of a die's estimators. -/
def State.estScale (s : State) (d : Nat) : Rat := frat (s.num 0x6112 (d + 1)) * (s.die d).kCorr

/-- An estimate in nJ, in mJ. -/
def nano (n : Nat) : Rat := (n : Rat) / 1000000

/-- An account of a context that is not defined is idle's. -/
def State.account (s : State) (a : Nat) : Nat := if a = ballastAccount ∨ (a < 4096 ∧ (s.ctx a).defined) then a else idleAccount

/-- The charges of a window: (account, mJ). -/
def State.shares (s : State) (e : Estimates) : List (Nat × Rat) :=
  e.dyn.map (fun x => (s.account x.2.1, nano x.2.2 * s.estScale x.1))
    ++ e.stat.zipIdx.map (fun x => (idleAccount, nano x.1 * s.estScale x.2))
    ++ e.traffic.map (fun x => (s.account x.1,
        (Config.hbmEnergy * (x.2.1 : Nat) + Config.sillEnergy * (x.2.2.1 : Nat) + Config.linkEnergy * (x.2.2.2 : Nat)) / 1000000))
    ++ [(idleAccount, nano e.base)]

def sumOf (l : List (Nat × Rat)) (p : Nat → Bool) : Rat := l.foldl (fun a x => if p x.1 then a + x.2 else a) 0

/-- The energy of beam die d in the window. -/
def State.beamShare (s : State) (e : Estimates) (d : Nat) : Rat :=
  (e.dyn.foldl (fun a x => if x.1 = d then a + nano x.2.2 else a) (nano (nth 0 e.stat d))) * s.estScale d

/-- Charge the contexts: since creation, and for the step from its admission to its close (R444). -/
def State.chargeContexts (s : State) (l : List (Nat × Rat)) : State :=
  { s with ctxs := Assoc.mapVals Ctx.undefined (fun c x =>
      let v := sumOf l (· == c)
      { x with stats := { x.stats with energy := x.stats.energy + v,
                                       stepEnergy := if x.inStep then x.stats.stepEnergy + v else x.stats.stepEnergy } }) s.ctxs }

/-- Add a window to the accounts. -/
def State.addWindow (s : State) (e : Estimates) : State :=
  let l := s.shares e
  let total := sumOf l (fun _ => true)
  let idle := sumOf l (· == idleAccount)
  let bal := sumOf l (· == ballastAccount)
  let dies := (List.range 4).map (s.beamShare e)
  let s := (s.chargeContexts l)
  let s := (List.range 4).foldl (fun s d => s.setDie d { s.die d with beam10 := (s.die d).beam10 + nth 0 dies d }) s
  let p := s.power
  let w := (total * 1000 :: p.windows).take 1000
  let m := meanOf 1000 w
  let clip := s.clipReasons % 16 != 0
  { s with power := { p with
      windows := w, workWindows := ((total - bal) * 1000 :: p.workWindows).take 1000,
      ePackage := p.ePackage + total, eIdle := p.eIdle + idle, eBallast := p.eBallast + bal, eCtx := p.eCtx + (total - idle - bal),
      cPackage := p.cPackage + total, cIdle := p.cIdle + idle, cBallast := p.cBallast + bal, cCtx := p.cCtx + (total - idle - bal),
      cMax := max p.cMax m, cMin := some (p.cMin.elim m (fun x => min x m)),
      cClip := p.cClip + b2n clip, cShed := p.cShed + b2n p.shed,
      cMinClock := (List.range 4).foldl (fun a d => min a (s.die d).clock) p.cMinClock } }

/-! ### The electrical limit (Table 14-3) -/

/-- Since when a condition has held. -/
def sinceWhen (on : Bool) (now : Nat) (t : Option Nat) : Option Nat := if on then some (t.getD now) else none
def heldFor (t : Option Nat) (now n : Nat) : Bool := t.elim false (fun t => decide (t + n ≤ now))

/-- What of the condition is kept over time: the 100 µs mean above P_s. -/
def State.trackMean (s : State) : State :=
  let above := decide (s.ratedPower < meanOf 100 s.power.windows)
  { s with power := { s.power with
      aboveMeanSince := sinceWhen above s.stamp s.power.aboveMeanSince,
      over40 := (if above then s.power.over40 ++ [s.stamp] else s.power.over40).filter (fun t => decide (s.stamp < t + 40 * ms)) } }

def State.elecCondition (s : State) : Bool :=
  let p := s.power
  decide (3600 < nth 0 p.windows 0) || p.aboveMeanSince.elim false (fun t => decide (t + 10 * ms < s.stamp))
    || decide (10000 < p.over40.length) || (List.range 4).any (fun d => decide (950000 < (s.die d).current)) || p.vrOver

/-- Stage 1: one step every 5 µs. -/
def State.elecClip (s : State) : State :=
  let p := s.power
  let first := !p.elecStage1
  let s := { s with power := { p with elecStage1 := true, elecSince := if first then some s.stamp else p.elecSince } }
  let s := if first then (s.signal 6 none).bump 0x6040 2 else s
  if (first || decide (p.elecLastStep + 5 * us ≤ s.stamp)) && decide (1050 < p.elec) then
    (({ s with power := { s.power with elec := p.elec - 25, elecLastStep := s.stamp } } : State).noteClip).applyClocks
  else s

/-- Stage 2: the cap on admission. -/
def State.elecCap (s : State) : State :=
  let p := s.power
  if p.pElec.isNone && (heldFor p.elecSince s.stamp ms || p.elec == 1050) then
    (({ s with power := { p with pElec := some (s.ratedPower * 19 / 20) } } : State).bump 0x6040 7).admitTest
  else s

/-- Stage 3: shed. -/
def State.elecShed (s : State) : State :=
  let p := s.power
  let low := p.elec == 1050
  let p := { p with
    above36Since := sinceWhen (low && decide (3600 < nth 0 p.windows 0)) s.stamp p.above36Since,
    aboveAt1050 := sinceWhen (low && p.aboveMeanSince.isSome) s.stamp p.aboveAt1050 }
  let s := { s with power := p }
  if heldFor p.above36Since s.stamp (20 * us) || heldFor p.aboveAt1050 s.stamp ms then s.enterShed (some 1) else s

/-- Release: a step up per 100 µs, and the cap's end. -/
def State.elecRelease (s : State) : State :=
  let p := s.power
  let s := s.clearCause 1
  let p : Power := { s.power with
    elecStage1 := false, elecSince := none, above36Since := none, aboveAt1050 := none,
    elecClear := if p.elecStage1 then s.stamp else p.elecClear,
    elecLastStep := if p.elecStage1 then s.stamp else p.elecLastStep }
  let s := { s with power := p }
  let s := if p.elec < 2100 ∧ p.elecLastStep + 100 * us ≤ s.stamp
           then ({ s with power := { p with elec := p.elec + 25, elecLastStep := s.stamp } } : State).applyClocks else s
  if p.pElec.isSome && decide (p.elecClear + 100 * ms ≤ s.stamp)
  then ({ s with power := { s.power with pElec := none } } : State).admitTest else s

def State.electrical (s : State) : State :=
  let s := s.trackMean
  if s.elecCondition then ((s.elecClip).elecCap).elecShed else s.elecRelease

/-- Level 4 runs on some engine. -/
def State.level4Runs (s : State) : Bool :=
  s.engines.any (fun e => e.1 != 273 && e.2.running.elim false (fun r => decide (4 ≤ s.runRank e.1 r)))

/-- Shed above the shed power for 100 µs suspends level 3 too (R453). -/
def State.shedDeep (s : State) : State :=
  let p := s.power
  if !p.shed then s
  else
    let overs := decide (((s.num 0x6011 5 : Nat) : Rat) < nth 0 p.windows 0) && !s.level4Runs
    let t := sinceWhen overs s.stamp p.shedOver
    { s with power := { p with shedOver := t, shedL3 := p.shedL3 || heldFor t s.stamp (100 * us) } }

/-- LEDGER_WINDOW (R442). -/
def execLedgerWindow (dt : Nat) (est : Estimates) (s : State) : Host.Outcome State Fault Refusal :=
  .next ((s.elapse dt).whenUp fun s =>
    let bal := s.bays.any (fun b => b.2.ballast)
    let s := (s.addWindow est).noteResident
    let s := if bal then s.bump 0x6040 0x0C else s
    s.electrical.shedDeep)

/-- The correction factor after a reading (R443): `i` in mA. -/
def State.correction (s : State) (d : Nat) (i : Rat) : State × Rat :=
  let x := s.die d
  let clampK := fun (k : Rat) => max (4 / 5) (min (5 / 4) k)
  if x.beam10 = 0 then
    let u := s.draw
    (u.1, clampK (x.kCorr + (Config.freeRatio u.2 - x.kCorr) / 16))
  else (s, clampK (x.kCorr + ((x.voltage : Nat) * i / 100000000 / x.beam10 - x.kCorr) / 16))

/-- AVS_CURRENT_READ (R436, R443): a raw current in mA, or a frame whose CRC failed. -/
def execAvsCurrentRead (dt rail : Nat) (frame : Option Nat) (s : State) : Host.Outcome State Fault Refusal :=
  .next ((s.elapse dt).whenUp fun s =>
    if 3 < rail then s
    else
      let x := s.die rail
      match frame with
      | none =>
        let s := s.bump 0x6040 0x0A
        let n := x.failRun + 1
        if 16 ≤ n ∧ !x.frozen then (s.setDie rail { x with failRun := n, frozen := true }).signal 4 none
        else s.setDie rail { x with failRun := n }
      | some raw =>
        let i : Rat := frat (s.num 0x6111 (rail + 1)) * (raw : Nat) + (toSigned 32 (s.num 0x6111 (rail + 5)) : Int)
        let x := { x with failRun := 0, current := (i.floor).toNat }
        if x.frozen then s.setDie rail { x with beam10 := 0 }
        else
          let k := s.correction rail i
          k.1.setDie rail { x with kCorr := k.2, beam10 := 0 })

/-! ### The band (R447 to R449) -/

def State.govPower (s : State) : Rat := min ((s.num 0x6011 1 : Nat) : Rat) (min (s.power.pElec.getD 3600) (s.power.pTherm.getD 3600))

/-- GOVERNOR_UPDATE (R447). -/
def execGovernorUpdate (dt : Nat) (s : State) : Host.Outcome State Fault Refusal :=
  .next ((s.elapse dt).whenUp fun s =>
    let r : Rat := (s.num 0x6011 3 : Nat)
    let floor : Rat := (s.num 0x6011 2 : Nat)
    let g := s.power.g
    let hi := if r = 0 then s.govPower else min s.govPower (g + r / 10)
    let lo := if s.num 0x6011 4 = 0 then 0 else if r = 0 then floor else max floor (g - r / 10)
    { s with power := { s.power with g := min (max s.meanWork lo) hi } })

/-- BAND_CHECK (R448): `stepPower` is the ledger's estimate of one step's power, in mW. -/
def execBandCheck (dt stepPower : Nat) (s : State) : Host.Outcome State Fault Refusal :=
  .next ((s.elapse dt).whenUp fun s =>
    let top := s.power.g * 51 / 50
    let overs := (decide (top < s.meanWork) && decide (top < s.work10)) || decide (((s.num 0x6011 1 : Nat) : Rat) < s.mean1ms)
    if overs then
      if s.power.band ≤ 1050 then s.bump 0x6040 0x0B
      else (({ s with power := { s.power with band := s.power.band - 25 } } : State).noteClip).applyClocks
    else if s.stamp % 400000 = 0 ∧ s.power.band < 2100 ∧ s.meanWork ≤ top ∧ s.work10 + (stepPower : Nat) / 1000 ≤ top then
      ({ s with power := { s.power with band := s.power.band + 25 } } : State).applyClocks
    else s)

/-- The engines of a bay have a running or ready command. -/
def State.bayWork (s : State) (b : Nat) : Bool :=
  (bayEngines b).any (fun e => (s.engine e).running.isSome || (s.engine e).epilogue.isSome || (s.choose e false).isSome)

/-- Bays in the order in which ballast takes them. -/
def ballastOrder : List Nat := (List.range 16).flatMap (fun i => [i, i + 16, i + 32, i + 48])

def State.ballastBays (s : State) : List Nat :=
  ballastOrder.filter (fun b => !(s.bay b).out && decide ((s.bay b).power < 2) && !s.benchInReset b && !s.bayWork b)

/-- BALLAST_UPDATE (R449): `perBay` is the measure of one ballast bay, in mW. A demand beyond the bays at hand wakes others. -/
def execBallastUpdate (dt perBay : Nat) (s : State) : Host.Outcome State Fault Refusal :=
  .next ((s.elapse dt).whenUp fun s =>
    if s.num 0x6011 4 = 0 ∨ s.clipReasons != 0 ∨ perBay = 0 then s.stopBallast
    else
      let q : Rat := (s.power.g - s.work10) / ((perBay : Nat) / 1000) + 1 / 2
      let n := q.floor.toNat
      let l := s.ballastBays
      let s := s.stopBallast
      let s := (l.take n).foldl (fun s b => s.setBay b { s.bay b with ballast := true, power := 0 }) s
      let asleep := ballastOrder.filter (fun b => !(s.bay b).out && (s.bay b).power == 2 && !(s.bay b).waking)
      (asleep.take (n - l.length)).foldl (fun s b => s.setBay b { s.bay b with waking := true }) s)

/-! ### Thermal limits (R452, R454) -/

/-- One reading of a sensor against its limit: the limit's new state, and whether a step down was taken. `hot`: the junction, or its rail's
regulator, is too hot; `tooHot`: the junction is. -/
def Therm.sample (t : Therm) (now : Nat) (hot tooHot cool : Bool) : Therm × Bool :=
  if hot then
    let due := t.hot.elim true (fun h => decide (h + 100 * us ≤ now))
    let down := due && decide (1050 < t.limit)
    ({ t with limit := if down then t.limit - 25 else t.limit, hot := if due then some now else t.hot, cool := none,
              at1050 := sinceWhen (tooHot && t.limit == 1050) now t.at1050 }, down)
  else if cool then
    let since := t.cool.getD now
    let up := decide (t.limit < 2100) && decide (max since t.coolStep + ms ≤ now)
    ({ t with limit := if up then t.limit + 25 else t.limit, hot := none, cool := some since,
              coolStep := if up then now else t.coolStep, at1050 := none }, false)
  else ({ t with hot := none, cool := none, at1050 := none }, false)

/-- What a sample counts and signals. -/
def State.noteTherm (s : State) (down first : Bool) : State :=
  let s := if first then (s.signal 1 none).bump 0x6040 3 else s
  if down then s.noteClip else s

/-- A junction that reads 100 °C or more, and did not at the reading before. -/
def firstHot (was now : Int) : Bool := decide (100000 ≤ now) && decide (was < 100000)

def State.sampleDie (s : State) (d : Nat) (tj : Int) : State :=
  let x := s.die d
  let tooHot := decide (100000 ≤ tj)
  let first := firstHot x.junction tj
  let r := x.therm.sample s.stamp (tooHot || s.power.vrDies.contains d) tooHot (decide (tj ≤ 97000))
  let back := x.gated && decide (tj ≤ 95000)
  let s := s.setDie d { x with
    therm := r.1, junction := tj, tripSince := if tj < 105000 then s.stamp else x.tripSince,
    gated := x.gated && !back, tripped := x.tripped && !back }
  let s := if back then s.clearCause (tripCause d) else s
  s.noteTherm r.2 first

def State.sampleEdge (s : State) (t0 t1 : Int) : State :=
  let tj := max t0 t1
  let tooHot := decide (100000 ≤ tj)
  let first := firstHot (max s.power.edge0 s.power.edge1) tj
  let r := s.power.edgeTherm.sample s.stamp tooHot tooHot (decide (tj ≤ 97000))
  ({ s with power := { s.power with edgeTherm := r.1, edge0 := t0, edge1 := t1 } } : State).noteTherm r.2 first

/-- Stage 2 of the thermal limits, and its end after 1 s of cool sensors. -/
def State.thermCap (s : State) : State :=
  let l := s.power.edgeTherm :: (List.range 4).map (fun d => (s.die d).therm)
  match s.power.pTherm with
  | none =>
    if l.any (fun t => heldFor t.at1050 s.stamp (10 * ms)) then
      (({ s with power := { s.power with pTherm := some (s.mean1ms * 9 / 10) } } : State).bump 0x6040 7).admitTest
    else s
  | some _ =>
    if l.all (fun t => heldFor t.cool s.stamp sec) then ({ s with power := { s.power with pTherm := none } } : State).admitTest else s

/-- JUNCTION_SAMPLE (R452): the six raw junctions in m°C, B0 to B3, E0, E1. -/
def execJunctionSample (dt : Nat) (raw : List Int) (s : State) : Host.Outcome State Fault Refusal :=
  .next ((s.elapse dt).whenUp fun s =>
    let tj := (List.range 6).map (fun i => nth 0 raw i + toSigned 32 (s.num 0x6110 (i + 1)))
    let top := tj.foldl max (nth 0 tj 0)
    let s := (List.range 4).foldl (fun s d => s.sampleDie d (nth 0 tj d)) s
    let s := s.sampleEdge (nth 0 tj 4) (nth 0 tj 5)
    let s := { s with power := { s.power with maxJunction := max s.power.maxJunction top, cMaxTj := some (s.power.cMaxTj.elim top (fun x => max x top)) } }
    let s := s.thermCap.applyClocks
    if 105000 ≤ max (nth 0 tj 4) (nth 0 tj 5) then s.enterWarmReset 0x0503 true true else s)

/-- THERMAL_TRIP (R454): a hardware path. The clocks resume at 1,050 MHz. -/
def execThermalTrip (dt die : Nat) (s : State) : Host.Outcome State Fault Refusal :=
  .next ((s.elapse dt).whenSafe fun s =>
    let x := s.die die
    if 3 < die ∨ x.gated then s
    else
      let s := s.setDie die { x with gated := true, tripped := true, tripSince := s.stamp, therm := { x.therm with limit := 1050 } }
      ((s.enterShed (some (tripCause die))).bump 0x6040 4).signal 2 none)

/-- TRIP_HOLD_TIMEOUT (R454). -/
def execTripHoldTimeout (dt die : Nat) (s : State) : Host.Outcome State Fault Refusal :=
  .next ((s.elapse dt).whenUp fun s =>
    let x := s.die die
    if x.tripped && decide (x.tripSince + 100 * ms ≤ s.stamp) && !s.dieReset die then
      let s := s.dieResetFor die 0x0204
      s.setDie die { s.die die with voltage := 600 }
    else s)

/-! ### Regulators and power-good (R454) -/

/-- What the regulator's status starts (R454). -/
def State.vrStatus (s : State) (status : VrStatus) : State :=
  match status with
  | .overCurrent => ({ s with power := { s.power with vrOver := true } } : State).electrical
  | .overTemperature d => { s with power := { s.power with vrDies := (s.power.vrDies ++ [d]).eraseDups } }
  | .underVoltage => s.enterShed (some 2)
  | .other => s

/-- VR_ALERT (R454): the alert signals an always-on source (R420); its status is read and acted on by hardware (R510). -/
def execVrAlert (dt : Nat) (status : VrStatus) (s : State) : Host.Outcome State Fault Refusal :=
  let s := s.elapse dt
  let s := { s with pins := { s.pins with vrAlertN := false } }
  .next (if s.boot.phase = .coldReset then s
    else ((s.signal 4 none).bump 0x6040 8).whenSafe fun s => s.vrStatus status)

/-- VR_ALERT_DEASSERT (R454). -/
def execVrAlertDeassert (dt : Nat) (s : State) : Host.Outcome State Fault Refusal :=
  let s := s.elapse dt
  let s := { s with pins := { s.pins with vrAlertN := true }, power := { s.power with vrOver := false, vrDies := [] } }
  .next (s.clearCause 2)

/-- The die whose rail was lost goes into reset; within a warm reset that is absorbed and its cause logged (R474). -/
def State.loseRail (s : State) (die : Nat) : State :=
  match s.boot.phase with
  | .warmBoot | .warmHold => s.log { code := 0x0204, unitKind := 2, unit := die }
  | _ => s.dieResetFor die 0x0204

/-- PG_BEAM_LOSS (R454). -/
def execPgBeamLoss (dt die : Nat) (s : State) : Host.Outcome State Fault Refusal :=
  let s := s.elapse dt
  let s := { s with pins := { s.pins with pgBeam := s.pins.pgBeam.set die false } }
  .next (if die < 4 then s.whenSafe fun s => ((s.loseRail die).bump 0x6040 9).signal 5 none else s)

/-- PG_SOC_LOSS (R454). -/
def execPgSocLoss (dt : Nat) (s : State) : Host.Outcome State Fault Refusal :=
  let s := s.elapse dt
  .next (({ s with pins := { s.pins with pgSoc := false } } : State).enterColdReset 0x0712)

/-! ### Wear (R455) -/

/-- WEAR_COMMIT (R455). -/
def execWearCommit (dt : Nat) (seconds : List Nat) (s : State) : Host.Outcome State Fault Refusal :=
  .next ((s.elapse dt).whenUp fun s => (List.range 4).foldl (fun s d => s.addWear d (nth 0 seconds d)) s)

/-! ### Power states (R439 to R441) -/

/-- BAY_IDLE_GATE (R440). -/
def execBayIdleGate (dt bay : Nat) (s : State) : Host.Outcome State Fault Refusal :=
  .next ((s.elapse dt).whenUp fun s =>
    let x := s.bay bay
    if x.power = 0 ∧ bay < 64 ∧ !x.ballast ∧ !x.waking ∧ !s.bayWork bay
    then s.setBay bay { x with power := 1, idleSince := s.stamp } else s)

/-- The guarantees of R241 hold a bay awake: slot s to slot s + 3. -/
def State.heldAwake (s : State) (b : Nat) : Bool :=
  (List.range 4).any (fun k =>
    let w := s.entryAhead k
    ((groupsA w) ||| (groupsB w)).testBit (b / 4))

/-- BAY_SLEEP (R440): its bench is lost. -/
def execBaySleep (dt bay : Nat) (s : State) : Host.Outcome State Fault Refusal :=
  .next ((s.elapse dt).whenUp fun s =>
    let x := s.bay bay
    if x.power = 1 ∧ bay < 64 ∧ !s.ctxs.any (fun e => e.2.grantedOn bay) ∧ x.idleSince + s.num 0x6003 4 * us ≤ s.stamp
       ∧ !s.heldAwake bay ∧ (s.num 0x6011 4 = 0 ∨ s.num 0x6011 2 = 0)
    then (s.zeroBanks bay 0xFFFFFFFF).setBay bay { x with power := 2, waking := false } else s)

/-- Device P2 is refused (R441). -/
def State.p2Refused (s : State) : Bool :=
  s.ctxs.any (fun e => e.2.resident) || (s.num 0x6011 4 == 1 && s.num 0x6011 2 != 0)

/-- Every bay in P2; the dirty lines of the lofts are written back first (R180). -/
def State.enterP2 (s : State) : State :=
  let s := s.flushLofts
  let s := (List.range 64).foldl (fun s b => s.setBay b { s.bay b with power := 2, waking := false, ballast := false }) s.clearBench
  { s with power := { s.power with device := 2, waking := false } }

/-- Entry to P3: announced, the lofts written back (R180), everything closed as by a warm reset; only the always-on domain stays powered,
and with it the interrupt controller's configuration and mode (R420). -/
def State.enterP3 (s : State) : State :=
  let intr := s.intr
  let s := s.announce.flushLofts.warmClear.failTest (s.fault.selfTest == 1)
  { s with power := { s.power with device := 3 }, boot := { s.boot with phase := .p3 },
           intr := { s.intr with config := intr.config, ordered := intr.ordered, reason := intr.reason } }

/-- A write of object 0x6003.02 (R441): the state, and the code. -/
def State.actPower (s : State) (v : Nat) : State × Nat :=
  let a := s.clampNum 0x6003 2 v
  let s := a.1
  if a.2 = 2 then
    if s.p2Refused then (s.setCnt 0x6003 3 0x0501, 0x0501)
    else ((s.setCnt 0x6003 3 0).enterP2, 0)
  else if a.2 = 3 then ((s.setCnt 0x6003 3 0).enterP3, 0)
  else ((s.setCnt 0x6003 3 0).startWake, 0)

/-- DEVICE_P2_REQUEST (R441). -/
def execDeviceP2Request (dt : Nat) (s : State) : Host.Outcome State Fault Refusal :=
  .next ((s.elapse dt).whenUp fun s => (s.actPower 2).1)

/-- DEVICE_P3_REQUEST (R441). -/
def execDeviceP3Request (dt : Nat) (s : State) : Host.Outcome State Fault Refusal :=
  .next ((s.elapse dt).whenUp fun s => (s.actPower 3).1)

/-- DEVICE_WAKE_REQUEST (R441): from P3 it comes over Efyth. -/
def execDeviceWakeRequest (dt : Nat) (s : State) : Host.Outcome State Fault Refusal :=
  let s := s.elapse dt
  .next (match s.boot.phase with
    | .running => (s.actPower 0).1
    | .p3 => s.startWake
    | _ => s)

/-- AUTO_P2_TIMEOUT (R441). -/
def execAutoP2Timeout (dt : Nat) (s : State) : Host.Outcome State Fault Refusal :=
  .next ((s.elapse dt).whenUp fun s =>
    if s.num 0x6003 5 = 1 ∧ s.power.device = 0 ∧ s.power.noResidentSince + s.num 0x6003 6 * ms ≤ s.stamp ∧ !s.p2Refused
    then s.enterP2 else s)

/-- BAY_WAKE_COMPLETE (R439, R440): none is the device. -/
def execBayWakeComplete (dt : Nat) (bay : Option Nat) (s : State) : Host.Outcome State Fault Refusal :=
  .next ((s.elapse dt).whenUp fun s =>
    match bay with
    | some b =>
      let x := s.bay b
      if x.waking then s.setBay b { x with power := 0, waking := false, idleSince := s.stamp } else s
    | none => if s.power.waking then { s with power := { s.power with device := 0, waking := false } } else s)

/-! ### Cycle reports (R456) -/

def wholeOf (n : Nat) (r : Rat) : Nat := min (2 ^ n - 1) r.floor.toNat

/-- The record of Table 14-4 at the end of cycle n. -/
def State.cycleRecord (s : State) (n : Nat) : List Byte :=
  let p := s.power
  leBytes 64 (packFields [(64, s.stamp), (64, n), (32, wholeOf 32 p.cPackage), (32, wholeOf 32 p.cIdle), (32, wholeOf 32 p.cBallast),
    (32, wholeOf 32 p.cCtx), (16, wholeOf 16 p.cMax), (16, wholeOf 16 (p.cMin.getD 0)), (16, min 0xFFFF p.cClip),
    (16, min 0xFFFF p.cShed), (16, min 0xFFFF (s.cnt 0x3210 8 - p.cDeferred)), (16, p.cMinClock),
    (16, ofSigned 16 (p.cMaxTj.getD 0 / 10)), (144, 0)])

/-- The report of the cycle that ends; a new account of the next one. -/
def State.cycleReport (s : State) : State :=
  let s := s.setObj 0x6022 1 (.blob (s.cycleRecord (s.cycleNo - 1)))
  let n := s.power.cycles + 1
  let clk := (List.range 4).foldl (fun a d => min a (s.die d).clock) 2100
  let s := { s with power := { s.power with
    cPackage := 0, cIdle := 0, cBallast := 0, cCtx := 0, cMax := 0, cMin := none, cClip := 0, cShed := 0,
    cDeferred := s.cnt 0x3210 8, cMinClock := clk, cMaxTj := none, cycles := n } }
  if n % max 1 (s.num 0x6022 2) = 0 then s.signal 440 none else s

/-- POWER_COUNTERS_CLEAR (R459). -/
def execPowerCountersClear (dt v : Nat) (s : State) : Host.Outcome State Fault Refusal :=
  .next ((s.elapse dt).whenUp fun s => s.execClear 0x6041 v)

end Sys2Proof.Machine
end

