-- ==== Sys2Proof/Machine/Sched.lean ====
section
/-! DEFINITION. The schedule table (R235 to R238, R241), admission waits (R243), parked waits and their deadlines (R252 to R256),
and swaps (R257 to R260). -/

namespace Sys2Proof.Machine

/-! ### The schedule table -/

/-- An entry after the clamps of R237, in their order. -/
def clampEntry (w : Nat) : Nat :=
  let a := entryA w
  let b := entryB w
  let ga := if a = 0 then 0 else groupsA w
  let ra := a != 0 && w.testBit 15
  let gb := if b = 0 then 0 else groupsB w &&& (0xFFFF ^^^ ga)
  let rb := b != 0 && w.testBit 14 && !ra
  packFields [(8, a), (16, ga), (8, b), (16, gb), (1, b2n ra), (1, b2n rb), (1, b2n (w.testBit 13)), (13, 0)]

/-- A write of the stored table: clamped, counted once for each entry and once for a wrong length (R237). -/
def State.actSchedule (s : State) (val : List Byte) : State :=
  let l := words 8 (fitBytes 8192 val)
  let k := l.map clampEntry
  let n := ((l.zip k).filter (fun p => p.1 != p.2)).length + b2n (val.length != 8192)
  ((if n = 0 then s else s.bumpBy 0x3210 9 n)).setRwp 0x3201 1 (.blob (k.flatMap (leBytes 8)))

/-- SCHEDULE_TABLE_WRITE (R237). -/
def execScheduleTableWrite (dt : Nat) (val : List Byte) (s : State) : Host.Outcome State Fault Refusal :=
  .next ((s.elapse dt).whenUp fun s => s.actSchedule val)

/-- A write of the activation cycle (R238). -/
def State.actActivate (s : State) (n : Nat) : State :=
  let m := max n (s.cycleNo + 1)
  let s := if m = n then s else s.countClamp 0x3201
  { s with sched := { s.sched with pending := some (m, words 8 (s.blob 0x3201 1)) } }

/-- SCHEDULE_ACTIVATE (R238). -/
def execScheduleActivate (dt n : Nat) (s : State) : Host.Outcome State Fault Refusal :=
  .next ((s.elapse dt).whenUp fun s => s.actActivate n)

/-- The pending table becomes active in its cycle. -/
def State.activateTable (s : State) : State :=
  match s.sched.pending with
  | some p =>
    if p.1 ≤ s.cycleNo then
      ({ s with sched := { s.sched with active := p.2, activeFrom := p.1, pending := none } } : State).signal 235 none
    else s
  | none => s

/-- The largest slowdown of the cycle that ends (R248). -/
def State.reportSigma (s : State) : State :=
  let g := s.sched.worstSigma
  let s := (s.setObj 0x3221 1 (.num (max 0x0100 g))).setObj 0x3221 2 (.num s.sched.worstCtx)
  { s with sched := { s.sched with worstSigma := 0, worstCtx := 0 } }

/-- CYCLE_START (R235), at a stamp that begins a cycle. -/
def execCycleStart (dt : Nat) (s : State) : Host.Outcome State Fault Refusal :=
  .next ((s.elapse dt).whenUp fun s =>
    if s.stamp % cycleUnits != 0 then s
    else
      let s := (s.activateTable.reportSigma).cycleReport
      let s := { s with perf := { s.perf with busiest := s.perf.nextBusiest, nextBusiest := [] } }
      s.admitTest)

/-! ### Admission waits -/

/-- ADMISSION_WAIT_TIMEOUT (R243): source 232 once for a wait. -/
def execAdmissionWaitTimeout (dt ctx : Nat) (s : State) : Host.Outcome State Fault Refusal :=
  .next ((s.elapse dt).whenUp fun s =>
    let x := s.ctx ctx
    match x.waitSince with
    | some t =>
      if !x.waitRaised && decide (t + s.num 0x3202 4 * ms < s.stamp)
      then (s.setCtx ctx { x with waitRaised := true }).signal 232 (some ctx) else s
    | none => s)

/-! ### Slot boundaries -/

/-- The bays of the groups that a slot guarantees. -/
def guardedBays (w : Nat) : List Nat := (List.range 64).filter (fun b => (groupsA w ||| groupsB w).testBit (b / 4))

/-- Wake the P2 bays of the guarantees from this slot to slot + 3 (R241). -/
def State.wakeGuarded (s : State) : State :=
  ((List.range 4).flatMap (fun k => guardedBays (s.entryAhead k))).foldl (fun s b =>
    let x := s.bay b
    if x.power = 2 ∧ !x.waking ∧ !x.out then s.setBay b { x with waking := true } else s) s

/-- The scheduler asks for its deadline timer again (R255, R57). -/
def State.retryTimer (s : State) : State :=
  if !s.sched.polling then s
  else
    let a := s.requestTimer .remoteWait 4
    if a.2.2 = 0 then { a.1 with sched := { a.1.sched with polling := false } } else a.1

/-- SLOT_BOUNDARY (R241, R255), at a stamp that begins a slot. -/
def execSlotBoundary (dt : Nat) (s : State) : Host.Outcome State Fault Refusal :=
  .next ((s.elapse dt).whenUp fun s =>
    if s.stamp % slotUnits != 0 then s
    else
      let s := if s.power.device = 0 then s.wakeGuarded else s
      (s.expireWaits.retryTimer).armTimer)

/-! ### Parking and deadlines -/

/-- Park the wait of kind 3 at the head of a queue (R252). -/
def State.parkHead (s : State) (c q : Nat) : State :=
  let x := s.ctx c
  let m := (s.headCmd c q).1
  if !x.recordsFree then s.tableFull c
  else
    s.addRecord c {
      parkStamp := s.stamp, deadline := s.deadlineFrom ((x.queue q).headStamp.getD s.stamp), fillStamp := 0, tag := m.tag, progress := 0,
      ctxEpoch := s.epoch c, mortise := m.waitValue, slotIndex := (x.queue q).head, queue := q, kind := 0, state := 0, code := 0,
      fired := false, run := none }

/-- The head of a queue is a wait of kind 3 on an empty slot that is not parked yet. -/
def State.headParks (s : State) (c q : Nat) : Bool :=
  let x := s.ctx c
  let m := (s.headCmd c q).1
  (x.state == 2 || x.state == 3) && (x.queue q).waiting && !(x.queue q).timedOut && (x.headRecord q).isNone
    && m.waitKind == 3 && (x.slot m.waitValue).count == 0

/-- PARK (R252): the started command of queue q of a context that has awaited its remote event long enough, or its head. -/
def execPark (dt ctx q : Nat) (s : State) : Host.Outcome State Fault Refusal :=
  .next ((s.elapse dt).whenUp fun s =>
    match ((s.engine q).running.filter (fun r => r.ctx == ctx && r.await != .none)) with
    | some r => if (s.engine q).progress + s.num 0x3202 6 * us ≤ s.stamp then s.parkRun q r else s
    | none => if s.headParks ctx q then s.parkHead ctx q else s)

/-- The timer's own deadline: on an equal stamp a fill may still arrive (R256). -/
def State.markFired (s : State) : State :=
  { s with ctxs := Assoc.mapVals Ctx.undefined (fun _ x =>
      { x with parked := x.parked.map (fun p => if p.state = 0 ∧ p.deadline = s.stamp then { p with fired := true } else p) }) s.ctxs }

/-- REMOTE_WAIT_DEADLINE (R256): the timer fires. -/
def execRemoteWaitDeadline (dt : Nat) (s : State) : Host.Outcome State Fault Refusal :=
  .next ((s.elapse dt).whenUp fun s =>
    if (s.timerOf .remoteWait).isNone then s else (s.expireWaits.markFired).armTimer)

/-! ### Swaps (R257 to R260) -/

/-- Banks of a bay granted to any context. -/
def State.takenBanks (s : State) (b : Nat) : Nat := s.ctxs.foldl (fun m e => m ||| e.2.mask b) 0

/-- The free banks meet a context's bench plan. -/
def State.meetsPlan (s : State) (x : Ctx) : Bool := x.plan.all (fun p => p.2 &&& s.takenBanks p.1 == 0)

def State.residents (s : State) : List Nat := (s.ctxs.filter (fun e => e.2.resident)).map (·.1)

/-- Swappable (R257). -/
def State.swappable (s : State) (c : Nat) : Bool :=
  let x := s.ctx c
  !s.pinned x && s.stuck c && x.waitSince.isNone
    && x.blockStamp.elim false (fun t => decide (t + s.num 0x3202 2 * us ≤ s.stamp))
    && (!x.stepOpen || x.grant.all (fun g => (x.bayStep g.1).swapFlag))

/-- Swappable contexts, oldest block stamp first, the lower ID first on a tie. -/
def State.swapOrder (s : State) : List Nat :=
  (sortPairs ((s.residents.filter s.swappable).map (fun c => (((s.ctx c).blockStamp).getD 0, c)))).map (·.2)

/-- In-flight prefetch entries at a swap-out: a warm is done and counted, a descriptor stops (R191). -/
def State.stopFlight (s : State) (c : Nat) : State :=
  let isWarm := fun (b : Nat) (f : Flight) => (s.prefEntry c b f.entry).1.target == 1
  let n := ((s.ctx c).baySteps.map (fun e => (e.2.inFlight.filter (isWarm e.1)).length)).foldl (· + ·) 0
  let s := s.modCtx c (fun x => { x with baySteps := Assoc.mapVals BayStep.zero (fun b y =>
    { y with done := y.done + (y.inFlight.filter (isWarm b)).length, inFlight := [],
             stopped := y.stopped ++ y.inFlight.filter (fun f => !isWarm b f) }) x.baySteps })
  s.bumpBy 0x3010 0x0E n

/-- Phases 1 to 4 of the outgoing context: its state and its kept banks go to its save area, its banks to zeroing; state 3 (R209, R212). -/
def State.swapOut (s : State) (c : Nat) : State :=
  let s := s.noteResident.stopFlight c
  let x := s.ctx c
  let s := (s.saveState c).saveKept x x.keptBanks
  let s := x.grant.foldl (fun s g =>
    let y := s.bay g.1
    s.setBay g.1 { y with dirty := y.dirty ||| g.2, zeroing := true }) s
  let s := s.modCtx c (fun x => { x with state := 3, grant := [], saved := x.keptBanks, blockStamp := none })
  { s with sched := { s.sched with outgoing := s.sched.outgoing ++ [c] } }.track c

/-- The incoming context waits for the zeroing of its banks; its bays wake (R440). -/
def State.swapIn (s : State) (c : Nat) : State :=
  let x := s.ctx c
  let s := x.plan.foldl (fun s p =>
    let y := s.bay p.1
    s.setBay p.1 { y with grantWaits := if y.zeroing then y.grantWaits ++ [(c, p.2)] else y.grantWaits,
                          waking := y.waking || y.power == 2 }) s
  ({ s with sched := { s.sched with swapping := some c } } : State).bump 0x3210 6

/-- Swap out along a list until the plan of `c` is met; the Bool says that it is. -/
def State.swapOuts (s : State) (c : Nat) : List Nat → State × Bool
  | l =>
    let enough := fun (s : State) => s.meetsPlan (s.ctx c) && decide (s.residents.length < 64)
    l.foldl (fun (a : State × Bool) d => if a.2 then a else let t := a.1.swapOut d; (t, enough t)) (s, enough s)

/-- Its class is guaranteed in the current or the next slot. -/
def State.guardedSoon (s : State) (k : Nat) : Bool :=
  k != 0 && (List.range 2).any (fun i =>
    let w := s.entryAhead i
    (entryA w == k && (groupsA w != 0 || w.testBit 15)) || (entryB w == k && (groupsB w != 0 || w.testBit 14)))

/-- Runnable swapped-out contexts in their order (R259). -/
def State.runnable (s : State) : List Nat :=
  let l := s.ctxs.filterMap (fun e =>
    if e.2.state = 3 ∧ s.hasReady e.1 then some (e.2.runnableStamp.getD s.stamp, e.1) else none)
  let g := fun (p : Nat × Nat) => s.guardedSoon (s.ctx p.2).slotClass
  (sortPairs (l.filter g) ++ sortPairs (l.filter (fun p => !g p))).map (·.2)

/-- Bring in one context, or decline (R259). -/
def State.bringIn (s : State) (c : Nat) : State :=
  if s.residents.length < 64 && s.meetsPlan (s.ctx c) then s.swapIn c
  else if !s.residents.all (fun d => s.pinned (s.ctx d) || s.stuck d) then s
  else
    let r := s.swapOuts c s.swapOrder
    if r.2 then r.1.swapIn c
    else if (s.ctx c).declined then s
    else ((s.modCtx c (fun x => { x with declined := true })).bump 0x3210 7).signal 233 (some c)

/-- Bring in the first context of a list that can enter. -/
def State.bringFirst : State → List Nat → State
  | s, [] => s
  | s, c :: l =>
    let t := s.bringIn c
    if t.sched.swapping.isSome then t else t.bringFirst l

/-- SWAP (R259). -/
def execSwap (dt : Nat) (s : State) : Host.Outcome State Fault Refusal :=
  .next ((s.elapse dt).whenUp fun s =>
    let s := s.expireWaits
    let s := s.ctxs.foldl (fun s e => s.track e.1) s
    if s.sched.swapping.isSome || (s.entry s.slotNo).testBit 13 || s.power.device != 0 then s
    else s.bringFirst s.runnable)

/-- Phases 5 to 7: the kept banks come back from the save area, the plan is granted, the context is resident. -/
def State.enter (s : State) (c : Nat) : State :=
  let x := s.ctx c
  let s := s.loadKept x x.saved
  let s := s.setCtx c { x with state := 2, grant := x.plan, saved := [], runnableStamp := none, declined := false }
  let s := { s with sched := { s.sched with swapping := none, outgoing := [] } }
  s.track c

/-- SWAP_COMPLETE (R260): no bank of the incoming context still waits for its zeroing. Closes of the contexts of the swap that came meanwhile
begin (R261). -/
def execSwapComplete (dt ctx : Nat) (s : State) : Host.Outcome State Fault Refusal :=
  .next ((s.elapse dt).whenUp fun s =>
    if s.sched.swapping = some ctx ∧ !s.bays.any (fun b => b.2.grantWaits.any (fun w => w.1 == ctx)) then
      (ctx :: s.sched.outgoing).foldl (fun s d => if (s.ctx d).closePending then s.beginClose d else s) (s.enter ctx)
    else s)

/-- SCHEDULING_COUNTERS_CLEAR (R263). -/
def execSchedulingCountersClear (dt v : Nat) (s : State) : Host.Outcome State Fault Refusal :=
  .next ((s.elapse dt).whenUp fun s => s.execClear 0x3211 v)

end Sys2Proof.Machine
end

