-- ==== Sys2Proof/Machine/Raise.lean ====
section
/-! DEFINITION. Raising (R332 to R342): the weight manifest, the raise command, the verification of shard pages, chains, shared
bases, weight versions, re-check and replacement (R343 to R348). -/

namespace Sys2Proof.Machine

/-! ### The manifest (R332) -/

structure ManEntry where
  root : List Byte
  length : Nat
  leafIndex : Nat
  tensor : Nat
  baseId : Nat
  slice : Nat
  source : Nat
deriving DecidableEq, Repr

/-- An entry of Table 10-2. -/
def manEntry (b : List Byte) : ManEntry :=
  let n := leNat (fitBytes 64 b)
  { root := slice b 32 32, length := bits n 255 192, leafIndex := bits n 191 160, tensor := bits n 159 128, baseId := bits n 127 96,
    slice := bits n 95 88, source := bits n 87 86 }

structure Manifest where
  magic : Nat
  version : Nat
  entries : List ManEntry
  leaves : List (List Byte)
deriving DecidableEq, Repr

/-- A manifest as its bytes are read from an offset; only the header where it is no manifest. -/
def manifestOf (read : Nat → Nat → List Byte) : Manifest :=
  let h := leNat (read 0 64)
  let magic := bits h 31 0
  let version := bits h 47 32
  let n := bits h 95 64
  if magic != 0x4E414D57 || version != 1 then { magic := magic, version := version, entries := [], leaves := [] }
  else
    { magic := magic, version := version, entries := (List.range n).map (fun i => manEntry (read (64 + 64 * i) 64)),
      leaves := (List.range (bits h 127 96)).map (fun i => read (64 + 64 * n + 32 * i) 32) }

/-- The manifest that a raise block names: at a local HBM address, or section 10 of the context's cut list. -/
def State.manifest (s : State) (c a : Nat) : Option Manifest :=
  if a = 0 then
    ((s.ctx c).sections.find? (fun e => e.1 == 10)).map (fun e => manifestOf (fun o n => s.getBytes c ((s.ctx c).cutList + e.2.1 + o) n))
  else if hbmBase ≤ a ∧ a + 64 ≤ hbmEnd then some (manifestOf (fun o n => s.readBytes (a + o) n)) else none

def Ctx.tensorById (x : Ctx) (id : Nat) : Option Tensor := x.tensors.find? (fun t => t.id == id)

/-- Stored bytes of the slice of an entry; none where the tensor has no such slice. -/
def sliceBytes (t : Tensor) (k : Nat) : Option Nat :=
  if t.split ≤ 3 ∧ k ≤ 7 then some (localBytes t k) else if 3 < t.split ∧ k = 0xFF then some t.size else none

/-- An entry agrees with the tensor table and the leaf list (R336, check 2). -/
def ManEntry.ok (e : ManEntry) (x : Ctx) (leaves mode : Nat) : Bool :=
  match x.tensorById e.tensor with
  | none => false
  | some t => sliceBytes t e.slice == some e.length && e.source != 3 && (mode == 0 || t.kind == 1)
      && (e.source == 1 || decide (e.leafIndex + ceilDiv e.length pageBytes ≤ leaves))

def Manifest.ok (m : Manifest) (x : Ctx) (mode : Nat) : Bool :=
  m.magic == 0x4E414D57 && m.version == 1 && decide (1 ≤ m.entries.length) && decide (m.entries.length ≤ 2 ^ 24)
    && m.entries.all (fun e => e.ok x m.leaves.length mode)

/-- The entry's shard lies on this device: its tensor is of this stage, and its slice this position's or the whole (R339). -/
def ManEntry.mine (e : ManEntry) (x : Ctx) : Bool :=
  (e.slice == 0xFF || e.slice == x.gridPos) && (x.tensorById e.tensor).elim false (fun t => t.base != 0)

/-- The Sealed objects of a shared base. -/
def State.baseObjects (s : State) (id : Nat) : List (Nat × Obj) := s.objects.filter (fun e => e.2.kind == 1 && e.2.sealed && e.2.baseId == id)

/-- Check 3 of R336: another root, or a gradient target on a shared base (R342). -/
def State.baseBad (s : State) (x : Ctx) (e : ManEntry) : Bool :=
  (e.baseId != 0 || e.source == 2)
    && ((x.tensorById e.tensor).elim false (fun t => t.gradTarget != 0)
      || x.tensors.any (fun t => e.baseId != 0 && t.baseId == e.baseId && t.gradTarget != 0)
      || (e.baseId != 0 && e.mine x && !(s.baseObjects e.baseId).isEmpty && !(s.baseObjects e.baseId).any (fun o => o.2.root == e.root)))

/-! ### The raise block (Table 10-3) -/

structure RaiseBlock where
  manifest : Nat
  version : Nat
  ctx : Nat
  mode : Nat
  chain : Bool
  interval : Nat
deriving DecidableEq, Repr

def raiseBlock (b : List Byte) : RaiseBlock :=
  let n := leNat (fitBytes 32 b)
  { manifest := bits n 255 208, version := bits n 207 176, ctx := bits n 175 164, mode := bits n 163 162, chain := n.testBit 161,
    interval := bits n 160 145 }

/-! ### Objects of a raise -/

/-- The shard of an entry of this device, with its object where it has one. -/
def shardOf (x : Ctx) (leaves : List (List Byte)) (e : ManEntry) (i : Nat) (obj : Option Nat) : Shard :=
  let n := if e.source = 1 then 0 else ceilDiv e.length pageBytes
  { entry := i, tensor := e.tensor, slice := e.slice, base := (x.tensorById e.tensor).elim 0 (fun t => t.base), length := e.length,
    obj := obj, root := e.root, leaves := (leaves.drop e.leafIndex).take n }

/-- The object that the mapped version of a context holds for a tensor. -/
def Ctx.objectOf (x : Ctx) (id : Nat) : Option Nat :=
  (x.versionOf x.mapped).bind (fun v : Version => (v.objs.find? (fun o => o.1 == id)).map (·.2))

/-- Put an object in the place of a tensor's object in a version. -/
def Version.replace (v : Version) (tensor obj : Nat) : Version :=
  { v with objs := v.objs.map (fun o => if o.1 = tensor then (tensor, obj) else o) }

/-- The objects of the versions of a context. -/
def Ctx.versionObjects (x : Ctx) : List Nat := (x.versions.flatMap (fun v : Version => v.ids)).eraseDups

/-- Map the Sealed object of a shared base where the context had an empty one of its own (R341). -/
def State.adopt (s : State) (c : Nat) (t : Tensor) (old new : Nat) : State :=
  if old = new then s
  else
    let x := s.ctx c
    let s := (s.remap c t new).countMaps old false
    let s := (s.countMaps new true).setObject new { s.object new with refs := (s.object new).refs + 1 }
    let s := s.setCtx c { x with versions := x.versions.map (fun v => if v.version = x.mapped then v.replace t.id new else v) }
    (s.modCtx c (fun x => { x with objects := x.versionObjects })).releaseIds [old]

/-- The object that an entry of a shared base finds on the device: of the same base, tensor and root, Sealed or being raised (R341). -/
def State.baseFor (s : State) (e : ManEntry) : Option Nat :=
  if e.baseId = 0 then none
  else (s.objects.find? (fun o => o.2.kind == 1 && o.2.baseId == e.baseId && o.2.tensor == e.tensor && o.2.length == e.length
    && o.2.root == e.root && (o.2.sealed || !o.2.leaves.isEmpty))).map (·.1)

/-- Zero a shard whole (R337, R197): its object's pages, or the pages at its address. -/
def State.zeroShard (s : State) (c : Nat) (h : Shard) : State :=
  match h.obj with
  | some id =>
    let o := s.object id
    let s := o.pages.foldl (fun s p => s.zeroRange (objPageAddr o p) (objPageAddr o p + pageBytes)) s
    s.setObject id { o with
      got := List.range o.pages.length,
      leaves := (List.range (ceilDiv o.length pageBytes)).map (fun i => sm3 (zeroBytes (min pageBytes (o.length - i * pageBytes)))) }
  | none => (pagesIn h.base h.length).foldl (fun s a => let p := s.phys c a; s.zeroRange p (p + pageBytes)) s

/-- The leaves that a raise waits for: none of a zero fill or of a Sealed object, of another object those not verified yet. -/
def State.awaited (s : State) (h : Shard) : List (Nat × Nat) :=
  let n := h.leaves.length
  match h.obj with
  | some id =>
    let o := s.object id
    if o.sealed then [] else ((List.range n).filter (fun i => !o.got.contains i)).map (fun i => (h.entry, i))
  | none => (List.range n).map (fun i => (h.entry, i))

/-- An object takes the digests of its shard, unless it is Sealed. -/
def State.nameObject (s : State) (h : Shard) : State :=
  match h.obj with
  | none => s
  | some id =>
    let o := s.object id
    if o.sealed || h.leaves.isEmpty then s else s.setObject id { o with root := h.root, leaves := h.leaves, length := h.length, entry := h.entry }

/-! ### The end of raising (R337) -/

/-- Seal an object whose every page is verified; its sill pages enter Sealed (R182), and those that were to retire move (R193). -/
def State.sealObject (s : State) (id : Nat) : State :=
  let o := s.object id
  if o.sealed then s
  else
    let maps := (o.pages.head?).elim 0 (fun p => (s.sillPage p).maps)
    let s := if o.inHbm then s else s.sealPages o.pages id maps
    (s.setObject id { o with sealed := true }).moveRetiring id

/-- Kinds of tensors whose pages keep the remote attribute (R535). -/
def keepsRemote (k : Nat) : Bool := k == 2 || k == 5 || k == 6

/-- The pages of a raise's shards take or lose the remote attribute (R337, R535). -/
def State.shardsRemote (s : State) (c : Nat) (r : Raise) (on : Bool) : State :=
  if r.mode != 0 then s
  else r.shards.foldl (fun s h =>
    match (s.ctx c).tensorById h.tensor with
    | some t => if !on && keepsRemote t.kind then s else s.setRemote c h.base h.length on
    | none => s) s

/-- Every page of every shard is verified: sealed, complete, source 240; step opens may be admitted. -/
def State.endRaise (s : State) (c : Nat) : State :=
  match (s.ctx c).raise with
  | none => s
  | some r =>
    if r.state != 1 || !r.missing.isEmpty then s
    else
      let s := (r.shards.filterMap (·.obj)).foldl (fun s id => s.sealObject id) (s.shardsRemote c r false)
      let s := s.modCtx c (fun x => { x with
        raise := some { r with state := 2, partials := [] },
        versions := x.versions.map (fun v => if v.version = r.version then { v with raised := true } else v) })
      (s.signal 240 (some c)).admitTest

/-! ### The raise command (R336, R337, R345) -/

/-- Start a raise of mode 0. -/
def State.startRaise (s : State) (k : RaiseBlock) (m : Manifest) : State :=
  let c := k.ctx
  let l := m.entries.zipIdx.filter (fun p => p.1.mine (s.ctx c))
  -- shared bases that the device holds take the place of the empty objects
  let s := l.foldl (fun s p =>
    match s.baseFor p.1, (s.ctx c).objectOf p.1.tensor, (s.ctx c).tensorById p.1.tensor with
    | some new, some old, some t => s.adopt c t old new
    | _, _, _ => s) s
  let x := s.ctx c
  let shards := l.map (fun p => shardOf x m.leaves p.1 p.2 (x.objectOf p.1.tensor))
  let s := shards.foldl (fun s h => s.nameObject h) s
  let zero := (l.zip shards).filter (fun q => q.1.1.source == 1)
  let s := zero.foldl (fun s q => s.zeroShard c q.2) s
  let r : Raise := {
    state := 1, version := k.version, mode := 0, chain := k.chain, shards := shards,
    missing := shards.flatMap s.awaited, partials := [] }
  let s := s.modCtx c (fun x => { x with
    raise := some r, jobRaised := true, interval := k.interval, current := k.version, mapped := k.version, version := k.version,
    versions := x.versions.map (fun v => if v.version = x.mapped then { v with version := k.version, set := shards.map (·.tensor) } else v) })
  (s.shardsRemote c r true).endRaise c

/-- The object of an entry of a further weight set: the Sealed one of its base, or a new one. -/
def State.setObjectFor (s : State) (c : Nat) (e : ManEntry) (prefer : List Nat) : Option (State × Nat × List Nat) :=
  match s.baseFor e with
  | some id => some (s, id, prefer)
  | none => ((s.ctx c).tensorById e.tensor).bind (fun t => s.newObject (s.placeBy c) { t with baseId := e.baseId } prefer)

/-- The objects of a further weight set, as (entry, number, object); none where pages do not suffice. -/
def State.setObjects (s : State) (c : Nat) : List (ManEntry × Nat) → List Nat → Option (State × List (ManEntry × Nat × Nat))
  | [], _ => some (s, [])
  | p :: l, prefer =>
    match s.setObjectFor c p.1 prefer with
    | none => none
    | some a => (State.setObjects a.1 c l a.2.2).map (fun b => (b.1, (p.1, p.2, a.2.1) :: b.2))

/-- Start a raise of mode 1: a new version, whose tensors are the set's objects and the current version's for the rest. -/
def State.startSet (s : State) (k : RaiseBlock) (m : Manifest) (place : Placement) : State × Nat :=
  let c := k.ctx
  match s.setObjects c (m.entries.zipIdx.filter (fun p => p.1.mine (s.ctx c))) place.pages with
  | none => (s, 0x0405)
  | some a =>
    let s := a.1
    let x := s.ctx c
    let base := (x.versionOf x.current).elim [] (fun v : Version => v.objs)
    let objs := base.map (fun o => match a.2.find? (fun e => e.1.tensor == o.1) with
      | some e => (o.1, e.2.2)
      | none => o)
    let v : Version := { version := k.version, raised := false, set := a.2.map (fun e => e.1.tensor), objs := objs }
    let s := v.ids.foldl (fun (s : State) id => s.setObject id { s.object id with refs := (s.object id).refs + 1 }) s
    let shards := a.2.map (fun e => shardOf x m.leaves e.1 e.2.1 (some e.2.2))
    let s := shards.foldl (fun s h => s.nameObject h) s
    let s := (a.2.zip shards).foldl (fun s q => if q.1.1.source = 1 then s.zeroShard c q.2 else s) s
    let r : Raise := {
      state := 1, version := k.version, mode := 1, chain := k.chain, shards := shards,
      missing := shards.flatMap s.awaited, partials := [] }
    let s := s.modCtx c (fun x => { x with raise := some r, versions := x.versions ++ [v] })
    let s := s.modCtx c (fun x => { x with objects := x.versionObjects })
    (s.endRaise c, 0)

/-- The raise of a context is under way. -/
def Ctx.raising (x : Ctx) : Bool := x.raise.elim false (fun r => r.state == 1)

/-- Check 1 of R336: the state, a second raise of the job, and a version that is in use already (assumption log 47). -/
def State.raiseWrong (s : State) (k : RaiseBlock) : Bool :=
  let x := s.ctx k.ctx
  (x.state != 2 && x.state != 3) || (k.mode == 0 && x.jobRaised)
    || (k.mode == 1 && (x.current == k.version || x.pins k.version))

/-- The checks in their order, then the raise: the state and the code of object 0x4302.02. -/
def State.raise (s : State) (k : RaiseBlock) (place : Placement) : State × Nat :=
  if s.raiseWrong k then (s, 0x0441)
  else
    match s.manifest k.ctx k.manifest with
    | none => (s, 0x0440)
    | some m =>
      let x := s.ctx k.ctx
      if !m.ok x k.mode then (s, 0x0440)
      else if m.entries.any (s.baseBad x) then (s, 0x0442)
      else if k.mode = 0 then (s.startRaise k m, 0)
      else
        let a := (s.dropVersion k.ctx k.version).startSet k m place
        if a.2 = 0 then a else (s, a.2)

/-- A write of a raise block (object 0x4302.01): the state, and the code that the write is answered with (R397). -/
def State.actRaise (s : State) (block : List Byte) (place : Placement) : State × Nat :=
  let k := raiseBlock block
  if (s.ctx k.ctx).raising then (s, 0x0805)
  else
    let s := if 2 ≤ k.mode ∨ block.length ≠ 32 then s.bump 0x4310 0x0D else s
    let a := s.raise { k with mode := if 2 ≤ k.mode then 0 else k.mode } place
    (a.1.setCnt 0x4302 2 a.2, 0)

/-- RAISE_JOB (R337): a block whose mode is not 1. -/
def execRaiseJob (dt : Nat) (block : List Byte) (place : Placement) (s : State) : Host.Outcome State Fault Refusal :=
  .next ((s.elapse dt).whenUp fun s => if (raiseBlock block).mode = 1 then s else (s.actRaise block place).1)

/-- RAISE_WEIGHT_SET (R345): a block of mode 1. -/
def execRaiseWeightSet (dt : Nat) (block : List Byte) (place : Placement) (s : State) : Host.Outcome State Fault Refusal :=
  .next ((s.elapse dt).whenUp fun s => if (raiseBlock block).mode = 1 then (s.actRaise block place).1 else s)

/-! ### Verification (R338, R373) -/

/-- Bytes of a leaf of `length`, once every one of them has landed; later landings win. -/
def assemble (length : Nat) (parts : List (Nat × List Byte)) : Option (List Byte) :=
  let got := parts.flatMap (fun p => p.2.zipIdx.map (fun b => (p.1 + b.2, b.1)))
  let m := got.foldl (fun (l : List (Nat × Byte)) e => Assoc.insert e.1 e.2 l) []
  if m.length = length ∧ m.all (fun e => decide (e.1 < length)) then some (m.map (·.2)) else none

/-- Length of a leaf of a shard of `n` bytes. -/
def leafLength (n i : Nat) : Nat := min pageBytes (n - i * pageBytes)

/-- A verified leaf lands: in its object's page, or at its placed address. -/
def State.placeLeaf (s : State) (c : Nat) (h : Shard) (i : Nat) (data : List Byte) : State :=
  match h.obj with
  | some id =>
    let o := s.object id
    match o.pages[i]? with
    | some p => (s.writeBytes (objPageAddr o p) data).setObject id { o with got := o.got ++ [i] }
    | none => s
  | none => s.putBytes c (h.base + i * pageBytes) data

/-- A verified leaf leaves every raise that waits for it: that of its context, and of contexts with the same object. -/
def State.settleLeaf (s : State) (c : Nat) (h : Shard) (i : Nat) : State :=
  s.ctxs.foldl (fun s e =>
    match e.2.raise with
    | none => s
    | some r =>
      let hit := r.shards.filter (fun k => (e.1 == c && k.entry == h.entry) || (h.obj.isSome && k.obj == h.obj))
      let missing := r.missing.filter (fun m => !(m.2 == i && hit.any (fun k => k.entry == m.1)))
      if missing = r.missing then s
      else (s.modCtx e.1 (fun x => { x with raise := some { r with
        missing := missing, partials := r.partials.filter (fun p => missing.contains (p.1, p.2.1)) } })).endRaise e.1) s

/-- What becomes of a part of a shard page. -/
inductive Landed where
  /-- the context is not raising the entry (0x0808) -/
  | refused
  /-- the page was verified before -/
  | duplicate
  /-- taken -/
  | taken
  /-- the page is whole and differs from its leaf (0x0601) -/
  | differs
deriving DecidableEq, Repr

/-- A page is not kept: its bytes count as absent. -/
def State.differs (s : State) (c : Nat) : State := (s.bump 0x4310 3).signal 244 (some c)

/-- Part of a leaf of a raise. -/
def State.landShard (s : State) (c : Nat) (r : Raise) (h : Shard) (i off : Nat) (data : List Byte) : State × Landed :=
  let n := leafLength h.length i
  if h.leaves.length ≤ i ∨ n < off + data.length then (s, .refused)
  else if !r.missing.contains (h.entry, i) then (s, .duplicate)
  else
    let parts := r.partials ++ [(h.entry, i, off, data)]
    let mine := parts.filter (fun p => p.1 == h.entry && p.2.1 == i)
    let rest := parts.filter (fun p => !(p.1 == h.entry && p.2.1 == i))
    let put := fun (l : List (Nat × Nat × Nat × List Byte)) => s.modCtx c (fun x => { x with raise := some { r with partials := l } })
    match assemble n (mine.map (fun p => p.2.2)) with
    | none => (put parts, .taken)
    | some b =>
      if sm3 b = nth [] h.leaves i then
        let s := ((put rest).placeLeaf c h i b).bump 0x4310 1
        let s := if r.chain then s.forward c h i b else s
        (s.settleLeaf c h i, .taken)
      else ((put rest).differs c, .differs)

/-! ### Replacement (R344) -/

/-- The object of a context that waits for a leaf of a manifest entry again. -/
def State.replacingFor (s : State) (c entry leaf : Nat) : Option Nat :=
  (s.ctx c).objects.find? (fun id => (s.object id).entry == entry && (s.object id).replacing.contains leaf)

/-- New pages for an object that is replaced, each in the stack of the page it takes the place of where that has room. -/
def State.freshPages (s : State) (id : Nat) (prefer : List Nat) : State :=
  let o := s.object id
  if !o.fresh.isEmpty || o.replacing.isEmpty then s
  else if o.inHbm then
    match s.allocMany prefer (.object id) (o.pages.map (fun p => Spot.shared (some (p / 24576)) false (p * pageBytes))) with
    | some a => a.1.setObject id { o with fresh := a.2.1 }
    | none => s
  else
    match s.allocSill id none o.pages.length with
    | some a => a.1.setObject id { o with fresh := a.2 }
    | none => s

/-- Every mapping of an object moves to its pages, in the contexts whose mapped version holds it. -/
def State.remapObject (s : State) (id : Nat) : State :=
  (s.mappers id).foldl (fun s c =>
    let x := s.ctx c
    ((x.versionOf x.mapped).elim [] (fun v : Version => v.objs)).foldl (fun s o =>
      if o.2 = id then (match x.tensorById o.1 with | some t => s.remap c t id | none => s) else s) s) s

/-- The last leaf is back: the new pages are sealed, the mappings move, the old pages go, step opens are admitted again. -/
def State.endReplace (s : State) (id : Nat) : State :=
  let o := s.object id
  if !o.replacing.isEmpty || o.fresh.isEmpty then s
  else
    let maps := (o.pages.head?).elim 0 (fun p => (s.sillPage p).maps)
    let s := if o.inHbm then s else s.sealPages o.fresh id maps
    let s := (s.setObject id { o with pages := o.fresh, fresh := [], askedOf := none }).remapObject id
    -- the old pages are zeroed once no agent uses a translation that names them (R173, R197)
    ((s.freePages o).moveRetiring id).admitTest

/-- Part of a leaf of an object that is replaced. -/
def State.landReplace (s : State) (c id i off : Nat) (data : List Byte) : State × Landed :=
  let s := s.freshPages id []
  let o := s.object id
  let n := leafLength o.length i
  match o.fresh[i]? with
  | none => (s, .refused)
  | some p =>
    if n < off + data.length then (s, .refused)
    else
      let parts := o.partials ++ [(i, off, data)]
      let rest := parts.filter (fun q => q.1 != i)
      match assemble n ((parts.filter (fun q => q.1 == i)).map (·.2)) with
      | none => (s.setObject id { o with partials := parts }, .taken)
      | some b =>
        if sm3 b = nth [] o.leaves i then
          let s := (s.writeBytes (objPageAddr o p) b).setObject id { o with partials := rest, replacing := o.replacing.erase i }
          ((s.bump 0x4310 1).endReplace id, .taken)
        else ((s.setObject id { o with partials := rest }).differs c, .differs)

/-- Part of the page of a leaf of a manifest entry, from a host or a device (R338, R373). -/
def State.landLeaf (s : State) (c entry leaf off : Nat) (data : List Byte) : State × Landed :=
  match s.replacingFor c entry leaf with
  | some id => s.landReplace c id leaf off data
  | none =>
    match (s.ctx c).raise with
    | none => (s, .refused)
    | some r =>
      if r.state != 1 then (s, .refused)
      else match r.shards.find? (fun h => h.entry == entry) with
        | none => (s, .refused)
        | some h => s.landShard c r h leaf off data

/-! ### Re-check (R343) -/

/-- The pages of the Sealed objects that differ from their leaves, as (object, page index): every page is digested again. Those of an
object that is being replaced are not checked. -/
def State.differing (s : State) : List (Nat × Nat) :=
  (s.objects.filter (fun e => e.2.sealed && e.2.replacing.isEmpty && !e.2.leaves.isEmpty)).flatMap (fun e =>
    let o := e.2
    let first := if o.kind = 2 then 1 + leafPageCount o.leaves.length else 0
    (List.range o.leaves.length).filterMap (fun j =>
      let n := if o.kind = 2 then pageBytes else min pageBytes (o.length - j * pageBytes)
      if sm3 (s.readBytes (objPageAddr o (nth 0 o.pages (first + j))) n) = nth [] o.leaves j then none else some (e.1, first + j)))

/-- The page of a Sealed object differs from its leaf: pages are numbered as by the end of their zeroing. -/
def State.recheckBad (s : State) (prefer : List Nat) (page : Nat) : State :=
  let hbm := decide (page < hbmPages)
  match s.objectOf hbm (if hbm then page else page - hbmPages) with
  | some x => if (s.object x.1).sealed then (s.objectBad x.1 x.2).freshPages x.1 prefer else s
  | none => s

/-- Start of the next pass: at once where this one outran the period, else at the first cycle boundary after it. -/
def State.nextPass (s : State) (start : Nat) : State :=
  let due := start + s.num 0x4307 1 * 60 * sec
  let put := fun (s : State) (n : Nat) => { s with fault := { s.fault with recheck := some n } }
  if due < s.stamp then (put s s.stamp).bump 0x4310 6 else put s (roundUp due cycleUnits)

/-- A pass that ends at `now` notes the pages of a Sealed object that it found good. -/
def Obj.checked (o : Obj) (now : Nat) (good : Nat → Bool) : Obj :=
  if o.sealed && o.replacing.isEmpty then
    { o with lastGood := (List.range o.pages.length).foldl (fun a i => if good i then Assoc.set 0 a i now else a) o.lastGood }
  else o

/-- RECHECK_PASS (R343): a pass ends. The pages that it found to differ are those whose digest is not their leaf, and `bad`: pages whose
cells have lost what was written to them, which the byte store does not show (assumption log 147). -/
def execRecheckPass (dt : Nat) (bad : List Nat) (place : Placement) (s : State) : Host.Outcome State Fault Refusal :=
  .next ((s.elapse dt).whenUp fun s =>
    let start := s.fault.recheck.getD s.stamp
    if s.stamp < start then s
    else
      let d := s.differing
      let s := d.foldl (fun s p => (s.objectBad p.1 p.2).freshPages p.1 place.pages) s
      let s := bad.foldl (fun s p => s.recheckBad place.pages p) s
      let good := fun (id : Nat) (o : Obj) (i : Nat) =>
        !(d.contains (id, i) || bad.contains (if o.inHbm then nth 0 o.pages i else hbmPages + nth 0 o.pages i))
      let s := { s with objects := Assoc.mapVals Obj.none (fun id o => o.checked s.stamp (good id o)) s.objects }
      s.nextPass start)

/-! ### Weight versions (R346) -/

/-- A switch: the state and the code of object 0x4306.02. -/
def State.actSwitch (s : State) (c version : Nat) : State :=
  let x := s.ctx c
  let bad := match x.versionOf version with
    | none => true
    | some v => !v.raised || v.set.any (fun o => (x.tensorById o).elim false (fun t => t.gradTarget != 0))
  if bad then s.setCnt 0x4306 2 0x0443
  else
    let old := x.current
    ((s.setCtx c { x with current := version }).dropVersion c old).setCnt 0x4306 2 0

/-- WEIGHT_SWITCH (R346). -/
def execWeightSwitch (dt ctx version : Nat) (s : State) : Host.Outcome State Fault Refusal :=
  .next ((s.elapse dt).whenUp fun s => s.actSwitch (ctx % 4096) (version % 2 ^ 32))

/-- RAISING_COUNTERS_CLEAR (R361). -/
def execRaisingCountersClear (dt v : Nat) (s : State) : Host.Outcome State Fault Refusal :=
  .next ((s.elapse dt).whenUp fun s => s.execClear 0x4311 v)

end Sys2Proof.Machine
end

