-- ==== Sys2Proof/Machine/Transfer.lean ====
section
/-! DEFINITION. Page transfers as they arrive (R287, R338, R353), responses (R291), and what a sender sends again (R296). -/

namespace Sys2Proof.Machine

/-! ### Shard pages -/

/-- The answer to a message whose command has ended with a code. -/
def State.refuseWhole (s : State) (last : Option FabHdr) (h : FabHdr) (code : Nat) : State :=
  match last with
  | some l => s.respond 0x21 code l
  | none => (s.refuseCmd h).respond 0x21 code h

/-- The last message's answer once the command is whole. -/
def State.acknowledge (s : State) (last : Option FabHdr) : State :=
  match last with
  | some l => if l.flags.testBit 6 then s.respond 0x20 0 l else s
  | none => s

/-- Part of a shard page from a device (R287, R338). -/
def State.fabShard (s : State) (h : FabHdr) (p : PagePre) (data : List Byte) : State :=
  let a := s.landLeaf h.dstCtx (p.item % 2 ^ 24) p.index p.offset data
  match a.2 with
  | .refused => s.refuse 0x11 h 0x0808
  | .differs =>
    let b := a.1.noteLanded h
    b.1.refuseWhole b.2 h 0x0601
  | .taken =>
    let b := a.1.noteLanded h
    b.1.acknowledge b.2
  | .duplicate =>
    let b := a.1.noteLanded h
    (if b.2.isSome then b.1.bump 0x4310 4 else b.1).acknowledge b.2

/-! ### Image pages (R353, R354) -/

/-- The images that this device holds for a context of its buddy: (generation, step, committed). -/
def State.heldImages (s : State) (device c : Nat) : List (Nat × Nat × Bool) :=
  (s.objects.filter (fun e => e.2.kind == 2 && e.2.sealed && !e.2.isLocal && e.2.srcDevice == device && e.2.srcCtx == c)).map
    (fun e => (e.2.generation, e.2.step, e.2.committed))

/-- The image of a source that is being received. -/
def State.fillingImage (s : State) (device c : Nat) : Option Nat :=
  s.findImage device c (fun o => !o.isLocal && !o.sealed)

/-- A fresh image in Filling in the slot of R354. -/
def State.reopen (s : State) (h : FabHdr) (p : PagePre) : State × Nat :=
  let g := (newSlot (s.heldImages h.srcDevice h.srcCtx)).getD 0
  let s := match s.findImage h.srcDevice h.srcCtx (fun o => !o.isLocal && o.generation == g) with
    | some id => s.freeObject id
    | none => s
  let id := s.nextObj + 1
  (({ s with nextObj := id } : State).setObject id { Obj.none with
    kind := 2, srcDevice := h.srcDevice, srcCtx := h.srcCtx, step := p.index, generation := g, layoutEpoch := p.layoutEpoch }, id)

/-- The open slot of a source for an image of a step: a first page opens one, in place of an image that never ended; the old image
there is freed. None where the sender is not one whose images this device stores, or no slot is to be had. -/
def State.openSlot (s : State) (h : FabHdr) (p : PagePre) : Option (State × Nat) :=
  if h.srcDevice ≠ buddyOf s.deviceId ∨ (s.ctx h.dstCtx).imageReserve = 0 then none
  else
    match s.fillingImage h.srcDevice h.srcCtx with
    | some id =>
      if (s.object id).step = p.index then some (s, id)
      else if (newSlot (s.heldImages h.srcDevice h.srcCtx)).isNone then none
      else some ((s.freeObject id).reopen h p)
    | none => if (newSlot (s.heldImages h.srcDevice h.srcCtx)).isNone then none else some (s.reopen h p)

/-- Pages of an image up to one with a given index; none where sill has no page left. -/
def State.growImage (s : State) (c id i : Nat) : Option State :=
  let o := s.object id
  (s.allocSill id (some c) (i + 1 - o.pages.length)).map (fun a => a.1.setObject id { o with pages := o.pages ++ a.2 })

/-- Pages of content of an image of `n` pages after its header page (R356). -/
def contentPages (n : Nat) : Nat :=
  match (List.range (n / 65536 + 2)).find? (fun f => leafPageCount (n - f) == f) with
  | some f => n - f
  | none => n

/-- An image as its pages say: the header, its leaves, and whether every page and the root match (R353, R358). -/
structure ImageRead where
  header : Nat
  leaves : List (List Byte)
  content : List (List Byte)
  /-- pages whose content is not their leaf's, by page index; the header page where the leaves are not the root's -/
  wrong : List Nat
  ok : Bool
deriving DecidableEq, Repr

def readImage (pages : List (List Byte)) : ImageRead :=
  let head := fitBytes pageBytes (nth [] pages 0)
  let n := leNat (head.take 64)
  let count := bits n 113 82
  let k := contentPages count
  let more := ((pages.drop 1).take (count - k)).flatten
  let leaves := (chunks 32 (head.drop 64 ++ more)).take k
  let content := (pages.drop (1 + (count - k))).take k
  let differ := (List.range k).filterMap (fun j =>
    if sm3 (fitBytes pageBytes (nth [] content j)) = nth [] leaves j then none else some (1 + (count - k) + j))
  let wrong := (if sm3 leaves.flatten = leBytes 32 (bits n 511 256) then [] else [0]) ++ differ
  { header := n, leaves := leaves, content := content, wrong := wrong,
    ok := decide (1 ≤ k) && content.length == k && leaves.length == k && wrong.isEmpty }

/-- The bytes of the pages of an object. -/
def State.objectPages (s : State) (o : Obj) : List (List Byte) := o.pages.map (fun p => s.readBytes (objPageAddr o p) pageBytes)

/-- The header page has landed: the image is sealed when everything matches. A page that fails its leaf for the second time ends it (R353,
R355). The answer is the code for the sender: 0x0601 has the pages sent again. -/
def State.checkImageIn (s : State) (id : Nat) : State × Nat :=
  let o := s.object id
  let r := readImage (s.objectPages o)
  let missing := (List.range o.pages.length).filter (fun i => !o.got.contains i)
  if r.ok && missing.isEmpty && bits r.header 191 160 == o.step then
    (((s.sealPages o.pages id 0).setObject id { o with
      sealed := true, root := leBytes 32 (bits r.header 511 256), leaves := r.leaves, length := o.pages.length * pageBytes,
      stamp := bits r.header 255 192, layoutEpoch := bits r.header 159 144, version := bits r.header 81 50,
      partials := [] }).moveRetiring id, 0)
  else
    let s := (s.bump 0x4310 3).signal 244 none
    let wrong := if r.wrong.isEmpty then [0] else r.wrong
    if wrong.any o.failedOnce.contains then (s.freeObject id, 0x0701)
    else (s.setObject id { o with failedOnce := o.failedOnce ++ wrong, got := [], partials := [] }, 0x0601)

/-- A whole page of an image is written; the header page is checked with all others. -/
def State.writeImagePage (s : State) (id i : Nat) (b : List Byte) : State × Nat :=
  let o := s.object id
  match o.pages[i]? with
  | none => (s, 0x0601)
  | some p =>
    let s := (s.writeBytes (sillPageAddr p) b).setObject id { o with
      got := (o.got ++ [i]).eraseDups, partials := o.partials.filter (fun q => q.1 != i) }
    if i = 0 then s.checkImageIn id else (s, 0)

/-- Part of an image page from a device. -/
def State.fabImage (s : State) (h : FabHdr) (p : PagePre) (data : List Byte) : State :=
  match s.openSlot h p with
  | none => s.refuse 0x11 h 0x0701
  | some a =>
    match a.1.growImage h.dstCtx a.2 p.item with
    | none => (a.1.freeObject a.2).refuse 0x11 h 0x0701
    | some s =>
      if pageBytes < p.offset + data.length then s.refuse 0x11 h 0x0701
      else
        let o := s.object a.2
        let parts := o.partials ++ [(p.item, p.offset, data)]
        match assemble pageBytes ((parts.filter (fun q => q.1 == p.item)).map (·.2)) with
        | none =>
          let b := (s.setObject a.2 { o with partials := parts }).noteLanded h
          b.1.acknowledge b.2
        | some page =>
          let w := s.writeImagePage a.2 p.item page
          let b := w.1.noteLanded h
          if w.2 = 0 then b.1.acknowledge b.2 else b.1.refuseWhole b.2 h w.2

/-- PAGE_TRANSFER (R287): no step 9; the data goes to raising or to the receiving scarf engine. -/
def execPageTransfer (dt : Nat) (via : Via) (msg : FabMsg) (s : State) : Host.Outcome State Fault Refusal :=
  .next ((s.elapse dt).receive 0x11 via msg fun s h b =>
    let p := PagePre.parse b
    if p.image then s.fabImage h p (b.drop 32) else s.fabShard h p (b.drop 32))

/-! ### Responses (R291, R296) -/

/-- The window of a device has room again: images and chains go on. -/
def State.pumpTo (s : State) (d : Nat) : State :=
  s.ctxs.foldl (fun s e =>
    let s := if e.2.image.elim false (fun im => im.device == d) then s.pumpImage 32 e.1 else s
    if e.2.forwards.isEmpty then s else s.pumpForwards 32 e.1) s

def State.pageOutOf (s : State) (c q slot : Nat) : Option PageOut :=
  s.fab.pageOut.find? (fun o => o.ctx == c && o.queue == q && o.slot == slot)

/-- The first response of a command ends it with its code; a later one is counted (R291). -/
def State.answered (s : State) (h : FabHdr) (code : Nat) : State :=
  let c := h.dstCtx
  let late := fun (s : State) => s.bump 0x4110 0x0E
  let s := { s with fab := { s.fab with resend := s.fab.resend.filter (fun e => !(e.1 == c && e.2.1 == h.srcQueue && e.2.2.1 == h.srcSlot)) } }
  let s :=
    if h.srcQueue = scarfQueue then
      if (s.pageOutOf c scarfQueue h.srcSlot).isNone then late s
      else if code = 0 then s.imageAck c h.srcSlot else s.imageNack c h.srcSlot code
    else if h.srcQueue = raiseQueue then
      if (s.pageOutOf c raiseQueue h.srcSlot).isNone then late s else s.forwardEnd c h.srcSlot
    else if h.srcQueue = 272 then
      let a := if code = 0 then (s, false) else s.collRefused c h.srcSlot code
      if a.2 then (if abandonCode code then a.1.abandon c code else a.1) else late s
    else
      let hit := (s.endRemote c h.srcQueue h.srcSlot code).2
      -- a first response that lands after its haul completed with 0x0410 is written and counted (R256)
      let gone := (s.ctx c).lateWaits.find? (fun w => w.1 == 1 && w.2.2.1 == h.srcQueue && w.2.2.2 == h.srcSlot)
      if !hit && gone.isNone then late s
      else
        let f := s.fillSlot c (0x0400 + h.srcQueue / 4)
          { value := h.value, code := code, device := h.srcDevice, ctx := h.srcCtx, slot := h.srcSlot }
        match gone with
        | some w => (f.modCtx c (fun x => { x with lateWaits := x.lateWaits.erase w })).bump 0x3210 0x0B
        | none => (f.endRemote c h.srcQueue h.srcSlot code).1
  s.pumpTo h.srcDevice

/-- ACKNOWLEDGEMENT (R291). -/
def execAcknowledgement (dt : Nat) (via : Via) (msg : FabMsg) (s : State) : Host.Outcome State Fault Refusal :=
  .next ((s.elapse dt).receive 0x20 via msg fun s h _ => ((s.markSeq h).bump 0x4110 2).answered h 0)

/-- The runs of a context, on engines and parked. -/
def State.allRuns (s : State) (c : Nat) : List Run := (s.runsOf c).map (·.2) ++ (s.ctx c).parked.filterMap (·.run)

/-- A run whose messages await a response, or whose contributions are out. -/
def Run.hasOut (r : Run) (q slot : Nat) : Bool := r.queue == q && r.slot == slot && !r.out.isEmpty

/-- The messages of a command that is still out: (type, messages). -/
def State.outOf (s : State) (c q slot : Nat) : List (FabHdr × List Byte) :=
  match s.pageOutOf c q slot with
  | some o => o.msgs
  | none => match (s.allRuns c).find? (fun r => r.hasOut q slot) with
    | some r => r.out
    | none => []

/-- The type of a message of a queue. -/
def outType (q : Nat) (p : List Byte) : Nat := if q = 272 then 0x10 else if 273 < q then 0x11 else if p.isEmpty then 0x03 else 0x01

/-- Send a message again: its seq stays, resent 1. -/
def State.resendOne (s : State) (q : Nat) (m : FabHdr × List Byte) : State :=
  let ty := outType q m.2
  let h := sealFab { m.1 with flags := m.1.flags ||| 0x10 } ty m.2
  let a := s.route h.dstDevice ty h m.2
  if a.2 then a.1.bump 0x4110 1 else s

/-- NEGATIVE_ACKNOWLEDGEMENT (R291, R296): 0x0308 has its message sent again; any other code ends the command. -/
def execNegativeAcknowledgement (dt : Nat) (via : Via) (msg : FabMsg) (s : State) : Host.Outcome State Fault Refusal :=
  .next ((s.elapse dt).receive 0x21 via msg fun s h _ =>
    let s := ((s.markSeq h).bump 0x4110 2).bump 0x4110 5
    if h.code = 0x0308 then
      if (s.outOf h.dstCtx h.srcQueue h.srcSlot).isEmpty then s.bump 0x4110 0x0E
      else { s with fab := { s.fab with
        resend := s.fab.resend ++ [(h.dstCtx, h.srcQueue, h.srcSlot, h.srcDevice, h.msgIndex, s.stamp + 2 * us)] } }
    else s.answered h h.code)

/-- SEQ_WINDOW_RESEND (R296): the message refused with 0x0308, 2 µs before. -/
def execSeqWindowResend (dt ctx q msgIndex : Nat) (s : State) : Host.Outcome State Fault Refusal :=
  .next ((s.elapse dt).whenUp fun s =>
    match s.fab.resend.find? (fun e => e.1 == ctx && e.2.1 == q && e.2.2.2.2.1 == msgIndex && decide (e.2.2.2.2.2 ≤ s.stamp)) with
    | none => s
    | some e =>
      let s := { s with fab := { s.fab with resend := s.fab.resend.erase e } }
      match (s.outOf ctx q e.2.2.1).find? (fun m => m.1.msgIndex == msgIndex && m.1.dstDevice == e.2.2.2.1) with
      | some m => s.resendOne q m
      | none => s)

/-! ### Retransmission (R296) -/

/-- Note a further send of a run's messages. -/
def Run.sentAgain (r : Run) (now : Nat) : Run :=
  match r.await with
  | .ack d re c ce f n _ k => { r with await := .ack d re c ce f n now (k + 1) }
  | _ => r

/-- Change a run where it is: on an engine or parked. -/
def State.modRun (s : State) (r : Run) (f : Run → Run) : State :=
  let g := fun (x : Run) => if x = r then f x else x
  let s := { s with engines := Assoc.mapVals Engine.idle (fun _ e => { e with running := e.running.map g, suspended := e.suspended.map g }) s.engines }
  s.modCtx r.ctx (fun x => { x with parked := x.parked.map (fun p => { p with run := p.run.map g }) })

/-- Last send and resends of a run that awaits a response and left on purlins. -/
def Run.outSince (r : Run) : Option (Nat × Nat) :=
  match r.await with
  | .ack _ _ _ _ _ _ t k => if r.purlin then some (t, k) else none
  | _ => none

/-- Every message of a command again, counted as one retransmission. -/
def State.resendAll (s : State) (q : Nat) (l : List (FabHdr × List Byte)) : State := (l.foldl (fun s m => s.resendOne q m) s).bump 0x4110 6

/-- A command ends with no response: 0x0304, source 212. -/
def State.noResponse (s : State) (c q slot : Nat) : State :=
  let s := (s.bump 0x4110 0x0B).signal 212 (some c)
  if q = scarfQueue then s.failImage c
  else if q = raiseQueue then s.forwardEnd c slot
  else (s.endRemote c q slot 0x0304).1

/-- The retransmission timer of a command: due 0x4106.01 after its last send. -/
def State.resendDue (s : State) (t : Nat) : Bool := decide (t + s.num 0x4106 1 * us ≤ s.stamp)

/-- RETRANSMIT_TIMEOUT (R296). -/
def execRetransmitTimeout (dt ctx q slot : Nat) (s : State) : Host.Outcome State Fault Refusal :=
  .next ((s.elapse dt).whenUp fun s =>
    match s.pageOutOf ctx q slot with
    | some o =>
      if !o.purlin || !s.resendDue o.lastSend then s
      else if s.num 0x4106 2 ≤ o.resends then s.noResponse ctx q slot
      else
        let s := s.resendAll q o.msgs
        { s with fab := { s.fab with
          pageOut := s.fab.pageOut.map (fun p => if p = o then { p with lastSend := s.stamp, resends := p.resends + 1 } else p) } }
    | none =>
      match (s.allRuns ctx).find? (fun r => r.hasOut q slot && r.outSince.isSome) with
      | none => s
      | some r =>
        match r.outSince with
        | none => s
        | some t =>
          if !s.resendDue t.1 then s
          else if s.num 0x4106 2 ≤ t.2 then s.noResponse ctx q slot
          else (s.resendAll q r.out).modRun r (fun r => r.sentAgain s.stamp))

end Sys2Proof.Machine
end

