-- ==== Sys2Proof/Machine/Restore.lean ====
section
/-! DEFINITION. Checkpoint requests and commits (R351, R354) and restore (R357, R358). -/

namespace Sys2Proof.Machine

/-! ### Requests and commits -/

def State.actCheckpoint (s : State) (c : Nat) : State :=
  let a := s.clampNum 0x4303 2 c
  let x := a.1.ctx a.2
  if x.state = 2 ∨ x.state = 3 then a.1.setCtx a.2 { x with checkpointAsked := true } else a.1

/-- CHECKPOINT_REQUEST (R351). -/
def execCheckpointRequest (dt ctx : Nat) (s : State) : Host.Outcome State Fault Refusal :=
  .next ((s.elapse dt).whenUp fun s => s.actCheckpoint ctx)

/-- The image of a step is committed wherever this device has to do with it: its own slots at the buddy, its local copy, and what it
holds for its buddy's context of the same job. A slot that comes free lets a waiting re-shard go on. -/
def State.actCommit (s : State) (c step : Nat) : State :=
  let x := s.ctx c
  let b := buddyOf s.deviceId
  let theirs := (s.peerOf c b).ctx
  let s := s.setCtx c { x with imageSlots := x.imageSlots.map (fun e => if e.2.1 = step then (e.1, e.2.1, true) else e) }
  let mine := fun (o : Obj) => (o.srcDevice == s.deviceId && o.srcCtx == c) || (o.srcDevice == b && o.srcCtx == theirs)
  let s := { s with objects := Assoc.mapVals Obj.none (fun _ o =>
    if o.kind == 2 && o.sealed && o.step == step && mine o then { o with committed := true } else o) s.objects }
  s.startReshard c

/-- CHECKPOINT_COMMIT (R354). -/
def execCheckpointCommit (dt ctx step : Nat) (s : State) : Host.Outcome State Fault Refusal :=
  .next ((s.elapse dt).whenUp fun s => if (s.ctx (ctx % 4096)).defined then s.actCommit (ctx % 4096) (step % 2 ^ 32) else s)

/-! ### Restore -/

/-- The fields of Table 10-7. -/
structure RestoreBlock where
  table : Nat
  holder : Nat
  ctx : Nat
  step : Nat
deriving DecidableEq, Repr

def restoreBlock (b : List Byte) : RestoreBlock :=
  let n := leNat (fitBytes 32 b)
  { table := bits n 255 208, holder := bits n 207 190, ctx := bits n 189 178, step := bits n 177 146 }

/-- Step 2 of R358: every queue, the ring, the segments, the held table and the parked waits are empty; no step is open. Contributions of steps
after the restored one, which run again, are forgotten (R316; assumption log 151). -/
def Ctx.emptied (x : Ctx) (step : Nat) : Ctx :=
  { x with
    queues := x.queues.map (fun e => (e.1, { e.2 with head := e.2.tail, completed := e.2.tail, marks := [], headStamp := none, timedOut := false })),
    ringHead := x.ringTail, ringReserved := 0, segments := [], held := [], parked := [], parkFull := false,
    lateWaits := [], reshard := 0, stepOpen := false, admitted := false, waitSince := none, waitRaised := false, waitCounted := false, abandoned := none,
    contribs := (x.contribs.filter (fun k => decide (sub32 step k.step < 2 ^ 31))).map Contrib.spent, collSent := [], aborts := [], abortsSent := [], sealed := false, updDone := [], baySteps := [] }

/-- A context that was created and never raised is restored in place of a raise: its device replaces another (R214, R358). -/
def Ctx.replacement (x : Ctx) : Bool := !x.jobRaised && !x.stats.closed && !x.stepOpen

/-- Step 3: a new frame table; the device takes the place that it gives it, under a new role epoch where that differs, or where the device
replaces another (R214). None where its tensors find no pages there. -/
def State.newFrame (s : State) (c : Nat) (k : Restoring) : Option State :=
  let x := s.ctx c
  let l := if k.table = 0 then x.frameTable else (List.range (x.gridR * x.gridP)).map (fun i => s.readNat (k.table + 2 * i) 2 % 2 ^ 15)
  let i := l.findIdx (· == s.deviceId / 8)
  let here := k.table != 0 && decide (i < l.length)
  let rep := if here then i / max 1 x.gridP else x.gridRep
  let stage := if here then i % max 1 x.gridP else x.gridStage
  let moved := rep != x.gridRep || stage != x.gridStage || x.replacement
  let y := { x with
    frameTable := l, gridRep := rep, gridStage := stage, roleEpoch := if moved then (x.roleEpoch + 1) % 65536 else x.roleEpoch,
    peers := if k.place.peers.isEmpty then x.peers else k.place.peers }
  let s := s.setCtx c { y with remotes := (y.remotes ++ y.planDevices s.deviceId).eraseDups }
  if stage != x.gridStage then s.replace c (metaOf (s.containerOf c)) stage k.place.pages else some s

/-- The restore of a context ends with a code. -/
def State.endRestore (s : State) (c code : Nat) : State :=
  let s := (s.modCtx c (fun x => { x with restoring := none })).setCnt 0x4305 2 code
  if code = 0 then (((s.bump 0x4310 0x0B).signal 245 (some c)).track c).admitTest else s.signal 247 (some c)

/-- Steps 2 and 3, once the started work has drained. A place without pages for the tensors ends the restore with 0x0405 (assumption log
143). -/
def State.emptyAndMap (s : State) (c : Nat) : State :=
  match (s.ctx c).restoring with
  | none => s
  | some k =>
    let s := (s.failImage c).modCtx c (fun x => { x.emptied k.step with restoring := some { k with phase := 2 } })
    match s.newFrame c k with
    | none => s.endRestore c 0x0405
    | some s => (((s.saveParked c).armTimer).track c).admitTest

/-- A write of a restore block (object 0x4305.01): the state, and the code that the write is answered with (R397). The started work drains
first; a swapped-out context has none. -/
def State.actRestore (s : State) (block : List Byte) (place : Placement) : State × Nat :=
  let k := restoreBlock block
  let x := s.ctx k.ctx
  if x.restoring.isSome then (s, 0x0805)
  else
    let s := if block.length ≠ 32 then s.bump 0x4310 0x0D else s
    if x.state ≠ 2 ∧ x.state ≠ 3 then (s, 0)
    else
      let r : Restoring := { step := k.step, holder := k.holder, table := k.table, place := place, phase := 1, since := s.stamp }
      let s := s.modCtx k.ctx (fun x => { x with restoring := some r })
      if x.state = 3 ∨ s.drained k.ctx then (s.emptyAndMap k.ctx, 0) else (s, 0)

/-- The started work of a context that is being restored still drains. -/
def Ctx.restoreDrains (x : Ctx) : Bool := x.restoring.elim false (fun r => r.phase == 1)

/-- TEARDOWN_DRAIN_END (R230, R358). -/
def execTeardownDrainEnd (dt id : Nat) (s : State) : Host.Outcome State Fault Refusal :=
  .next ((s.elapse dt).whenUp fun s =>
    if !s.drained id then s
    else if (s.ctx id).closePhase = 1 then s.endDrain id
    else if (s.ctx id).restoreDrains then s.emptyAndMap id
    else s)

/-- TEARDOWN_DRAIN_LIMIT (R230, R358): what still runs 200 µs after the start completes with 0x0408. Object 0x3110.07 counts teardowns
(assumption log 148). -/
def execTeardownDrainLimit (dt id : Nat) (s : State) : Host.Outcome State Fault Refusal :=
  .next ((s.elapse dt).whenUp fun s =>
    let x := s.ctx id
    if s.drained id then s
    else if x.closePhase = 1 then
      (if x.closeStamp + 200 * us ≤ s.stamp then ((s.abortAll id).bump 0x3110 7).endDrain id else s)
    else if x.restoreDrains && x.restoring.elim false (fun r => decide (r.since + 200 * us ≤ s.stamp)) then (s.abortAll id).emptyAndMap id
    else s)

/-- RESTORE (R358). -/
def execRestore (dt : Nat) (block : List Byte) (place : Placement) (s : State) : Host.Outcome State Fault Refusal :=
  .next ((s.elapse dt).whenUp fun s => (s.actRestore block place).1)

/-- Step 5: the pages of an image at their placed addresses, what its header sets, and the averages of its context pages (R349). The rest
of the context pages is what creation and the placer gave the context (assumption log 32). -/
def State.putImage (s : State) (c : Nat) (r : ImageRead) : State :=
  let x := s.ctx c
  let n := leNat ((nth [] r.content 0).take 128)
  let s := (x.imageAddrs.zip (r.content.drop (ctxPageCount x.tensorCount))).foldl (fun s p => s.putBytes c p.1 p.2) s
  s.modCtx c (fun x => { x with
    g2Ema := bits n 431 400, trEma := bits n 399 368, emaValid := n.testBit 360, step := bits r.header 191 160, layoutEpoch := bits r.header 159 144, version := bits r.header 81 50 })

/-- The sealed local copy of a step, as it reads. -/
def State.localImage (s : State) (c step : Nat) : Option ImageRead :=
  (s.findImage s.deviceId c (fun o => o.isLocal && o.sealed && o.step == step)).map (fun id => readImage (s.objectPages (s.object id)))

/-- RESTORE_COMPLETE (R358): the image was read, the local copy first. `localBad`: a page of the local copy fails its leaf. `holder`:
the pages as the holder gave them; none where it has no sealed image of the step. -/
def execRestoreComplete (dt ctx : Nat) (localBad : Bool) (holder : Option (List (List Byte))) (s : State) :
    Host.Outcome State Fault Refusal :=
  .next ((s.elapse dt).whenUp fun s =>
    match (s.ctx ctx).restoring with
    | none => s
    | some k =>
      if k.phase != 2 then s
      else
      let own := s.localImage ctx k.step
      match own.filter (fun r => r.ok && !localBad) with
      | some r => (s.putImage ctx r).endRestore ctx 0
      | none =>
        match holder.map readImage with
        | some r => if r.ok && bits r.header 191 160 == k.step then (s.putImage ctx r).endRestore ctx 0 else s.endRestore ctx 0x0704
        | none => s.endRestore ctx (if own.isSome then 0x0704 else 0x070F))

end Sys2Proof.Machine
end

