-- ==== Sys2Proof/Machine/Flags.lean ====
section
/-! DEFINITION. Status objects as they read: the dictionary objects whose value is that of machine state (R20, R22, R35, R60 and the
object tables of every chapter). -/

namespace Sys2Proof.Machine

/-! ### The part, memory and contexts -/

/-- Bay status (Table 1-2). -/
def State.bayStatus (s : State) (b : Nat) : Nat :=
  let x := s.bay b
  if x.out then 4 else if x.inReset || (s.die (b / 16)).inReset then 3 else x.power

/-- Die status (0x2002): the edge dies are in reset with the device. -/
def State.dieStatus (s : State) (d : Nat) : Nat :=
  if d < 4 then (if (s.die d).failed then 2 else if (s.die d).inReset then 1 else 0) else if s.up then 0 else 1

/-- HBM pages that may be allocated: the copy pools are firmware pages (R184). -/
def State.hbmCount (s : State) : Nat :=
  hbmPages - 16384 - (s.hbm.filter (fun e => e.2.use != .free && decide (e.1 % 24576 < 23552))).length

/-- Sill pages in a state; a page is free once the zeroing of a cold boot has reached it (R495). -/
def State.sillCount (s : State) (k : Nat) : Nat :=
  let reached := fun (i : Nat) => Assoc.get 0 s.boot.sillReached i
  if k = 0 then ((List.range 8).map reached).foldl (· + ·) 0
    - (s.sill.filter (fun e => e.2.state != 0 && decide (e.1 % 65536 < reached (e.1 / 65536)))).length
  else (s.sill.filter (fun e => e.2.state == k)).length

/-- The context that object 0x3102.01 selects. -/
def State.selected (s : State) : Nat := s.num 0x3102 1

def State.memoryObject (s : State) (sub : Nat) : Option Nat :=
  match sub with
  | 1 => some s.hbmCount
  | 2 => some (s.sillCount 0)
  | 3 => some (s.sillCount 1)
  | 4 => some (s.sillCount 2)
  | 5 => some s.copies.length
  | _ => none

def State.contextObject (s : State) (sub : Nat) : Option Nat :=
  let x := s.ctx s.selected
  match sub with
  | 2 => some x.state
  | 3 => some (s.epoch s.selected)
  | 4 => some x.step
  | 5 => some (if x.defined then saveBytes x.keep else 0)
  | _ => none

/-! ### Mapping and raising, of the selected context -/

def State.gridObject (s : State) (sub : Nat) : Option Nat :=
  let x := s.ctx s.selected
  match sub with
  | 1 => some x.gridR
  | 2 => some x.gridP
  | 3 => some x.gridRep
  | 4 => some x.gridStage
  | 5 => some ((x.gridRep * x.gridP + x.gridStage) * 8 + x.gridPos)
  | _ => none

/-- Layers and head slots of the own stage and position (R307, R308). -/
def State.shareObject (s : State) (sub : Nat) : Option Nat :=
  let x := s.ctx s.selected
  let real := (x.heads + 7 - x.gridPos) / 8
  match sub with
  | 1 => some (if x.gridP = 0 then 0 else stageLayers x.layers x.gridP x.gridStage)
  | 2 => some (if x.gridP = 0 then 0 else
      ((List.range x.gridStage).map (stageLayers x.layers x.gridP)).foldl (· + ·) 0)
  | 3 => some (if x.gridP = 0 then 0 else real)
  | 4 => some (if x.gridP = 0 then 0 else ceilDiv x.heads 8 - real)
  | _ => none

def State.raiseObject (s : State) (sub : Nat) : Option Nat :=
  let r := (s.ctx s.selected).raise
  match sub with
  | 3 => some (r.elim 0 (fun r => r.state))
  | 4 => some (r.elim 0 (fun r => r.missing.length))
  | _ => none

/-- Images held in the sill (0x4308). -/
def State.imageObject (s : State) (sub : Nat) : Option Nat :=
  let l := s.objects.filter (fun e => e.2.kind == 2 && e.2.sealed)
  match sub with
  | 1 => some l.length
  | 2 => some ((l.map (fun e => e.2.pages.length)).foldl (· + ·) 0 * pageBytes)
  | 3 => some (b2n (s.ctx s.selected).localReserved)
  | _ => none

/-! ### Interrupts, counters and time -/

def State.counterSelect (s : State) : Nat × Nat := (bits (s.num 0x5101 1) 14 8, bits (s.num 0x5101 1) 2 0)

/-- Unit status (Table 13-10). -/
def State.unitStatus (s : State) (u : Nat) : Nat := Assoc.get 0 s.perf.overflow u + 256 * b2n (s.perf.lost.contains u)

def State.counterObject (s : State) (sub : Nat) : Option Nat :=
  let u := s.counterSelect
  match sub with
  | 2 => some (s.perfConfig u.1 u.2)
  | 3 => some (s.perfValue u.1 u.2)
  | 4 => some (s.unitStatus u.1)
  | _ => none

def State.samplingObject (s : State) (sub : Nat) : Option Nat :=
  let r := s.samplingRun s.selectedRun
  match sub with
  | 2 => some r.config
  | 4 => some r.state
  | 5 => some r.writeIndex
  | 6 => some r.readMark
  | 7 => some r.code
  | _ => none

def windowBytes (l : Sparse (List Byte)) : List Byte := (List.range 89).flatMap (fun i => Assoc.get (zeroBytes 32) l i)

/-- The source of a follower's time (0x4004.03). -/
def State.timeSource (s : State) : Nat := if s.leads then 2 else if s.fab.fallback then 1 else 0

/-- The state of the management port (0x1101.01), of the PLCA settings in force (R387). -/
def State.plcaState (s : State) : Nat :=
  match s.efyth.plca with
  | [] => 0
  | n :: _ => if n = 255 then 1 else if n = 0 then 3 else 2

/-! ### Power, faults and boot -/

def State.railObject (s : State) (sub : Nat) : Option Nat :=
  if 1 ≤ sub ∧ sub ≤ 4 then some (s.die (sub - 1)).voltage
  else if 5 ≤ sub ∧ sub ≤ 8 then some (s.die (sub - 5)).current
  else if sub = 9 then
    some (if (List.range 4).any (fun d => (s.die d).frozen) then 2
      else if (List.range 4).any (fun d => (s.die d).failRun != 0) then 1 else 0)
  else none

def State.junctionObject (s : State) (sub : Nat) : Option Nat :=
  if 1 ≤ sub ∧ sub ≤ 4 then some (ofSigned 32 (s.die (sub - 1)).junction)
  else match sub with
    | 5 => some (ofSigned 32 s.power.edge0)
    | 6 => some (ofSigned 32 s.power.edge1)
    | 7 => some (ofSigned 32 s.power.maxJunction)
    | _ => none

def State.clockObject (s : State) (sub : Nat) : Option Nat :=
  if 1 ≤ sub ∧ sub ≤ 4 then some (s.die (sub - 1)).clock
  else match sub with
    | 5 => some s.reduceClock
    | 6 => some s.clipReasons
    | _ => none

def State.bandObject (s : State) (sub : Nat) : Option Nat :=
  match sub with
  | 1 => some (wholeOf 16 s.admitPower)
  | 2 => some (wholeOf 32 s.budget)
  | 3 => some (wholeOf 16 s.power.g)
  | 4 => some (wholeOf 16 s.govPower)
  | _ => none

def State.energyObject (s : State) (sub : Nat) : Option Nat :=
  let p := s.power
  match sub with
  | 1 => some (wholeOf 16 (p.windows.headD 0))
  | 2 => some (wholeOf 16 s.mean1ms)
  | 3 => some (wholeOf 64 p.ePackage)
  | 4 => some (wholeOf 64 p.eIdle)
  | 5 => some (wholeOf 64 p.eBallast)
  | 6 => some (wholeOf 64 p.eCtx)
  | _ => none

def State.ctxEnergyObject (s : State) (sub : Nat) : Option Nat :=
  let x := s.ctx s.selected
  match sub with
  | 1 => some (wholeOf 64 x.stats.energy)
  | 2 => some (wholeOf 64 x.stats.ePrev)
  | 3 => some (if x.defined then wholeOf 32 (s.estimate x) else 0)
  | _ => none

def State.wearObject (s : State) (sub : Nat) : Option Nat :=
  if 1 ≤ sub ∧ sub ≤ 4 then some (s.die (sub - 1)).wearSeconds
  else if sub = 5 then some s.boot.fuses.wearBudget
  else if 6 ≤ sub ∧ sub ≤ 9 then some (s.wearState (sub - 6))
  else if 10 ≤ sub ∧ sub ≤ 13 then some (s.die (sub - 10)).wear
  else none

/-- The bay and the context in quarantine (0x7105). -/
def State.quarantine (s : State) : Option (Nat × Nat) :=
  (s.bays.find? (fun e => e.2.qCurrent.isSome)).map (fun e => (e.1, e.2.qCurrent.getD 0))

/-- Input levels (0x7F02.01). -/
def State.inputLevels (s : State) : Nat :=
  let p := s.pins
  b2n p.resetN + 2 * b2n p.pgSoc + ((List.range 4).map (fun i => b2n (nth true p.pgBeam i) * 2 ^ (2 + i))).foldl (· + ·) 0
    + 64 * b2n p.shedN + 128 * b2n p.vrAlertN + 256 * b2n (Config.ppsInLevel s.stamp)

/-- STAT pins and the levels of their holders (0x7F02.02). -/
def State.statWord (s : State) : Nat :=
  (List.range 4).foldl (fun a n => a + b2n (s.statAsserted n) * 2 ^ n
    + ((s.resUnit (200 + n)).holder.elim 0 (fun h => h.level)) * 2 ^ (4 + 3 * n)) 0

/-- The calibration image (Table 12-5). -/
def State.calibrationImage (s : State) : List Byte :=
  let vals := fun (idx lo n : Nat) => (rangeFrom lo n).flatMap (fun k => leBytes 4 (s.num idx k))
  let b := leBytes 8 s.boot.fuses.serial ++ leBytes 2 1 ++ zeroBytes 6 ++ vals 0x6110 1 6 ++ vals 0x6111 1 8 ++ vals 0x6112 1 4
    ++ vals 0x6113 1 4 ++ vals 0x6114 1 1 ++ zeroBytes 4
  b ++ sm3 b

/-! ### The value of an object -/

/-- The chapters 1, 5 to 10. -/
def State.value1 (s : State) (idx sub : Nat) : Option ObjVal :=
  let n := fun (o : Option Nat) => o.map ObjVal.num
  match idx with
  | 0x1002 => some (.num (if sub = 1 then s.boot.fuses.serial else if sub = 8 then s.boot.fuses.week
      else nth 0 s.boot.fuses.dieRevs (sub - 2)))
  | 0x1003 => if sub = 1 then some (.num s.boot.fuses.romVersion) else none
  | 0x1004 => if sub = 1 then some (.num (s.num 0x1004 1 / 8 * 8 + s.straps % 8)) else if sub = 2 then some (.num s.deviceId) else none
  | 0x1005 => some (.num (if sub = 1 then s.boot.coldStamp else s.boot.coldResets))
  | 0x1101 => some (.num (if sub = 1 then s.plcaState else s.boot.fuses.macMgmt))
  | 0x2001 => some (.num (s.bayStatus (sub - 1)))
  | 0x2002 => some (.num (s.dieStatus (sub - 1)))
  | 0x2003 => some (.num (nth 0 s.boot.fuses.spares (sub - 1)))
  | 0x3012 => n (s.memoryObject sub)
  | 0x3101 => some (.num (if sub = 1 then (s.ctxs.filter (fun e => e.2.defined)).length else s.residentCount))
  | 0x3102 => n (s.contextObject sub)
  | 0x3201 => if sub = 3 then some (.num s.sched.activeFrom)
      else if sub = 4 then some (.num (s.sched.pending.elim 0 (fun p => p.1))) else none
  | 0x3203 => some (.num (if sub = 1 then wholeOf 32 s.openSum else s.waitingOpens.length))
  | 0x4001 => some (.num (s.link (sub - 1)).state)
  | 0x4002 => some (.num (s.link (sub - 1)).peer)
  | 0x4004 => some (if sub = 1 then .num s.leader else if sub = 2 then .num (ofSigned 32 s.fab.offset) else .num s.timeSource)
  | 0x4101 => some (.num (Assoc.get 0 s.ports (sub - 1)))
  | 0x4107 => some (.num (if sub = 1 then s.notices.length else if sub = 2 then s.mirrored.length else s.fab.resetPeers.length))
  | 0x4112 => some (.blob ((List.range 256).flatMap (fun i => Assoc.get (zeroBytes 32) s.fab.strays i)))
  | 0x4201 => n (s.gridObject sub)
  | 0x4202 => n (s.shareObject sub)
  | 0x4204 => if sub = 2 then some (.num (s.ctx s.selected).reshard) else none
  | 0x4302 => n (s.raiseObject sub)
  | 0x4304 => some (.num (nth 0 (s.ctx s.selected).lastImage (sub - 1)))
  | 0x4308 => n (s.imageObject sub)
  | _ => none

/-- The chapters 11 to 17. -/
def State.value2 (s : State) (idx sub : Nat) : Option ObjVal :=
  let n := fun (o : Option Nat) => o.map ObjVal.num
  match idx with
  | 0x4801 => some (.num (Assoc.get 0 s.hostPorts (sub - 1)))
  | 0x4803 => if sub = 3 then some (.num s.boot.fuses.macHost0) else if sub = 4 then some (.num s.boot.fuses.macHost1) else none
  | 0x4805 => if sub = 3 then some (.num (s.sessionsOf (fun _ => true)).length) else none
  | 0x4806 => if sub = 2 then some (.num hbmBase) else none
  | 0x4807 => if sub = 1 then some (.num s.clock.state) else if sub = 8 then some (.num s.stamp) else none
  | 0x5001 => some (.num (if sub = 1 then b2n s.intr.ordered else s.intr.reason))
  | 0x5004 => some (.blob (if sub = 1 then (List.range 8).flatMap (fun w => leBytes 8 (s.pendWord w))
      else (List.range 512).flatMap (fun i => leBytes 1 (s.sourceOf i).count)))
  | 0x5101 => n (s.counterObject sub)
  | 0x5120 => n (s.samplingObject sub)
  | 0x5130 => if sub = 4 then some (.blob (windowBytes s.perf.windows)) else if sub = 5 then some (.blob (windowBytes s.perf.busiest))
      else none
  | 0x6001 => n (s.railObject sub)
  | 0x6002 => n (s.junctionObject sub)
  | 0x6003 => if sub = 1 then some (.num s.deviceState) else none
  | 0x6004 => n (s.clockObject sub)
  | 0x6010 => if sub = 2 then some (.num (wholeOf 16 s.ratedPower)) else none
  | 0x6012 => n (s.bandObject sub)
  | 0x6020 => n (s.energyObject sub)
  | 0x6021 => n (s.ctxEnergyObject sub)
  | 0x6030 => n (s.wearObject sub)
  | 0x6101 => if sub = 1 then some (.blob s.calibrationImage) else none
  | 0x7001 => some (if sub = 1 then .blob s.faultRing else .num s.logIndex)
  | 0x7102 => if sub = 1 then some (.num s.health) else if sub = 2 then some (.num s.healthCap)
      else if sub = 3 then some (.num s.fault.transient) else none
  | 0x7105 => some (.num (match s.quarantine with
      | some q => if sub = 1 then q.1 else q.2
      | none => if sub = 1 then 0xFF else 0xFFFF))
  | 0x7803 => if sub = 1 then some (.num s.boot.fuses.minSecurity) else none
  | 0x7804 => if sub = 1 then some (.num (b2n s.boot.debug)) else if sub = 3 then some (.num (b2n s.boot.fuses.debugLock)) else none
  | 0x7810 => some (.blob (nth (zeroBytes 32) s.boot.slots (sub - 1)))
  | 0x7811 => some (.blob s.boot.fuses.endorsement)
  | 0x7830 => if sub = 1 then some (.num (b2n s.boot.rngBad)) else none
  | 0x7F01 => some (.num s.straps)
  | 0x7F02 => if sub = 1 then some (.num s.inputLevels) else if sub = 2 then some (.num s.statWord) else none
  | 0x7F04 => if sub = 1 then some (.num (b2n s.pins.refLost))
      else if sub = 2 then some (.num (ofSigned 32 (max (-200000) (min 200000 (Config.refOffset s.stamp))))) else none
  | _ => none

/-- The value of an object of a row: that of machine state, or the stored one. -/
def State.value (s : State) (idx sub : Nat) : ObjVal :=
  ((s.value1 idx sub).or (s.value2 idx sub)).getD (s.obj idx sub)

/-- The highest subindex of an index with more than one (R20). -/
def topSub (idx : Nat) : Option Nat :=
  let l := objRows.filter (fun r => r.idx == idx)
  let n : Nat := (l.map (fun r => r.hi + 1 - r.lo)).foldl (fun a b => a + b) 0
  if n ≤ 1 then none else some ((l.map (fun r => r.hi)).foldl max 0)

end Sys2Proof.Machine
end

