-- ==== Sys2Proof/Machine/Security.lean ====
section
/-! DEFINITION. Quotes and the true random source (R507, R508), but for the sessions that wait for a random value. -/

namespace Sys2Proof.Machine

/-- Bytes 0 to 319 of a quote (Table 16-8) over a nonce and the slots. -/
def State.quoteBody (s : State) (nonce slots : List Byte) : List Byte :=
  leBytes 8 s.stamp ++ leBytes 8 s.boot.fuses.serial ++ leBytes 4 s.deviceId ++ leBytes 4 (imageVersion s.boot.image)
    ++ leBytes 2 (imageSecurity s.boot.image) ++ leBytes 1 s.boot.source ++ zeroBytes 1 ++ leBytes 4 s.boot.coldResets
    ++ fitBytes 32 nonce ++ fitBytes 256 slots

/-- Sign and publish a quote: its signature is a free value. -/
def State.sign (s : State) (nonce slots : List Byte) : State :=
  let q := s.quoteBody nonce slots ++ (Config.freeSignature s.freeCtr).toList
  (({ s with freeCtr := s.freeCtr + 1 } : State).setObj 0x7820 2 (.blob q)).setCnt 0x7820 3 0

/-- A write of a nonce to 0x7820.01: the quote is signed over the slots as they stand; while the random source has failed it waits
(R508), with those slots. A second one is refused while one waits (R397). -/
def State.actQuote (s : State) (nonce : List Byte) : State :=
  let slots := s.boot.slots.flatMap id
  if s.boot.rngWaitQuote.isSome then s
  else if s.boot.rngBad then { s with boot := { s.boot with rngWaitQuote := some (s.stamp, fitBytes 32 nonce ++ slots) } }
  else s.sign nonce slots

/-- QUOTE (R507): a nonce of another length is brought to 32 bytes and counted. -/
def execQuote (dt : Nat) (nonce : List Byte) (s : State) : Host.Outcome State Fault Refusal :=
  .next ((s.elapse dt).whenUp fun s =>
    if s.boot.rngWaitQuote.isSome then s
    else (if nonce.length = 32 then s else s.countClamp 0x7820).actQuote nonce)

/-- The source fails its health test: it delivers no value from now on. -/
def State.failRng (s : State) : State :=
  let s := ({ s with boot := { s.boot with rngBad := true } } : State).bump 0x7830 2
  s.signal 11 none

/-- RNG_HEALTH_FAIL (R508). -/
def execRngHealthFail (dt : Nat) (s : State) : Host.Outcome State Fault Refusal :=
  .next ((s.elapse dt).whenUp fun s => s.failRng)

end Sys2Proof.Machine
end

