-- ==== Sys2Proof/Machine/Dict.lean ====
section
/-! DEFINITION. Reads and writes of dictionary objects (R20 to R23, R393 to R399, R402 to R404, R406), whatever the path they
come on (R394), and the commands that are such writes. -/

namespace Sys2Proof.Machine

/-! ### The management of host ports that a reset of a link needs (R365, R385) -/

/-- The framing and address that a training of host port p takes from the objects. -/
def State.takeHostFraming (s : State) (p : Nat) : State :=
  let f := (rangeFrom 1 8).map (s.num 0x4802) ++ [s.num 0x4803 (p + 1)]
  { s with fab := { s.fab with frames := Assoc.set [] (s.fab.frames) (16 + p) f } }

/-- A host port's new state; a port that object 0x4802.09 disables stays so when it would train. -/
def State.setHostPort (s : State) (p st : Nat) : State :=
  let st := if st = 1 ∧ (s.num 0x4802 9).testBit p then 3 else st
  let s := if st = 1 then s.takeHostFraming p else s
  if Assoc.get 0 s.hostPorts p = st then s
  else
    let s := if st = 2 then s else { s with clock := { s.clock with masters := Assoc.erase p s.clock.masters } }
    ({ s with hostPorts := Assoc.set 0 s.hostPorts p st } : State).signal (208 + p) none

/-- Domain 3 of R473, by the port index of R429: a host port, a purlin port or a rafter link goes Down. -/
def State.resetEdge (s : State) (i : Nat) : State :=
  if i < 2 then (if Assoc.get 0 s.hostPorts i = 3 then s else s.setHostPort i 0)
  else if i < 18 then (if Assoc.get 0 s.ports (i - 2) = 3 then s else s.setPort (i - 2) 0)
  else if (s.link (i - 18)).state = 8 then s else s.linkDown (i - 18)

/-- EDGE_LINK_RESET (R473). -/
def execEdgeLinkReset (dt port : Nat) (s : State) : Host.Outcome State Fault Refusal :=
  .next ((s.elapse dt).whenUp fun s => let a := s.clampUnit port 49; a.1.resetEdge a.2)

/-! ### Legal values (R23, R398, R399) -/

/-- A unit carries an event code (Table 13-9). -/
def carriesEvent (u ev : Nat) : Bool :=
  ev == 0 || (if u < 64 then decide (ev ≤ 0x0E)
    else if u < 80 then decide (0x0101 ≤ ev) && decide (ev ≤ 0x0104)
    else if u = 80 then decide (0x0201 ≤ ev) && decide (ev ≤ 0x0202)
    else decide (0x0301 ≤ ev) && decide (ev ≤ 0x0308))

/-- A counter select brought to a unit of Table 13-7 and one of its counters. -/
def selectValue (n : Nat) : Nat :=
  let u := min 82 (bits n 14 8)
  u * 256 + min (unitCounters u - 1) (bits n 2 0)

/-- A configuration word for counter k of unit u (R423): reserved bits 0, no chain on an even counter, no event that the unit does not
carry. -/
def configWordValue (u k n : Nat) : Nat :=
  let ev := bits n 47 32
  bits n 63 50 * 2 ^ 50 + (if k % 2 = 0 then 0 else b2n (n.testBit 49) * 2 ^ 49) + b2n (n.testBit 48) * 2 ^ 48
    + (if carriesEvent u ev then ev else 0) * 2 ^ 32 + b2n (n.testBit 31) * 2 ^ 31

/-- Put 8 bytes into a record of a list by its number. -/
def putWord (l : Sparse (List Byte)) (size off v : Nat) : Sparse (List Byte) :=
  let b := Assoc.get (zeroBytes size) l (off / size)
  Assoc.set (zeroBytes size) l (off / size) (b.take (off % size) ++ leBytes 8 v ++ b.drop (off % size + 8))

/-- A management core's write of 8 bytes of the counter and sampling window (R423, R426, Table 13-10); a configuration word is clamped. -/
def State.writeWindow (s : State) (off v : Nat) : State :=
  let u := off / 0x100
  let k := off % 0x40 / 8
  let p := s.perf
  if off < 0x5300 then
    if off % 0x100 < 0x40 then (if k < unitCounters u then s.setPerfValue u k (v % 2 ^ 48) else s)
    else if off % 0x100 < 0x80 then
      (if k < unitCounters u then { s with perf := { p with config := Assoc.set 0 p.config (perfKey u k) (configWordValue u k v) } } else s)
    else if off % 0x100 = 0x80 then
      { s with perf := { p with overflow := Assoc.set 0 p.overflow u (v % 2 ^ unitCounters u),
                                lost := p.lost.filter (fun x => x != u) ++ (if v.testBit 8 then [u] else []) } }
    else s
  else if 0x100000 ≤ off ∧ off < 0x100000 + 32 * 89 then { s with perf := { p with windows := putWord p.windows 32 (off - 0x100000) v } }
  else if 0x101000 ≤ off ∧ off < 0x101000 + 32 * 89 then { s with perf := { p with busiest := putWord p.busiest 32 (off - 0x101000) v } }
  else s

/-- A management core's read of 8 bytes of the counter and sampling window: everything (R426). -/
def State.windowWord (s : State) (off : Nat) : Nat :=
  let u := off / 0x100
  let k := off % 0x40 / 8
  if off < 0x5300 then
    if off % 0x100 < 0x40 then s.perfValue u k
    else if off % 0x100 < 0x80 then s.perfConfig u k
    else if off % 0x100 = 0x80 then s.unitStatus u else 0
  else if 0x100000 ≤ off ∧ off < 0x100000 + 32 * 89 then
    wordAt (Assoc.get (zeroBytes 32) s.perf.windows ((off - 0x100000) / 32)) (off % 32)
  else if 0x101000 ≤ off ∧ off < 0x101000 + 32 * 89 then
    wordAt (Assoc.get (zeroBytes 32) s.perf.busiest ((off - 0x101000) / 32)) (off % 32)
  else if 0x800000 ≤ off ∧ off < 0x1000000 then
    wordAt (Assoc.get (zeroBytes 64) (s.samplingRun ((off - 0x800000) / 0x400000)).records (off % 0x400000 / 64)) (off % 64)
  else 0

/-- A value for 0x7101.01: an unknown domain takes the default 0, which resets nothing; a unit is brought to its domain's range. -/
def resetValue (n : Nat) : Nat :=
  let u := n / 256
  match n % 256 with
  | 1 => min 63 u * 256 + 1
  | 2 => min 3 u * 256 + 2
  | 3 => min 49 u * 256 + 3
  | 4 => u * 256 + 4
  | 5 => u * 256 + 5
  | _ => 0

/-- The rules that chapters give for single objects, and the bounds that depend on another object (R398, R399, R406, R238, R423). -/
def State.ruleValue (s : State) (idx sub n : Nat) : Nat :=
  match idx, sub with
  | 0x1004, 1 => n % 2 ^ 18 / 8 * 8 + s.straps % 8
  | 0x3003, 3 => min n (s.num 0x3003 2 - 1)
  | 0x3201, 2 => max n (s.cycleNo + 1)
  | 0x4203, 2 => if n = 0xFFFFFFFF then n else bits n 27 16 * 2 ^ 16 + bits n 11 0
  | 0x4303, 5 => n % 2 ^ 44
  | 0x4306, 1 => n % 2 ^ 44
  | 0x5101, 1 => selectValue n
  | 0x5101, 2 => configWordValue s.counterSelect.1 s.counterSelect.2 n
  | 0x6011, 2 => min n (s.num 0x6011 1)
  | 0x7101, 1 => resetValue n
  | _, _ => n

/-- The value in force after a write of bytes to an object of row r, and whether it was clamped. -/
def State.legalValue (s : State) (r : ORow) (sub : Nat) (b : List Byte) : ObjVal × Bool :=
  match r.ty with
  | .str | .blob => clampValue r b
  | ty =>
    let n := leNat (b.take ty.size)
    let v := numNear r (s.ruleValue r.idx sub n)
    (.num v, v != n || b.length != ty.size)

/-- Objects that hold a structure of their own and clamp it themselves (R213, R237, R328, R337, R358, R404, R431, R506). -/
def ownClamp (idx sub : Nat) : Bool :=
  [objKey 0x3103 1, objKey 0x3201 1, objKey 0x4204 1, objKey 0x4302 1, objKey 0x4305 1, objKey 0x5002 1, objKey 0x6101 2,
   objKey 0x7812 1].contains (objKey idx sub)

/-- Clear commands: those of the chapters, and the clamp counters of R393. -/
def isClear (idx sub : Nat) : Bool := (sub == 1 && !(clearLists idx).isEmpty) || (sub == 2 && idx % 256 == 0xFF)

/-- The value of a region's clamp counter. -/
def State.clampCount (s : State) (idx : Nat) : Nat := (clampCounter idx).elim 0 (fun c => s.cnt c.1 c.2)

/-! ### Calibration (R403, R404) -/

/-- The calibration set is a user's now; source 449 at each change of its state. -/
def State.userSet (s : State) : State := if s.cnt 0x6101 3 = 1 then s else (s.setCnt 0x6101 3 1).signal 449 none

/-- The first write by a user keeps its stamp. -/
def State.touchCalibration (s : State) : State :=
  let s := s.userSet
  if s.num 0x6101 4 = 0 then s.setRwp 0x6101 4 (.num s.stamp) else s

/-- The voltage of a rail follows its offset, unless the rail is frozen. -/
def State.refreshRail (s : State) (d : Nat) : State :=
  let x := s.die d
  if x.frozen then s else s.setDie d { x with voltage := s.railVoltage d (if x.settle then s.dieLimit d else x.clock) }

/-- The objects of the image with their byte offsets (Table 12-5). -/
def imageObjs : List (Nat × Nat × Nat) :=
  (rangeFrom 1 6).map (fun k => (0x6110, k, 12 + 4 * k)) ++ (rangeFrom 1 8).map (fun k => (0x6111, k, 36 + 4 * k))
    ++ (rangeFrom 1 4).map (fun k => (0x6112, k, 68 + 4 * k)) ++ (rangeFrom 1 4).map (fun k => (0x6113, k, 84 + 4 * k))
    ++ [(0x6114, 1, 104)]

/-- An image is of this device, and whole. -/
def State.imageFits (s : State) (b : List Byte) : Bool :=
  leNat (slice b 0 8) == s.boot.fuses.serial && sm3 (slice b 0 112) == slice b 112 32

/-- A write of a calibration image: refused with 0x080B, or every value replaced, each clamped; the write counts once. -/
def State.actCalibration (s : State) (image : List Byte) : State × Nat :=
  let b := fitBytes 144 image
  if !s.imageFits b then (s, 0x080B)
  else
    let put := fun (a : State × Bool) (o : Nat × Nat × Nat) =>
      match rowFor o.1 o.2.1 with
      | none => a
      | some r =>
        let n := leNat (slice b o.2.2 4)
        (a.1.setRwp o.1 o.2.1 (.num (numNear r n)), a.2 || numNear r n != n)
    let a := imageObjs.foldl put (s.touchCalibration, image.length != 144)
    let s := if a.2 then a.1.countClamp 0x6101 else a.1
    ((List.range 4).foldl (fun s d => s.refreshRail d) s, 0)

/-- CALIBRATION_WRITE (R404). -/
def execCalibrationWrite (dt : Nat) (image : List Byte) (s : State) : Host.Outcome State Fault Refusal :=
  .next ((s.elapse dt).whenUp fun s => (s.actCalibration image).1)

/-! ### Plain settings, and what follows a change -/

/-- A write that moves a bound clamps the object that depends on it, which counts once (R399). -/
def State.reclamp (s : State) (idx sub bound : Nat) : State :=
  if s.num idx sub ≤ bound then s
  else
    let s := if (rowFor idx sub).any (fun r => r.acc == .rwp) then s.setRwp idx sub (.num bound) else s.setObj idx sub (.num bound)
    s.countClamp idx

/-- What a change of a setting does at once, beside being its value. -/
def State.afterSetting (s : State) (idx sub : Nat) : State :=
  match idx with
  | 0x1102 => { s with efyth := { s.efyth with plcaPending := some s.stamp } }
  | 0x3003 => if sub = 2 then s.reclamp 0x3003 3 (s.num 0x3003 2 - 1) else s
  | 0x3202 => if sub = 1 then s.armTimer else s
  | 0x4807 => if sub = 4 ∧ s.num 0x4807 4 = 0 then { s with pins := { s.pins with ppsOut := false } } else s
  | 0x5130 => if sub = 1 then { s with perf := { s.perf with windowFrom := s.stamp } } else s
  | 0x6010 => s.admitTest
  | 0x6011 => (if sub = 1 then s.reclamp 0x6011 2 (s.num 0x6011 1) else s).admitTest
  | 0x6101 => s.userSet
  | 0x6110 | 0x6111 | 0x6112 | 0x6114 => s.touchCalibration
  | 0x6113 => s.touchCalibration.refreshRail (sub - 1)
  | _ => s

/-- Objects that are kept in machine state rather than the store: the selected counter and sampling run. -/
def State.setSelected (s : State) (idx sub n : Nat) : State :=
  match idx, sub with
  | 0x5101, _ => { s with perf := { s.perf with config := Assoc.set 0 s.perf.config (perfKey s.counterSelect.1 s.counterSelect.2) n } }
  | _, _ => s.setSamplingRun s.selectedRun { s.samplingRun s.selectedRun with config := n }

/-- Set an object whose row says RW, RWP or WO. -/
def State.setPlain (s : State) (r : ORow) (sub : Nat) (v : ObjVal) : State :=
  let s := if (r.idx = 0x5101 ∧ sub = 2) ∨ (r.idx = 0x5120 ∧ sub = 2) then s.setSelected r.idx sub v.toNat
    else if r.acc = .rwp then s.setRwp r.idx sub v else s.setObj r.idx sub v
  s.afterSetting r.idx sub

/-- A setting whose write is an action of its own chapter, or a plain one. -/
def State.setSetting (s : State) (r : ORow) (sub : Nat) (v : ObjVal) : State :=
  match r.idx, sub with
  | 0x3002, _ => s.actCopyPool (sub - 1) v.toNat
  | 0x3003, 1 => s.actCopies v.toNat
  | 0x4003, 4 => s.actDisable v.toNat
  | 0x5120, 6 => s.actReadMark v.toNat
  | 0x7103, 1 => s.actAdmission v.toNat
  | 0x7F03, _ => s.actJobSignal (sub - 1) v.toNat
  | _, _ => s.setPlain r sub v

/-! ### Defaults (R402) -/

/-- Objects that a return to the defaults leaves as they are: the device ID, the asset tag and the calibration region. -/
def keepsDefault (idx sub : Nat) : Bool := (idx == 0x1004 && (sub == 1 || sub == 3)) || isCalibration idx

/-- Every other RWP object takes its default. -/
def State.returnDefaults (s : State) : State :=
  let put := fun (s : State) (o : Nat × Nat × ORow) =>
    if keepsDefault o.1 o.2.1 then s
    else if o.1 = 0x3201 then s.actSchedule (zeroBytes 8192)
    else if o.1 = 0x5002 then s.actConfig defaultConfig
    else s.setSetting o.2.2 o.2.1 o.2.2.dflt
  rwpObjs.foldl put s

/-- A write to 0x2005.04; any value other than 1 is clamped to 1. -/
def State.actDefaults (s : State) (v : Nat) : State := (if v = 1 then s else s.countClamp 0x2005).returnDefaults

/-- RWP_DEFAULTS (R402). -/
def execRwpDefaults (dt v : Nat) (s : State) : Host.Outcome State Fault Refusal :=
  .next ((s.elapse dt).whenUp fun s => s.actDefaults v)

/-! ### Commands (R397) -/

/-- The context that the value of a CMD object names (R397). -/
def commandCtx (idx sub : Nat) (b : List Byte) : Option Nat :=
  match idx, sub with
  | 0x3104, 1 => some (min 4095 (leNat (b.take 2)))
  | 0x4204, 1 => some (reshardOf b).ctx
  | 0x4302, 1 => some (raiseBlock b).ctx
  | 0x4303, 2 => some (min 4095 (leNat (b.take 2)))
  | 0x4305, 1 => some (restoreBlock b).ctx
  | _, _ => none

/-- The action of a CMD object runs for a context. -/
def ctxActionRuns (idx : Nat) (x : Ctx) : Bool :=
  match idx with
  | 0x3104 => x.state == 4 || x.closePending
  | 0x4204 => x.reshard != 0
  | 0x4302 => x.raising
  | 0x4303 => x.checkpointAsked
  | 0x4305 => x.restoring.isSome
  | _ => false

/-- Whether the action that the last write to a CMD object started is running (assumption log 55). -/
def State.actionRuns (s : State) (idx sub : Nat) : Bool :=
  match idx, sub with
  | 0x7004, 4 => s.dumpBusy
  | 0x7101, 1 => s.bays.any (fun e => e.2.inReset) || s.dies.any (fun e => e.2.inReset)
  | 0x7104, 1 => s.fault.selfTest == 1
  | 0x7820, 1 => s.boot.rngWaitQuote.isSome
  | 0x7802, _ => s.boot.updateFrom.isSome
  | 0x4303, 5 => false
  | _, _ => s.ctxs.any (fun e => ctxActionRuns idx e.2)

/-- A write to a CMD object is answered with 0x0805: its action runs, for the context that the value names where it names one. -/
def State.actionBusy (s : State) (idx sub : Nat) (b : List Byte) : Bool :=
  match commandCtx idx sub b with
  | some c => ctxActionRuns idx (s.ctx c)
  | none => match idx, sub with
    | 0x7004, 4 | 0x7104, 1 | 0x7820, 1 | 0x7802, _ => s.actionRuns idx sub
    | _, _ => false

/-- A reset commanded through 0x7101.01, of a legal value. -/
def State.actReset (s : State) (n : Nat) : State :=
  match n % 256 with
  | 1 => s.actBayReset (n / 256)
  | 2 => s.actDieReset (n / 256)
  | 3 => s.resetEdge (n / 256)
  | 4 => s.enterWarmReset 0x0710 true true
  | 5 => s.actColdReset
  | _ => s

/-- The action of a CMD object of a numeric type, its value legal: the state, and the code of the reply. -/
def State.numCommand (s : State) (idx sub n : Nat) (aux : Aux) : State × Nat :=
  match idx, sub with
  | 0x2005, 4 => (s.actDefaults n, 0)
  | 0x3104, 1 => ((s.actClose n).1, 0)
  | 0x3201, 2 => (s.actActivate n, 0)
  | 0x4003, 5 => (s.actRetrain n, 0)
  | 0x4203, 2 => ((if n = 0xFFFFFFFF then s.unpair.setCnt 0x4203 3 0 else (s.actPair (bits n 27 16) (bits n 11 0)).1), 0)
  | 0x4303, 2 => (s.actCheckpoint n, 0)
  | 0x4303, 5 => ((if (s.ctx (bits n 43 32)).defined then s.actCommit (bits n 43 32) (bits n 31 0) else s), 0)
  | 0x4306, 1 => (s.actSwitch (bits n 43 32) (bits n 31 0), 0)
  | 0x5003, 1 => (s.actSoftware n, 0)
  | 0x5102, 1 => (s.actCounterReset n, 0)
  | 0x5120, 3 => ((if n = 1 then s.startSampling s.selectedRun else s.stopSampling s.selectedRun), 0)
  | 0x5121, 1 => (s.actSamplingCopy n, 0)
  | 0x6003, 2 => ((s.actPower n).1, 0)
  | 0x7003, 1 => (s.actFatalAck n, 0)
  | 0x7004, 3 => (s.actDumpCopy n, 0)
  | 0x7004, 4 => (s.actDump n, if s.fault.dumping.isSome then 0x0401 else 0)
  | 0x7101, 1 => (s.actReset n, 0)
  | 0x7104, 1 => s.actSelfTest n
  | 0x7802, 1 => (s.actFirmwareUpdate n (if aux.readBack then none else some []), 0)
  | 0x7802, 2 => (s.actFirmwareFetch n (if aux.readBack then none else some []), 0)
  | 0x7803, 2 => s.actRaiseMin n
  | 0x7804, 2 => (s.actDebugLock n, 0)
  | _, _ => (s, 0)

/-- A write to an object that clamps its own structure. -/
def State.blockCommand (s : State) (idx : Nat) (b : List Byte) (aux : Aux) : State × Nat :=
  match idx with
  | 0x3103 => ((s.actCreate b aux.place).1, 0)
  | 0x3201 => (s.actSchedule b, 0)
  | 0x4204 => (s.actReshard b aux.place, 0)
  | 0x4302 => s.actRaise b aux.place
  | 0x4305 => s.actRestore b aux.place
  | 0x5002 => (s.actConfig b, 0)
  | 0x6101 => s.actCalibration b
  | _ => (s.actExtend b, 0)

/-! ### Writes -/

/-- What answers a write: the code, whether the value was clamped, whether the answer waits for a commit (R401), and the value in
force where it has 8 bytes or less (Table 12-3; for a CMD object the value that it took, assumption log 58). -/
structure Written where
  code : Nat
  clamped : Bool
  commits : Bool
  value : List Byte
deriving DecidableEq, Repr

def Written.refused (code : Nat) : Written := { code := code, clamped := false, commits := false, value := [] }

/-- The index and subindex name an object (R20, R395). -/
def objExists (idx sub : Nat) : Bool := if sub = 0 then (topSub idx).isSome else (rowFor idx sub).isSome

/-- A write to a writable object whose action does not run. -/
def State.writeRow (s : State) (r : ORow) (sub : Nat) (b : List Byte) (aux : Aux) : State × Written :=
  if ownClamp r.idx sub then
    let a := s.blockCommand r.idx b aux
    (a.1, { code := a.2, clamped := a.1.clampCount r.idx != s.clampCount r.idx, commits := r.acc == .rwp, value := [] })
  else
    let v := s.legalValue r sub b
    let w : Written := { code := 0, clamped := v.2, commits := r.acc == .rwp, value := if r.ty.size = 0 then [] else v.1.toBytes r.ty }
    if isClear r.idx sub then
      let k := if v.2 then 0 else 1
      (if sub = 2 then s.clearList r.idx k [(r.idx, 1, 1)] else if r.idx = 0x4113 then s.actTransportClear k else s.execClear r.idx k, w)
    else
      let s := if v.2 then s.countClamp r.idx else s
      match r.acc, v.1 with
      | .cmd, .num n => let a := s.numCommand r.idx sub n aux; (a.1, { w with code := a.2 })
      | .cmd, .blob l => (s.actQuote l, w)
      | _, v => (s.setSetting r sub v, w)

/-- A write of an object, whatever its path: R395 and R397 first, then the value, clamped. -/
def State.applyWrite (s : State) (idx sub : Nat) (b : List Byte) (aux : Aux) : State × Written :=
  match rowFor idx sub with
  | none => (s, .refused (if objExists idx sub then 0x0804 else 0x0809))
  | some r =>
    if sub = 0 ∨ r.acc = .ro then (s, .refused 0x0804)
    else if r.acc = .cmd && s.actionBusy idx sub b then (s, .refused 0x0805)
    else s.writeRow r sub b aux

/-! ### Reads -/

/-- A read of an object: its code and its bytes (R20 to R22, R395, R397). -/
def State.readObject (s : State) (idx sub : Nat) : Nat × List Byte :=
  if sub = 0 then (match topSub idx with
    | some n => (0, leBytes 1 n)
    | none => (0x0809, []))
  else match rowFor idx sub with
    | none => (0x0809, [])
    | some r => match r.acc with
      | .wo => (0, zeroBytes r.ty.size)
      | .cmd => (0, leBytes (max 1 r.ty.size) (b2n (s.actionRuns idx sub)))
      | _ => (0, (s.value idx sub).toBytes r.ty)

/-! ### Commands that are writes -/

/-- A write of 8 bytes of the control region by a management core (Tables 1-5, 1-6): the doorbell pages, the interrupt controller, and the
counter and sampling window. The spec gives the dictionary window no layout, and what stands in the debug window not at all: a write there
changes nothing of State. A refused write is a firmware fault (R46, R475; assumption log 161). -/
def State.coreWriteReg (s : State) (core a v : Nat) : State :=
  if s.accessCode .mgmt 0 a 8 true != 0 then (s.signal 9 none).firmwareFault
  else match ctlPart a with
    | .door c => s.doorWrite c ((a - ctlBase) % 65536) v
    | .intr => s.writeIntr core (a % 65536) v
    | .window => s.writeWindow (a % 2 ^ 24) v
    | .dict | .debug | .reserved => s

/-- OBJECT_WRITE (R396): a write by the management firmware, of an object or of a register; one that commits is answered to nobody. -/
def execObjectWrite (dt : Nat) (target : WriteTarget) (place : Nat) (val : List Byte) (aux : Aux) (s : State) :
    Host.Outcome State Fault Refusal :=
  .next ((s.elapse dt).whenUp fun s =>
    match target with
    | .object idx => (s.applyWrite idx place val aux).1
    | .register core => s.coreWriteReg core place (leNat (val.take 8)))

/-- CLAMP_COUNTER_CLEAR (R393): `idx` is the 0xNNFF index of a region whose counter stands there. -/
def execClampCounterClear (dt idx v : Nat) (s : State) : Host.Outcome State Fault Refusal :=
  .next ((s.elapse dt).whenUp fun s =>
    if idx % 256 = 0xFF ∧ clampCounter idx = some (idx, 1) then s.clearList idx v [(idx, 1, 1)] else s)

/-- MANAGEMENT_COUNTERS_CLEAR (R409). -/
def execManagementCountersClear (dt v : Nat) (s : State) : Host.Outcome State Fault Refusal :=
  .next ((s.elapse dt).whenUp fun s => s.execClear 0x1107 v)

/-- HOST_COUNTERS_CLEAR (R385). -/
def execHostCountersClear (dt v : Nat) (s : State) : Host.Outcome State Fault Refusal :=
  .next ((s.elapse dt).whenUp fun s => s.execClear 0x4811 v)

end Sys2Proof.Machine
end

