-- ==== Sys2Proof/Machine/Efyth.lean ====
section
/-! DEFINITION. The management port and the Efyth protocol (R386 to R392), the persistence commits (R400 to R402), and discovery. -/

namespace Sys2Proof.Machine

/-! ### Replies -/

/-- The header of a reply to a request (R388): its seq and object are echoed. -/
def State.replyHdr (s : State) (q : EfythHdr) (flags code : Nat) : EfythHdr :=
  { EfythHdr.zero with flags := flags, seq := q.seq, index := q.index, sub := q.sub, offset := q.offset, code := code, device := s.deviceId }

/-- The last 16 replies of each source are kept (R390). -/
def keepReply (l : List (Nat × Nat × Nat × EfythHdr × List Byte)) (e : Nat × Nat × Nat × EfythHdr × List Byte) :
    List (Nat × Nat × Nat × EfythHdr × List Byte) :=
  let mine := l.filter (fun x => x.1 == e.1)
  let drop := if mine.length < 16 then [] else mine.take (mine.length - 15)
  l.filter (fun x => !drop.contains x) ++ [e]

/-- Answer a request of a source at a level, and keep the reply. -/
def State.efythReply (s : State) (src : Nat) (q : EfythHdr) (level flags code : Nat) (p : List Byte) : State :=
  let h := s.replyHdr q flags code
  let s := s.efythSend src 3 level h p
  { s with efyth := { s.efyth with replies := keepReply s.efyth.replies (src, q.seq, level, h, p) } }

/-- Send a stored reply again, with flag 6. -/
def State.efythAgain (s : State) (e : Nat × Nat × Nat × EfythHdr × List Byte) : State :=
  (s.bump 0x1106 5).efythSend e.1 3 e.2.2.1 { e.2.2.2.1 with flags := e.2.2.2.1.flags ||| 0x40 } e.2.2.2.2

/-! ### The checks (R390) -/

/-- A request whose reply waits for a commit: its resend waits for that reply. -/
def State.replyWaits (s : State) (src seq : Nat) : Bool :=
  (s.efyth.waiters ++ s.efyth.commit.elim [] (fun c => c.2.1)).any (fun w => match w with
    | .efyth a h _ => a == src && h.seq == seq
    | .host _ _ => false
    | .direct => false)

/-- Writers are listed and this station is not one of them. -/
def State.unlisted (s : State) (src : Nat) : Bool :=
  let l := ((rangeFrom 1 8).map (s.num 0x1103)).filter (fun a => a != 0)
  !l.isEmpty && !l.contains src

/-- The frame's length exceeds 1,024 bytes or what the frame holds (check 3). -/
def malformed (m : EfythMsg) : Bool := decide (1024 < m.hdr.length) || decide (m.payload.length < m.hdr.length)

/-- The types of Table 12-3 that a station sends; another in the header is reserved or not a station's (check 3). -/
def stationTypes : List Nat := [0x01, 0x02, 0x06, 0x07, 0x08]
def badType (m : EfythMsg) : Bool := m.typ.elim false (fun t => !stationTypes.contains t)

/-- The port accepts frames to its own address, and broadcast frames of the discover type; it ignores all others (R387). -/
def State.efythTakes (s : State) (ty : Nat) (m : EfythMsg) : Bool :=
  m.dst == s.boot.fuses.macMgmt || (ty == 8 && !badType m && m.dst == 2 ^ 48 - 1)

/-- Checks 1 to 5 on a frame of a type at its level; `act` is checks 6 and 7. -/
def State.efythIn (s : State) (ty level : Nat) (m : EfythMsg) (act : State → State) : State :=
  if !s.efythTakes ty m then s
  else
  let s := s.bump 0x1106 1
  if !m.ok || m.hdr.version != 3 then s.bump 0x1106 3
  else if (ty != 8 || badType m) && m.hdr.device != s.deviceId && m.hdr.device != 0xFFFFFFFF then s.bump 0x1106 4
  else if badType m || malformed m then s.efythReply m.src m.hdr level 0 0x0801 []
  else match s.efyth.replies.find? (fun e => e.1 == m.src && e.2.1 == m.hdr.seq) with
    | some e => s.efythAgain e
    | none =>
      if s.replyWaits m.src m.hdr.seq then s
      else if ty == 2 && s.unlisted m.src then (s.bump 0x1106 6).efythReply m.src m.hdr level 0 0x0804 []
      else act s

/-! ### Reads and discovery -/

def State.efythRead (s : State) (m : EfythMsg) : State :=
  let r := s.readObject m.hdr.index m.hdr.sub
  s.efythReply m.src m.hdr 5 0 r.1 (if r.1 = 0 then (r.2.drop m.hdr.offset).take 1024 else [])

/-- Before step 5 of R494 the boot ROM answers reads of these objects (R493, R508). -/
def State.romReads (s : State) (idx : Nat) : Bool :=
  match s.boot.phase with
  | .hold => idx == 0x7801 || idx == 0x7830 || idx == 0x7F01
  | .rngStopped => idx == 0x7801 || idx == 0x7830
  | _ => false

/-- EFYTH_READ_REQUEST (R390, R391, R395). -/
def execEfythReadRequest (dt : Nat) (msg : EfythMsg) (s : State) : Host.Outcome State Fault Refusal :=
  let s := s.elapse dt
  .next (if s.up || s.romReads msg.hdr.index then s.efythIn 1 5 msg (fun s => s.efythRead msg) else s)

/-- The 24 bytes of R389. -/
def State.discoverBytes (s : State) : List Byte :=
  leBytes 8 s.boot.fuses.serial ++ leBytes 4 s.deviceId ++ leBytes 4 (s.num 0x1003 2) ++ leBytes 4 s.boot.fuses.romVersion
    ++ leBytes 2 (s.num 0x1003 4) ++ leBytes 1 (nth 255 s.efyth.plca 0) ++ zeroBytes 1

/-- Phases in which a discover is answered (R389, R493, R508). -/
def State.discoverable (s : State) : Bool :=
  match s.boot.phase with
  | .running | .hold | .rngStopped => true
  | _ => false

/-- DISCOVER (R389): answered whatever the device ID. -/
def execDiscover (dt : Nat) (msg : EfythMsg) (s : State) : Host.Outcome State Fault Refusal :=
  let s := s.elapse dt
  .next (if s.discoverable then s.efythIn 8 5 msg (fun s => s.efythReply msg.src msg.hdr 5 0 0 s.discoverBytes) else s)

/-! ### Writes (R392, R395, R397, R401) -/

/-- A write that resets or powers down what answers it: its reply leaves first (assumption log 59). -/
def State.endsAnswer (s : State) (idx sub : Nat) (b : List Byte) : Bool :=
  match rowFor idx sub with
  | none => false
  | some r => match idx, sub, (s.legalValue r sub b).1 with
    | 0x7101, 1, .num n => n % 256 == 4 || n % 256 == 5
    | 0x6003, 2, .num n => n == 3
    | _, _, _ => false

/-- Flag 5 of a reply. -/
def clampFlag (c : Bool) : Nat := if c then 0x20 else 0

/-- The whole value has landed: the write is acted on, and answered now or after its commit. -/
def State.efythPut (s : State) (m : EfythMsg) (b : List Byte) (aux : Aux) : State :=
  let i := m.hdr.index
  let k := m.hdr.sub
  if s.endsAnswer i k b then
    let w := (s.applyWrite i k b aux).2
    ((s.efythReply m.src m.hdr 4 (clampFlag w.clamped) 0 w.value).applyWrite i k b aux).1
  else
    let a := s.applyWrite i k b aux
    let s := a.1
    let w := a.2
    if w.code = 0 && w.commits then
      { s with efyth := { s.efyth with waiters := s.efyth.waiters ++ [.efyth m.src m.hdr w.clamped] } }
    else s.efythReply m.src m.hdr 4 (clampFlag w.clamped) w.code (if w.code = 0 then w.value else [])

def State.buffer (s : State) (src : Nat) : Option Parts := (s.efyth.buffers.find? (fun e => e.1 == src)).map (·.2)

/-- Discard a source's unfinished buffer, and count it. -/
def State.dropBuffer (s : State) (src : Nat) : State :=
  match s.buffer src with
  | none => s
  | some _ => ({ s with efyth := { s.efyth with buffers := Assoc.erase src s.efyth.buffers } } : State).bump 0x1106 7

def State.keepBuffer (s : State) (src : Nat) (b : Parts) : State :=
  { s with efyth := { s.efyth with buffers := Assoc.insert src b s.efyth.buffers } }

/-- A buffer is taken whole: no part is discarded. -/
def State.takeBuffer (s : State) (src : Nat) : State :=
  { s with efyth := { s.efyth with buffers := Assoc.erase src s.efyth.buffers } }

/-- A part at offset 0: the unfinished buffer goes, and a value of one part is written at once. -/
def State.firstPart (s : State) (m : EfythMsg) (p : List Byte) (aux : Aux) : State :=
  let s := s.dropBuffer m.src
  if !m.hdr.flags.testBit 7 then s.efythPut m p aux
  else if 4 ≤ s.efyth.buffers.length then s.efythReply m.src m.hdr 4 0 0x0805 []
  else (s.keepBuffer m.src { index := m.hdr.index, sub := m.hdr.sub, bytes := p, last := s.stamp }).efythReply m.src m.hdr 4 0 0 []

/-- A later part goes on where the buffer ends, or breaks the order. -/
def State.laterPart (s : State) (m : EfythMsg) (p : List Byte) (aux : Aux) : State :=
  match s.buffer m.src with
  | none => (s.bump 0x1106 7).efythReply m.src m.hdr 4 0 0x080A []
  | some b =>
    if b.index ≠ m.hdr.index ∨ b.sub ≠ m.hdr.sub ∨ b.bytes.length ≠ m.hdr.offset ∨ 65535 < b.bytes.length + p.length then
      (s.dropBuffer m.src).efythReply m.src m.hdr 4 0 0x080A []
    else if m.hdr.flags.testBit 7 then
      (s.keepBuffer m.src { b with bytes := b.bytes ++ p, last := s.stamp }).efythReply m.src m.hdr 4 0 0 []
    else (s.takeBuffer m.src).efythPut m (b.bytes ++ p) aux

/-- Checks 6 and 7 of a write: no such object, an RO object, then its part. -/
def State.efythWrite (s : State) (m : EfythMsg) (aux : Aux) : State :=
  let i := m.hdr.index
  let k := m.hdr.sub
  let p := m.payload.take m.hdr.length
  if !objExists i k then s.efythReply m.src m.hdr 4 0 0x0809 []
  else if k = 0 ∨ (rowFor i k).any (fun r => r.acc == .ro) then s.efythReply m.src m.hdr 4 0 0x0804 []
  else if m.hdr.offset = 0 then s.firstPart m p aux
  else s.laterPart m p aux

/-- In P3 only the always-on domain is powered: a write of 0 to 0x6003.02 wakes the device (R441); nothing else is answered (assumption
log 61). -/
def State.efythAsleep (s : State) (m : EfythMsg) : State :=
  if m.hdr.index = 0x6003 ∧ m.hdr.sub = 2 then
    s.efythIn 2 4 m (fun s =>
      match rowFor 0x6003 2 with
      | none => s
      | some r =>
        let v := s.legalValue r 2 (m.payload.take m.hdr.length)
        let s := if v.2 then s.countClamp 0x6003 else s
        let s := s.efythReply m.src m.hdr 4 (clampFlag v.2) 0 (v.1.toBytes r.ty)
        if v.1 = .num 0 then s.startWake else s)
  else s

/-- EFYTH_WRITE (R390 to R392). -/
def execEfythWrite (dt : Nat) (msg : EfythMsg) (aux : Aux) (s : State) : Host.Outcome State Fault Refusal :=
  let s := s.elapse dt
  .next (match s.boot.phase with
    | .running => s.efythIn 2 4 msg (fun s => s.efythWrite msg aux)
    | .p3 => s.efythAsleep msg
    | _ => s)

/-- MULTIPART_TIMEOUT (R392): a buffer with no part for 1 s. -/
def execMultipartTimeout (dt mac : Nat) (s : State) : Host.Outcome State Fault Refusal :=
  .next ((s.elapse dt).whenUp fun s =>
    match s.buffer mac with
    | some b => if b.last + sec ≤ s.stamp then s.dropBuffer mac else s
    | none => s)

/-- PLCA_CHANGE_APPLY (R387): 1 ms after a write of a PLCA object, they come into force as they stand (assumption log 160). -/
def execPlcaChangeApply (dt : Nat) (s : State) : Host.Outcome State Fault Refusal :=
  .next ((s.elapse dt).whenUp fun s =>
    if s.efyth.plcaPending.any (fun t => decide (t + ms ≤ s.stamp))
    then { s with efyth := { s.efyth with plcaPending := none, plca := (rangeFrom 1 5).map (s.num 0x1102) } } else s)

/-! ### Commits (R401, R402) -/

/-- The generation of the next record. -/
def State.nextGen (s : State) : Nat := (s.newestBank.elim (s.cnt 0x2005 2) (fun b => b.2) + 1) % 2 ^ 32

/-- The window closes: what was gathered, with the writes of a failed commit, makes the next commit. -/
def State.closeWindow (s : State) : State :=
  let e := s.efyth
  { s with efyth := { e with
      commit := some (e.failedObjs ++ e.gather.filter (fun k => !e.failedObjs.contains k), e.waiters, s.record s.nextGen),
      gather := [], gatherSince := none, waiters := [], failedObjs := [] } }

/-- COMMIT_WINDOW_CLOSE (R401): 10 ms after the first unsaved write, and once the commit before it has ended. -/
def execCommitWindowClose (dt : Nat) (s : State) : Host.Outcome State Fault Refusal :=
  .next ((s.elapse dt).whenUp fun s =>
    match s.efyth.gatherSince with
    | some t => if t + 10 * ms ≤ s.stamp ∧ s.efyth.commit.isNone then s.closeWindow else s
    | none => s)

/-- Answer one of a commit's writes with its code. -/
def State.answerCommit (s : State) (code : Nat) (w : Waiter) : State :=
  match w with
  | .efyth src h c =>
    let v := match rowFor h.index h.sub with
      | some r => if r.ty.size = 0 then [] else (s.value h.index h.sub).toBytes r.ty
      | none => []
    s.efythReply src h 4 (clampFlag c) code (if code = 0 then v else [])
  | .host n h =>
    let k := s.session n
    if k.isOpen && k.tag == h.tag then
      s.hostTell n 0x4A (fun g => { g with addr := h.addr, aux := h.aux, code := code }) []
    else s
  | .direct => s

/-- The bank that a commit writes: not the one of the newest record; bank 1 where both hold it or neither does (assumption log 60). -/
def State.commitBank (s : State) : Nat := match s.newestBank with | some (1, _) => 0 | _ => 1

/-- A commit changes a calibration value: it writes both banks. -/
def commitsBoth (objs : List Nat) : Bool := objs.any (fun k => isCalibration (k / 256))

/-- A bank's read-back failed twice: it holds no good record, and the commit ends (R401). -/
def State.failCommit (s : State) (objs : List Nat) (ws : List Waiter) (bank : Nat) : State :=
  let s := s.setBank bank []
  let s := { s with efyth := { s.efyth with
    commit := none, failedObjs := objs, badBanks := if s.efyth.badBanks.contains bank then s.efyth.badBanks else s.efyth.badBanks ++ [bank] } }
  ws.foldl (fun s w => s.answerCommit 0x070E w) ((s.setCnt 0x2005 3 3).signal 448 none)

/-- A record written to a bank, read back well. -/
def State.writeBank (s : State) (bank : Nat) (rec_ : List Byte) : State :=
  let s := s.setBank bank rec_
  { s with efyth := { s.efyth with badBanks := s.efyth.badBanks.filter (fun b => b != bank) } }

/-- Every bank was written: the commit counts, and its writes are answered. -/
def State.endCommit (s : State) (ws : List Waiter) (gen : Nat) : State :=
  let s := { s with efyth := { s.efyth with commit := none } }
  let s := (s.setCnt 0x2005 1 ((s.cnt 0x2005 1 + 1) % 2 ^ 32)).setCnt 0x2005 2 gen
  let s := if s.cnt 0x2005 3 = 3 ∨ s.efyth.badBanks.isEmpty then s.setCnt 0x2005 3 0 else s
  ws.foldl (fun s w => s.answerCommit 0 w) s

/-- The commit ends. `badReads`: 0 or 1, every bank reads back well, at the second try where 1; 2, the first bank fails twice; 3 or
more, the first bank is good and the second one of a calibration commit fails twice. -/
def State.completeCommit (s : State) (badReads : Nat) : State :=
  match s.efyth.commit with
  | none => s
  | some c =>
    let bank := s.commitBank
    let gen := leNat (c.2.2.take 4)
    let both := commitsBoth c.1
    if badReads < 2 then
      let s := s.writeBank bank c.2.2
      ((if both then s.writeBank (1 - bank) c.2.2 else s)).endCommit c.2.1 gen
    else if badReads = 2 ∨ !both then s.failCommit c.1 c.2.1 bank
    else ((s.writeBank bank c.2.2).setCnt 0x2005 2 gen).failCommit c.1 c.2.1 (1 - bank)

/-- COMMIT_COMPLETE (R401). -/
def execCommitComplete (dt badReads : Nat) (s : State) : Host.Outcome State Fault Refusal :=
  .next ((s.elapse dt).whenUp fun s => s.completeCommit badReads)

end Sys2Proof.Machine
end

