-- ==== Sys2Proof/Machine/HostPort.lean ====
section
/-! DEFINITION. The host ports: sessions and their messages (R362 to R374), the answers for the device's own addresses (R363), and
what waits for the random source (R508). -/

namespace Sys2Proof.Machine

/-! ### Messages out -/

/-- An acknowledgement (R369). -/
def State.hostAck (s : State) (n : Nat) : State :=
  (s.setSession n { s.session n with unackedIn := 0 }).hostTell n 0x43 (fun h => h) []

/-- A negative acknowledgement of a message of a session. -/
def State.hostNack (s : State) (n seq code : Nat) : State :=
  (s.bump 0x4810 4).hostTell n 0x44 (fun h => { h with value := seq, code := code }) []

/-- A message that belongs to no session: number and tag as the host gave them, seq 0 (assumption log 62). -/
def State.looseSend (s : State) (port : Nat) (m : HostMsg) (ty value code : Nat) : State :=
  let p := s.sessionPort port
  (s.hostEmit p m.src ty
    { HostHdr.zero with session := m.hdr.session, tag := m.hdr.tag, ackSeq := m.hdr.seq, stamp := s.stamp, value := value, code := code } []).countEvent
    (hostUnit p) 0x0305 (hostBytes (s.hostFraming p 0 == 1) 0) none

/-- A negative acknowledgement to a sender with no session. -/
def State.looseNack (s : State) (port : Nat) (m : HostMsg) (code : Nat) : State :=
  (s.bump 0x4810 4).looseSend port m 0x44 m.hdr.seq code

/-! ### Sequence numbers (R369) -/

/-- How far a seq lies beyond the next expected one. -/
def seqAhead (expected seq : Nat) : Nat := (seq + 2 ^ 32 - expected) % 2 ^ 32

/-- The next expected seq was acted on; an acknowledgement goes out at least every 64 messages. -/
def State.actedOn (s : State) (n : Nat) : State :=
  let k := s.session n
  let s := s.setSession n { k with rxSeq := (k.rxSeq + 1) % 2 ^ 32, unackedIn := k.unackedIn + 1 }
  if k.isOpen && decide (64 ≤ k.unackedIn + 1) then s.hostAck n else s

/-- A seq beyond the expected one that was refused counts as acted on once the gap before it is filled: type 0 marks it. -/
def State.markAhead (s : State) (n : Nat) (m : HostMsg) (ty : Nat) (aux : Aux) (diag : Option Diag) : State :=
  let k := s.session n
  if k.ahead.any (fun a => a.1 == m.hdr.seq) then s
  else s.setSession n { k with ahead := k.ahead ++ [(m.hdr.seq, ty, m, aux, diag)] }

/-! ### Rights and effects (R371 to R373) -/

/-- The whole of [a, a + n) lies in the host staging area. -/
def State.inStaging (s : State) (a n : Nat) : Bool := decide (stagingBase ≤ a) && decide (a + n ≤ stagingBase + s.stagingBytes)

/-- The agent whose rights a kind-1 session has at an address: the bay of a bench address, any bay elsewhere. -/
def hostAgent (a : Nat) : Agent := .bay (if a < benchEnd then a / benchBytes else 0)

/-- The failing code of a session's access. -/
def State.hostCode (s : State) (k : Session) (a n : Nat) (isWrite : Bool) : Nat :=
  if k.kind = 0 then (if s.inStaging a n then 0 else 0x0209) else s.accessCode (hostAgent a) k.ctx a n isWrite

/-- A write of a session. -/
def State.hostWrite (s : State) (n : Nat) (m : HostMsg) : State :=
  let k := s.session n
  let code := s.hostCode k m.hdr.addr m.payload.length true
  if code != 0 then (s.countTranslation code).hostNack n m.hdr.seq code
  else if k.kind = 0 then s.writeBytes m.hdr.addr m.payload
  else s.engineWrite k.ctx m.hdr.addr m.payload

/-- Read data in address order, 4,096 bytes a message, flag 5 on all but the last (R368). -/
def State.sendData (s : State) (n addr code : Nat) (b : List Byte) : State :=
  let l := chunks 4096 b
  l.zipIdx.foldl (fun s x =>
    s.hostTell n 0x52 (fun h => { h with flags := if x.2 + 1 < l.length then 0x20 else 0, addr := addr + 4096 * x.2, code := code }) x.1) s

/-- Bytes that nothing constrains. -/
def State.freeBytes (s : State) (n : Nat) : State × List Byte :=
  ({ s with freeCtr := s.freeCtr + n }, (List.range n).map (fun i => Config.freeByte (s.freeCtr + i)))

/-- A read of a session; one that meets an uncorrectable error is answered with its code and bytes that nothing constrains (R194;
assumption log 116). -/
def State.hostRead (s : State) (n : Nat) (m : HostMsg) (diag : Option Diag) : State :=
  let k := s.session n
  let a := m.hdr.addr
  let len := m.hdr.value
  let code := s.hostCode k a len false
  if code != 0 then (s.countTranslation code).hostNack n m.hdr.seq code
  else
    let s := if k.kind = 1 then s.heatRead .reduce k.ctx a len else s
    let e := match diag with
      | some (.memory p x) => s.memoryError p x (if k.kind = 1 then some k.ctx else none)
      | _ => (s, false)
    if e.2 then let b := e.1.freeBytes len; b.1.sendData n a 0x0233 b.2
    else e.1.sendData n a 0 (if k.kind = 1 then e.1.engineBytes k.ctx a len else e.1.readBytes a len)

/-- The object that a dictionary message names. -/
def objIndex (h : HostHdr) : Nat := bits h.aux 23 8
def objSub (h : HostHdr) : Nat := bits h.aux 7 0

/-- A dictionary reply (0x4A). -/
def State.dictReply (s : State) (n : Nat) (m : HostMsg) (flags addr code : Nat) (p : List Byte) : State :=
  s.hostTell n 0x4A (fun h => { h with flags := flags, addr := addr, aux := m.hdr.aux, code := code }) p

/-- The bytes of a value from an offset, in messages of at most 4,096. -/
def State.dictData (s : State) (n : Nat) (m : HostMsg) (off : Nat) (b : List Byte) : State :=
  let l := chunks 4096 (b.drop off)
  if l.isEmpty then s.dictReply n m 0 off 0 []
  else l.zipIdx.foldl (fun s x => s.dictReply n m (if x.2 + 1 < l.length then 0x20 else 0) (off + 4096 * x.2) 0 x.1) s

def State.dictRead (s : State) (n : Nat) (m : HostMsg) : State :=
  if (s.session n).kind = 1 then s.hostNack n m.hdr.seq 0x0804
  else
    let r := s.readObject (objIndex m.hdr) (objSub m.hdr)
    if r.1 != 0 then s.dictReply n m 0 0 r.1 []
    else
      let blob := (rowFor (objIndex m.hdr) (objSub m.hdr)).any (fun r => r.ty == .blob)
      s.dictData n m (if blob then m.hdr.addr else 0) r.2

/-- The whole value of a dictionary write has arrived. -/
def State.dictPut (s : State) (n : Nat) (m : HostMsg) (b : List Byte) (aux : Aux) : State :=
  let i := objIndex m.hdr
  let k := objSub m.hdr
  if s.endsAnswer i k b then ((s.dictReply n m 0 0 0 []).applyWrite i k b aux).1
  else
    let a := s.applyWrite i k b aux
    if a.2.code = 0 && a.2.commits then
      { a.1 with efyth := { a.1.efyth with waiters := a.1.efyth.waiters ++ [.host n m.hdr] } }
    else a.1.dictReply n m 0 0 a.2.code []

/-- A dictionary write, whole or in parts: flag 5 says that more follow, addr is the part's offset (assumption log 63). -/
def State.dictWrite (s : State) (n : Nat) (m : HostMsg) (aux : Aux) : State :=
  let x := s.session n
  if x.kind = 1 then s.hostNack n m.hdr.seq 0x0804
  else
    let i := objIndex m.hdr
    let k := objSub m.hdr
    let more := m.hdr.flags.testBit 5
    let old := match x.partial_ with
      | some p => if p.1 = i ∧ p.2.1 = k ∧ p.2.2.length = m.hdr.addr then some p.2.2 else none
      | none => none
    let base := if m.hdr.addr = 0 then some [] else old
    let s := s.setSession n { x with partial_ := none }
    match base with
    | none => s.dictReply n m 0 0 0x080A []
    | some b =>
      let whole := b ++ m.payload
      if 65535 < whole.length then s.dictReply n m 0 0 0x080A []
      else if more then s.setSession n { s.session n with partial_ := some (i, k, whole) }
      else s.dictPut n m whole aux

/-- A doorbell: of any context's page for management, of the own context's for kind 1. -/
def State.hostDoor (s : State) (n : Nat) (m : HostMsg) : State :=
  let k := s.session n
  let page := m.hdr.addr / 65536
  let c := if k.kind = 0 then page else k.ctx
  let off := m.hdr.addr % 65536
  if (k.kind = 1 ∧ page ≠ 0) ∨ 4096 ≤ page ∨ (s.ctx c).state = 0 then s.hostNack n m.hdr.seq 0x0205
  else if off % 8 ≠ 0 then s.hostNack n m.hdr.seq 0x0203
  else (s.doorWrite c off (leNat m.payload)).signal (320 + c % 32) (some c)

/-- Part of a leaf from a host (R373). A transfer of a verified leaf is counted once, at the message that ends its item
(assumption log 65). -/
def State.hostPage (s : State) (n : Nat) (m : HostMsg) : State :=
  let k := s.session n
  if k.kind = 0 then s.hostNack n m.hdr.seq 0x0808
  else
    let a := s.landLeaf k.ctx (m.hdr.aux % 2 ^ 24) m.hdr.value (m.hdr.addr % 2 ^ 21) m.payload
    match a.2 with
    | .refused => s.hostNack n m.hdr.seq 0x0808
    | .differs => a.1.hostNack n m.hdr.seq 0x0601
    | .taken => a.1
    | .duplicate => if m.hdr.flags.testBit 5 then a.1 else a.1.bump 0x4310 4

/-- Events up to a seq are acknowledged. -/
def State.ackEvents (s : State) (n ack : Nat) : State :=
  let k := s.session n
  s.setSession n { k with events := k.events.filter (fun e => decide (2 ^ 31 ≤ seqAhead e.1 ack)) }

/-! ### Acting on a message (R369, R370) -/

/-- Checks 6 to 8 on the message whose seq is the next expected one. Type 0 is one that was refused on its arrival. -/
def State.hostAct (s : State) (n ty : Nat) (m : HostMsg) (aux : Aux) (diag : Option Diag) : State :=
  let k := s.session n
  if ty = 0 then s
  else if k.kind = 1 && (m.hdr.ctxEpoch != s.epoch k.ctx || s.epoch k.ctx != k.ctxEpoch) then s.hostNack n m.hdr.seq 0x0409
  else match ty with
    | 0x43 => s.ackEvents n m.hdr.ackSeq
    | 0x48 => s.dictRead n m
    | 0x49 => s.dictWrite n m aux
    | 0x4C => s.hostDoor n m
    | 0x50 => s.hostWrite n m
    | 0x51 => s.hostRead n m diag
    | 0x53 => s.hostPage n m
    | _ => s

/-- Act on a message, count its seq as acted on, and answer flag 7, of a refused message too (R369); a close ends the session after that. -/
def State.hostServe (s : State) (n ty : Nat) (m : HostMsg) (aux : Aux) (diag : Option Diag) : State :=
  let tag := (s.session n).tag
  let s := (s.actedOn n).hostAct n ty m aux diag
  let k := s.session n
  if !k.isOpen || k.tag != tag then s
  else
    let s := if m.hdr.flags.testBit 7 then s.hostAck n else s
    if ty = 0x42 && (k.kind = 0 || m.hdr.ctxEpoch == k.ctxEpoch) then s.closeSession n else s

/-- Act on the messages that waited for the gap before them. The fuel bounds their list. -/
def State.serveAhead : Nat → State → Nat → State
  | 0, s, _ => s
  | f + 1, s, n =>
    let k := s.session n
    match k.ahead.find? (fun a => a.1 == k.rxSeq) with
    | none => s
    | some a =>
      let s := s.setSession n { k with ahead := k.ahead.filter (fun b => b.1 != a.1) }
      State.serveAhead f (s.hostServe n a.2.1 a.2.2.1 a.2.2.2.1 a.2.2.2.2) n

/-- A message whose seq is the next expected one, and those that waited for it. -/
def State.hostNext (s : State) (n ty : Nat) (m : HostMsg) (aux : Aux) (diag : Option Diag) : State :=
  let s := s.hostServe n ty m aux diag
  State.serveAhead (s.session n).ahead.length s n

/-- A message of a session that is refused at check 2 or later counts as acted on (R370). -/
def State.hostRefuse (s : State) (n : Nat) (m : HostMsg) (aux : Aux) (code : Nat) : State :=
  let s := s.hostNack n m.hdr.seq code
  if seqAhead (s.session n).rxSeq m.hdr.seq = 0 then s.hostNext n 0 m aux none
  else if seqAhead (s.session n).rxSeq m.hdr.seq < 2 ^ 31 then s.markAhead n m 0 aux none else s

/-! ### Checks 1 to 5 (R367, R370) -/

/-- The lengths of Table 11-4, and the byte count of a read. -/
def lengthOk (ty : Nat) (m : HostMsg) : Bool :=
  let n := m.hdr.length
  m.payload.length == n &&
  match ty with
  | 0x49 | 0x50 | 0x53 => decide (1 ≤ n) && decide (n ≤ 4096)
  | 0x4C => n == 8
  | 0x51 => n == 0 && decide (1 ≤ m.hdr.value) && decide (m.hdr.value ≤ 1048576)
  | _ => n == 0

/-- A frame that check 1 discards, or of version 0x1. -/
def discarded (ty : Nat) (m : HostMsg) : Bool := !m.ok || crc32 (hostHead (hostType ty m) m.hdr) != m.hdr.hcrc || m.hdr.version == 1

/-- Check 2: another version, a reserved type, or a length outside Table 11-4. -/
def misformed (ty : Nat) (m : HostMsg) : Bool := m.hdr.version != 2 || !hostTypes.contains (hostType ty m) || !lengthOk ty m

/-- The frame is for this device on this port: its address and UDP port (R363). A port takes no other frame (assumption log 152). -/
def State.hostTakes (s : State) (port : Nat) (m : HostMsg) : Bool :=
  decide (port < 2) && Assoc.get 0 s.hostPorts port == 2 && m.dst == s.hostAddr port && m.dstPort == s.hostFraming port 4

/-- Check 5, then acting: a seq acted on is acknowledged again, one ahead of a gap waits. -/
def State.hostOrder (s : State) (n ty : Nat) (m : HostMsg) (aux : Aux) (diag : Option Diag) : State :=
  let k := s.session n
  let d := seqAhead k.rxSeq m.hdr.seq
  if 2 ^ 31 ≤ d ∨ k.ahead.any (fun a => a.1 == m.hdr.seq && a.2.1 == 0) then (s.bump 0x4810 5).hostAck n
  else if 4096 ≤ d then s.hostRefuse n m aux 0x0803
  else if d = 0 then s.hostNext n ty m aux diag
  else s.markAhead n m ty aux diag

/-- The session that a message's number names, where one is open. -/
def State.sessionOf (s : State) (m : HostMsg) : Option Nat :=
  if m.hdr.session < 64 && (s.session m.hdr.session).isOpen then some m.hdr.session else none

/-- A message arrived: it is counted, and it wakes the device from P2 (R441). -/
def State.hostArrive (s : State) (port : Nat) (m : HostMsg) : State :=
  let s := s.bump 0x4810 1
  let s := s.countEvent (hostUnit port) 0x0306 (hostBytes (s.hostFraming port 0 == 1) m.payload.length) none
  if s.power.device = 2 then s.startWake else s

/-- A host message of a type on a port that is Up, other than an open. -/
def State.hostIn (s : State) (port ty : Nat) (m : HostMsg) (aux : Aux) (diag : Option Diag) : State :=
  if !s.hostTakes port m then s
  else
    let s := s.hostArrive port m
    if discarded ty m then s.bump 0x4810 3
    else
      let bad := misformed ty m
      match s.sessionOf m with
      | none => s.looseNack port m (if bad then 0x0801 else 0x0802)
      | some n =>
        let k := s.session n
        if k.tag ≠ m.hdr.tag then s.hostRefuse n m aux (if bad then 0x0801 else 0x0802)
        else
          -- the session's latest host message arrived here, whatever the checks after say of it (R365)
          let s := s.setSession n { k with port := port, lastHeard := s.stamp }
          if bad then s.hostRefuse n m aux 0x0801
          else if payloadCrc m.payload ≠ m.hdr.pcrc then s.hostRefuse n m aux 0x0807
          else s.hostOrder n ty m aux diag

/-- What the rows whose messages need nothing beside them pass. -/
def Aux.none : Aux := { place := Placement.none, readBack := true }

/-- SESSION_CLOSE (R366). -/
def execSessionClose (dt port : Nat) (msg : HostMsg) (s : State) : Host.Outcome State Fault Refusal :=
  .next ((s.elapse dt).whenUp fun s => s.hostIn port 0x42 msg Aux.none none)

/-- HOST_ACKNOWLEDGEMENT (R369). -/
def execHostAcknowledgement (dt port : Nat) (msg : HostMsg) (s : State) : Host.Outcome State Fault Refusal :=
  .next ((s.elapse dt).whenUp fun s => s.hostIn port 0x43 msg Aux.none none)

/-- DICTIONARY_READ (R371). -/
def execDictionaryRead (dt port : Nat) (msg : HostMsg) (s : State) : Host.Outcome State Fault Refusal :=
  .next ((s.elapse dt).whenUp fun s => s.hostIn port 0x48 msg Aux.none none)

/-- DICTIONARY_WRITE (R371, R401). -/
def execDictionaryWrite (dt port : Nat) (msg : HostMsg) (aux : Aux) (s : State) : Host.Outcome State Fault Refusal :=
  .next ((s.elapse dt).whenUp fun s => s.hostIn port 0x49 msg aux none)

/-- HOST_DOORBELL (R371). -/
def execHostDoorbell (dt port : Nat) (msg : HostMsg) (s : State) : Host.Outcome State Fault Refusal :=
  .next ((s.elapse dt).whenUp fun s => s.hostIn port 0x4C msg Aux.none none)

/-- HOST_WRITE (R371). -/
def execHostWrite (dt port : Nat) (msg : HostMsg) (s : State) : Host.Outcome State Fault Refusal :=
  .next ((s.elapse dt).whenUp fun s => s.hostIn port 0x50 msg Aux.none none)

/-- HOST_READ_REQUEST (R368, R371). -/
def execHostReadRequest (dt port : Nat) (msg : HostMsg) (diag : Option Diag) (s : State) : Host.Outcome State Fault Refusal :=
  .next ((s.elapse dt).whenUp fun s => s.hostIn port 0x51 msg Aux.none diag)

/-- HOST_PAGE_TRANSFER (R373). -/
def execHostPageTransfer (dt port : Nat) (msg : HostMsg) (s : State) : Host.Outcome State Fault Refusal :=
  .next ((s.elapse dt).whenUp fun s => s.hostIn port 0x53 msg Aux.none none)

/-! ### Opening and closing (R366) -/

/-- The source address is listed. -/
def State.hostListed (s : State) (src : List Byte) : Bool :=
  (rangeFrom 1 16).any (fun k => let a := s.blob 0x4804 k; a == src && a != zeroBytes 16)

/-- The lowest session number that is free. -/
def State.freeSession (s : State) : Option Nat := (List.range 64).find? (fun n => !(s.session n).isOpen)

/-- The code of an open; 0 where it is granted. -/
def State.openCode (s : State) (m : HostMsg) : Nat :=
  let x := s.ctx m.hdr.ctx
  if !s.hostListed m.src || s.freeSession.isNone then 0x0806
  else if m.hdr.value % 2 = 1 && ((x.state != 2 && x.state != 3) || s.epoch m.hdr.ctx != m.hdr.ctxEpoch) then 0x0409
  else 0

/-- Create a session, tagged with a value drawn at its open, and answer. -/
def State.createSession (s : State) (port draw : Nat) (m : HostMsg) : State :=
  match s.freeSession with
  | none => s
  | some n =>
    let k := m.hdr.value % 2
    let s := (s.setSession n { Session.none with
      isOpen := true, src := m.src, kind := k, tag := draw % 65536, ctx := k * m.hdr.ctx, ctxEpoch := k * m.hdr.ctxEpoch, port := port,
      rxSeq := (m.hdr.seq + 1) % 2 ^ 32, unackedIn := 1, lastHeard := s.stamp }).bump 0x4810 7
    let s := s.hostTell n 0x41 (fun h => h) []
    if m.hdr.flags.testBit 7 then s.hostAck n else s

/-- Refuse an open: it creates nothing. -/
def State.refuseOpen (s : State) (port : Nat) (m : HostMsg) (code : Nat) : State := s.looseSend port m 0x41 0 code

/-- An open that passed its checks; without a random value it waits (R508). -/
def State.openSession (s : State) (port draw : Nat) (m : HostMsg) : State :=
  let code := s.openCode m
  if code != 0 then s.refuseOpen port m code
  else if s.boot.rngBad then { s with boot := { s.boot with rngWaitOpens := s.boot.rngWaitOpens ++ [(s.stamp, port, m)] } }
  else s.createSession port draw m

/-- SESSION_OPEN (R366, R370). -/
def execSessionOpen (dt port draw : Nat) (msg : HostMsg) (s : State) : Host.Outcome State Fault Refusal :=
  .next ((s.elapse dt).whenUp fun s =>
    if !s.hostTakes port msg then s
    else
      let s := s.hostArrive port msg
      if discarded 0x40 msg then s.bump 0x4810 3
      else if misformed 0x40 msg then s.looseNack port msg 0x0801
      else if msg.hdr.pcrc ≠ 0 then s.looseNack port msg 0x0807
      else s.openSession port draw msg)

/-- SESSION_TIMEOUT (R366). -/
def execSessionTimeout (dt session : Nat) (s : State) : Host.Outcome State Fault Refusal :=
  .next ((s.elapse dt).whenUp fun s =>
    let k := s.session session
    if k.isOpen && decide (k.lastHeard + s.num 0x4805 1 * ms ≤ s.stamp) then
      ((s.closeSession session).bump 0x4810 8).signal 216 none
    else s)

/-- An unacknowledged event of a session is sent again once the time of object 0x4805.02 has passed since it was sent last, under its seq and
with flag 6; after 16 sends the session closes (R366, R369). -/
def State.resendEvent (s : State) (n seq : Nat) : State :=
  let k := s.session n
  match k.events.find? (fun e => e.1 == seq) with
  | none => s
  | some e =>
    if s.stamp < e.2.2.2 + s.num 0x4805 2 * us then s
    else if 16 ≤ e.2.2.1 then (s.closeSession n).signal 216 none
    else
      let p := s.sessionPort k.port
      let s := s.setSession n { k with events := k.events.map (fun x => if x.1 = seq then (x.1, x.2.1, x.2.2.1 + 1, s.stamp) else x) }
      (s.hostEmit p k.src 0x58 { s.hostHdr n with seq := seq, flags := 0x40 } e.2.1).countEvent (hostUnit p) 0x0305
        (hostBytes (s.hostFraming p 0 == 1) 64) (if k.kind = 1 then some k.ctx else none)

/-- EVENT_RESEND (R369, R366). -/
def execEventResend (dt session seq : Nat) (s : State) : Host.Outcome State Fault Refusal :=
  .next ((s.elapse dt).whenUp fun s => if (s.session session).isOpen then s.resendEvent session seq else s)

/-! ### The ports (R363, R365) -/

/-- HOST_PORT_STATE_CHANGE (R365). -/
def execHostPortStateChange (dt port st : Nat) (s : State) : Host.Outcome State Fault Refusal :=
  .next ((s.elapse dt).whenUp fun s => if port < 2 ∧ st ≤ 3 then s.setHostPort port st else s)

/-- The family, the own address and the MAC address of a port, by the index of R429: host ports 0 and 1, purlin ports from 2. -/
def State.portFamily (s : State) (i : Nat) : Nat := if i < 2 then s.hostFraming i 0 else s.framing (i - 2) 0
def State.portAddr (s : State) (i : Nat) : Nat := if i < 2 then s.hostAddr i else s.planeAddr (i - 2) s.deviceId
def State.portMac (s : State) (i : Nat) : Nat :=
  if i = 0 then s.boot.fuses.macHost0 else if i = 1 then s.boot.fuses.macHost1 else Config.purlinMac (i - 2)
def State.portUp (s : State) (i : Nat) : Bool :=
  if i < 2 then Assoc.get 0 s.hostPorts i == 2 else decide (i < 18) && Assoc.get 0 s.ports (i - 2) == 2

/-- The gateway of a port, to which it sends every frame (R279, R363). -/
def State.portGateway (s : State) (i : Nat) : Nat := if i < 2 then s.hostFraming i 8 else s.framing (i - 2) 5

/-- ARP_REQUEST (R363, Table 8-6): the answer names its asker and goes to the port's gateway, as every frame does. -/
def execArpRequest (dt port target mac : Nat) (s : State) : Host.Outcome State Fault Refusal :=
  .next ((s.elapse dt).whenUp fun s =>
    if s.portUp port && s.portFamily port == 1 && target == s.portAddr port then s.push (.arp port (s.portGateway port) mac (s.portMac port)) else s)

/-- NEIGHBOR_SOLICITATION (R363, Table 8-6). -/
def execNeighborSolicitation (dt port target mac : Nat) (s : State) : Host.Outcome State Fault Refusal :=
  .next ((s.elapse dt).whenUp fun s =>
    if s.portUp port && s.portFamily port == 0 && target == s.portAddr port then s.push (.neighbor port (s.portGateway port) mac (s.portMac port)) else s)

/-! ### Waiting for the random source (R508) -/

/-- What has waited 10 ms for a random value is refused with 0x0603. -/
def State.refuseWaits (s : State) : State :=
  let old := fun (t : Nat) => decide (t + 10 * ms ≤ s.stamp)
  let s := match s.boot.rngWaitQuote with
    | some q => if old q.1 then ({ s with boot := { s.boot with rngWaitQuote := none } } : State).setCnt 0x7820 3 0x0603 else s
    | none => s
  let late := s.boot.rngWaitOpens.filter (fun w => old w.1)
  let s := { s with boot := { s.boot with rngWaitOpens := s.boot.rngWaitOpens.filter (fun w => !old w.1) } }
  late.foldl (fun s w => s.refuseOpen w.2.1 w.2.2 0x0603) s

/-- RANDOM_WAIT_TIMEOUT (R508). -/
def execRandomWaitTimeout (dt : Nat) (s : State) : Host.Outcome State Fault Refusal :=
  .next ((s.elapse dt).whenUp fun s => s.refuseWaits)

/-- The source passes again: waiting requests are served, opens with the values drawn. -/
def State.passRng (s : State) (draws : List Nat) : State :=
  let q := s.boot.rngWaitQuote
  let l := s.boot.rngWaitOpens
  let s := { s with boot := { s.boot with rngBad := false, rngWaitQuote := none, rngWaitOpens := [] } }
  let s := match q with
    | some w => s.sign (w.2.take 32) (w.2.drop 32)
    | none => s
  l.zipIdx.foldl (fun s x => s.openSession x.1.2.1 (nth 0 draws x.2) x.1.2.2) s

/-- RNG_HEALTH_PASS (R508). -/
def execRngHealthPass (dt : Nat) (draws : List Nat) (s : State) : Host.Outcome State Fault Refusal :=
  .next ((s.elapse dt).whenUp fun s => s.passRng draws)

end Sys2Proof.Machine
end

