-- ==== Sys2Proof/Machine/Dispatch.lean ====
section
/-! DEFINITION. The effect of every command: one arm for each row of the table. -/

namespace Sys2Proof.Machine

/-- The meaning of each command, by row. -/
def exec (i : Instr) (s : State) : Host.Outcome State Fault Refusal :=
  match i with
  | .objectWrite dt target place val aux => Sys2Proof.Machine.execObjectWrite dt target place val aux s
  | .clampCounterClear dt idx v => Sys2Proof.Machine.execClampCounterClear dt idx v s
  | .resourceRearm dt unit => Sys2Proof.Machine.execResourceRearm dt unit s
  | .refusalCountersClear dt v => Sys2Proof.Machine.execRefusalCountersClear dt v s
  | .diePathLaneLoss dt path spare => Sys2Proof.Machine.execDiePathLaneLoss dt path spare s
  | .planerCountersClear dt v => Sys2Proof.Machine.execPlanerCountersClear dt v s
  | .tensorProduct dt e diag => Sys2Proof.Machine.execTensorProduct dt e diag s
  | .tileEpilogue dt e diag => Sys2Proof.Machine.execTileEpilogue dt e diag s
  | .tensorCountersClear dt v => Sys2Proof.Machine.execTensorCountersClear dt v s
  | .rmsForward dt e diag => Sys2Proof.Machine.execRmsForward dt e diag s
  | .rmsBackward dt e diag => Sys2Proof.Machine.execRmsBackward dt e diag s
  | .layerForward dt e diag => Sys2Proof.Machine.execLayerForward dt e diag s
  | .layerBackward dt e diag => Sys2Proof.Machine.execLayerBackward dt e diag s
  | .softmaxForward dt e diag => Sys2Proof.Machine.execSoftmaxForward dt e diag s
  | .softmaxBackward dt e diag => Sys2Proof.Machine.execSoftmaxBackward dt e diag s
  | .fp32Add dt e diag => Sys2Proof.Machine.execFp32Add dt e diag s
  | .haul dt e diag => Sys2Proof.Machine.execHaul dt e diag s
  | .remoteHaul dt e diag => Sys2Proof.Machine.execRemoteHaul dt e diag s
  | .push dt e diag => Sys2Proof.Machine.execPush dt e diag s
  | .pop dt e diag => Sys2Proof.Machine.execPop dt e diag s
  | .popAndHold dt e diag => Sys2Proof.Machine.execPopAndHold dt e diag s
  | .readHeld dt e diag => Sys2Proof.Machine.execReadHeld dt e diag s
  | .release dt e diag => Sys2Proof.Machine.execRelease dt e diag s
  | .update dt e diag => Sys2Proof.Machine.execUpdate dt e diag s
  | .trainingCountersClear dt v => Sys2Proof.Machine.execTrainingCountersClear dt v s
  | .heatHalving dt => Sys2Proof.Machine.execHeatHalving dt s
  | .copyComplete dt pkg ue => Sys2Proof.Machine.execCopyComplete dt pkg ue s
  | .copyPoolWrite dt stack v => Sys2Proof.Machine.execCopyPoolWrite dt stack v s
  | .transparentCopiesWrite dt v => Sys2Proof.Machine.execTransparentCopiesWrite dt v s
  | .prefetchFire dt bay => Sys2Proof.Machine.execPrefetchFire dt bay s
  | .prefetchComplete dt bay entry diag => Sys2Proof.Machine.execPrefetchComplete dt bay entry diag s
  | .patrolScrub dt unit corrected bad => Sys2Proof.Machine.execPatrolScrub dt unit corrected bad s
  | .pageZeroingComplete dt page => Sys2Proof.Machine.execPageZeroingComplete dt page s
  | .benchZeroingComplete dt bay => Sys2Proof.Machine.execBenchZeroingComplete dt bay s
  | .invalidationComplete dt ctx => Sys2Proof.Machine.execInvalidationComplete dt ctx s
  | .memoryCountersClear dt v => Sys2Proof.Machine.execMemoryCountersClear dt v s
  | .contextCreate dt block place => Sys2Proof.Machine.execContextCreate dt block place s
  | .contextClose dt id => Sys2Proof.Machine.execContextClose dt id s
  | .teardownDrainEnd dt id => Sys2Proof.Machine.execTeardownDrainEnd dt id s
  | .teardownDrainLimit dt id => Sys2Proof.Machine.execTeardownDrainLimit dt id s
  | .teardownComplete dt id => Sys2Proof.Machine.execTeardownComplete dt id s
  | .doorbellTailWrite dt ctx q v => Sys2Proof.Machine.execDoorbellTailWrite dt ctx q v s
  | .completionHeadWrite dt ctx v => Sys2Proof.Machine.execCompletionHeadWrite dt ctx v s
  | .commandStart dt e ue => Sys2Proof.Machine.execCommandStart dt e ue s
  | .noOp dt e => Sys2Proof.Machine.execNoOp dt e s
  | .layerMarker dt e => Sys2Proof.Machine.execLayerMarker dt e s
  | .stepOpen dt => Sys2Proof.Machine.execStepOpen dt s
  | .stepClose dt delays => Sys2Proof.Machine.execStepClose dt delays s
  | .contextCountersClear dt v => Sys2Proof.Machine.execContextCountersClear dt v s
  | .scheduleTableWrite dt val => Sys2Proof.Machine.execScheduleTableWrite dt val s
  | .scheduleActivate dt n => Sys2Proof.Machine.execScheduleActivate dt n s
  | .cycleStart dt => Sys2Proof.Machine.execCycleStart dt s
  | .admissionWaitTimeout dt ctx => Sys2Proof.Machine.execAdmissionWaitTimeout dt ctx s
  | .slotBoundary dt => Sys2Proof.Machine.execSlotBoundary dt s
  | .park dt ctx q => Sys2Proof.Machine.execPark dt ctx q s
  | .remoteWaitDeadline dt => Sys2Proof.Machine.execRemoteWaitDeadline dt s
  | .swap dt => Sys2Proof.Machine.execSwap dt s
  | .swapComplete dt ctx => Sys2Proof.Machine.execSwapComplete dt ctx s
  | .schedulingCountersClear dt v => Sys2Proof.Machine.execSchedulingCountersClear dt v s
  | .codewordReceive dt link fecOk corrected seq crc flits => Sys2Proof.Machine.execCodewordReceive dt link fecOk corrected seq crc flits s
  | .idleCreditFlit dt link flit => Sys2Proof.Machine.execIdleCreditFlit dt link flit s
  | .retryRequest dt link flit => Sys2Proof.Machine.execRetryRequest dt link flit s
  | .syncInterval dt => Sys2Proof.Machine.execSyncInterval dt s
  | .syncRequest dt link flit => Sys2Proof.Machine.execSyncRequest dt link flit s
  | .syncReply dt link flit => Sys2Proof.Machine.execSyncReply dt link flit s
  | .identify dt link flit => Sys2Proof.Machine.execIdentify dt link flit s
  | .laneMap dt link flit => Sys2Proof.Machine.execLaneMap dt link flit s
  | .linkDownTimeout dt link => Sys2Proof.Machine.execLinkDownTimeout dt link s
  | .partnerSignal dt link => Sys2Proof.Machine.execPartnerSignal dt link s
  | .trainingDone dt link ok => Sys2Proof.Machine.execTrainingDone dt link ok s
  | .alignDone dt link laneMap => Sys2Proof.Machine.execAlignDone dt link laneMap s
  | .linkSilenceTimeout dt link => Sys2Proof.Machine.execLinkSilenceTimeout dt link s
  | .laneLoss dt link lane => Sys2Proof.Machine.execLaneLoss dt link lane s
  | .leaderLossTimeout dt => Sys2Proof.Machine.execLeaderLossTimeout dt s
  | .linkRetrain dt mask => Sys2Proof.Machine.execLinkRetrain dt mask s
  | .linkDisableWrite dt mask => Sys2Proof.Machine.execLinkDisableWrite dt mask s
  | .portStateChange dt port st => Sys2Proof.Machine.execPortStateChange dt port st s
  | .fabricWrite dt via msg => Sys2Proof.Machine.execFabricWrite dt via msg s
  | .fabricDoorbell dt via msg => Sys2Proof.Machine.execFabricDoorbell dt via msg s
  | .fillOnly dt via msg => Sys2Proof.Machine.execFillOnly dt via msg s
  | .contribution dt via msg => Sys2Proof.Machine.execContribution dt via msg s
  | .pageTransfer dt via msg => Sys2Proof.Machine.execPageTransfer dt via msg s
  | .acknowledgement dt via msg => Sys2Proof.Machine.execAcknowledgement dt via msg s
  | .negativeAcknowledgement dt via msg => Sys2Proof.Machine.execNegativeAcknowledgement dt via msg s
  | .seqWindowResend dt ctx q msgIndex => Sys2Proof.Machine.execSeqWindowResend dt ctx q msgIndex s
  | .closeNotice dt via msg => Sys2Proof.Machine.execCloseNotice dt via msg s
  | .peerResetMessage dt via msg => Sys2Proof.Machine.execPeerResetMessage dt via msg s
  | .peerResetHoldExpiry dt dev => Sys2Proof.Machine.execPeerResetHoldExpiry dt dev s
  | .retransmitTimeout dt ctx q slot => Sys2Proof.Machine.execRetransmitTimeout dt ctx q slot s
  | .rafterCountersClear dt v => Sys2Proof.Machine.execRafterCountersClear dt v s
  | .transportCountersClear dt v => Sys2Proof.Machine.execTransportCountersClear dt v s
  | .allReduce dt diag => Sys2Proof.Machine.execAllReduce dt diag s
  | .reduceScatter dt diag => Sys2Proof.Machine.execReduceScatter dt diag s
  | .allGather dt diag => Sys2Proof.Machine.execAllGather dt diag s
  | .broadcast dt diag => Sys2Proof.Machine.execBroadcast dt diag s
  | .expertDispatch dt diag => Sys2Proof.Machine.execExpertDispatch dt diag s
  | .expertCombine dt diag => Sys2Proof.Machine.execExpertCombine dt diag s
  | .stepSeal dt diag => Sys2Proof.Machine.execStepSeal dt diag s
  | .barrier dt diag => Sys2Proof.Machine.execBarrier dt diag s
  | .dovetailPair dt host guest => Sys2Proof.Machine.execDovetailPair dt host guest s
  | .dovetailUnpair dt => Sys2Proof.Machine.execDovetailUnpair dt s
  | .reshard dt block place => Sys2Proof.Machine.execReshard dt block place s
  | .mappingCountersClear dt v => Sys2Proof.Machine.execMappingCountersClear dt v s
  | .raiseJob dt block place => Sys2Proof.Machine.execRaiseJob dt block place s
  | .raiseWeightSet dt block place => Sys2Proof.Machine.execRaiseWeightSet dt block place s
  | .recheckPass dt bad place => Sys2Proof.Machine.execRecheckPass dt bad place s
  | .weightSwitch dt ctx version => Sys2Proof.Machine.execWeightSwitch dt ctx version s
  | .checkpointRequest dt ctx => Sys2Proof.Machine.execCheckpointRequest dt ctx s
  | .checkpointCommit dt ctx step => Sys2Proof.Machine.execCheckpointCommit dt ctx step s
  | .restore dt block place => Sys2Proof.Machine.execRestore dt block place s
  | .restoreComplete dt ctx localBad holder => Sys2Proof.Machine.execRestoreComplete dt ctx localBad holder s
  | .raisingCountersClear dt v => Sys2Proof.Machine.execRaisingCountersClear dt v s
  | .sessionOpen dt port draw msg => Sys2Proof.Machine.execSessionOpen dt port draw msg s
  | .sessionClose dt port msg => Sys2Proof.Machine.execSessionClose dt port msg s
  | .hostAcknowledgement dt port msg => Sys2Proof.Machine.execHostAcknowledgement dt port msg s
  | .dictionaryRead dt port msg => Sys2Proof.Machine.execDictionaryRead dt port msg s
  | .dictionaryWrite dt port msg aux => Sys2Proof.Machine.execDictionaryWrite dt port msg aux s
  | .hostDoorbell dt port msg => Sys2Proof.Machine.execHostDoorbell dt port msg s
  | .hostWrite dt port msg => Sys2Proof.Machine.execHostWrite dt port msg s
  | .hostReadRequest dt port msg diag => Sys2Proof.Machine.execHostReadRequest dt port msg diag s
  | .hostPageTransfer dt port msg => Sys2Proof.Machine.execHostPageTransfer dt port msg s
  | .sessionTimeout dt session => Sys2Proof.Machine.execSessionTimeout dt session s
  | .eventResend dt session seq => Sys2Proof.Machine.execEventResend dt session seq s
  | .hostPortStateChange dt port st => Sys2Proof.Machine.execHostPortStateChange dt port st s
  | .arpRequest dt port target mac => Sys2Proof.Machine.execArpRequest dt port target mac s
  | .neighborSolicitation dt port target mac => Sys2Proof.Machine.execNeighborSolicitation dt port target mac s
  | .ptpAnnounce dt port msg => Sys2Proof.Machine.execPtpAnnounce dt port msg s
  | .ptpSync dt port msg => Sys2Proof.Machine.execPtpSync dt port msg s
  | .syncTimeout dt => Sys2Proof.Machine.execSyncTimeout dt s
  | .holdoverLimit dt => Sys2Proof.Machine.execHoldoverLimit dt s
  | .ppsInEdge dt => Sys2Proof.Machine.execPpsInEdge dt s
  | .ppsOutPulse dt => Sys2Proof.Machine.execPpsOutPulse dt s
  | .ppsOutFall dt => Sys2Proof.Machine.execPpsOutFall dt s
  | .hostCountersClear dt v => Sys2Proof.Machine.execHostCountersClear dt v s
  | .efythReadRequest dt msg => Sys2Proof.Machine.execEfythReadRequest dt msg s
  | .efythWrite dt msg aux => Sys2Proof.Machine.execEfythWrite dt msg aux s
  | .discover dt msg => Sys2Proof.Machine.execDiscover dt msg s
  | .multipartTimeout dt mac => Sys2Proof.Machine.execMultipartTimeout dt mac s
  | .plcaChangeApply dt => Sys2Proof.Machine.execPlcaChangeApply dt s
  | .commitWindowClose dt => Sys2Proof.Machine.execCommitWindowClose dt s
  | .commitComplete dt badReads => Sys2Proof.Machine.execCommitComplete dt badReads s
  | .rwpDefaults dt v => Sys2Proof.Machine.execRwpDefaults dt v s
  | .calibrationWrite dt image => Sys2Proof.Machine.execCalibrationWrite dt image s
  | .managementCountersClear dt v => Sys2Proof.Machine.execManagementCountersClear dt v s
  | .interruptSignal dt source ctx => Sys2Proof.Machine.execInterruptSignal dt source ctx s
  | .interruptDelivery dt core => Sys2Proof.Machine.execInterruptDelivery dt core s
  | .take dt core source => Sys2Proof.Machine.execTake dt core source s
  | .pendClear dt w mask => Sys2Proof.Machine.execPendClear dt w mask s
  | .setSource dt source => Sys2Proof.Machine.execSetSource dt source s
  | .endHandler dt core source => Sys2Proof.Machine.execEndHandler dt core source s
  | .modeWrite dt v => Sys2Proof.Machine.execModeWrite dt v s
  | .raiseSoftwareSource dt source => Sys2Proof.Machine.execRaiseSoftwareSource dt source s
  | .sourceConfigWrite dt val => Sys2Proof.Machine.execSourceConfigWrite dt val s
  | .interruptCountersClear dt v => Sys2Proof.Machine.execInterruptCountersClear dt v s
  | .counterWrap dt unit k => Sys2Proof.Machine.execCounterWrap dt unit k s
  | .counterReset dt v => Sys2Proof.Machine.execCounterReset dt v s
  | .samplingStart dt => Sys2Proof.Machine.execSamplingStart dt s
  | .samplingStop dt => Sys2Proof.Machine.execSamplingStop dt s
  | .sampleRecord dt occ => Sys2Proof.Machine.execSampleRecord dt occ s
  | .readMarkWrite dt v => Sys2Proof.Machine.execReadMarkWrite dt v s
  | .samplingCopy dt => Sys2Proof.Machine.execSamplingCopy dt s
  | .bandwidthWindowEnd dt traffic => Sys2Proof.Machine.execBandwidthWindowEnd dt traffic s
  | .ledgerWindow dt est => Sys2Proof.Machine.execLedgerWindow dt est s
  | .avsCurrentRead dt rail frame => Sys2Proof.Machine.execAvsCurrentRead dt rail frame s
  | .governorUpdate dt => Sys2Proof.Machine.execGovernorUpdate dt s
  | .bandCheck dt stepPower => Sys2Proof.Machine.execBandCheck dt stepPower s
  | .ballastUpdate dt perBay => Sys2Proof.Machine.execBallastUpdate dt perBay s
  | .junctionSample dt raw => Sys2Proof.Machine.execJunctionSample dt raw s
  | .clockRaiseAfterSettle dt die => Sys2Proof.Machine.execClockRaiseAfterSettle dt die s
  | .thermalTrip dt die => Sys2Proof.Machine.execThermalTrip dt die s
  | .tripHoldTimeout dt die => Sys2Proof.Machine.execTripHoldTimeout dt die s
  | .shedNAssert dt => Sys2Proof.Machine.execShedNAssert dt s
  | .shedNDeassert dt => Sys2Proof.Machine.execShedNDeassert dt s
  | .shedEnd dt => Sys2Proof.Machine.execShedEnd dt s
  | .vrAlert dt status => Sys2Proof.Machine.execVrAlert dt status s
  | .pgBeamLoss dt die => Sys2Proof.Machine.execPgBeamLoss dt die s
  | .pgSocLoss dt => Sys2Proof.Machine.execPgSocLoss dt s
  | .wearCommit dt seconds => Sys2Proof.Machine.execWearCommit dt seconds s
  | .bayIdleGate dt bay => Sys2Proof.Machine.execBayIdleGate dt bay s
  | .baySleep dt bay => Sys2Proof.Machine.execBaySleep dt bay s
  | .deviceP2Request dt => Sys2Proof.Machine.execDeviceP2Request dt s
  | .deviceP3Request dt => Sys2Proof.Machine.execDeviceP3Request dt s
  | .deviceWakeRequest dt => Sys2Proof.Machine.execDeviceWakeRequest dt s
  | .autoP2Timeout dt => Sys2Proof.Machine.execAutoP2Timeout dt s
  | .powerCountersClear dt v => Sys2Proof.Machine.execPowerCountersClear dt v s
  | .hangDetected dt e => Sys2Proof.Machine.execHangDetected dt e s
  | .quarantineLimit dt bay => Sys2Proof.Machine.execQuarantineLimit dt bay s
  | .heartbeatKick dt => Sys2Proof.Machine.execHeartbeatKick dt s
  | .watchdogExpiry dt => Sys2Proof.Machine.execWatchdogExpiry dt s
  | .watchdogGraceExpiry dt => Sys2Proof.Machine.execWatchdogGraceExpiry dt s
  | .bayReset dt bay => Sys2Proof.Machine.execBayReset dt bay s
  | .beamDieReset dt die => Sys2Proof.Machine.execBeamDieReset dt die s
  | .edgeLinkReset dt port => Sys2Proof.Machine.execEdgeLinkReset dt port s
  | .warmReset dt => Sys2Proof.Machine.execWarmReset dt s
  | .coldReset dt => Sys2Proof.Machine.execColdReset dt s
  | .resetComplete dt domain unit place => Sys2Proof.Machine.execResetComplete dt domain unit place s
  | .crashDumpStart dt => Sys2Proof.Machine.execCrashDumpStart dt s
  | .crashDumpSealed dt content => Sys2Proof.Machine.execCrashDumpSealed dt content s
  | .crashDumpCopy dt n => Sys2Proof.Machine.execCrashDumpCopy dt n s
  | .fatalAck dt v => Sys2Proof.Machine.execFatalAck dt v s
  | .healthRestoreTick dt => Sys2Proof.Machine.execHealthRestoreTick dt s
  | .admissionStateWrite dt v => Sys2Proof.Machine.execAdmissionStateWrite dt v s
  | .selfTestStart dt => Sys2Proof.Machine.execSelfTestStart dt s
  | .selfTestComplete dt bays hbms sills paths pages => Sys2Proof.Machine.execSelfTestComplete dt bays hbms sills paths pages s
  | .faultCountersClear dt v => Sys2Proof.Machine.execFaultCountersClear dt v s
  | .coldBoot dt env => Sys2Proof.Machine.execColdBoot dt env s
  | .bootCtlUpdate dt v place => Sys2Proof.Machine.execBootCtlUpdate dt v place s
  | .recoveryData dt msg => Sys2Proof.Machine.execRecoveryData dt msg s
  | .recoveryWindowTimeout dt => Sys2Proof.Machine.execRecoveryWindowTimeout dt s
  | .firmwareUpdate dt len readBack => Sys2Proof.Machine.execFirmwareUpdate dt len readBack s
  | .firmwareUpdateFetch dt mac left readBack => Sys2Proof.Machine.execFirmwareUpdateFetch dt mac left readBack s
  | .raiseMinSecurity dt v => Sys2Proof.Machine.execRaiseMinSecurity dt v s
  | .debugLockBlow dt v => Sys2Proof.Machine.execDebugLockBlow dt v s
  | .extendSlot dt val => Sys2Proof.Machine.execExtendSlot dt val s
  | .quote dt nonce => Sys2Proof.Machine.execQuote dt nonce s
  | .rngHealthFail dt => Sys2Proof.Machine.execRngHealthFail dt s
  | .randomWaitTimeout dt => Sys2Proof.Machine.execRandomWaitTimeout dt s
  | .resetNAssert dt => Sys2Proof.Machine.execResetNAssert dt s
  | .refclkLoss dt => Sys2Proof.Machine.execRefclkLoss dt s
  | .refclkRestored dt => Sys2Proof.Machine.execRefclkRestored dt s
  | .jobSignalAssign dt pin v => Sys2Proof.Machine.execJobSignalAssign dt pin v s
  | .jtagTestModeEntry dt => Sys2Proof.Machine.execJtagTestModeEntry dt s
  | .rngHealthPass dt draws => Sys2Proof.Machine.execRngHealthPass dt draws s
  | .recoveryFetchRestart dt => Sys2Proof.Machine.execRecoveryFetchRestart dt s
  | .vrAlertDeassert dt => Sys2Proof.Machine.execVrAlertDeassert dt s
  | .bayWakeComplete dt bay => Sys2Proof.Machine.execBayWakeComplete dt bay s
  | .linkDownDeduction dt link => Sys2Proof.Machine.execLinkDownDeduction dt link s
  | .firmwareFault dt cause => Sys2Proof.Machine.execFirmwareFault dt cause s

end Sys2Proof.Machine
end

