-- ==== Sys2Proof/Safety.lean ====
section
/-! DEFINITION. What the claims about the machine speak of: its safe steps, the invariant that every step keeps, the commands that
need running firmware, and an engine that runs a command. -/

namespace Sys2Proof.Machine

/-- A safe step answers a next state: no fault and no refusal. -/
def SafeStep (s : State) : Prop := ∃ t, step s = .next t

/-- The byte store is in its canonical form, and the stamp is a 64-bit number (R375). -/
def State.Sound (s : State) : Prop := Memory.wf s.mem = true ∧ s.stamp < 2 ^ 64

/-- What a step may do to a state that its commands do not name: the queue stays, and what was sent stays sent. -/
def State.Extends (t s : State) : Prop := t.pending = s.pending ∧ s.sent <+: t.sent

/-- What a signal of the interrupt controller touches while the firmware runs, and nothing beside it: the controller, counts, the sessions
and stations that it is forwarded to, and the start of a wake (R412, R419, R420). -/
def State.SignalsTo (s t : State) : Prop :=
  t = { s with intr := t.intr, objs := t.objs, sessions := t.sessions, sent := t.sent, perf := t.perf, efyth := t.efyth,
               power := { s.power with waking := t.power.waking } }

/-- Indexes of RW and RWP objects whose write does more than give them a value. -/
def actingObjects : List Nat :=
  [0x1102, 0x3002, 0x3003, 0x3202, 0x4003, 0x4807, 0x5101, 0x5120, 0x5130, 0x6010, 0x6011, 0x7103, 0x7F03]

/-- Engine `e` runs `r`, clocked and in service, and `r` awaits nothing and has not failed (R47, R252, R256). -/
def State.runs (s : State) (e : Nat) (r : Run) : Prop :=
  s.up = true ∧ (s.engine e).running = some r ∧ s.engineLive e = true ∧ r.await = .none ∧ r.failed = none

/-- A Cranany message passes checks 1 to 8 of R285, as it stands after its arrival on a path that is Up (Table 8-8, R285). -/
def State.accepts (s : State) (ty : Nat) (via : Via) (m : FabMsg) : Prop :=
  s.up = true ∧ s.viaUp via = true ∧ wireOk via ty m = true ∧ (s.arrive via ty m).formCode ty m = 0
    ∧ (s.arrive via ty m).inPeerReset m.hdr.srcDevice = false ∧ ((s.arrive via ty m).rxOf m.hdr.srcDevice).seen m.hdr.seq = false
    ∧ ((s.arrive via ty m).rxOf m.hdr.srcDevice).beyond m.hdr.seq = false ∧ (s.arrive via ty m).receives ty m.hdr = true
    ∧ (ty < 0x20 → m.hdr.roleEpoch = ((s.arrive via ty m).ctx m.hdr.dstCtx).roleEpoch)

/-- A host message on a port that is Up passes checks 1 to 5 of R370 as the next message of open session `n`, none waiting ahead of it. -/
def State.hostAccepts (s : State) (port ty : Nat) (m : HostMsg) (n : Nat) : Prop :=
  s.up = true ∧ s.hostTakes port m = true ∧ discarded ty m = false ∧ misformed ty m = false
    ∧ (s.hostArrive port m).sessionOf m = some n ∧ ((s.hostArrive port m).session n).tag = m.hdr.tag
    ∧ payloadCrc m.payload = m.hdr.pcrc ∧ ((s.hostArrive port m).session n).rxSeq = m.hdr.seq % 2 ^ 32
    ∧ ((s.hostArrive port m).session n).ahead = []

/-- The state in which such a message is acted on. -/
def State.hostHeard (s : State) (port : Nat) (m : HostMsg) (n : Nat) : State :=
  let w := s.hostArrive port m
  w.setSession n { w.session n with port := port, lastHeard := w.stamp }

/-- A link carries a control flit of a kind (R267, R271). -/
def State.hears (s : State) (n f kind : Nat) : Prop := s.up = true ∧ (s.link n).carries = true ∧ flitKind f = kind

/-- From `v` to `t`, nothing but one answer to Efyth request `m` went out, to its source and at a level, and was kept and counted; its header
is the reply's of `s`, with the payload's length and the stamp (R388, R390). -/
def State.answersFrom (s v t : State) (m : EfythMsg) (level flags code : Nat) (p : List Byte) : Prop :=
  let h : EfythHdr := { s.replyHdr m.hdr flags code with length := p.length, stamp := s.stamp }
  t.sent = v.sent ++ [.efyth s.boot.fuses.macMgmt m.src 3 h (efythBytes 3 h p) level]
    ∧ t = { v with objs := t.objs, sent := t.sent, efyth := t.efyth }

/-- The commands completed on a queue of a context, modulo 2^32 (R216). -/
def State.completedOf (s : State) (c q : Nat) : Nat := ((s.ctx c).queue q).completed

/-- The objects of a list of (index, first subindex, count) read 0 in `t`; every other object, and all else, stands as in `u`. -/
def State.Cleared (t u : State) (l : List (Nat × Nat × Nat)) : Prop :=
  (∀ o ∈ l, ∀ k, o.2.1 ≤ k → k < o.2.1 + o.2.2 → t.cnt o.1 k = 0)
    ∧ (∀ i k, (∀ o ∈ l, objKey i k < objKey o.1 o.2.1 ∨ objKey o.1 o.2.1 + o.2.2 ≤ objKey i k) → t.obj i k = u.obj i k)
    ∧ t = { u with objs := t.objs }

/-- A clear command counts a value other than 1 as clamped, after it has cleared (R409). -/
def State.clearedBy (t : State) (cmd v : Nat) : State := if v = 1 then t else t.countClamp cmd

/-- The row command `t` of engine `e` is done: its reads are counted, its writes are counted, its rows run in ascending order, and it
completes with code 0. -/
def State.rowsDone (s : State) (e op : Nat) (r : Run) (t : RowCmd) (keyed : Bool) : State :=
  (((s.heatAll (.bay (e / 4)) r.ctx (t.reads op)).countWrites (.bay (e / 4)) r.ctx (t.writes op)).runRows r.ctx op t keyed
    t.rows).endWith e r 0

/-- The FP32 add of `n` elements on engine `e` is done. -/
def State.addDone (s : State) (e : Nat) (r : Run) (src dst n : Nat) : State :=
  (((s.heatAll (.bay (e / 4)) r.ctx [(src, 4 * n), (dst, 4 * n)]).countWrites (.bay (e / 4)) r.ctx [(dst, 4 * n)]).addElems
    r.ctx src dst n).endWith e r 0

/-- What a collective comes to after its exchange, in `w`: with everything there it ends with its results, else it awaits contributions on
the reduce engine, and nothing else moves. -/
def State.collEnds (w t : State) (c : Nat) (k : Coll) : Prop :=
  (∀ q, k.done (w.ctx c) = true → (w.engine 272).running = some q → t = w.endColl c q k)
    ∧ (k.done (w.ctx c) = false → t.mem = w.mem ∧ t.sent = w.sent
        ∧ (t.engine 272).running = (w.engine 272).running.map (fun q =>
            if q.await = .contributions then q else { q with await := .contributions, waitFrom := w.stamp }))

/-- Engine `e` runs local haul `r` of sticker operation `op` (0: a plain haul): no sticker operation of its segment that was issued
before it is still to take effect, and `o` is what its descriptor gives. -/
def State.haulRuns (s : State) (e op : Nat) (diag : Option Diag) (r : Run) (o : HaulOut) : Prop :=
  s.runs e r ∧ r.cmd.opcode = 0x30 ∧ isRemote e r.cmd = false ∧ haulOp r.cmd = op ∧ (op ≠ 0 → s.stickBefore e r = false)
    ∧ o = s.haulDesc (e / 4) r.ctx (haulDescOf r.cmd) ((haulDescOf r.cmd).keyed r.defGrain r.defOther) false diag


end Sys2Proof.Machine

namespace Sys2Proof

/-- The stamp units since the command before (assumption log 1). -/
def Instr.dt : Instr → Nat
  | .objectWrite dt _ _ _ _ => dt
  | .clampCounterClear dt _ _ => dt
  | .resourceRearm dt _ => dt
  | .refusalCountersClear dt _ => dt
  | .diePathLaneLoss dt _ _ => dt
  | .planerCountersClear dt _ => dt
  | .tensorProduct dt _ _ => dt
  | .tileEpilogue dt _ _ => dt
  | .tensorCountersClear dt _ => dt
  | .rmsForward dt _ _ => dt
  | .rmsBackward dt _ _ => dt
  | .layerForward dt _ _ => dt
  | .layerBackward dt _ _ => dt
  | .softmaxForward dt _ _ => dt
  | .softmaxBackward dt _ _ => dt
  | .fp32Add dt _ _ => dt
  | .haul dt _ _ => dt
  | .remoteHaul dt _ _ => dt
  | .push dt _ _ => dt
  | .pop dt _ _ => dt
  | .popAndHold dt _ _ => dt
  | .readHeld dt _ _ => dt
  | .release dt _ _ => dt
  | .update dt _ _ => dt
  | .trainingCountersClear dt _ => dt
  | .heatHalving dt => dt
  | .copyComplete dt _ _ => dt
  | .copyPoolWrite dt _ _ => dt
  | .transparentCopiesWrite dt _ => dt
  | .prefetchFire dt _ => dt
  | .prefetchComplete dt _ _ _ => dt
  | .patrolScrub dt _ _ _ => dt
  | .pageZeroingComplete dt _ => dt
  | .benchZeroingComplete dt _ => dt
  | .invalidationComplete dt _ => dt
  | .memoryCountersClear dt _ => dt
  | .contextCreate dt _ _ => dt
  | .contextClose dt _ => dt
  | .teardownDrainEnd dt _ => dt
  | .teardownDrainLimit dt _ => dt
  | .teardownComplete dt _ => dt
  | .doorbellTailWrite dt _ _ _ => dt
  | .completionHeadWrite dt _ _ => dt
  | .commandStart dt _ _ => dt
  | .noOp dt _ => dt
  | .layerMarker dt _ => dt
  | .stepOpen dt => dt
  | .stepClose dt _ => dt
  | .contextCountersClear dt _ => dt
  | .scheduleTableWrite dt _ => dt
  | .scheduleActivate dt _ => dt
  | .cycleStart dt => dt
  | .admissionWaitTimeout dt _ => dt
  | .slotBoundary dt => dt
  | .park dt _ _ => dt
  | .remoteWaitDeadline dt => dt
  | .swap dt => dt
  | .swapComplete dt _ => dt
  | .schedulingCountersClear dt _ => dt
  | .codewordReceive dt _ _ _ _ _ _ => dt
  | .idleCreditFlit dt _ _ => dt
  | .retryRequest dt _ _ => dt
  | .syncInterval dt => dt
  | .syncRequest dt _ _ => dt
  | .syncReply dt _ _ => dt
  | .identify dt _ _ => dt
  | .laneMap dt _ _ => dt
  | .linkDownTimeout dt _ => dt
  | .partnerSignal dt _ => dt
  | .trainingDone dt _ _ => dt
  | .alignDone dt _ _ => dt
  | .linkSilenceTimeout dt _ => dt
  | .laneLoss dt _ _ => dt
  | .leaderLossTimeout dt => dt
  | .linkRetrain dt _ => dt
  | .linkDisableWrite dt _ => dt
  | .portStateChange dt _ _ => dt
  | .fabricWrite dt _ _ => dt
  | .fabricDoorbell dt _ _ => dt
  | .fillOnly dt _ _ => dt
  | .contribution dt _ _ => dt
  | .pageTransfer dt _ _ => dt
  | .acknowledgement dt _ _ => dt
  | .negativeAcknowledgement dt _ _ => dt
  | .seqWindowResend dt _ _ _ => dt
  | .closeNotice dt _ _ => dt
  | .peerResetMessage dt _ _ => dt
  | .peerResetHoldExpiry dt _ => dt
  | .retransmitTimeout dt _ _ _ => dt
  | .rafterCountersClear dt _ => dt
  | .transportCountersClear dt _ => dt
  | .allReduce dt _ => dt
  | .reduceScatter dt _ => dt
  | .allGather dt _ => dt
  | .broadcast dt _ => dt
  | .expertDispatch dt _ => dt
  | .expertCombine dt _ => dt
  | .stepSeal dt _ => dt
  | .barrier dt _ => dt
  | .dovetailPair dt _ _ => dt
  | .dovetailUnpair dt => dt
  | .reshard dt _ _ => dt
  | .mappingCountersClear dt _ => dt
  | .raiseJob dt _ _ => dt
  | .raiseWeightSet dt _ _ => dt
  | .recheckPass dt _ _ => dt
  | .weightSwitch dt _ _ => dt
  | .checkpointRequest dt _ => dt
  | .checkpointCommit dt _ _ => dt
  | .restore dt _ _ => dt
  | .restoreComplete dt _ _ _ => dt
  | .raisingCountersClear dt _ => dt
  | .sessionOpen dt _ _ _ => dt
  | .sessionClose dt _ _ => dt
  | .hostAcknowledgement dt _ _ => dt
  | .dictionaryRead dt _ _ => dt
  | .dictionaryWrite dt _ _ _ => dt
  | .hostDoorbell dt _ _ => dt
  | .hostWrite dt _ _ => dt
  | .hostReadRequest dt _ _ _ => dt
  | .hostPageTransfer dt _ _ => dt
  | .sessionTimeout dt _ => dt
  | .eventResend dt _ _ => dt
  | .hostPortStateChange dt _ _ => dt
  | .arpRequest dt _ _ _ => dt
  | .neighborSolicitation dt _ _ _ => dt
  | .ptpAnnounce dt _ _ => dt
  | .ptpSync dt _ _ => dt
  | .syncTimeout dt => dt
  | .holdoverLimit dt => dt
  | .ppsInEdge dt => dt
  | .ppsOutPulse dt => dt
  | .ppsOutFall dt => dt
  | .hostCountersClear dt _ => dt
  | .efythReadRequest dt _ => dt
  | .efythWrite dt _ _ => dt
  | .discover dt _ => dt
  | .multipartTimeout dt _ => dt
  | .plcaChangeApply dt => dt
  | .commitWindowClose dt => dt
  | .commitComplete dt _ => dt
  | .rwpDefaults dt _ => dt
  | .calibrationWrite dt _ => dt
  | .managementCountersClear dt _ => dt
  | .interruptSignal dt _ _ => dt
  | .interruptDelivery dt _ => dt
  | .take dt _ _ => dt
  | .pendClear dt _ _ => dt
  | .setSource dt _ => dt
  | .endHandler dt _ _ => dt
  | .modeWrite dt _ => dt
  | .raiseSoftwareSource dt _ => dt
  | .sourceConfigWrite dt _ => dt
  | .interruptCountersClear dt _ => dt
  | .counterWrap dt _ _ => dt
  | .counterReset dt _ => dt
  | .samplingStart dt => dt
  | .samplingStop dt => dt
  | .sampleRecord dt _ => dt
  | .readMarkWrite dt _ => dt
  | .samplingCopy dt => dt
  | .bandwidthWindowEnd dt _ => dt
  | .ledgerWindow dt _ => dt
  | .avsCurrentRead dt _ _ => dt
  | .governorUpdate dt => dt
  | .bandCheck dt _ => dt
  | .ballastUpdate dt _ => dt
  | .junctionSample dt _ => dt
  | .clockRaiseAfterSettle dt _ => dt
  | .thermalTrip dt _ => dt
  | .tripHoldTimeout dt _ => dt
  | .shedNAssert dt => dt
  | .shedNDeassert dt => dt
  | .shedEnd dt => dt
  | .vrAlert dt _ => dt
  | .pgBeamLoss dt _ => dt
  | .pgSocLoss dt => dt
  | .wearCommit dt _ => dt
  | .bayIdleGate dt _ => dt
  | .baySleep dt _ => dt
  | .deviceP2Request dt => dt
  | .deviceP3Request dt => dt
  | .deviceWakeRequest dt => dt
  | .autoP2Timeout dt => dt
  | .powerCountersClear dt _ => dt
  | .hangDetected dt _ => dt
  | .quarantineLimit dt _ => dt
  | .heartbeatKick dt => dt
  | .watchdogExpiry dt => dt
  | .watchdogGraceExpiry dt => dt
  | .bayReset dt _ => dt
  | .beamDieReset dt _ => dt
  | .edgeLinkReset dt _ => dt
  | .warmReset dt => dt
  | .coldReset dt => dt
  | .resetComplete dt _ _ _ => dt
  | .crashDumpStart dt => dt
  | .crashDumpSealed dt _ => dt
  | .crashDumpCopy dt _ => dt
  | .fatalAck dt _ => dt
  | .healthRestoreTick dt => dt
  | .admissionStateWrite dt _ => dt
  | .selfTestStart dt => dt
  | .selfTestComplete dt _ _ _ _ _ => dt
  | .faultCountersClear dt _ => dt
  | .coldBoot dt _ => dt
  | .bootCtlUpdate dt _ _ => dt
  | .recoveryData dt _ => dt
  | .recoveryWindowTimeout dt => dt
  | .firmwareUpdate dt _ _ => dt
  | .firmwareUpdateFetch dt _ _ _ => dt
  | .raiseMinSecurity dt _ => dt
  | .debugLockBlow dt _ => dt
  | .extendSlot dt _ => dt
  | .quote dt _ => dt
  | .rngHealthFail dt => dt
  | .randomWaitTimeout dt => dt
  | .resetNAssert dt => dt
  | .refclkLoss dt => dt
  | .refclkRestored dt => dt
  | .jobSignalAssign dt _ _ => dt
  | .jtagTestModeEntry dt => dt
  | .rngHealthPass dt _ => dt
  | .recoveryFetchRestart dt => dt
  | .vrAlertDeassert dt => dt
  | .bayWakeComplete dt _ => dt
  | .linkDownDeduction dt _ => dt
  | .firmwareFault dt _ => dt

/-- The commands of firmware, engines, links and sessions, which do nothing before boot completes (assumption log 9); the others
act on pins, the always-on domain, the boot itself and the management port. -/
def Instr.needsFirmware : Instr → Bool
  | .objectWrite _ _ _ _ _ => true
  | .clampCounterClear _ _ _ => true
  | .resourceRearm _ _ => true
  | .refusalCountersClear _ _ => true
  | .diePathLaneLoss _ _ _ => true
  | .planerCountersClear _ _ => true
  | .tensorProduct _ _ _ => true
  | .tileEpilogue _ _ _ => true
  | .tensorCountersClear _ _ => true
  | .rmsForward _ _ _ => true
  | .rmsBackward _ _ _ => true
  | .layerForward _ _ _ => true
  | .layerBackward _ _ _ => true
  | .softmaxForward _ _ _ => true
  | .softmaxBackward _ _ _ => true
  | .fp32Add _ _ _ => true
  | .haul _ _ _ => true
  | .remoteHaul _ _ _ => true
  | .push _ _ _ => true
  | .pop _ _ _ => true
  | .popAndHold _ _ _ => true
  | .readHeld _ _ _ => true
  | .release _ _ _ => true
  | .update _ _ _ => true
  | .trainingCountersClear _ _ => true
  | .heatHalving _ => true
  | .copyComplete _ _ _ => true
  | .copyPoolWrite _ _ _ => true
  | .transparentCopiesWrite _ _ => true
  | .prefetchFire _ _ => true
  | .prefetchComplete _ _ _ _ => true
  | .patrolScrub _ _ _ _ => true
  | .pageZeroingComplete _ _ => true
  | .benchZeroingComplete _ _ => true
  | .invalidationComplete _ _ => true
  | .memoryCountersClear _ _ => true
  | .contextCreate _ _ _ => true
  | .contextClose _ _ => true
  | .teardownDrainEnd _ _ => true
  | .teardownDrainLimit _ _ => true
  | .teardownComplete _ _ => true
  | .doorbellTailWrite _ _ _ _ => true
  | .completionHeadWrite _ _ _ => true
  | .commandStart _ _ _ => true
  | .noOp _ _ => true
  | .layerMarker _ _ => true
  | .stepOpen _ => true
  | .stepClose _ _ => true
  | .contextCountersClear _ _ => true
  | .scheduleTableWrite _ _ => true
  | .scheduleActivate _ _ => true
  | .cycleStart _ => true
  | .admissionWaitTimeout _ _ => true
  | .slotBoundary _ => true
  | .park _ _ _ => true
  | .remoteWaitDeadline _ => true
  | .swap _ => true
  | .swapComplete _ _ => true
  | .schedulingCountersClear _ _ => true
  | .codewordReceive _ _ _ _ _ _ _ => true
  | .idleCreditFlit _ _ _ => true
  | .retryRequest _ _ _ => true
  | .syncInterval _ => true
  | .syncRequest _ _ _ => true
  | .syncReply _ _ _ => true
  | .identify _ _ _ => true
  | .laneMap _ _ _ => true
  | .linkDownTimeout _ _ => true
  | .partnerSignal _ _ => true
  | .trainingDone _ _ _ => true
  | .alignDone _ _ _ => true
  | .linkSilenceTimeout _ _ => true
  | .laneLoss _ _ _ => true
  | .leaderLossTimeout _ => true
  | .linkRetrain _ _ => true
  | .linkDisableWrite _ _ => true
  | .portStateChange _ _ _ => true
  | .fabricWrite _ _ _ => true
  | .fabricDoorbell _ _ _ => true
  | .fillOnly _ _ _ => true
  | .contribution _ _ _ => true
  | .pageTransfer _ _ _ => true
  | .acknowledgement _ _ _ => true
  | .negativeAcknowledgement _ _ _ => true
  | .seqWindowResend _ _ _ _ => true
  | .closeNotice _ _ _ => true
  | .peerResetMessage _ _ _ => true
  | .peerResetHoldExpiry _ _ => true
  | .retransmitTimeout _ _ _ _ => true
  | .rafterCountersClear _ _ => true
  | .transportCountersClear _ _ => true
  | .allReduce _ _ => true
  | .reduceScatter _ _ => true
  | .allGather _ _ => true
  | .broadcast _ _ => true
  | .expertDispatch _ _ => true
  | .expertCombine _ _ => true
  | .stepSeal _ _ => true
  | .barrier _ _ => true
  | .dovetailPair _ _ _ => true
  | .dovetailUnpair _ => true
  | .reshard _ _ _ => true
  | .mappingCountersClear _ _ => true
  | .raiseJob _ _ _ => true
  | .raiseWeightSet _ _ _ => true
  | .recheckPass _ _ _ => true
  | .weightSwitch _ _ _ => true
  | .checkpointRequest _ _ => true
  | .checkpointCommit _ _ _ => true
  | .restore _ _ _ => true
  | .restoreComplete _ _ _ _ => true
  | .raisingCountersClear _ _ => true
  | .sessionOpen _ _ _ _ => true
  | .sessionClose _ _ _ => true
  | .hostAcknowledgement _ _ _ => true
  | .dictionaryRead _ _ _ => true
  | .dictionaryWrite _ _ _ _ => true
  | .hostDoorbell _ _ _ => true
  | .hostWrite _ _ _ => true
  | .hostReadRequest _ _ _ _ => true
  | .hostPageTransfer _ _ _ => true
  | .sessionTimeout _ _ => true
  | .eventResend _ _ _ => true
  | .hostPortStateChange _ _ _ => true
  | .arpRequest _ _ _ _ => true
  | .neighborSolicitation _ _ _ _ => true
  | .ptpAnnounce _ _ _ => true
  | .ptpSync _ _ _ => true
  | .syncTimeout _ => true
  | .holdoverLimit _ => true
  | .ppsInEdge _ => true
  | .ppsOutPulse _ => true
  | .ppsOutFall _ => false
  | .hostCountersClear _ _ => true
  | .efythReadRequest _ _ => false
  | .efythWrite _ _ _ => false
  | .discover _ _ => false
  | .multipartTimeout _ _ => true
  | .plcaChangeApply _ => true
  | .commitWindowClose _ => true
  | .commitComplete _ _ => true
  | .rwpDefaults _ _ => true
  | .calibrationWrite _ _ => true
  | .managementCountersClear _ _ => true
  | .interruptSignal _ _ _ => false
  | .interruptDelivery _ _ => true
  | .take _ _ _ => true
  | .pendClear _ _ _ => true
  | .setSource _ _ => true
  | .endHandler _ _ _ => true
  | .modeWrite _ _ => true
  | .raiseSoftwareSource _ _ => true
  | .sourceConfigWrite _ _ => true
  | .interruptCountersClear _ _ => true
  | .counterWrap _ _ _ => true
  | .counterReset _ _ => true
  | .samplingStart _ => true
  | .samplingStop _ => true
  | .sampleRecord _ _ => true
  | .readMarkWrite _ _ => true
  | .samplingCopy _ => true
  | .bandwidthWindowEnd _ _ => true
  | .ledgerWindow _ _ => true
  | .avsCurrentRead _ _ _ => true
  | .governorUpdate _ => true
  | .bandCheck _ _ => true
  | .ballastUpdate _ _ => true
  | .junctionSample _ _ => true
  | .clockRaiseAfterSettle _ _ => true
  | .thermalTrip _ _ => true
  | .tripHoldTimeout _ _ => true
  | .shedNAssert _ => false
  | .shedNDeassert _ => false
  | .shedEnd _ => true
  | .vrAlert _ _ => false
  | .pgBeamLoss _ _ => false
  | .pgSocLoss _ => false
  | .wearCommit _ _ => true
  | .bayIdleGate _ _ => true
  | .baySleep _ _ => true
  | .deviceP2Request _ => true
  | .deviceP3Request _ => true
  | .deviceWakeRequest _ => false
  | .autoP2Timeout _ => true
  | .powerCountersClear _ _ => true
  | .hangDetected _ _ => true
  | .quarantineLimit _ _ => true
  | .heartbeatKick _ => true
  | .watchdogExpiry _ => true
  | .watchdogGraceExpiry _ => true
  | .bayReset _ _ => true
  | .beamDieReset _ _ => true
  | .edgeLinkReset _ _ => true
  | .warmReset _ => true
  | .coldReset _ => true
  | .resetComplete _ _ _ _ => false
  | .crashDumpStart _ => true
  | .crashDumpSealed _ _ => false
  | .crashDumpCopy _ _ => true
  | .fatalAck _ _ => true
  | .healthRestoreTick _ => false
  | .admissionStateWrite _ _ => true
  | .selfTestStart _ => true
  | .selfTestComplete _ _ _ _ _ _ => true
  | .faultCountersClear _ _ => true
  | .coldBoot _ _ => false
  | .bootCtlUpdate _ _ _ => false
  | .recoveryData _ _ => false
  | .recoveryWindowTimeout _ => false
  | .firmwareUpdate _ _ _ => true
  | .firmwareUpdateFetch _ _ _ _ => true
  | .raiseMinSecurity _ _ => true
  | .debugLockBlow _ _ => true
  | .extendSlot _ _ => true
  | .quote _ _ => true
  | .rngHealthFail _ => true
  | .randomWaitTimeout _ => true
  | .resetNAssert _ => false
  | .refclkLoss _ => false
  | .refclkRestored _ => false
  | .jobSignalAssign _ _ _ => true
  | .jtagTestModeEntry _ => false
  | .rngHealthPass _ _ => false
  | .recoveryFetchRestart _ => false
  | .vrAlertDeassert _ => false
  | .bayWakeComplete _ _ => true
  | .linkDownDeduction _ _ => true
  | .firmwareFault _ _ => true

end Sys2Proof
end

