-- ==== Sys2Proof/WellFormed.lean ====
section
/-! DEFINITION. Which commands are well formed: every operand lies in the range of the unit, field or table that the manual gives
it. A command from outside this range names no unit of the device; the machine gives it no effect. -/

namespace Sys2Proof

/-! ### The checks -/

/-- Time between commands: a 64-bit count of stamp units (R375). -/
def isUnits (n : Nat) : Bool := decide (n < 2 ^ 64)
/-- A dictionary index and a subindex (R20). -/
def isIndex (n : Nat) : Bool := decide (n < 2 ^ 16)
def isSub (n : Nat) : Bool := decide (n < 2 ^ 8)
/-- A context ID (R209). -/
def isCtx (n : Nat) : Bool := decide (n < 4096)
/-- An engine by its queue number, the control queue included, and a queue (R216). -/
def isEngine (n : Nat) : Bool := decide (n ≤ 273)
def isQueue (n : Nat) : Bool := decide (n ≤ 274)
/-- Units of the device (R27 to R40). -/
def isBay (n : Nat) : Bool := decide (n < 64)
def isDie (n : Nat) : Bool := decide (n < 4)
def isStack (n : Nat) : Bool := decide (n < 16)
def isPackage (n : Nat) : Bool := decide (n < 8)
def isPath (n : Nat) : Bool := decide (n < 15)
def isCore (n : Nat) : Bool := decide (n < 4)
/-- A page: HBM pages first, then sill pages (R40). -/
def isPage (n : Nat) : Bool := decide (n < 393216 + 524288)
/-- Links, lanes and ports (R264, R278, R363). -/
def isLink (n : Nat) : Bool := decide (n < 32)
def isLane (n : Nat) : Bool := decide (n < 4)
def isPurlin (n : Nat) : Bool := decide (n < 16)
def isHostPort (n : Nat) : Bool := decide (n < 2)
def isNetPort (n : Nat) : Bool := decide (n < 18)
def isEdge (n : Nat) : Bool := decide (n < 50)
def isPortState (n : Nat) : Bool := decide (n ≤ 3)
/-- A source of the interrupt controller (R411) and a session (R366). -/
def isSource (n : Nat) : Bool := decide (n < 512)
def isSession (n : Nat) : Bool := decide (n < 64)
/-- A device ID (R264) and a MAC address. -/
def isDevice (n : Nat) : Bool := decide (n < 2 ^ 18)
def isMac (n : Nat) : Bool := decide (n < 2 ^ 48)
/-- Words of a codeword (R268, R269). -/
def isFlit (n : Nat) : Bool := decide (n < 2 ^ 256)
def isCodewordSeq (n : Nat) : Bool := decide (n < 2 ^ 10)
def isCrc10 (n : Nat) : Bool := decide (n < 2 ^ 10)
def isWord32 (n : Nat) : Bool := decide (n < 2 ^ 32)
def isWord64 (n : Nat) : Bool := decide (n < 2 ^ 64)
/-- The pins of job signals (R522), reset domains (R473), kinds of firmware fault (R475). -/
def isJobPin (n : Nat) : Bool := decide (1 ≤ n) && decide (n ≤ 2)
def isDomain (n : Nat) : Bool := decide (1 ≤ n) && decide (n ≤ 5)
/-- Units with performance counters and their counters (R423). -/
def isPerfUnit (n : Nat) : Bool := decide (n < 83)
def isPerfCounter (n : Nat) : Bool := decide (n < 8)
/-- Units of the shared resources (R49): 1, 2 and 5 themselves, timers from 100, pins from 200. -/
def isResource (n : Nat) : Bool := n == 1 || n == 2 || n == 5 || (decide (100 ≤ n) && decide (n < 132)) || (decide (200 ≤ n) && decide (n < 204))
/-- An access of a management core has an address of 48 bits and up to 64 bytes (R45, R46). -/
def isFwCause : FwCause → Bool
  | .access a n _ => decide (a < 2 ^ 48) && decide (1 ≤ n) && decide (n ≤ 64)
  | _ => true
/-- Memories that a scrub walks (R196), and pending words (R413). -/
def isMemory (n : Nat) : Bool := decide (n ≤ 4)
/-- An index and subindex, or a core and an address of the control region. -/
def isTarget (place : Nat) : WriteTarget → Bool
  | .object idx => isIndex idx && isSub place
  | .register core => isCore core && decide (0x0F0000000000 ≤ place) && decide (place < 0x100000000000)

def isPendWord (n : Nat) : Bool := decide (n < 8)
/-- The value of an object of at most 4,096 bytes (R21), and a block written to one. -/
def valueFits (l : List Byte) : Bool := decide (l.length ≤ 8192)
def blockFits (n : Nat) (l : List Byte) : Bool := decide (l.length ≤ n)

/-- Columns and stages of a residue check (R125, R126). -/
def diagFits : Option Diag → Bool
  | some (.residue col stage) => decide (col < 192) && decide (stage ≤ 2)
  | _ => true

/-- The path of a fabric message (R281). -/
def viaFits : Via → Bool
  | .rafter n => isLink n
  | .purlin n => isPurlin n

/-- A type field of 8 bits in place of the row's type. -/
def typeFits (t : Option Nat) : Bool := t.elim true (fun n => decide (n < 256))

/-- Header fields as wide as Table 8-7 has them, and a payload of at most 4,096 bytes. -/
def fabFits (m : FabMsg) : Bool :=
  typeFits m.typ && isDevice m.hdr.srcDevice && isDevice m.hdr.dstDevice && isCtx m.hdr.srcCtx && isCtx m.hdr.dstCtx
    && decide (m.hdr.msgIndex < 4096) && decide (m.hdr.msgCount < 4096) && isWord32 m.hdr.seq
    && decide (m.payload.length ≤ 4096)

/-- Header fields as wide as Table 11-3 has them, and a payload of at most 4,096 bytes. -/
def hostFits (m : HostMsg) : Bool :=
  decide (m.src.length = 16) && decide (m.dst < 2 ^ 128) && decide (m.dstPort < 65536) && typeFits m.typ && isCtx m.hdr.ctx && isWord32 m.hdr.seq && isWord32 m.hdr.ackSeq
    && decide (m.payload.length ≤ 4096)

/-- Header fields as wide as Table 12-2 has them. -/
def efythFits (m : EfythMsg) : Bool :=
  isMac m.src && isMac m.dst && typeFits m.typ && isIndex m.hdr.index && isSub m.hdr.sub && decide (m.hdr.seq < 2 ^ 16)

/-- A placement names bays, pages and devices that exist. -/
def placeFits (p : Placement) : Bool :=
  p.bayMap.all isBay && p.pages.all isPage && p.remotes.all (fun q => isDevice q.device) && p.phantoms.all (fun q => decide (q.slot < 2 ^ 1024))

/-! ### Every command -/

/-- A command whose operands all lie in range. -/
def Instr.wellFormed : Instr → Bool
  | .objectWrite dt target place val _ => isUnits dt && isTarget place target && valueFits val
  | .clampCounterClear dt idx v => isUnits dt && isIndex idx && isWord64 v
  | .resourceRearm dt unit => isUnits dt && isResource unit
  | .refusalCountersClear dt v => isUnits dt && isWord64 v
  | .diePathLaneLoss dt path _ => isUnits dt && isPath path
  | .planerCountersClear dt v => isUnits dt && isWord64 v
  | .tensorProduct dt e diag => isUnits dt && isEngine e && diagFits diag
  | .tileEpilogue dt e diag => isUnits dt && isEngine e && diagFits diag
  | .tensorCountersClear dt v => isUnits dt && isWord64 v
  | .rmsForward dt e diag => isUnits dt && isEngine e && diagFits diag
  | .rmsBackward dt e diag => isUnits dt && isEngine e && diagFits diag
  | .layerForward dt e diag => isUnits dt && isEngine e && diagFits diag
  | .layerBackward dt e diag => isUnits dt && isEngine e && diagFits diag
  | .softmaxForward dt e diag => isUnits dt && isEngine e && diagFits diag
  | .softmaxBackward dt e diag => isUnits dt && isEngine e && diagFits diag
  | .fp32Add dt e diag => isUnits dt && isEngine e && diagFits diag
  | .haul dt e diag => isUnits dt && isEngine e && diagFits diag
  | .remoteHaul dt e diag => isUnits dt && isEngine e && diagFits diag
  | .push dt e diag => isUnits dt && isEngine e && diagFits diag
  | .pop dt e diag => isUnits dt && isEngine e && diagFits diag
  | .popAndHold dt e diag => isUnits dt && isEngine e && diagFits diag
  | .readHeld dt e diag => isUnits dt && isEngine e && diagFits diag
  | .release dt e diag => isUnits dt && isEngine e && diagFits diag
  | .update dt e diag => isUnits dt && isEngine e && diagFits diag
  | .trainingCountersClear dt v => isUnits dt && isWord64 v
  | .heatHalving dt => isUnits dt
  | .copyComplete dt pkg _ => isUnits dt && isPackage pkg
  | .copyPoolWrite dt stack v => isUnits dt && isStack stack && isWord64 v
  | .transparentCopiesWrite dt v => isUnits dt && isWord64 v
  | .prefetchFire dt bay => isUnits dt && isBay bay
  | .prefetchComplete dt bay entry diag => isUnits dt && isBay bay && isWord64 entry && diagFits diag
  | .patrolScrub dt unit _ _ => isUnits dt && isMemory unit
  | .pageZeroingComplete dt page => isUnits dt && isPage page
  | .benchZeroingComplete dt bay => isUnits dt && isBay bay
  | .invalidationComplete dt ctx => isUnits dt && isCtx ctx
  | .memoryCountersClear dt v => isUnits dt && isWord64 v
  | .contextCreate dt block place => isUnits dt && blockFits 64 block && placeFits place
  | .contextClose dt id => isUnits dt && isCtx id
  | .teardownDrainEnd dt id => isUnits dt && isCtx id
  | .teardownDrainLimit dt id => isUnits dt && isCtx id
  | .teardownComplete dt id => isUnits dt && isCtx id
  | .doorbellTailWrite dt ctx q v => isUnits dt && isCtx ctx && isQueue q && isWord64 v
  | .completionHeadWrite dt ctx v => isUnits dt && isCtx ctx && isWord64 v
  | .commandStart dt e _ => isUnits dt && isEngine e
  | .noOp dt e => isUnits dt && isEngine e
  | .layerMarker dt e => isUnits dt && isEngine e
  | .stepOpen dt => isUnits dt
  | .stepClose dt _ => isUnits dt
  | .contextCountersClear dt v => isUnits dt && isWord64 v
  | .scheduleTableWrite dt val => isUnits dt && valueFits val
  | .scheduleActivate dt n => isUnits dt && isWord64 n
  | .cycleStart dt => isUnits dt
  | .admissionWaitTimeout dt ctx => isUnits dt && isCtx ctx
  | .slotBoundary dt => isUnits dt
  | .park dt ctx q => isUnits dt && isCtx ctx && isQueue q
  | .remoteWaitDeadline dt => isUnits dt
  | .swap dt => isUnits dt
  | .swapComplete dt ctx => isUnits dt && isCtx ctx
  | .schedulingCountersClear dt v => isUnits dt && isWord64 v
  | .codewordReceive dt link _ corrected seq crc flits => isUnits dt && isLink link && isWord64 corrected && isCodewordSeq seq && isCrc10 crc && flits.all isFlit
  | .idleCreditFlit dt link flit => isUnits dt && isLink link && isFlit flit
  | .retryRequest dt link flit => isUnits dt && isLink link && isFlit flit
  | .syncInterval dt => isUnits dt
  | .syncRequest dt link flit => isUnits dt && isLink link && isFlit flit
  | .syncReply dt link flit => isUnits dt && isLink link && isFlit flit
  | .identify dt link flit => isUnits dt && isLink link && isFlit flit
  | .laneMap dt link flit => isUnits dt && isLink link && isFlit flit
  | .linkDownTimeout dt link => isUnits dt && isLink link
  | .partnerSignal dt link => isUnits dt && isLink link
  | .trainingDone dt link _ => isUnits dt && isLink link
  | .alignDone dt link lm => isUnits dt && isLink link && isWord32 lm
  | .linkSilenceTimeout dt link => isUnits dt && isLink link
  | .laneLoss dt link lane => isUnits dt && isLink link && isLane lane
  | .leaderLossTimeout dt => isUnits dt
  | .linkRetrain dt mask => isUnits dt && isWord32 mask
  | .linkDisableWrite dt mask => isUnits dt && isWord32 mask
  | .portStateChange dt port st => isUnits dt && isPurlin port && isPortState st
  | .fabricWrite dt via msg => isUnits dt && viaFits via && fabFits msg
  | .fabricDoorbell dt via msg => isUnits dt && viaFits via && fabFits msg
  | .fillOnly dt via msg => isUnits dt && viaFits via && fabFits msg
  | .contribution dt via msg => isUnits dt && viaFits via && fabFits msg
  | .pageTransfer dt via msg => isUnits dt && viaFits via && fabFits msg
  | .acknowledgement dt via msg => isUnits dt && viaFits via && fabFits msg
  | .negativeAcknowledgement dt via msg => isUnits dt && viaFits via && fabFits msg
  | .seqWindowResend dt ctx q msgIndex => isUnits dt && isCtx ctx && isQueue q && isWord64 msgIndex
  | .closeNotice dt via msg => isUnits dt && viaFits via && fabFits msg
  | .peerResetMessage dt via msg => isUnits dt && viaFits via && fabFits msg
  | .peerResetHoldExpiry dt dev => isUnits dt && isDevice dev
  | .retransmitTimeout dt ctx q slot => isUnits dt && isCtx ctx && isQueue q && isWord64 slot
  | .rafterCountersClear dt v => isUnits dt && isWord64 v
  | .transportCountersClear dt v => isUnits dt && isWord64 v
  | .allReduce dt diag => isUnits dt && diagFits diag
  | .reduceScatter dt diag => isUnits dt && diagFits diag
  | .allGather dt diag => isUnits dt && diagFits diag
  | .broadcast dt diag => isUnits dt && diagFits diag
  | .expertDispatch dt diag => isUnits dt && diagFits diag
  | .expertCombine dt diag => isUnits dt && diagFits diag
  | .stepSeal dt diag => isUnits dt && diagFits diag
  | .barrier dt diag => isUnits dt && diagFits diag
  | .dovetailPair dt host guest => isUnits dt && isCtx host && isCtx guest
  | .dovetailUnpair dt => isUnits dt
  | .reshard dt block place => isUnits dt && blockFits 64 block && placeFits place
  | .mappingCountersClear dt v => isUnits dt && isWord64 v
  | .raiseJob dt block place => isUnits dt && blockFits 64 block && placeFits place
  | .raiseWeightSet dt block place => isUnits dt && blockFits 64 block && placeFits place
  | .recheckPass dt _ place => isUnits dt && placeFits place
  | .weightSwitch dt ctx version => isUnits dt && isCtx ctx && isWord64 version
  | .checkpointRequest dt ctx => isUnits dt && isCtx ctx
  | .checkpointCommit dt ctx step => isUnits dt && isCtx ctx && isWord64 step
  | .restore dt block place => isUnits dt && blockFits 64 block && placeFits place
  | .restoreComplete dt ctx _ _ => isUnits dt && isCtx ctx
  | .raisingCountersClear dt v => isUnits dt && isWord64 v
  | .sessionOpen dt port draw msg => isUnits dt && isHostPort port && isWord64 draw && hostFits msg
  | .sessionClose dt port msg => isUnits dt && isHostPort port && hostFits msg
  | .hostAcknowledgement dt port msg => isUnits dt && isHostPort port && hostFits msg
  | .dictionaryRead dt port msg => isUnits dt && isHostPort port && hostFits msg
  | .dictionaryWrite dt port msg _ => isUnits dt && isHostPort port && hostFits msg
  | .hostDoorbell dt port msg => isUnits dt && isHostPort port && hostFits msg
  | .hostWrite dt port msg => isUnits dt && isHostPort port && hostFits msg
  | .hostReadRequest dt port msg diag => isUnits dt && isHostPort port && hostFits msg && diagFits diag
  | .hostPageTransfer dt port msg => isUnits dt && isHostPort port && hostFits msg
  | .sessionTimeout dt session => isUnits dt && isSession session
  | .eventResend dt session seq => isUnits dt && isSession session && isWord64 seq
  | .hostPortStateChange dt port st => isUnits dt && isHostPort port && isPortState st
  | .arpRequest dt port target mac => isUnits dt && isNetPort port && isWord64 target && isMac mac
  | .neighborSolicitation dt port target mac => isUnits dt && isNetPort port && isWord64 target && isMac mac
  | .ptpAnnounce dt port msg => isUnits dt && isNetPort port && isSub msg.domain
  | .ptpSync dt port msg => isUnits dt && isNetPort port && isSub msg.domain
  | .syncTimeout dt => isUnits dt
  | .holdoverLimit dt => isUnits dt
  | .ppsInEdge dt => isUnits dt
  | .ppsOutPulse dt => isUnits dt
  | .ppsOutFall dt => isUnits dt
  | .hostCountersClear dt v => isUnits dt && isWord64 v
  | .efythReadRequest dt msg => isUnits dt && efythFits msg
  | .efythWrite dt msg _ => isUnits dt && efythFits msg
  | .discover dt msg => isUnits dt && efythFits msg
  | .multipartTimeout dt mac => isUnits dt && isMac mac
  | .plcaChangeApply dt => isUnits dt
  | .commitWindowClose dt => isUnits dt
  | .commitComplete dt badReads => isUnits dt && isWord64 badReads
  | .rwpDefaults dt v => isUnits dt && isWord64 v
  | .calibrationWrite dt _ => isUnits dt
  | .managementCountersClear dt v => isUnits dt && isWord64 v
  | .interruptSignal dt source ctx => isUnits dt && isSource source && ctx.all isCtx
  | .interruptDelivery dt core => isUnits dt && isCore core
  | .take dt core source => isUnits dt && isCore core && isSource source
  | .pendClear dt w mask => isUnits dt && isPendWord w && isWord32 mask
  | .setSource dt source => isUnits dt && isSource source
  | .endHandler dt core source => isUnits dt && isCore core && isSource source
  | .modeWrite dt v => isUnits dt && isWord64 v
  | .raiseSoftwareSource dt source => isUnits dt && isSource source
  | .sourceConfigWrite dt val => isUnits dt && valueFits val
  | .interruptCountersClear dt v => isUnits dt && isWord64 v
  | .counterWrap dt unit k => isUnits dt && isPerfUnit unit && isPerfCounter k
  | .counterReset dt v => isUnits dt && isWord64 v
  | .samplingStart dt => isUnits dt
  | .samplingStop dt => isUnits dt
  | .sampleRecord dt occ => isUnits dt && isBay occ.bay
  | .readMarkWrite dt v => isUnits dt && isWord64 v
  | .samplingCopy dt => isUnits dt
  | .bandwidthWindowEnd dt _ => isUnits dt
  | .ledgerWindow dt _ => isUnits dt
  | .avsCurrentRead dt rail _ => isUnits dt && isDie rail
  | .governorUpdate dt => isUnits dt
  | .bandCheck dt stepPower => isUnits dt && isWord64 stepPower
  | .ballastUpdate dt perBay => isUnits dt && isWord64 perBay
  | .junctionSample dt _ => isUnits dt
  | .clockRaiseAfterSettle dt die => isUnits dt && isDie die
  | .thermalTrip dt die => isUnits dt && isDie die
  | .tripHoldTimeout dt die => isUnits dt && isDie die
  | .shedNAssert dt => isUnits dt
  | .shedNDeassert dt => isUnits dt
  | .shedEnd dt => isUnits dt
  | .vrAlert dt _ => isUnits dt
  | .pgBeamLoss dt die => isUnits dt && isDie die
  | .pgSocLoss dt => isUnits dt
  | .wearCommit dt _ => isUnits dt
  | .bayIdleGate dt bay => isUnits dt && isBay bay
  | .baySleep dt bay => isUnits dt && isBay bay
  | .deviceP2Request dt => isUnits dt
  | .deviceP3Request dt => isUnits dt
  | .deviceWakeRequest dt => isUnits dt
  | .autoP2Timeout dt => isUnits dt
  | .powerCountersClear dt v => isUnits dt && isWord64 v
  | .hangDetected dt e => isUnits dt && isEngine e
  | .quarantineLimit dt bay => isUnits dt && isBay bay
  | .heartbeatKick dt => isUnits dt
  | .watchdogExpiry dt => isUnits dt
  | .watchdogGraceExpiry dt => isUnits dt
  | .bayReset dt bay => isUnits dt && isBay bay
  | .beamDieReset dt die => isUnits dt && isDie die
  | .edgeLinkReset dt port => isUnits dt && isEdge port
  | .warmReset dt => isUnits dt
  | .coldReset dt => isUnits dt
  | .resetComplete dt domain _ place => isUnits dt && isDomain domain && placeFits place
  | .crashDumpStart dt => isUnits dt
  | .crashDumpSealed dt _ => isUnits dt
  | .crashDumpCopy dt n => isUnits dt && isWord64 n
  | .fatalAck dt v => isUnits dt && isWord64 v
  | .healthRestoreTick dt => isUnits dt
  | .admissionStateWrite dt v => isUnits dt && isWord64 v
  | .selfTestStart dt => isUnits dt
  | .selfTestComplete dt bays hbms sills paths pages => isUnits dt && bays.all isBay && hbms.all isStack && sills.all isPackage && paths.all isPath && pages.all isPage
  | .faultCountersClear dt v => isUnits dt && isWord64 v
  | .coldBoot dt _ => isUnits dt
  | .bootCtlUpdate dt v place => isUnits dt && isWord64 v && placeFits place
  | .recoveryData dt msg => isUnits dt && efythFits msg
  | .recoveryWindowTimeout dt => isUnits dt
  | .firmwareUpdate dt len _ => isUnits dt && isWord64 len
  | .firmwareUpdateFetch dt mac left _ => isUnits dt && isMac mac && blockFits 25165824 left
  | .raiseMinSecurity dt v => isUnits dt && isWord64 v
  | .debugLockBlow dt v => isUnits dt && isWord64 v
  | .extendSlot dt val => isUnits dt && valueFits val
  | .quote dt _ => isUnits dt
  | .rngHealthFail dt => isUnits dt
  | .randomWaitTimeout dt => isUnits dt
  | .resetNAssert dt => isUnits dt
  | .refclkLoss dt => isUnits dt
  | .refclkRestored dt => isUnits dt
  | .jobSignalAssign dt pin v => isUnits dt && isJobPin pin && isWord64 v
  | .jtagTestModeEntry dt => isUnits dt
  | .rngHealthPass dt _ => isUnits dt
  | .recoveryFetchRestart dt => isUnits dt
  | .vrAlertDeassert dt => isUnits dt
  | .bayWakeComplete dt bay => isUnits dt && bay.all isBay
  | .linkDownDeduction dt link => isUnits dt && isLink link
  | .firmwareFault dt cause => isUnits dt && isFwCause cause

end Sys2Proof
end

