-- ==== Sys2Proof/Certificates/Slice0/Obligations.lean ====
section
/-! DEFINITION. The statements about the machine, for the provers. In each, `u` is the state after the `dt` stamp units that a
command brings with it have passed (assumption log 1). -/

open Sys2Proof Sys2Proof.Machine

/-! ### The machine as a whole -/

/-- O1. A step takes the command at the front of the queue and runs it with the queue's rest; on an empty queue it idles (assumption log 8:
the model's choice). -/
def Obligations.StepRunsFrontCommand : Prop :=
  (∀ (c : Instr) (s : State), step { s with pending := c :: s.pending } = exec c s)
    ∧ (∀ (c : Instr) (rest : List Instr) (s : State), s.pending = c :: rest → step s = exec c { s with pending := rest })
    ∧ ∀ s : State, s.pending = [] → step s = .next s

/-- O2. Reset meets the invariant of O4 and has no command waiting; the block stands in cold reset with an unlocked clock whose stamp is 0,
and nothing is listed in memory. -/
def Obligations.ResetIsSound : Prop :=
  State.reset.Sound ∧ State.reset.pending = [] ∧ State.reset.boot.phase = .coldReset ∧ State.reset.clock.state = 0
    ∧ State.reset.clock.locked = false ∧ State.reset.stamp = 0 ∧ State.reset.mem = [] ∧ State.reset.up = false

/-- O3. Every step keeps the byte store in its canonical form and the stamp within 64 bits. -/
def Obligations.StepKeepsSound : Prop :=
  ∀ s t : State, s.Sound → step s = .next t → t.Sound

/-- O4. A command changes everything but the queue, and takes nothing back that was sent: whatever the command, the commands that wait are
the same, and what was sent before is a prefix of what has been sent after. -/
def Obligations.CommandsKeepQueueAndOutput : Prop :=
  ∀ (c : Instr) (s t : State), exec c s = .next t → t.Extends s

/-- O5. Before boot completes, a command of firmware, an engine, a link or a session only lets its time pass (assumption log 9: the model's
choice). -/
def Obligations.FirmwareCommandsWaitForBoot : Prop :=
  ∀ (c : Instr) (s : State), c.needsFirmware = true → s.up = false → exec c s = .next (s.elapse c.dt)

/-- O6. Time passes: outside P3, with no clock correction left to slew, a command that brings `dt` units moves the stamp on by them modulo
2^64, and changes nothing else by their passing but the waits of open steps that R247 has counted. -/
def Obligations.TimePasses : Prop :=
  ∀ (s : State) (dt : Nat), s.clock.slew = 0 → s.clock.aon = 0 → s.boot.phase ≠ .p3 →
    s.elapse dt = { s with stamp := (s.stamp + dt) % 2 ^ 64, sched := { s.sched with waits := s.waitsAfter dt } }

/-- O7. A write of 1 to a clear command returns exactly the objects of its list to 0 and counts no clamp; any other value clears the same
and is counted as clamped after it. The transport clear empties the stray log too. Each of the 17 clear commands completes so, whatever
its value, from every state whose firmware runs: clampCounterClear, refusalCountersClear, planerCountersClear, tensorCountersClear,
trainingCountersClear, memoryCountersClear, contextCountersClear, schedulingCountersClear, rafterCountersClear, transportCountersClear,
mappingCountersClear, raisingCountersClear, hostCountersClear, managementCountersClear, interruptCountersClear, powerCountersClear and
faultCountersClear. -/
def Obligations.ClearsReset : Prop :=
  ∀ (dt : Nat) (s u : State), u = s.elapse dt → u.up = true →
    (∃ t : State, t.Cleared u [(0x2040, 1, 5), (0x2041, 1, 5)] ∧ ∀ v, exec (.refusalCountersClear dt v) s = .next (t.clearedBy 0x2042 v))
    ∧ (∃ t : State, t.Cleared u [(0x2111, 1, 6)] ∧ ∀ v, exec (.planerCountersClear dt v) s = .next (t.clearedBy 0x2112 v))
    ∧ (∃ t : State, t.Cleared u [(0x2121, 1, 9)] ∧ ∀ v, exec (.tensorCountersClear dt v) s = .next (t.clearedBy 0x2122 v))
    ∧ (∃ t : State, t.Cleared u [(0x2201, 1, 8), (0x2203, 1, 6)]
        ∧ ∀ v, exec (.trainingCountersClear dt v) s = .next (t.clearedBy 0x2204 v))
    ∧ (∃ t : State, t.Cleared u [(0x3010, 1, 16), (0x3011, 1, 5)]
        ∧ ∀ v, exec (.memoryCountersClear dt v) s = .next (t.clearedBy 0x3013 v))
    ∧ (∃ t : State, t.Cleared u [(0x3110, 1, 8)] ∧ ∀ v, exec (.contextCountersClear dt v) s = .next (t.clearedBy 0x3111 v))
    ∧ (∃ t : State, t.Cleared u [(0x3210, 1, 11)] ∧ ∀ v, exec (.schedulingCountersClear dt v) s = .next (t.clearedBy 0x3211 v))
    ∧ (∃ t : State, t.Cleared u [(0x4010, 1, 8)] ∧ ∀ v, exec (.rafterCountersClear dt v) s = .next (t.clearedBy 0x4011 v))
    ∧ (∃ t : State, t.Cleared u [(0x4210, 1, 7)] ∧ ∀ v, exec (.mappingCountersClear dt v) s = .next (t.clearedBy 0x4211 v))
    ∧ (∃ t : State, t.Cleared u [(0x4310, 1, 13)] ∧ ∀ v, exec (.raisingCountersClear dt v) s = .next (t.clearedBy 0x4311 v))
    ∧ (∃ t : State, t.Cleared u [(0x4810, 1, 10)] ∧ ∀ v, exec (.hostCountersClear dt v) s = .next (t.clearedBy 0x4811 v))
    ∧ (∃ t : State, t.Cleared u [(0x1106, 1, 8)] ∧ ∀ v, exec (.managementCountersClear dt v) s = .next (t.clearedBy 0x1107 v))
    ∧ (∃ t : State, t.Cleared u [(0x5010, 1, 4)] ∧ ∀ v, exec (.interruptCountersClear dt v) s = .next (t.clearedBy 0x5011 v))
    ∧ (∃ t : State, t.Cleared u [(0x6040, 1, 12)] ∧ ∀ v, exec (.powerCountersClear dt v) s = .next (t.clearedBy 0x6041 v))
    ∧ (∃ t : State, t.Cleared u [(0x7010, 1, 10)] ∧ ∀ v, exec (.faultCountersClear dt v) s = .next (t.clearedBy 0x7011 v))
    ∧ (∃ t : State, t.Cleared { u with fab := { u.fab with strays := [], strayIndex := 0 } } [(0x4110, 1, 14), (0x4111, 1, 7)]
        ∧ ∀ v, exec (.transportCountersClear dt v) s = .next (t.clearedBy 0x4113 v))
    ∧ ∀ i, i % 256 = 0xFF → clampCounter i = some (i, 1) →
        ∃ t : State, t.Cleared u [(i, 1, 1)] ∧ ∀ v, exec (.clampCounterClear dt i v) s = .next (t.clearedBy i v)

/-! ### Memory -/

/-- O8. A byte written reads back, and every other byte reads as before; zeroing a range leaves every byte outside it. A run of bytes
written at an address reads back as the little-endian number it spells, and bytes outside it stand. -/
def Obligations.MemoryReadsBack : Prop :=
  ((∀ (s : State) (a : Nat) (b : Byte), (s.setByte a b).byte a = b)
     ∧ (∀ (s : State) (a x : Nat) (b : Byte), x ≠ a → (s.setByte a b).byte x = s.byte x)
     ∧ (∀ (s : State) (lo hi x : Nat), (lo ≤ x ∧ x < hi → (s.zeroRange lo hi).byte x = 0)
         ∧ (x < lo ∨ hi ≤ x → (s.zeroRange lo hi).byte x = s.byte x))) ∧
  (∀ (s : State) (a n v : Nat),
     (s.writeNat a n v).readNat a n = v % 2 ^ (8 * n)
       ∧ ∀ x, x < a ∨ a + n ≤ x → (s.writeNat a n v).byte x = s.byte x)

/-! ### The vector and tensor engines -/

/-- O9. A row command whose operands may be accessed, with no checker's finding, runs its rows in ascending order and completes with code 0:
RMS, layer and softmax, forward and backward. An FP32 add whose operands may be accessed adds its elements in ascending order and
completes. So rmsForward, rmsBackward, layerForward, layerBackward, softmaxForward, softmaxBackward and fp32Add complete. -/
def Obligations.RowCommandsComplete : Prop :=
  (∀ (dt e : Nat) (s u : State) (r : Run) (t : RowCmd) (keyed : Bool), u = s.elapse dt → u.runs e r → t = decodeRow r.cmd.body →
     u.firstFault (.bay (e / 4)) r.ctx ((t.reads r.cmd.opcode).map rd ++ (t.writes r.cmd.opcode).map wr) = 0 →
     keyed = ((if t.rounding = 2 then r.defOther else t.rounding) == 1) →
     (r.cmd.opcode = 0x20 → exec (.rmsForward dt e none) s = .next (u.rowsDone e 0x20 r t keyed))
       ∧ (r.cmd.opcode = 0x21 → exec (.rmsBackward dt e none) s = .next (u.rowsDone e 0x21 r t keyed))
       ∧ (r.cmd.opcode = 0x22 → exec (.layerForward dt e none) s = .next (u.rowsDone e 0x22 r t keyed))
       ∧ (r.cmd.opcode = 0x23 → exec (.layerBackward dt e none) s = .next (u.rowsDone e 0x23 r t keyed))
       ∧ (r.cmd.opcode = 0x24 → exec (.softmaxForward dt e none) s = .next (u.rowsDone e 0x24 r t keyed))
       ∧ (r.cmd.opcode = 0x25 → exec (.softmaxBackward dt e none) s = .next (u.rowsDone e 0x25 r t keyed))) ∧
  (∀ (dt e src dst n : Nat) (s u : State) (r : Run), u = s.elapse dt → u.runs e r → r.cmd.opcode = 0x28 →
     addFields r.cmd.body = (src, dst, n) →
     u.firstFault (.bay (e / 4)) r.ctx [rd (src, 4 * n), rd (dst, 4 * n), wr (dst, 4 * n)] = 0 →
     exec (.fp32Add dt e none) s = .next (u.addDone e r src dst n))

/-- O10. A tensor product without error, for which the engine has accumulator slots, leaves its accumulator words in them, waiting for the
epilogue: in the epilogue, with the array free for the next command, where the tile has at most 768 rows and no tile is in its
epilogue; else on the running command. So tensorProduct completes. -/
def Obligations.TensorProductCompletes : Prop :=
  ∀ (dt e k : Nat) (s u : State) (r : Run) (t : TensorCmd), u = s.elapse dt → u.runs e r → r.cmd.opcode = 0x10 → r.tile = none →
    t = (decodeTensor r.cmd.body).1 → u.tensorCode (e / 4) r.ctx t = 0 →
    (if r.slots != 0 then some r.slots else (u.engine e).slotsFor (if t.rows ≤ 768 then 1 else 2) r) = some k →
    let done : Run := { r with tile := some (u.computeTile r.ctx t), slots := k }
    ∃ v, exec (.tensorProduct dt e none) s = .next v
      ∧ (if t.rows ≤ 768 ∧ (u.engine e).epilogue = none
         then (v.engine e).running = none ∧ (v.engine e).epilogue = some done
         else (v.engine e).running = some done ∧ (v.engine e).epilogue = (u.engine e).epilogue)
      ∧ v.mem = u.mem

/-- O11. The epilogue of a BF16 or FP32 tile, or of a grain tile without a predicted scale, whose outputs may still be written and which
shares no block, writes its emission and its record, is counted in object 0x2121.01, and completes with code 0. So tileEpilogue
completes. -/
def Obligations.TileEpilogueCompletes : Prop :=
  ∀ (dt e : Nat) (s u : State) (r : Run) (tile : Tile) (t : TensorCmd) (keyed : Bool) (o : List (List Byte) × EmitCount), u = s.elapse dt →
    u.up = true → u.engineLive e = true → (u.engine e).epilogueRun = some r → r.tile = some tile → t = (decodeTensor r.cmd.body).1 →
    (t.predicted && isGrain t.outFmt && !t.phantom) = false → u.sharedBlock r.ctx t = (false, false) →
    u.worstFault (.bay (e / 4)) r.ctx (t.writes.map wr ++ [wr (t.record, 64)]) = 0 →
    keyed = ((if t.rounding = 2 then (if isGrain t.outFmt then r.defGrain else r.defOther) else t.rounding) == 1) →
    o = t.emit (u.keyBase r.ctx t.tensorId) tile keyed none →
    let w := ((u.bumpBy 0x2121 4 o.2.overs).bumpBy 0x2121 5 o.2.sat).countPlaner o.2.planer
    let x := (w.writeAll r.ctx (t.sink o.1 ++ [(t.record, tileRecord t tile o.2.sat o.2.overs false false)])).bump 0x2121 1
    let y := if tile.accs.any (fun l => l.any (fun a => a.inexact)) then x.bump 0x2121 7 else x
    exec (.tileEpilogue dt e none) s = .next
      (((y.countWrites (.bay (e / 4)) r.ctx (t.writes ++ [(t.record, 64)])).countEvent (e / 4) 4 1 (some r.ctx)).endTile e r 0)

/-! ### Hauls, the sticker stack, update -/

/-- O12. A haul or a sticker operation of a haul engine whose turn it is (R150) and whose descriptor succeeds leaves the effect of its
descriptor and completes with code 0: plain hauls, pushes, pops, pops with hold, reads of a held stick and releases. A remote haul
whose turn it is, to a device that is reachable, whose descriptor succeeds and whose messages have room in the window, sends them and
awaits their acknowledgement on its engine. So haul, push, pop, popAndHold, readHeld, release and remoteHaul complete. -/
def Obligations.HaulsComplete : Prop :=
  (∀ (dt e : Nat) (diag : Option Diag) (s u : State) (r : Run) (o : HaulOut), u = s.elapse dt → o.code = 0 →
     (u.haulRuns e 0 diag r o → exec (.haul dt e diag) s = .next (o.state.endWith e r 0))
       ∧ (u.haulRuns e 1 diag r o → exec (.push dt e diag) s = .next (o.state.endWith e r 0))
       ∧ (u.haulRuns e 2 diag r o → exec (.pop dt e diag) s = .next (o.state.endWith e r 0))
       ∧ (u.haulRuns e 3 diag r o → exec (.popAndHold dt e diag) s = .next (o.state.endWith e r 0))
       ∧ (u.haulRuns e 4 diag r o → exec (.readHeld dt e diag) s = .next (o.state.endWith e r 0))
       ∧ (u.haulRuns e 5 diag r o → exec (.release dt e diag) s = .next (o.state.endWith e r 0))) ∧
  (∀ (dt e : Nat) (s u : State) (r : Run) (w : RemoteWord) (d : Desc) (o : HaulOut) (l : Sink), u = s.elapse dt → u.runs e r →
     r.cmd.opcode = 0x30 → isRemote e r.cmd = true → (haulOp r.cmd ≠ 0 → u.stickBefore e r = false) → w = remoteWord r.cmd →
     d = remoteDesc (haulDescOf r.cmd) → u.inPeerReset w.device = false → (u.upLinks w.device).isEmpty = false →
     o = u.haulDesc (e / 4) r.ctx d (d.keyed r.defGrain r.defOther) true none → o.code = 0 → l = remoteMessages o.out →
     u.unanswered w.device + max 1 l.length ≤ 4096 →
     let a := o.state.sendCommand w.device (if l.isEmpty then 0x03 else 0x01) (o.state.haulMessages w r l)
     ∃ t, exec (.remoteHaul dt e none) s = .next t ∧ t.sent = a.1.sent ∧ t.mem = a.1.mem
       ∧ (t.engine e).running = some { r with
           out := a.2, purlin := false, waitFrom := a.1.stamp,
           await := .ack w.device w.roleEpoch w.ctx w.ctxEpoch (Assoc.get 0 o.state.fab.txSeq w.device) (max 1 l.length) a.1.stamp 0 })

/-- O13. A push that fits and whose accesses are allowed leaves its stick on top of its segment: the cursor names the place where the
segment's top was, and the top has moved by the stick's header and payload in whole multiples of 256 bytes; a pop moves the cursor back
by the stick's back pointer, or leaves the segment empty. -/
def Obligations.StickOperationsMoveTheCursor : Prop :=
  (∀ (s t : State) (b c : Nat) (d : Desc) (w : StickWord) (keyed : Bool) (diag : Option Diag),
      s.stickPush b c d w keyed diag = (t, 0) →
      (t.ctx c).segment w.lane b =
        { cursor := some ((s.ctx c).segment w.lane b).top,
          top := ((s.ctx c).segment w.lane b).top + stickNeed (d.stickLen d.conv.dst) })
    ∧ ∀ (s : State) (b c k : Nat) (d : Desc) (w : StickWord) (hold keyed remote : Bool) (diag : Option Diag),
      ((s.ctx c).segment w.lane b).cursor = some k → (s.stickPop b c d w hold keyed remote diag).code = 0 →
      (((s.stickPop b c d w hold keyed remote diag).state.ctx c).segment w.lane b).cursor =
        (if (s.stickHdr c w.lane b k).back = 0 then none else some (k - (s.stickHdr c w.lane b k).back * 256))

/-- O14. An update whose block may be read, whose tensors are in the table and whose seal stands either writes its plan, its advanced recipe
block and its note, and completes; or, in a step with non-finite elements where object 0x2202.01 is 1, writes no tensor and completes.
So update completes. -/
def Obligations.UpdateCompletes : Prop :=
  ∀ (dt e : Nat) (s u : State) (r : Run) (q : Recipe) (w g : Tensor) (m v : Option Tensor) (cf : Nat), u = s.elapse dt → u.runs e r →
    r.cmd.opcode = 0x40 → u.accessCode (engineAgent e) r.ctx (recipeAddr r.cmd) 64 false = 0 → recipeAddr r.cmd % 64 = 0 →
    q = recipeOf r.block → (u.ctx r.ctx).updTensors q = some (w, g, m, v) → (u.ctx r.ctx).sealed = true →
    (u.ctx r.ctx).sealCode = 0 → cf = clipFactor q.clipNorm (u.ctx r.ctx).gn → flt cf f32One = false →
    (((u.ctx r.ctx).nonfinite = 0 →
      let l := u.updRanges r.ctx (e - 256) q w g m v
      u.firstFault (.update (e - 256)) r.ctx (l.1.map rd ++ l.2.map wr ++ [wr (recipeAddr r.cmd, 64)]) = 0 →
      let p := u.updPlan r.ctx (e - 256) q w g m v cf
      let n := p.counts.add q.advanced.2
      let a := u.heatAll (.update (e - 256)) r.ctx l.1
      let x := (a.writeAll r.ctx p.writes).putBytes r.ctx (recipeAddr r.cmd + 52) q.advanced.1
      let y := (x.bumpBy 0x2203 4 n.flush).bumpBy 0x2203 5 n.sat
      let z := if n.nan = 0 then y else y.bumpBy 0x2111 2 n.nan
      exec (.update dt e none) s = .next (((z.countEvent (64 + (e - 256)) 0x0104 (z.elemsIn r.ctx w (e - 256)).length (some r.ctx)).updNote
        e r.ctx (recipeAddr r.cmd) q p.su p.sw false false).endUpdate e r 0))
    ∧ ((u.ctx r.ctx).nonfinite ≠ 0 → u.num 0x2202 1 = 1 → (u.ctx r.ctx).skipCounted = true →
      exec (.update dt e none) s = .next ((u.updNote e r.ctx (recipeAddr r.cmd) q 0 0 false true).endUpdate e r 0)))

/-- O15. An engine's command that ends with a code that abandons nothing leaves its engine without a running command, advances its queue's
completed count by one modulo 2^32, and is counted in object 0x3110.01. A completion that writes a record puts it at the ring entry of
the old tail, moves the tail on, and ends the reservation that its start made; one that writes none leaves memory and tail. -/
def Obligations.CompletionsAreRecorded : Prop :=
  (∀ (s : State) (e code : Nat) (r : Run), abandonCode code = false →
     ((s.endWith e r code).engine e).running = none
       ∧ (s.endWith e r code).completedOf r.ctx r.queue = (s.completedOf r.ctx r.queue + 1) % 2 ^ 32
       ∧ (s.endWith e r code).cnt 0x3110 1 = min (s.cnt 0x3110 1 + 1) (2 ^ 64 - 1)) ∧
  (∀ (s : State) (c : Nat) (d : Done), d.cmd.irq = false →
     let t := s.finish c d
     let x := s.ctx c
     (t.ctx c).ringReserved = x.ringReserved - 1
       ∧ (d.record = true → (t.ctx c).ringTail = (x.ringTail + 1) % 2 ^ 32
         ∧ t.mem = (s.storeBytes c (x.ringBase + (x.ringTail % 2 ^ x.ringLog2) * 32)
             (s.completionBytes c d (((x.queue d.queue).completed + 1) % 2 ^ 32) x.ringTail)).mem)
       ∧ (d.record = false → (t.ctx c).ringTail = x.ringTail ∧ t.mem = s.mem))

/-! ### The memory tiers -/

/-- O16. Every 1 ms all heat counters are halved, and no complete copy below the demotion threshold stays; memory stands. A write of a legal
size to a copy pool sets its object and drops copies until the pool holds no more; a write of 0 to the switch of transparent copies
drops every copy, and a write of 1 drops none. So heatHalving, copyPoolWrite and transparentCopiesWrite complete. -/
def Obligations.HeatAndCopyPool : Prop :=
  (∀ (dt : Nat) (s u : State), u = s.elapse dt → u.up = true → u.stamp % ms = 0 →
     ∃ t, exec (.heatHalving dt) s = .next t ∧ t.mem = u.mem
       ∧ t.sill = Assoc.mapVals SillPage.free (fun _ p => p.halve (u.num 0x3003 2)) u.sill
       ∧ ∀ x ∈ t.copies, x.done = true → u.num 0x3003 3 ≤ (t.sillPage x.sill).heat) ∧
  ((∀ (dt stack v : Nat) (s u : State), u = s.elapse dt → u.up = true → stack < 16 → v ≤ 1024 → u.copies.length ≤ 1024 →
       ∃ t, exec (.copyPoolWrite dt stack v) s = .next t ∧ t.num 0x3002 (stack + 1) = v ∧ t.poolUsed stack ≤ v ∧ t.mem = u.mem)
     ∧ (∀ (dt : Nat) (s u : State), u = s.elapse dt → u.up = true →
       ∃ t, exec (.transparentCopiesWrite dt 0) s = .next t ∧ t.copies = [] ∧ t.num 0x3003 1 = 0)
     ∧ ∀ (dt : Nat) (s u : State), u = s.elapse dt → u.up = true →
       ∃ t, exec (.transparentCopiesWrite dt 1) s = .next t ∧ t.copies = u.copies ∧ t.num 0x3003 1 = 1)

/-- O17. A copy that completes without error makes its pool page read, byte for byte, as its sill page did, and stands complete in the
directory. So copyComplete completes. -/
def Obligations.CopyCompletes : Prop :=
  ∀ (dt pkg p : Nat) (rest : List Nat) (x : Copy) (s u : State), u = s.elapse dt → u.Sound → u.up = true →
    Assoc.get [] u.copyQueue pkg = p :: rest → u.copies.find? (fun y => y.sill == p) = some x →
    ∃ t, exec (.copyComplete dt pkg false) s = .next t ∧ Assoc.get [] t.copyQueue pkg = rest
      ∧ { x with done := true } ∈ t.copies
      ∧ ∀ i, i < pageBytes → t.byte (hbmPageAddr x.page + i) = u.byte (sillPageAddr x.sill + i)

/-- O18. The first resident context with a prefetch entry that may fire on a bay has it in flight where the bay is in service, and has it
counted as complete at once where the bay is out of service; a bench-warming entry of target 1 that completes is in flight no more and
counts as done. So prefetchFire and prefetchComplete complete. -/
def Obligations.PrefetchEntriesFireAndComplete : Prop :=
  (∀ (dt bay : Nat) (s u : State) (k : Nat × Ctx) (x : Flight ⊕ Nat), u = s.elapse dt → u.up = true →
      u.ctxs.find? (fun e => (u.nextPref e.1 bay).isSome) = some k → u.nextPref k.1 bay = some x →
      ((u.bay bay).out = true → ∃ t, exec (.prefetchFire dt bay) s = .next t
        ∧ ((t.ctx k.1).bayStep bay).done = ((u.ctx k.1).bayStep bay).done + 1
        ∧ ((t.ctx k.1).bayStep bay).inFlight = ((u.ctx k.1).bayStep bay).inFlight)
      ∧ ((u.bay bay).out = false →
      ∃ t, exec (.prefetchFire dt bay) s = .next t ∧ t.mem = u.mem
        ∧ match x with
          | .inl f => f ∈ ((t.ctx k.1).bayStep bay).inFlight
          | .inr i => ∃ f ∈ ((t.ctx k.1).bayStep bay).inFlight, f.entry = i))
    ∧ ∀ (dt bay entry : Nat) (s u : State) (k : Nat × Ctx) (f : Flight), u = s.elapse dt → u.up = true →
      u.ctxs.find? (fun e => (e.2.bayStep bay).inFlight.any (fun y => y.entry == entry)) = some k →
      (k.2.bayStep bay).inFlight.find? (fun y => y.entry == entry) = some f → (u.prefEntry k.1 bay entry).1.target = 1 →
      ∃ t, exec (.prefetchComplete dt bay entry none) s = .next t
        ∧ ((t.ctx k.1).bayStep bay).done = ((u.ctx k.1).bayStep bay).done + 1
        ∧ ((t.ctx k.1).bayStep bay).inFlight = ((u.ctx k.1).bayStep bay).inFlight.erase f

/-- O19. A patrol scrub of bench or HBM that corrects one granule counts it in the counter of its memory, and leaves the data; in device P2
it does nothing. A page whose zeroing completes reads 0 throughout and is free again, or retired where it was to retire; the banks of a
bay whose zeroing completes read 0, and every other byte stands. So patrolScrub, pageZeroingComplete and benchZeroingComplete complete. -/
def Obligations.ScrubAndZeroing : Prop :=
  (∀ (dt a : Nat) (s u : State), u = s.elapse dt → u.up = true →
     (u.power.device < 2 → a < benchEnd →
       exec (.patrolScrub dt 0 [a] []) s = .next (u.bump 0x3010 1))
     ∧ (u.power.device < 2 → hbmBase ≤ a → a < hbmEnd → (u.correctedNow (u.hbmPage ((a - hbmBase) / pageBytes)).corrected).2 = false →
       ∃ t, exec (.patrolScrub dt 2 [a] []) s = .next t ∧ t.mem = u.mem
         ∧ u.stamp ∈ (t.hbmPage ((a - hbmBase) / pageBytes)).corrected)
     ∧ (2 ≤ u.power.device → exec (.patrolScrub dt 0 [a] []) s = .next u)) ∧
  ((∀ (dt page : Nat) (s u : State), u = s.elapse dt → u.up = true → page < hbmPages → (u.hbmPage page).use = .zeroing →
       ∃ t, exec (.pageZeroingComplete dt page) s = .next t
         ∧ (t.hbmPage page).use = (if (u.hbmPage page).retiring then .retired else .free)
         ∧ (∀ i, i < pageBytes → t.byte (hbmPageAddr page + i) = 0)
         ∧ ∀ x, x < hbmPageAddr page ∨ hbmPageAddr page + pageBytes ≤ x → t.byte x = u.byte x)
     ∧ ∀ (dt bay : Nat) (s u : State), u = s.elapse dt → u.up = true → (u.bay bay).zeroing = true →
       ∃ t, exec (.benchZeroingComplete dt bay) s = .next t ∧ (t.bay bay).zeroing = false ∧ (t.bay bay).dirty = 0
         ∧ ∀ x, t.byte x =
           (if x / benchBytes = bay ∧ x < benchEnd ∧ (u.bay bay).dirty.testBit ((x % benchBytes / 1024) % 32) then 0 else u.byte x))

/-! ### Contexts and queues -/

/-- O20. A create block in range that the placer accepts defines its context, swapped out, in its epoch, and reports code 0 and the epoch in
objects 0x3103.02 and .03. So contextCreate completes. -/
def Obligations.ContextCreateCompletes : Prop :=
  ∀ (dt : Nat) (block : List Byte) (place : Placement) (s u : State) (c : Create), u = s.elapse dt → u.up = true → block.length = 64 →
    c = Create.raw (leNat block) → c.clamp = c → (u.create c place).2 = 0 →
    ∃ t, exec (.contextCreate dt block place) s = .next t ∧ (t.ctx c.id).state = 3 ∧ t.cnt 0x3103 2 = 0
      ∧ t.cnt 0x3103 3 = t.epoch c.id

/-- O21. The steps of teardown: a close of a resident context enters state 4; the drain's end, or its limit of 200 µs, leads to the
invalidation, the invalidation to zeroing, and with every page and bank zero the ID is undefined. So contextClose, teardownDrainEnd,
teardownDrainLimit, invalidationComplete and teardownComplete complete. -/
def Obligations.TeardownAdvances : Prop :=
  ∀ (dt c : Nat) (s u : State), u = s.elapse dt → u.up = true → c < 4096 →
    ((u.ctx c).state = 2 → u.sched.swapping ≠ some c → u.sched.outgoing.contains c = false →
      ∃ t, exec (.contextClose dt c) s = .next t ∧ (t.ctx c).state = 4 ∧ (t.ctx c).closePhase = 1 ∧ (t.ctx c).closeStamp = u.stamp)
    ∧ ((u.ctx c).closePhase = 1 → u.drained c = true →
      ∃ t, exec (.teardownDrainEnd dt c) s = .next t ∧ (t.ctx c).closePhase = 2 ∧ t.mem = u.mem)
    ∧ ((u.ctx c).closePhase = 1 → u.drained c = false → (u.ctx c).closeStamp + 200 * us ≤ u.stamp →
      ∃ t, exec (.teardownDrainLimit dt c) s = .next t ∧ (t.ctx c).closePhase = 2)
    ∧ ((u.ctx c).closePhase = 2 →
      ∃ t, exec (.invalidationComplete dt c) s = .next t ∧ (t.ctx c).closePhase = 3 ∧ (t.ctx c).grant = [] ∧ (t.ctx c).held = []
        ∧ t.mem = u.mem)
    ∧ ((u.ctx c).closePhase = 3 → (u.ctx c).pages = [] → (∀ b, (u.bay b).zeroing = false) →
      ∃ t, exec (.teardownComplete dt c) s = .next t ∧ t.ctx c = Ctx.undefined ∧ t.cnt 0x3104 2 = 0)

/-- O22. Tail writes of a context in state 2 or 3 that does not drain for a restore, and head writes of one in state 2, 3 or 4, land in the
window of R218: the tail takes the written value where it lies between the old tail and completed + the queue's size, all modulo
2^32, else the nearer end; the head of the completion ring likewise between the old head and the ring's tail;
a value equally far from both ends takes the old one, and a clamped write is counted in object 0x3110.02. So doorbellTailWrite and
completionHeadWrite complete. -/
def Obligations.DoorbellWritesClamp : Prop :=
  (∀ (dt c q v : Nat) (s u : State), u = s.elapse dt → u.up = true → (u.ctx c).state = 2 ∨ (u.ctx c).state = 3 →
      (u.ctx c).draining = false → q ≤ 273 →
      let lo := ((u.ctx c).queue q).tail
      let hi := ((u.ctx c).queue q).completed + 2 ^ (u.ctx c).queueLog2
      ∃ t, exec (.doorbellTailWrite dt c q v) s = .next t ∧ t.mem = u.mem ∧ ((t.ctx c).queue q).tail = clamp32 lo hi (v % m32)
        ∧ t.cnt 0x3110 2 = (if clamp32 lo hi (v % m32) = v % m32 then u.cnt 0x3110 2 else min (u.cnt 0x3110 2 + 1) (2 ^ 64 - 1)))
    ∧ (∀ (dt c v : Nat) (s u : State), u = s.elapse dt → u.up = true →
      (u.ctx c).state = 2 ∨ (u.ctx c).state = 3 ∨ (u.ctx c).state = 4 →
      ∃ t, exec (.completionHeadWrite dt c v) s = .next t ∧ t.mem = u.mem
        ∧ (t.ctx c).ringHead = clamp32 (u.ctx c).ringHead (u.ctx c).ringTail (v % m32)
        ∧ t.cnt 0x3110 2 = (if clamp32 (u.ctx c).ringHead (u.ctx c).ringTail (v % m32) = v % m32 then u.cnt 0x3110 2
            else min (u.cnt 0x3110 2 + 1) (2 ^ 64 - 1)))
    ∧ ∀ lo hi v : Nat, sub32 (clamp32 lo hi v) lo ≤ sub32 hi lo
        ∧ (sub32 v lo ≤ sub32 hi lo → clamp32 lo hi v = v % 2 ^ 32)
        ∧ (sub32 hi lo < sub32 v lo → (sub32 v hi < sub32 lo v → clamp32 lo hi v = hi % 2 ^ 32)
            ∧ (sub32 lo v ≤ sub32 v hi → clamp32 lo hi v = lo % 2 ^ 32))

/-- O23. At a command boundary of a ready engine with nothing running, the choice of R239 starts: the head command of its context's queue is
running with what was read, its start stamp is now, and the queue's head has moved on. So commandStart completes. -/
def Obligations.CommandStartStarts : Prop :=
  ∀ (dt e : Nat) (s w : State) (k : Choice), (s.elapse dt).up = true → w = (s.elapse dt).expireWaits → e ≤ 273 → w.engineReady e = true →
    (w.engine e).running = none → w.choose e false = some k → k.pick = .head →
    w.instantCode k.ctx e (w.headCmd k.ctx e).1 = none →
    ∃ t r, exec (.commandStart dt e false) s = .next t ∧ (t.engine e).running = some r ∧ r.ctx = k.ctx ∧ r.queue = e
      ∧ r.cmd = (w.headCmd k.ctx e).1 ∧ r.start = w.stamp ∧ r.slot = ((w.ctx k.ctx).queue e).head
      ∧ ((t.ctx k.ctx).queue e).head = (((w.ctx k.ctx).queue e).head + 1) % 2 ^ 32

/-- O24. A no-op completes; a layer marker advances its bay's marker count by one modulo 2^16 and completes; a step open opens its step with
the number of its command; a step close closes it. So noOp, layerMarker, stepOpen and stepClose complete. -/
def Obligations.MarkersAndStepsComplete : Prop :=
  ∀ (dt e : Nat) (s u : State) (r : Run), u = s.elapse dt → u.runs e r →
    (r.cmd.opcode = 0 → u.mayEnd e r = true → exec (.noOp dt e) s = .next (u.endWith e r 0))
    ∧ (r.cmd.opcode = 1 → u.mayEnd e r = true →
      ∃ t, exec (.layerMarker dt e) s = .next t
        ∧ ((t.ctx r.ctx).bayStep (e / 4)).marker = (((u.ctx r.ctx).bayStep (e / 4)).marker + 1) % 65536
        ∧ (t.engine e).running = none)
    ∧ (e = 273 → r.cmd.opcode = 2 →
      ∃ t, exec (.stepOpen dt) s = .next t ∧ (t.ctx r.ctx).stepOpen = true ∧ (t.ctx r.ctx).step = bits r.cmd.body 895 864
        ∧ (t.ctx r.ctx).sealed = false ∧ (t.engine 273).running = none)
    ∧ (e = 273 → r.cmd.opcode = 3 → ∀ delays : List (Nat × Nat),
      ∃ t, exec (.stepClose dt delays) s = .next t ∧ (t.ctx r.ctx).stepOpen = false ∧ (t.ctx r.ctx).segments = [] ∧ (t.ctx r.ctx).held = [])

/-! ### The schedule, waits and swaps -/

/-- O25. A written schedule table is clamped and stored, and changes nothing of the active one; an activation takes the stored table for the
first cycle not yet begun or a later one; at that cycle's start it becomes active and source 235 pends. A slot boundary wakes the
sleeping bays that the slot guarantees; an admission wait longer than object 0x3202.04 raises source 232. So scheduleTableWrite,
scheduleActivate, cycleStart, slotBoundary and admissionWaitTimeout complete. -/
def Obligations.ScheduleTakesEffect : Prop :=
  ∀ (dt : Nat) (s u : State), u = s.elapse dt → u.up = true →
    (∀ val, val.length = 8192 →
      ∃ t, exec (.scheduleTableWrite dt val) s = .next t ∧ t.blob 0x3201 1 = ((words 8 val).map clampEntry).flatMap (leBytes 8)
        ∧ t = { u with objs := t.objs, efyth := t.efyth })
    ∧ (∀ n, ∃ t, exec (.scheduleActivate dt n) s = .next t
        ∧ t.sched = { u.sched with pending := some (max n (u.cycleNo + 1), words 8 (u.blob 0x3201 1)) }
        ∧ t = { u with objs := t.objs, sched := t.sched })
    ∧ (∀ p, u.stamp % cycleUnits = 0 → u.sched.pending = some p → p.1 ≤ u.cycleNo →
      ∃ t, exec (.cycleStart dt) s = .next t ∧ t.sched.active = p.2 ∧ t.sched.activeFrom = p.1 ∧ t.sched.pending = none
        ∧ (t.sourceOf 235).pend = true ∧ t.mem = u.mem)
    ∧ (∀ b ∈ guardedBays (u.entry u.slotNo), u.stamp % slotUnits = 0 → u.power.device = 0 → (u.bay b).power = 2 → (u.bay b).out = false →
      ∃ t, exec (.slotBoundary dt) s = .next t ∧ (t.bay b).waking = true ∧ ((∀ e ∈ u.ctxs, e.2.state ≠ 3) → t.mem = u.mem))
    ∧ ∀ c n, (u.ctx c).waitSince = some n → (u.ctx c).waitRaised = false → n + u.num 0x3202 4 * ms < u.stamp →
      ∃ t, exec (.admissionWaitTimeout dt c) s = .next t ∧ t.ctx c = { u.ctx c with waitRaised := true }
        ∧ (t.sourceOf 232).pend = true ∧ (u.setCtx c (t.ctx c)).SignalsTo t

/-- O26. A command that has awaited its remote event long enough leaves its engine for a record of the context's table; when the deadline
timer fires, every waiting record whose deadline has passed has timed out. A swap whose first runnable context finds its bench plan free
brings it in: it waits for the zeroing of its banks, and its bays wake. With no bank of it left to zero, it is resident, with its plan
granted and nothing saved. Memory stands but for the records of contexts that are swapped out, which stand in their save areas. So
park, remoteWaitDeadline, swap and swapComplete complete. -/
def Obligations.WaitsSwapsAndDeadlines : Prop :=
  ((∀ (dt c q : Nat) (s u : State) (r : Run) (w : Nat × Nat), u = s.elapse dt → u.up = true → (u.engine q).running = some r → r.ctx = c →
       r.remoteWait = some w → (u.engine q).progress + u.num 0x3202 6 * us ≤ u.stamp → (u.ctx c).recordsFree = true →
       ∃ t p, exec (.park dt c q) s = .next t ∧ (t.engine q).running = none ∧ p ∈ (t.ctx c).parked ∧ p.run = some r ∧ p.state = 0
         ∧ p.parkStamp = u.stamp ∧ p.deadline = u.deadlineFrom r.waitFrom ∧ ((u.ctx c).state ≠ 3 → t.mem = u.mem))
   ∧ ∀ (dt c : Nat) (s u : State) (p : Parked), u = s.elapse dt → u.up = true → (u.timerOf .remoteWait).isSome = true →
       p ∈ (u.ctx c).parked → p.state = 0 → p.deadline < u.stamp →
       ∃ t, exec (.remoteWaitDeadline dt) s = .next t ∧ { p with state := 2 } ∈ (t.ctx c).parked
         ∧ ((∀ e ∈ u.ctxs, e.2.state ≠ 3) → t.mem = u.mem)) ∧
  ((∀ (dt c : Nat) (l : List Nat) (s u w v : State), u = s.elapse dt → u.up = true → w = u.expireWaits →
       v = w.ctxs.foldl (fun a e => a.track e.1) w → v.sched.swapping = none → (v.entry v.slotNo).testBit 13 = false →
       v.power.device = 0 → v.runnable = c :: l → v.residents.length < 64 → v.meetsPlan (v.ctx c) = true →
       ∃ t, exec (.swap dt) s = .next t ∧ t.sched.swapping = some c ∧ t.mem = v.mem
         ∧ t.cnt 0x3210 6 = min (v.cnt 0x3210 6 + 1) (2 ^ 64 - 1)
         ∧ ∀ p ∈ (v.ctx c).plan, (v.bay p.1).power = 2 → (t.bay p.1).waking = true)
   ∧ ∀ (dt c : Nat) (s u : State), u = s.elapse dt → u.up = true → u.sched.swapping = some c → (u.ctx c).closePending = false →
       (∀ d ∈ u.sched.outgoing, (u.ctx d).closePending = false) →
       u.bays.any (fun b => b.2.grantWaits.any (fun w => w.1 == c)) = false →
       ∃ t, exec (.swapComplete dt c) s = .next t ∧ (t.ctx c).state = 2 ∧ (t.ctx c).grant = (u.ctx c).plan ∧ (t.ctx c).saved = []
         ∧ t.sched.swapping = none)

/-! ### Rafter links, ports and messages -/

/-- O27. A codeword in order moves its link's expected seq on by one modulo 1,024, its flits join the message that is open and split at the
message boundaries, and it is acknowledged at once; one that failed FEC or its CRC-10 is counted, makes the link discard until the
expected seq comes again, and leaves the seq; while a link waits, a codeword of another seq changes nothing but the count of
corrections. So codewordReceive completes. -/
def Obligations.CodewordsAreTakenInOrder : Prop :=
  ∀ (dt n corrected seq crc : Nat) (flits : List Nat) (s u : State), u = s.elapse dt → u.up = true → (u.link n).carries = true →
    (crc10 flits = crc → seq = (u.link n).rxSeq →
      ∃ t, exec (.codewordReceive dt n true corrected seq crc flits) s = .next t ∧ (t.link n).rxSeq = (seq + 1) % 1024
        ∧ (t.link n).waiting = false ∧ ((t.link n).rxOpen, (t.link n).rxSplit) = splitFlits flits (u.link n).rxOpen [] ∧ t.mem = u.mem)
    ∧ (∃ t, exec (.codewordReceive dt n false corrected seq crc flits) s = .next t ∧ (t.link n).rxSeq = (u.link n).rxSeq
        ∧ (t.link n).waiting = true ∧ t.cnt 0x4010 2 = min (u.cnt 0x4010 2 + 1) (2 ^ 64 - 1) ∧ t.mem = u.mem)
    ∧ (crc10 flits ≠ crc →
      ∃ t, exec (.codewordReceive dt n true corrected seq crc flits) s = .next t ∧ (t.link n).rxSeq = (u.link n).rxSeq
        ∧ (t.link n).waiting = true ∧ t.cnt 0x4010 3 = min (u.cnt 0x4010 3 + 1) (2 ^ 64 - 1) ∧ t.mem = u.mem)
    ∧ (crc10 flits = crc → seq ≠ (u.link n).rxSeq → (u.link n).waiting = true →
      exec (.codewordReceive dt n true corrected seq crc flits) s = .next (if corrected = 0 then u else u.bump 0x4010 1))

/-- O28. A control flit returns acknowledgement and credits; then it does what its kind says: a retry request has its codeword sent again
where it has been resent less often than object 0x4003.02 allows and no lane swap stops the link, a sync request is answered by the time leader, a sync reply to the
request that is out gives the offset, and a lane-map flit ends a swap of lanes. Time on the bent: a follower with an Up link to its
leader sends a sync request with the stamp; a follower without one falls back to IEEE 1588. So idleCreditFlit, retryRequest, syncRequest,
syncReply, laneMap, syncInterval and leaderLossTimeout complete. -/
def Obligations.ControlFlitsAct : Prop :=
  (∀ (dt n f : Nat) (s u : State), u = s.elapse dt → (u.link n).held = [] →
     (u.hears n f 8 →
       ∃ t, exec (.idleCreditFlit dt n f) s = .next t ∧ (t.link n).credits = ((u.link n).take f).credits
         ∧ (t.link n).unacked = ((u.link n).take f).unacked ∧ t.sent = u.sent)
     ∧ (∀ x, u.hears n f 9 → (u.link n).swapping = false → ((u.link n).take f).unacked.find? (fun y => y.1 == bits f 9 0) = some x → x.2.2 < u.num 0x4003 2 →
       ∃ t, exec (.retryRequest dt n f) s = .next t ∧ .resend n x.1 ∈ t.sent)
     ∧ (u.hears n f 0xA → u.leads = true →
       ∃ t, exec (.syncRequest dt n f) s = .next t
         ∧ t.sent = u.sent ++ [.flit n (controlFlit 0xB ((u.link n).take f) (bits f 191 128) u.stamp u.stamp)])
     ∧ (u.hears n f 0xB → u.clock.syncSent = some (bits f 191 128) →
       ∃ t, exec (.syncReply dt n f) s = .next t ∧ t.clock.syncSent = none
         ∧ t.fab.offset = syncOffset (bits f 191 128) (bits f 127 64) (bits f 63 0) u.stamp)
     ∧ (u.hears n f 0xD → ((u.link n).take f).unacked = [] →
       ∃ t, exec (.laneMap dt n f) s = .next t ∧ (t.link n).swapping = false)) ∧
  (∀ (dt : Nat) (s u : State), u = s.elapse dt → u.up = true → u.leads = false →
     (∀ n l, u.leaderLinks = n :: l →
       ∃ t, exec (.syncInterval dt) s = .next t ∧ t.clock.syncSent = some u.stamp
         ∧ t.sent = u.sent ++ [.flit n (controlFlit 0xA (u.link n) u.stamp 0 0)])
     ∧ (u.leaderLinks = [] → exec (.leaderLossTimeout dt) s = .next { u with fab := { u.fab with fallback := true } }))

/-- O29. Bring-up walks through the states of Table 8-5: Down to Detect after 1 ms, Detect to Train on the partner's signal, Train to Align
where training succeeds, Align to Identify with the identity sent, Identify to Up or Miswired by the identity received. Losses: a second
of silence on a link that is Up with no spare to take, or in Align or Identify, takes it Down; an Up link with four lanes and no spare
to take keeps three of them when it loses one; a retrain command takes a link Down, a disable command disables it; an unreachable
working link costs 25 points of health once. So linkDownTimeout, partnerSignal, trainingDone, alignDone, identify, linkSilenceTimeout,
laneLoss, linkRetrain, linkDisableWrite and linkDownDeduction complete. -/
def Obligations.LinksComeAndGo : Prop :=
  (∀ (dt n : Nat) (s u : State), u = s.elapse dt → u.up = true → n < 32 →
     ((u.link n).state = 0 → (u.link n).downSince + ms ≤ u.stamp →
       ∃ t, exec (.linkDownTimeout dt n) s = .next t ∧ t.link n = { u.link n with state := 1 } ∧ t.mem = u.mem)
     ∧ ((u.link n).state = 1 →
       ∃ t, exec (.partnerSignal dt n) s = .next t ∧ t.link n = { u.link n with state := 2 } ∧ t.mem = u.mem)
     ∧ ((u.link n).state = 2 →
       ∃ t, exec (.trainingDone dt n true) s = .next t ∧ t.link n = { u.link n with state := 3 } ∧ t.mem = u.mem)
     ∧ (∀ m, (u.link n).state = 3 →
       ∃ t, exec (.alignDone dt n m) s = .next t ∧ (t.link n).state = 4 ∧ (t.link n).laneMap = m % 256
         ∧ (t.link n).rxSeq = 0 ∧ (t.link n).txSeq = 0)
     ∧ (∀ f, (u.link n).state = 4 → flitKind f = 0xC →
       ∃ t, exec (.identify dt n f) s = .next t ∧ (t.link n).peer = bits f 191 174
         ∧ (t.link n).state = (if u.identityOk n f then 5 else 7))) ∧
  (∀ (dt n : Nat) (s u : State), u = s.elapse dt → u.up = true → n < 32 →
     ((u.link n).isUp = true → (u.link n).spare ≠ 0 ∨ u.wholeSpare n = none → (u.link n).lent = [] →
       ∃ t, exec (.linkSilenceTimeout dt n) s = .next t ∧ (t.link n).state = 0)
     ∧ (∀ lane, lane < 4 → (u.link n).isUp = true → (u.link n).lanes = 4 → (u.link n).lost = [] → isSpare n = true →
       ∃ t, exec (.laneLoss dt n lane) s = .next t ∧ (t.link n).lanes = 3 ∧ (t.link n).state = 6 ∧ lane ∈ (t.link n).lost)
     ∧ ((u.link n).state ≠ 0 → (u.link n).state ≠ 8 → (u.link n).lent = [] →
       ∃ t, exec (.linkRetrain dt (2 ^ n)) s = .next t ∧ (t.link n).state = 0)
     ∧ ((u.link n).state = 0 → (∀ k, (u.link k).state = 0 ∧ (u.link k).lent = [] ∧ (u.link k).spare = 0 ∧ (u.link k).msgs = []
         ∧ (u.link k).held = []) →
       ∃ t, exec (.linkDisableWrite dt (2 ^ n)) s = .next t ∧ (t.link n).state = 8 ∧ t.num 0x4003 4 = 2 ^ n)
     ∧ ((u.link n).state ≤ 4 → isSpare n = false → (u.link n).deducted = false → (u.link n).lostSince + 600 * sec < u.stamp →
       ∃ t, exec (.linkDownDeduction dt n) s = .next t ∧ (t.link n).deducted = true
         ∧ Assoc.get 0 t.fault.permanent (linkKey n) = 25))

/-- O30. A change of a purlin port's or a host port's state sets it, and the port's source pends. An ARP request or a neighbor solicitation
for the own address of a port that is Up, of that family, is answered with the port's MAC address, sent to the port's gateway, and
nothing else changes. So portStateChange, hostPortStateChange, arpRequest and neighborSolicitation complete. -/
def Obligations.PortsChangeAndAnswer : Prop :=
  (∀ (dt p st : Nat) (s u : State), u = s.elapse dt → u.up = true → st = 0 ∨ st = 2 →
     (p < 16 → Assoc.get 0 u.ports p ≠ st →
       ∃ t, exec (.portStateChange dt p st) s = .next t ∧ Assoc.get 0 t.ports p = st ∧ (t.sourceOf (192 + p)).pend = true)
     ∧ (p < 2 → Assoc.get 0 u.hostPorts p ≠ st →
       ∃ t, exec (.hostPortStateChange dt p st) s = .next t ∧ Assoc.get 0 t.hostPorts p = st ∧ (t.sourceOf (208 + p)).pend = true)) ∧
  (∀ (dt p mac : Nat) (s u : State), u = s.elapse dt → u.up = true → u.portUp p = true →
     (u.portFamily p = 1 → exec (.arpRequest dt p (u.portAddr p) mac) s = .next (u.push (.arp p (u.portGateway p) mac (u.portMac p))))
     ∧ (u.portFamily p = 0 → exec (.neighborSolicitation dt p (u.portAddr p) mac) s = .next (u.push (.neighbor p (u.portGateway p) mac (u.portMac p)))))

/-- O31. A write that passes the checks of R285 and may land leaves its payload at its address; a doorbell moves the tail it names; a fill
that completes its command gives its slot its value and counts it; a close notice gives slot 0x0440 the closed context's ID. A page of a
chain or a slot of images that passes the checks of R285 goes to the receiving scarf engine where its preamble says an image, and to
raising where not. Memory is as said for a resident context; of one that is swapped out the save area follows too. So fabricWrite,
fabricDoorbell, fillOnly, closeNotice and pageTransfer complete. -/
def Obligations.MessagesLand : Prop :=
  (∀ (dt : Nat) (via : Via) (m : FabMsg) (s u : State), u = s.elapse dt →
     (u.accepts 0x01 via m → (u.arrive via 0x01 m).landCode 0x01 m.hdr = 0 →
       ∃ t, exec (.fabricWrite dt via m) s = .next t
         ∧ ((u.ctx m.hdr.dstCtx).state = 2 → t.mem = ((u.arrive via 0x01 m).engineWrite m.hdr.dstCtx m.hdr.dstAddr m.payload).mem))
     ∧ (u.accepts 0x02 via m → (u.arrive via 0x02 m).landCode 0x02 m.hdr = 0 → m.hdr.dstAddr % 65536 = 0 →
       (u.ctx m.hdr.dstCtx).draining = false →
       ∃ t, exec (.fabricDoorbell dt via m) s = .next t ∧ ((u.ctx m.hdr.dstCtx).state = 2 → t.mem = u.mem)
         ∧ ((t.ctx m.hdr.dstCtx).queue 0).tail = clamp32 ((u.ctx m.hdr.dstCtx).queue 0).tail
             (((u.ctx m.hdr.dstCtx).queue 0).completed + 2 ^ (u.ctx m.hdr.dstCtx).queueLog2) (leNat m.payload % m32))
     ∧ (u.accepts 0x03 via m → (u.arrive via 0x03 m).landCode 0x03 m.hdr = 0 → m.hdr.mortise ≠ 0xFFFF →
       ((u.arrive via 0x03 m).noteLanded m.hdr).2 = some m.hdr →
       ∃ t, exec (.fillOnly dt via m) s = .next t ∧ ((u.ctx m.hdr.dstCtx).state = 2 → t.mem = u.mem)
         ∧ ((t.ctx m.hdr.dstCtx).slot m.hdr.mortise).value = m.hdr.value
         ∧ ((t.ctx m.hdr.dstCtx).slot m.hdr.mortise).count = min 0xFFFF (((u.ctx m.hdr.dstCtx).slot m.hdr.mortise).count + 1))
     ∧ (u.accepts 0x30 via m →
       ∃ t, exec (.closeNotice dt via m) s = .next t ∧ ((u.ctx m.hdr.dstCtx).state = 2 → t.mem = u.mem)
         ∧ ((t.ctx m.hdr.dstCtx).slot 0x0440).value = m.hdr.value
         ∧ ((t.ctx m.hdr.dstCtx).slot 0x0440).count = min 0xFFFF (((u.ctx m.hdr.dstCtx).slot 0x0440).count + 1))) ∧
  (∀ (dt : Nat) (via : Via) (m : FabMsg) (s u : State), u = s.elapse dt → u.accepts 0x11 via m →
     ((PagePre.parse m.payload).image = true → exec (.pageTransfer dt via m) s =
       .next ((u.arrive via 0x11 m).fabImage m.hdr (PagePre.parse m.payload) (m.payload.drop 32)))
     ∧ ((PagePre.parse m.payload).image = false → exec (.pageTransfer dt via m) s =
       .next ((u.arrive via 0x11 m).fabShard m.hdr (PagePre.parse m.payload) (m.payload.drop 32))))

/-- O32. Responses: an acknowledgement or another code than 0x0308 ends the command it answers; 0x0308 has the named message of a command
that is out sent again 2 µs later, and then it is sent. A peer-reset message puts the device that it names, where it is not this one,
into peer-reset state, and the state ends when its hold runs out. So acknowledgement, negativeAcknowledgement, seqWindowResend,
retransmitTimeout, peerResetMessage and peerResetHoldExpiry complete. -/
def Obligations.ResponsesAndPeerResets : Prop :=
  ((∀ (dt : Nat) (via : Via) (m : FabMsg) (s u : State), u = s.elapse dt →
     (u.accepts 0x20 via m → exec (.acknowledgement dt via m) s =
       .next (((((u.arrive via 0x20 m).markSeq m.hdr).bump 0x4110 2)).answered m.hdr 0))
     ∧ (u.accepts 0x21 via m → m.hdr.code ≠ 0x0308 → exec (.negativeAcknowledgement dt via m) s =
       .next ((((u.arrive via 0x21 m).markSeq m.hdr).bump 0x4110 2).bump 0x4110 5 |>.answered m.hdr m.hdr.code))
     ∧ (u.accepts 0x21 via m → m.hdr.code = 0x0308 → (u.outOf m.hdr.dstCtx m.hdr.srcQueue m.hdr.srcSlot).isEmpty = false →
       ∃ t, exec (.negativeAcknowledgement dt via m) s = .next t
         ∧ t.fab.resend = u.fab.resend ++ [(m.hdr.dstCtx, m.hdr.srcQueue, m.hdr.srcSlot, m.hdr.srcDevice, m.hdr.msgIndex,
             u.stamp + 2 * us)]))
   ∧ (∀ (dt c q i : Nat) (x : Nat × Nat × Nat × Nat × Nat × Nat) (m : FabHdr × List Byte) (s u : State), u = s.elapse dt → u.up = true →
       u.fab.resend.find? (fun e => e.1 == c && e.2.1 == q && e.2.2.2.2.1 == i && decide (e.2.2.2.2.2 ≤ u.stamp)) = some x →
       (u.outOf c q x.2.2.1).find? (fun y => y.1.msgIndex == i && y.1.dstDevice == x.2.2.2.1) = some m →
       exec (.seqWindowResend dt c q i) s =
         .next (({ u with fab := { u.fab with resend := u.fab.resend.erase x } } : State).resendOne q m))
   ∧ ∀ (dt c q slot : Nat) (o : PageOut) (s u : State), u = s.elapse dt → u.up = true → u.pageOutOf c q slot = some o → o.purlin = true →
       u.resendDue o.lastSend = true → o.resends < u.num 0x4106 2 →
       ∃ t, exec (.retransmitTimeout dt c q slot) s = .next t ∧ { o with lastSend := u.stamp, resends := o.resends + 1 } ∈ t.fab.pageOut) ∧
  ((∀ (dt : Nat) (via : Via) (m : FabMsg) (s u : State), u = s.elapse dt → u.up = true → u.viaUp via = true → wireOk via 0x31 m = true →
       (u.arrive via 0x31 m).formCode 0x31 m = 0 → m.hdr.value % 2 ^ 18 ≠ u.deviceId →
       ∃ t, exec (.peerResetMessage dt via m) s = .next t ∧ t.inPeerReset (m.hdr.value % 2 ^ 18) = true)
     ∧ ∀ (dt d : Nat) (s u : State), u = s.elapse dt → u.up = true → u.inPeerReset d = true → Assoc.get 0 u.fab.resetPeers d ≤ u.stamp →
       ∃ t, exec (.peerResetHoldExpiry dt d) s = .next t ∧ t.inPeerReset d = false ∧ Assoc.get 0 t.fab.txSeq d = 0
         ∧ t.rxOf d = RxState.zero ∧ t.mem = u.mem)

/-! ### Collectives and layouts -/

/-- O33. A collective whose plan, contributions and rights are in order exchanges what it can: with everything there it ends with its
results, else it awaits contributions on the reduce engine. So allReduce, reduceScatter, allGather, broadcast, expertDispatch,
expertCombine, stepSeal and barrier complete, or wait for what has not come. -/
def Obligations.CollectivesExchange : Prop :=
  ∀ (dt : Nat) (s u w : State) (r : Run) (k : Coll), u = s.elapse dt → u.up = true → (u.engine 272).running = some r → r.failed = none →
    k = collOf (u.ctx r.ctx) r.cmd → (u.ctx r.ctx).planOk k = true → (u.ctx r.ctx).contribs.any (k.disagrees (u.ctx r.ctx)) = false →
    u.worstFault .reduce r.ctx (k.accesses (u.ctx r.ctx)) = 0 → u.lostMember r.ctx k = none → w = u.exchange r.ctx r k →
    (r.cmd.opcode = 0x50 → ∃ t, exec (.allReduce dt none) s = .next t ∧ w.collEnds t r.ctx k)
      ∧ (r.cmd.opcode = 0x51 → ∃ t, exec (.reduceScatter dt none) s = .next t ∧ w.collEnds t r.ctx k)
      ∧ (r.cmd.opcode = 0x52 → ∃ t, exec (.allGather dt none) s = .next t ∧ w.collEnds t r.ctx k)
      ∧ (r.cmd.opcode = 0x53 → ∃ t, exec (.broadcast dt none) s = .next t ∧ w.collEnds t r.ctx k)
      ∧ (r.cmd.opcode = 0x54 → ∃ t, exec (.expertDispatch dt none) s = .next t ∧ w.collEnds t r.ctx k)
      ∧ (r.cmd.opcode = 0x55 → ∃ t, exec (.expertCombine dt none) s = .next t ∧ w.collEnds t r.ctx k)
      ∧ (r.cmd.opcode = 0x56 → ∃ t, exec (.stepSeal dt none) s = .next t ∧ w.collEnds t r.ctx k)
      ∧ (r.cmd.opcode = 0x57 → ∃ t, exec (.barrier dt none) s = .next t ∧ w.collEnds t r.ctx k)

/-- O34. A contribution of the context's layout epoch that repeats none and whose elements may land is kept, with its data at its address;
one whose eight values were accepted before, or of another layout epoch, is dropped before a byte is written, and counted. So
contribution completes. -/
def Obligations.ContributionsAreTakenOnce : Prop :=
  ∀ (dt : Nat) (via : Via) (m : FabMsg) (s u w : State) (p : Preamble) (q : Contrib), u = s.elapse dt → u.accepts 0x10 via m →
    w = u.arrive via 0x10 m → p = Preamble.parse m.payload → q = contribOf p m.hdr.aux (m.payload.drop 32) → p.abort = false →
    m.hdr.mortise = 0xFFFF ∨ m.hdr.mortise ≤ 0x03FF →
    m.payload.length ≤ 32 ∨ w.accessCode .remote m.hdr.dstCtx m.hdr.dstAddr (m.payload.length - 32) true = 0 →
    (m.hdr.aux = (w.ctx m.hdr.dstCtx).layoutEpoch → (w.ctx m.hdr.dstCtx).contribs.any (fun y => y.same q) = false →
      ∃ t, exec (.contribution dt via m) s = .next t ∧ q ∈ (t.ctx m.hdr.dstCtx).contribs
        ∧ ((w.ctx m.hdr.dstCtx).state = 2 → t.mem = (w.putBytes m.hdr.dstCtx m.hdr.dstAddr q.data).mem))
    ∧ (m.hdr.aux = (w.ctx m.hdr.dstCtx).layoutEpoch → (w.ctx m.hdr.dstCtx).contribs.any (fun y => y.same q) = true →
      exec (.contribution dt via m) s = .next (((w.markSeq m.hdr).bump 0x4110 2).bump 0x4210 2))
    ∧ (m.hdr.aux ≠ (w.ctx m.hdr.dstCtx).layoutEpoch →
      exec (.contribution dt via m) s = .next (((w.markSeq m.hdr).bump 0x4110 2).bump 0x4210 3))

/-- O35. A pair that is not refused leaves host and guest naming each other, the guest marked, and code 0 in object 0x4203.03; a refused one
leaves 0x0432 there and pairs nothing; unpairing leaves no context paired. A re-shard block of 32 bytes with the next layout epoch, for
a context in state 2 or 3 with no re-shard of its own, stands until its step has closed; then its image is started, where the context
has a slot free and no image out. So dovetailPair, dovetailUnpair and reshard complete. -/
def Obligations.LayoutsChange : Prop :=
  ((∀ (dt host guest : Nat) (s u : State), u = s.elapse dt → u.up = true → u.pairRefused host guest = false →
       ∃ t, exec (.dovetailPair dt host guest) s = .next t ∧ (t.ctx host).dovetail = some guest ∧ (t.ctx guest).dovetail = some host
         ∧ (t.ctx guest).isGuest = true ∧ t.cnt 0x4203 3 = 0)
     ∧ (∀ (dt host guest : Nat) (s u : State), u = s.elapse dt → u.up = true → u.pairRefused host guest = true →
       exec (.dovetailPair dt host guest) s = .next (u.setCnt 0x4203 3 0x0432))
     ∧ ∀ (dt : Nat) (s u : State), u = s.elapse dt → u.up = true →
       ∃ t, exec (.dovetailUnpair dt) s = .next t ∧ t.cnt 0x4203 3 = 0 ∧ t.mem = u.mem
         ∧ ∀ c, (t.ctx c).dovetail = none ∧ (t.ctx c).isGuest = false) ∧
  (∀ (dt : Nat) (block : List Byte) (place : Placement) (s u : State) (k : ReshardBlock), u = s.elapse dt → u.up = true → block.length = 32 →
     k = reshardOf block → (u.ctx k.ctx).state = 2 ∨ (u.ctx k.ctx).state = 3 → (u.ctx k.ctx).reshard = 0 →
     k.epoch = ((u.ctx k.ctx).layoutEpoch + 1) % 65536 →
     let v := u.setCtx k.ctx { u.ctx k.ctx with
       reshard := 1, reshardBlock := leBytes 32 (setBits (leNat block) 171 156 k.epoch), reshardPlace := place }
     ((v.ctx k.ctx).reshardDue = false → exec (.reshard dt block place) s = .next v)
       ∧ (∀ g, (v.ctx k.ctx).reshardDue = true → (v.ctx k.ctx).image = none → newSlot (v.ctx k.ctx).imageSlots = some g →
         exec (.reshard dt block place) s = .next ((v.modCtx k.ctx (fun x => { x with reshard := 2 })).startImage k.ctx g)))

/-! ### Raising, checkpoints, restore -/

/-- O36. A raise block of 32 bytes for a context with no raise under way, whose checks pass, is accepted with code 0 in object 0x4302.02:
mode 0 starts the raise of its manifest, mode 1 that of a new weight version in place of the one of that number. So raiseJob and raiseWeightSet complete. -/
def Obligations.RaisesStart : Prop :=
  ∀ (dt : Nat) (block : List Byte) (place : Placement) (s u : State) (k : RaiseBlock) (m : Manifest), u = s.elapse dt → u.up = true →
    block.length = 32 → k = raiseBlock block → (u.ctx k.ctx).raising = false → u.raiseWrong k = false →
    u.manifest k.ctx k.manifest = some m → m.ok (u.ctx k.ctx) k.mode = true → m.entries.any (u.baseBad (u.ctx k.ctx)) = false →
    (k.mode = 0 → exec (.raiseJob dt block place) s = .next ((u.startRaise k m).setCnt 0x4302 2 0))
      ∧ (k.mode = 1 → ((u.dropVersion k.ctx k.version).startSet k m place).2 = 0 →
        exec (.raiseWeightSet dt block place) s = .next (((u.dropVersion k.ctx k.version).startSet k m place).1.setCnt 0x4302 2 0))

/-- O37. A re-check pass that finds every page to match its leaf notes its stamp as the last good check of each page of every Sealed object
that is whole, and sets the start of the next pass. A switch to a raised version none of whose set's tensors is trained makes it
current, with code 0 in object 0x4306.02; any other version leaves 0x0443 there and the current version as it is. So recheckPass and
weightSwitch complete. -/
def Obligations.RecheckAndSwitch : Prop :=
  (∀ (dt : Nat) (place : Placement) (s u : State), u = s.elapse dt → u.up = true → u.fault.recheck.getD u.stamp ≤ u.stamp →
     u.differing = [] →
     ∃ t, exec (.recheckPass dt [] place) s = .next t ∧ t.mem = u.mem ∧ t.fault.recheck.isSome = true
       ∧ ∀ id, (u.object id).sealed = true → (u.object id).replacing = [] →
           ∀ i, i < (u.object id).pages.length → Assoc.get 0 (t.object id).lastGood i = u.stamp) ∧
  (∀ (dt c v : Nat) (s u : State), u = s.elapse dt → u.up = true → c < 4096 → v < 2 ^ 32 →
     (∀ w, (u.ctx c).versionOf v = some w → w.raised = true →
       w.set.any (fun o => ((u.ctx c).tensorById o).elim false (fun t => t.gradTarget != 0)) = false →
       ∃ t, exec (.weightSwitch dt c v) s = .next t ∧ (t.ctx c).current = v ∧ t.cnt 0x4306 2 = 0)
     ∧ ((u.ctx c).versionOf v = none → exec (.weightSwitch dt c v) s = .next (u.setCnt 0x4306 2 0x0443)))

/-- O38. A checkpoint request marks its context for an image at the next step close; a commit marks the images of its step committed. A
restore block for a context in state 2 or 3 with no restore under way first lets started work drain; with none left, it empties the
context's queues, ring, segments, held table and parked waits, closes its step, and awaits its image; with a good image at hand the
restore ends with code 0 and the step of the image. So checkpointRequest, checkpointCommit, restore and restoreComplete complete. -/
def Obligations.CheckpointsAndRestore : Prop :=
  (∀ (dt c n : Nat) (s u : State), u = s.elapse dt → u.up = true → c < 4096 → n < 2 ^ 32 →
     ((u.ctx c).state = 2 ∨ (u.ctx c).state = 3 →
       ∃ t, exec (.checkpointRequest dt c) s = .next t ∧ (t.ctx c).checkpointAsked = true ∧ t.mem = u.mem)
     ∧ ((u.ctx c).state = 2 ∨ (u.ctx c).state = 3 → (u.ctx c).reshard = 0 →
       ∃ t, exec (.checkpointCommit dt c n) s = .next t ∧ t.mem = u.mem
         ∧ ∀ e ∈ (t.ctx c).imageSlots, e.2.1 = n → e.2.2 = true)) ∧
  ((∀ (dt : Nat) (block : List Byte) (place : Placement) (s u : State) (k : RestoreBlock) (r : Restoring), u = s.elapse dt → u.up = true →
       block.length = 32 → k = restoreBlock block → (u.ctx k.ctx).restoring = none → (u.ctx k.ctx).state = 2 ∨ (u.ctx k.ctx).state = 3 →
       r = { step := k.step, holder := k.holder, table := k.table, place := place, phase := 1, since := u.stamp } →
       ((u.ctx k.ctx).state = 2 → u.drained k.ctx = false →
         exec (.restore dt block place) s = .next (u.modCtx k.ctx (fun x => { x with restoring := some r })))
       ∧ ((u.ctx k.ctx).state = 3 ∨ u.drained k.ctx = true → k.table = 0 →
         ∃ t, exec (.restore dt block place) s = .next t ∧ (t.ctx k.ctx).restoring = some { r with phase := 2 }
           ∧ (t.ctx k.ctx).held = [] ∧ (t.ctx k.ctx).segments = [] ∧ (t.ctx k.ctx).parked = [] ∧ (t.ctx k.ctx).stepOpen = false))
     ∧ ∀ (dt c : Nat) (holder : List (List Byte)) (s u : State) (k : Restoring), u = s.elapse dt → u.up = true →
       (u.ctx c).restoring = some k → k.phase = 2 → (readImage holder).ok = true → bits (readImage holder).header 191 160 = k.step →
       u.localImage c k.step = none →
       ∃ t, exec (.restoreComplete dt c false (some holder)) s = .next t ∧ (t.ctx c).restoring = none ∧ t.cnt 0x4305 2 = 0
         ∧ (t.ctx c).step = k.step)

/-! ### Host sessions -/

/-- O39. The next message of an open session is heard, acted on by its type, and then those that waited for it: close, acknowledgement,
dictionary read and write, doorbell, write, read request and page transfer. So sessionClose, hostAcknowledgement, dictionaryRead,
dictionaryWrite, hostDoorbell, hostWrite, hostReadRequest and hostPageTransfer complete. -/
def Obligations.HostMessagesAreServed : Prop :=
  ∀ (dt port n : Nat) (m : HostMsg) (aux : Aux) (diag : Option Diag) (s u : State), u = s.elapse dt →
    (u.hostAccepts port 0x42 m n →
        exec (.sessionClose dt port m) s = .next ((u.hostHeard port m n).hostNext n 0x42 m Aux.none none))
      ∧ (u.hostAccepts port 0x43 m n →
        exec (.hostAcknowledgement dt port m) s = .next ((u.hostHeard port m n).hostNext n 0x43 m Aux.none none))
      ∧ (u.hostAccepts port 0x48 m n →
        exec (.dictionaryRead dt port m) s = .next ((u.hostHeard port m n).hostNext n 0x48 m Aux.none none))
      ∧ (u.hostAccepts port 0x49 m n →
        exec (.dictionaryWrite dt port m aux) s = .next ((u.hostHeard port m n).hostNext n 0x49 m aux none))
      ∧ (u.hostAccepts port 0x4C m n →
        exec (.hostDoorbell dt port m) s = .next ((u.hostHeard port m n).hostNext n 0x4C m Aux.none none))
      ∧ (u.hostAccepts port 0x50 m n →
        exec (.hostWrite dt port m) s = .next ((u.hostHeard port m n).hostNext n 0x50 m Aux.none none))
      ∧ (u.hostAccepts port 0x51 m n →
        exec (.hostReadRequest dt port m diag) s = .next ((u.hostHeard port m n).hostNext n 0x51 m Aux.none diag))
      ∧ (u.hostAccepts port 0x53 m n →
        exec (.hostPageTransfer dt port m) s = .next ((u.hostHeard port m n).hostNext n 0x53 m Aux.none none))

/-- O40. What acting on a message of a management session does: a write inside the staging area lands there and one outside is refused with
0x0209; an acknowledgement drops the events up to its number; a doorbell clamps the tail that it names. -/
def Obligations.HostMessagesAct : Prop :=
  ∀ (n : Nat) (m : HostMsg) (aux : Aux) (s : State), (s.session n).kind = 0 →
    (s.inStaging m.hdr.addr m.payload.length = true → s.hostAct n 0x50 m aux none = s.writeBytes m.hdr.addr m.payload)
    ∧ (s.inStaging m.hdr.addr m.payload.length = false → s.hostAct n 0x50 m aux none = s.hostNack n m.hdr.seq 0x0209)
    ∧ ((s.hostAct n 0x43 m aux none).session n).events =
        (s.session n).events.filter (fun e => decide (2 ^ 31 ≤ seqAhead e.1 m.hdr.ackSeq))
    ∧ (m.hdr.addr % 65536 = 0 → m.hdr.addr / 65536 < 4096 →
        (s.ctx (m.hdr.addr / 65536)).state = 2 ∨ (s.ctx (m.hdr.addr / 65536)).state = 3 →
        (s.ctx (m.hdr.addr / 65536)).draining = false →
        (((s.hostAct n 0x4C m aux none).ctx (m.hdr.addr / 65536)).queue 0).tail =
          clamp32 ((s.ctx (m.hdr.addr / 65536)).queue 0).tail
            (((s.ctx (m.hdr.addr / 65536)).queue 0).completed + 2 ^ (s.ctx (m.hdr.addr / 65536)).queueLog2) (leNat m.payload % m32))

/-- O41. An open that the checks grant makes the lowest free number an open session with the tag drawn; a session that was silent for its
time-out closes with source 216 pending, and an event of an open one whose time has passed is sent again until its sixteenth send. So
sessionOpen, sessionTimeout and eventResend complete. -/
def Obligations.SessionsOpenAndClose : Prop :=
  (∀ (dt port draw n : Nat) (m : HostMsg) (s u : State), u = s.elapse dt → u.up = true → u.hostTakes port m = true →
      discarded 0x40 m = false → misformed 0x40 m = false → m.hdr.pcrc = 0 →
      (u.hostArrive port m).openCode m = 0 → (u.hostArrive port m).freeSession = some n → u.boot.rngBad = false →
      ∃ t, exec (.sessionOpen dt port draw m) s = .next t ∧ (t.session n).isOpen = true ∧ (t.session n).tag = draw % 65536
        ∧ (t.session n).kind = m.hdr.value % 2 ∧ (t.session n).rxSeq = (m.hdr.seq + 1) % 2 ^ 32)
    ∧ (∀ (dt n : Nat) (s u : State), u = s.elapse dt → u.up = true → (u.session n).isOpen = true →
      (u.session n).lastHeard + u.num 0x4805 1 * ms ≤ u.stamp →
      ∃ t, exec (.sessionTimeout dt n) s = .next t ∧ (t.session n).isOpen = false ∧ (t.sourceOf 216).pend = true ∧ t.mem = u.mem)
    ∧ ∀ (dt n seq : Nat) (e : Nat × List Byte × Nat × Nat) (s u : State), u = s.elapse dt → u.up = true → (u.session n).isOpen = true →
      (u.session n).events.find? (fun x => x.1 == seq) = some e → e.2.2.1 < 16 → e.2.2.2 + u.num 0x4805 2 * us ≤ u.stamp →
      ∃ t, exec (.eventResend dt n seq) s = .next t ∧ t.mem = u.mem ∧ (e.1, e.2.1, e.2.2.1 + 1, u.stamp) ∈ (t.session n).events

/-! ### Time, objects, management -/

/-- O42. The clock: an Announce of the device's domain on an Up port makes its data set known; a Sync of the chosen master steps the stamp at
the first lock and is slewed in after it (log 53: the offset object is held at its ends); silence leads to holdover (log 159: after
three of the shortest intervals at the least) and then to state 5 with PPS_OUT low; an edge on PPS_IN near its multiple is followed and
another is counted; PPS_OUT rises at a whole second and falls 100 ms later. So ptpAnnounce, ptpSync, syncTimeout, holdoverLimit,
ppsInEdge, ppsOutPulse and ppsOutFall complete. -/
def Obligations.ClockFollows : Prop :=
  ∀ (dt : Nat) (s u : State), u = s.elapse dt → u.up = true →
    (∀ p m, u.takesPtp p m.domain = true → exec (.ptpAnnounce dt p m) s =
      .next { u with clock := { u.clock with masters := Assoc.insert p m.rank u.clock.masters } })
    ∧ (∀ p domain offset, u.steers = true → u.masterPort = some p → u.takesPtp p domain = true → u.usesPps = false →
      ∃ t, exec (.ptpSync dt p ⟨domain, offset⟩) s = .next t ∧ t.num 0x4807 5 = i32Of offset ∧ t.clock.state = 2 ∧ t.mem = u.mem
        ∧ (u.clock.locked = true → t.clock.slew = -(offset * 4) ∧ t.clock.lastSync = u.stamp ∧ t.stamp = u.stamp)
        ∧ (u.clock.locked = false → t.clock.locked = true ∧ t.stamp = shiftStamp (-(offset * 4)) u.stamp % 2 ^ 64
            ∧ t.cnt 0x4807 6 = u.stamp ∧ t.cnt 0x4807 7 = t.stamp))
    ∧ (u.clock.state = 2 ∨ u.clock.state = 3 → u.clock.lastSync + syncLoss ≤ u.stamp →
      ∃ t, exec (.syncTimeout dt) s = .next t ∧ t.clock = { u.clock with state := 4 } ∧ (t.sourceOf 213).pend = true ∧ t.mem = u.mem)
    ∧ (u.clock.state = 4 → u.clock.lastSync + sec ≤ u.stamp →
      ∃ t, exec (.holdoverLimit dt) s = .next t ∧ t.clock = { u.clock with state := 5 } ∧ t.pins.ppsOut = false
        ∧ (t.sourceOf 213).pend = true ∧ (t.sourceOf 214).pend = true ∧ t.mem = u.mem)
    ∧ (u.usesPps = true → u.steers = true → u.clock.locked = true →
      let d := nearestMultiple u.stamp 4000000000 - (u.stamp : Int)
      ∃ t, exec (.ppsInEdge dt) s = .next t ∧ t.stamp = u.stamp ∧ t.mem = u.mem
        ∧ (d.natAbs ≤ us → t.clock.slew = d ∧ t.clock.state = 3 ∧ t.clock.lastSync = u.stamp)
        ∧ (us < d.natAbs → t.clock = u.clock ∧ t.cnt 0x4810 9 = min (u.cnt 0x4810 9 + 1) (2 ^ 64 - 1) ∧ (t.sourceOf 217).pend = true))
    ∧ (u.num 0x4807 4 = 1 → u.clock.state ≠ 0 → u.clock.state ≠ 5 → u.stamp % sec = 0 →
      exec (.ppsOutPulse dt) s = .next { u with pins := { u.pins with ppsOut := true, ppsRise := u.stamp } })
    ∧ (u.pins.ppsOut = true → u.pins.ppsRise + 100 * ms ≤ u.stamp →
      exec (.ppsOutFall dt) s = .next { u with pins := { u.pins with ppsOut := false } })

/-- O43. A write to an object that does not exist or is RO changes nothing; one to a plain RW or RWP object gives it the nearest legal value
and changes nothing else but what is gathered for a commit and the count of a clamp. A calibration image of this device gives each of
its objects its value, clamped, and makes the set a user's; one of another device changes nothing. A return to the defaults is counted
as clamped for a value other than 1. A core's write of a doorbell page that it may write is the doorbell's. So objectWrite,
calibrationWrite and rwpDefaults complete. -/
def Obligations.ObjectsTakeLegalValues : Prop :=
  ∀ (dt : Nat) (s u : State), u = s.elapse dt → u.up = true →
    (∀ i k val aux, rowFor i k = none → exec (.objectWrite dt (.object i) k val aux) s = .next u)
    ∧ (∀ i k val aux r, rowFor i k = some r → r.acc = .ro → exec (.objectWrite dt (.object i) k val aux) s = .next u)
    ∧ (∀ i k val aux r, rowFor i k = some r → r.acc = .rw ∨ r.acc = .rwp → k ≠ 0 → ownClamp i k = false → isClear i k = false →
      i ∉ actingObjects → isCalibration i = false →
      ∃ t, exec (.objectWrite dt (.object i) k val aux) s = .next t ∧ t.obj i k = (u.legalValue r k val).1
        ∧ t = { u with objs := t.objs, efyth := t.efyth })
    ∧ (∀ image, image.length = 144 → u.imageFits image = false → exec (.calibrationWrite dt image) s = .next u)
    ∧ (∀ image, image.length = 144 → u.imageFits image = true →
      ∃ t, exec (.calibrationWrite dt image) s = .next t ∧ t.cnt 0x6101 3 = 1 ∧ t.mem = u.mem
        ∧ ∀ o ∈ imageObjs, ∀ r, rowFor o.1 o.2.1 = some r → t.num o.1 o.2.1 = numNear r (leNat (slice image o.2.2 4)))
    ∧ (∀ v, exec (.rwpDefaults dt v) s = .next (if v = 1 then u.returnDefaults else (u.countClamp 0x2005).returnDefaults))
    ∧ ∀ core a c val aux, ctlPart a = .door c → u.accessCode .mgmt 0 a 8 true = 0 →
      exec (.objectWrite dt (.register core) a val aux) s = .next (u.doorWrite c ((a - ctlBase) % 65536) (leNat (val.take 8)))

/-- O44. Efyth: a read, a discover, a write to an RO object and a first one-part write to an RW object, each whole, of version 3, for this
station and device and not sent before, are counted and answered once, to their source; an unfinished buffer is discarded after 1 s;
PLCA settings come into force 1 ms after they changed. So efythReadRequest, discover, efythWrite, multipartTimeout and plcaChangeApply
complete. -/
def Obligations.EfythIsAnswered : Prop :=
  ∀ (dt : Nat) (m : EfythMsg) (s u w : State), u = s.elapse dt → u.up = true → w = u.bump 0x1106 1 → m.ok = true → m.hdr.version = 3 →
    m.dst = u.boot.fuses.macMgmt → m.typ = none → m.hdr.device = u.deviceId → malformed m = false →
    u.efyth.replies.find? (fun e => e.1 == m.src && e.2.1 == m.hdr.seq) = none → u.replyWaits m.src m.hdr.seq = false →
    (∀ b, w.readObject m.hdr.index m.hdr.sub = (0, b) →
      ∃ t, exec (.efythReadRequest dt m) s = .next t ∧ w.answersFrom u t m 5 0 0 ((b.drop m.hdr.offset).take 1024))
    ∧ (∀ code b, code ≠ 0 → w.readObject m.hdr.index m.hdr.sub = (code, b) →
      ∃ t, exec (.efythReadRequest dt m) s = .next t ∧ w.answersFrom u t m 5 0 code [])
    ∧ (∃ t, exec (.discover dt m) s = .next t ∧ w.answersFrom u t m 5 0 0 w.discoverBytes)
    ∧ (u.unlisted m.src = false →
      (∀ aux r, m.hdr.sub ≠ 0 → rowFor m.hdr.index m.hdr.sub = some r → r.acc = .ro →
        ∃ t, exec (.efythWrite dt m aux) s = .next t ∧ w.answersFrom u t m 4 0 0x0804 [])
      ∧ ∀ aux r a, m.hdr.sub ≠ 0 → rowFor m.hdr.index m.hdr.sub = some r → r.acc = .rw → m.hdr.offset = 0 → m.hdr.flags.testBit 7 = false →
        u.buffer m.src = none → w.endsAnswer m.hdr.index m.hdr.sub (m.payload.take m.hdr.length) = false →
        a = w.applyWrite m.hdr.index m.hdr.sub (m.payload.take m.hdr.length) aux →
        exec (.efythWrite dt m aux) s =
          .next (a.1.efythReply m.src m.hdr 4 (clampFlag a.2.clamped) a.2.code (if a.2.code = 0 then a.2.value else [])))
    ∧ (∀ mac b, u.buffer mac = some b → b.last + sec ≤ u.stamp →
      ∃ t, exec (.multipartTimeout dt mac) s = .next t ∧ t.buffer mac = none ∧ t.cnt 0x1106 7 = min (u.cnt 0x1106 7 + 1) (2 ^ 64 - 1)
        ∧ t = { u with objs := t.objs, efyth := t.efyth })
    ∧ (∀ n, u.efyth.plcaPending = some n → n + ms ≤ u.stamp → exec (.plcaChangeApply dt) s =
      .next { u with efyth := { u.efyth with plcaPending := none, plca := (rangeFrom 1 5).map (u.num 0x1102) } })

/-- O45. A commit: 10 ms after the first unsaved write the window closes and its record is out; one that reads back well is in its bank
(both banks for a calibration value), counted, with its generation; one whose bank fails twice leaves state 3, source 448 pending and
its objects for the next commit. So commitWindowClose and commitComplete complete. -/
def Obligations.CommitsSave : Prop :=
  ∀ (dt : Nat) (s u : State), u = s.elapse dt → u.up = true →
    (∀ n, u.efyth.gatherSince = some n → n + 10 * ms ≤ u.stamp → u.efyth.commit = none →
      ∃ t, exec (.commitWindowClose dt) s = .next t ∧ t.efyth.gather = [] ∧ t.efyth.gatherSince = none ∧ t.efyth.waiters = []
        ∧ t.efyth.commit = some (u.efyth.failedObjs ++ u.efyth.gather.filter (fun k => !u.efyth.failedObjs.contains k), u.efyth.waiters,
            u.record u.nextGen)
        ∧ t = { u with efyth := t.efyth })
    ∧ (∀ l ws rec_ bad, u.efyth.commit = some (l, ws, rec_) → bad < 2 →
      ∃ t, exec (.commitComplete dt bad) s = .next t ∧ t.bank u.commitBank = rec_ ∧ (commitsBoth l = true → t.bank (1 - u.commitBank) = rec_)
        ∧ t.efyth.commit = none ∧ t.cnt 0x2005 1 = (u.cnt 0x2005 1 + 1) % 2 ^ 32 ∧ t.cnt 0x2005 2 = leNat (rec_.take 4) ∧ t.mem = u.mem)
    ∧ ∀ l ws rec_, u.efyth.commit = some (l, ws, rec_) →
      ∃ t, exec (.commitComplete dt 2) s = .next t ∧ t.bank u.commitBank = [] ∧ t.efyth.commit = none ∧ t.efyth.failedObjs = l
        ∧ t.cnt 0x2005 3 = 3 ∧ (t.sourceOf 448).pend = true ∧ t.mem = u.mem

/-! ### Interrupts and counters -/

/-- O46. A signal of a defined source that may signal makes it pending, counts it up to 255 and notes its stamps; TAKE copies a source into
the core's registers and clears its pending bit and count; PEND_CLEAR clears exactly the bits of its mask; delivery enters the handler
of the next source and END resumes what it interrupted. SET and the software object raise their sources; a write of MODE leaves or
enters ordered delivery (with no reason, log 49: the model's choice); a write of the configuration puts every word, its reserved bits 0,
into force. So
interruptSignal, take, pendClear, interruptDelivery, endHandler, setSource, raiseSoftwareSource, modeWrite and sourceConfigWrite complete. -/
def Obligations.InterruptsAreTaken : Prop :=
  (∀ (dt : Nat) (s u : State), u = s.elapse dt → u.up = true →
     (∀ n c, n < 512 → sourceDefined n = true →
       ∃ t, exec (.interruptSignal dt n c) s = .next t ∧ (t.sourceOf n).pend = true ∧ (t.sourceOf n).last = u.stamp
         ∧ (t.sourceOf n).first = (if (u.sourceOf n).count = 0 then u.stamp else (u.sourceOf n).first)
         ∧ (n < 352 → (t.sourceOf n).count = min 255 ((u.sourceOf n).count + 1) ∧ (t.sourceOf n).ctx = c) ∧ u.SignalsTo t)
     ∧ (∀ k n, k < 4 → n < 512 →
       ∃ t, exec (.take dt k n) s = .next t ∧ (t.core k).takeInfo = (u.sourceOf n).takeInfo n ∧ (t.core k).takeFirst = (u.sourceOf n).first
         ∧ (t.core k).takeLast = (u.sourceOf n).last ∧ (t.sourceOf n).pend = false ∧ (t.sourceOf n).count = 0
         ∧ (∀ x, x ≠ n → t.sourceOf x = u.sourceOf x) ∧ t = { u with cores := t.cores, intr := t.intr })
     ∧ (∀ w mask, w < 8 →
       ∃ t, exec (.pendClear dt w mask) s = .next t ∧ t = { u with intr := t.intr }
         ∧ ∀ n, t.pend n = (u.pend n && !(n / 64 == w && mask.testBit (n % 64))) ∧ (t.sourceOf n).count = (u.sourceOf n).count)
     ∧ (∀ k n, k < 4 → (u.core k).running = true → u.nextSource k = some n →
       ∃ t, exec (.interruptDelivery dt k) s = .next t ∧ t = { u with cores := t.cores }
         ∧ t.core k = (if cfgFast (u.config n)
             then { u.core k with service := (n, (u.core k).pc) :: (u.core k).service, inFast := true, fastPc := (u.core k).fastVec }
             else { u.core k with service := (n, (u.core k).pc) :: (u.core k).service, pc := (u.core k).normVec }))
     ∧ ∀ k n p l, k < 4 → n < 512 → (u.core k).service = (n, p) :: l →
       ∃ t, exec (.endHandler dt k n) s = .next t ∧ t = { u with cores := t.cores }
         ∧ t.core k = (if (u.core k).inFast then { u.core k with service := l, inFast := false } else { u.core k with service := l, pc := p })) ∧
  (∀ (dt : Nat) (s u : State), u = s.elapse dt → u.up = true →
     (∀ n, 448 ≤ n → n ≤ 511 → sourceDefined n = true →
       ∃ t, exec (.setSource dt n) s = .next t ∧ (t.sourceOf n).pend = true ∧ u.SignalsTo t)
     ∧ (∀ n, 480 ≤ n → n ≤ 511 → ∃ t, exec (.raiseSoftwareSource dt n) s = .next t ∧ (t.sourceOf n).pend = true ∧ u.SignalsTo t)
     ∧ (∀ v, v % 2 = 0 → exec (.modeWrite dt v) s = .next { u with intr := { u.intr with ordered := false, reason := 0 } })
     ∧ (∀ v, v % 2 = 1 → exec (.modeWrite dt v) s =
       .next (if u.intr.ordered then u else { u with intr := { u.intr with ordered := true, reason := 0 } }))
     ∧ ∀ val, ∃ t, exec (.sourceConfigWrite dt val) s = .next t
         ∧ (∀ n, n < 512 → t.config n = leNat (slice (fitBytes 1024 val) (2 * n) 2) &&& (if n < 32 then 0xFFE0 else 0xBFE0))
         ∧ t = { u with objs := t.objs, efyth := t.efyth, intr := { u.intr with config := t.intr.config } })

/-- O47. Counts of a performance counter of a bay, a stack or the reduce engine: without a wrap the value rises and nothing else changes;
the wrap of an unchained counter sets its overflow bit and raises the unit's source where irq is 1; an even counter with a chained
counter above it carries into that one, the pair holding hi × 2^48 + lo, and its own wrap sets and raises nothing; a chained counter
does not count its own event. -/
def Obligations.CounterPairsCarry : Prop :=
  ∀ (s : State) (u k n : Nat), u < 81 → k < unitCounters u → n ≤ 2 ^ 48 → s.perfValue u k < 2 ^ 48 →
    let chained := k % 2 = 0 ∧ (s.perfConfig u (k + 1)).testBit 49 = true ∧ (s.perfConfig u (k + 1)).testBit 48 = true
    let t := s.addCounter u k n
    let overs := fun j => Assoc.get 0 t.perf.overflow u = Assoc.get 0 s.perf.overflow u ||| 2 ^ j
      ∧ ((s.perfConfig u j).testBit 31 = true → (t.sourceOf (352 + u)).pend = true)
      ∧ ((s.perfConfig u j).testBit 31 = false → t.intr = s.intr)
    (s.perfValue u k + n < 2 ^ 48 → t = s.setPerfValue u k (s.perfValue u k + n))
    ∧ (¬ chained → 2 ^ 48 ≤ s.perfValue u k + n → t.perfValue u k = s.perfValue u k + n - 2 ^ 48 ∧ overs k)
    ∧ (chained → s.perfValue u (k + 1) < 2 ^ 48 →
        (t.perfValue u (k + 1) * 2 ^ 48 + t.perfValue u k) % 2 ^ 96
          = (s.perfValue u (k + 1) * 2 ^ 48 + s.perfValue u k + n) % 2 ^ 96
        ∧ (s.perfValue u (k + 1) * 2 ^ 48 + s.perfValue u k + n < 2 ^ 96 → t = { s with perf := { s.perf with values := t.perf.values } })
        ∧ (2 ^ 96 ≤ s.perfValue u (k + 1) * 2 ^ 48 + s.perfValue u k + n → overs (k + 1)))
    ∧ ∀ w ev c, w.testBit 49 = true → perfCounts w ev c = false


/-- O48. A performance counter at its highest value that counts, with no chained counter above, reads 0, latches its overflow bit and raises
its source where configured; a reset clears every value; a bandwidth window's end writes the record of each port. Sampling: a run whose
trace unit is free starts with an empty buffer, and stops; every Nth occurrence of the event it watches is recorded where the bay's last
record is old enough and the ring has room; a read mark frees what it passed; a copy writes the unread records to the staging area. So
counterWrap, counterReset, bandwidthWindowEnd, samplingStart, samplingStop, sampleRecord, readMarkWrite and samplingCopy complete. -/
def Obligations.CountersAndSamples : Prop :=
  (∀ (dt : Nat) (s u : State), u = s.elapse dt → u.up = true →
     (∀ n k, n < 81 → k < unitCounters n → (u.perfConfig n k).testBit 48 = true → (u.perfConfig n k).testBit 49 = false →
       bits (u.perfConfig n k) 47 32 ≠ 0 → k % 2 = 1 ∨ (u.perfConfig n (k + 1)).testBit 49 = false ∨ (u.perfConfig n (k + 1)).testBit 48 = false →
       ∃ t, exec (.counterWrap dt n k) s = .next t ∧ t.perfValue n k = 0
         ∧ Assoc.get 0 t.perf.overflow n = Assoc.get 0 u.perf.overflow n ||| 2 ^ k
         ∧ ((u.perfConfig n k).testBit 31 = true → (t.sourceOf (352 + n)).pend = true) ∧ u.SignalsTo t)
     ∧ exec (.counterReset dt 1) s = .next { u with perf := { u.perf with values := [], overflow := [], lost := [] } }
     ∧ ∀ traffic, u.perf.windowOn = true → u.stamp % u.windowUnits = 0 → u.perf.windowFrom + u.windowUnits ≤ u.stamp →
       ∃ t, exec (.bandwidthWindowEnd dt traffic) s = .next t ∧ u.SignalsTo t
         ∧ ∀ i, i < 89 → Assoc.get (zeroBytes 32) t.perf.windows i = windowRec u.stamp (nth (0, 0) traffic i)) ∧
  (∀ (dt n : Nat) (s u : State), u = s.elapse dt → u.up = true →
     (u.selectedRun = n → (u.samplingRun n).state ≠ 1 → (u.resUnit (n + 1)).holder = none →
       ∃ t, exec (.samplingStart dt) s = .next t ∧ (t.samplingRun n) = { (u.samplingRun n).empty with state := 1 }
         ∧ t = { u with res := t.res, resOrder := t.resOrder, perf := t.perf })
     ∧ (u.selectedRun = n →
       ∃ t, exec (.samplingStop dt) s = .next t ∧ t.samplingRun n = { u.samplingRun n with state := 0 }
         ∧ t = { u with res := t.res, perf := t.perf })
     ∧ (∀ o : Occurrence, o.bay < 64 → n = o.bay / 32 → (u.samplingRun n).state = 1 → o.event ≠ 0 → runEvent (u.samplingRun n).config = o.event →
       runFilter (u.samplingRun n).config = false → Assoc.get 0 (u.samplingRun n).counts o.bay + 1 = runPeriod (u.samplingRun n).config →
       u.recentSample (u.samplingRun n) o.bay = false → (u.samplingRun n).unread < 65536 →
       ∃ t, exec (.sampleRecord dt o) s = .next t ∧ (t.samplingRun n).unread = (u.samplingRun n).unread + 1
         ∧ Assoc.get (zeroBytes 64) (t.samplingRun n).records (u.samplingRun n).writeIndex
             = u.sampleBytes o ((u.samplingRun n).recSeq % 2 ^ 32)
         ∧ (t.samplingRun n).writeIndex = ((u.samplingRun n).writeIndex + 1) % 65536
         ∧ t.cnt 0x5110 1 = min (u.cnt 0x5110 1 + 1) (2 ^ 64 - 1) ∧ u.SignalsTo t)
     ∧ (∀ v, u.selectedRun = n → v < 65536 →
       ∃ t, exec (.readMarkWrite dt v) s = .next t ∧ t.samplingRun n = { u.samplingRun n with
           readMark := v, unread := ((u.samplingRun n).writeIndex + 65536 - v) % 65536, armed437 := true }
         ∧ t = { u with perf := t.perf })
     ∧ exec (.samplingCopy dt) s =
       .next (u.writeBytes stagingBase (((u.samplingRun u.selectedRun).unreadRecords.flatMap id).take u.stagingBytes)))

/-! ### Power -/

/-- O49. A ledger window joins the windows, newest first, and adds its energy to the package's, idle's and ballast's accounts; a current
reading sets the rail's current and starts a new 10 µs sum, a failed one counts, and 16 in a row freeze the rail; the governor's value
follows the mean work within its bounds. The band falls by a step of 25 MHz while the work exceeds 1.02 times the governor's value or
the package its rated power, down to 1,050 MHz, and rises by one at most each 100 µs while a step's power still fits; ballast off leaves
no bay with it, and ballast on takes the first bays of its order. So ledgerWindow, avsCurrentRead, governorUpdate, bandCheck and
ballastUpdate complete. -/
def Obligations.PowerIsGoverned : Prop :=
  (∀ (dt : Nat) (s u : State), u = s.elapse dt → u.up = true →
     (∀ est total, total = sumOf (u.shares est) (fun _ => true) →
       ∃ t, exec (.ledgerWindow dt est) s = .next t ∧ t.power.windows = (total * 1000 :: u.power.windows).take 1000
         ∧ t.power.ePackage = u.power.ePackage + total
         ∧ t.power.eIdle = u.power.eIdle + sumOf (u.shares est) (· == idleAccount)
         ∧ t.power.eBallast = u.power.eBallast + sumOf (u.shares est) (· == ballastAccount) ∧ t.mem = u.mem)
     ∧ (∀ d, d < 4 →
       ∃ t, exec (.avsCurrentRead dt d none) s = .next t ∧ (t.die d).failRun = (u.die d).failRun + 1
         ∧ t.cnt 0x6040 10 = min (u.cnt 0x6040 10 + 1) (2 ^ 64 - 1) ∧ (15 ≤ (u.die d).failRun → (t.die d).frozen = true)
         ∧ ({ u with dies := t.dies } : State).SignalsTo t)
     ∧ (∀ d raw, d < 4 → (u.die d).frozen = false →
       ∃ t, exec (.avsCurrentRead dt d (some raw)) s = .next t ∧ (t.die d).failRun = 0 ∧ (t.die d).beam10 = 0
         ∧ (t.die d).current = (frat (u.num 0x6111 (d + 1)) * (raw : Nat) + (toSigned 32 (u.num 0x6111 (d + 5)) : Int) : Rat).floor.toNat
         ∧ 4 / 5 ≤ (t.die d).kCorr ∧ (t.die d).kCorr ≤ 5 / 4 ∧ t = { u with dies := t.dies, freeCtr := t.freeCtr })
     ∧ ∃ t, exec (.governorUpdate dt) s = .next t ∧ t.power.g ≤ u.govPower ∧ t = { u with power := { u.power with g := t.power.g } }
         ∧ (u.num 0x6011 3 = 0 → u.num 0x6011 4 = 0 → t.power.g = min (max u.meanWork 0) u.govPower)
         ∧ (u.num 0x6011 3 = 0 → u.num 0x6011 4 ≠ 0 → t.power.g = min (max u.meanWork ((u.num 0x6011 2 : Nat) : Rat)) u.govPower)) ∧
  (∀ (dt n : Nat) (s u : State) (top : Rat), u = s.elapse dt → u.up = true → top = u.power.g * 51 / 50 →
     ((top < u.meanWork ∧ top < u.work10) ∨ ((u.num 0x6011 1 : Nat) : Rat) < u.mean1ms → 1050 < u.power.band →
       ∃ t, exec (.bandCheck dt n) s = .next t ∧ t.power = { u.power with band := u.power.band - 25 }
         ∧ t.cnt 0x6040 1 = min (u.cnt 0x6040 1 + 1) (2 ^ 64 - 1)
         ∧ t = { u with objs := t.objs, bays := t.bays, dies := t.dies, power := t.power })
     ∧ ((top < u.meanWork ∧ top < u.work10) ∨ ((u.num 0x6011 1 : Nat) : Rat) < u.mean1ms → u.power.band ≤ 1050 →
       exec (.bandCheck dt n) s = .next (u.bump 0x6040 11))
     ∧ (u.mean1ms ≤ ((u.num 0x6011 1 : Nat) : Rat) → u.stamp % 400000 = 0 → u.power.band < 2100 → u.meanWork ≤ top →
         u.work10 + (n : Nat) / 1000 ≤ top →
       ∃ t, exec (.bandCheck dt n) s = .next t ∧ t.power = { u.power with band := u.power.band + 25 }
         ∧ t = { u with dies := t.dies, power := t.power })
     ∧ (u.num 0x6011 4 = 0 → exec (.ballastUpdate dt n) s = .next u.stopBallast)
     ∧ (u.num 0x6011 4 ≠ 0 → u.clipReasons = 0 → n ≠ 0 →
       ∃ t, exec (.ballastUpdate dt n) s = .next t ∧ t = { u with bays := t.bays }
         ∧ ∀ b ∈ u.ballastBays.take ((u.power.g - u.work10) / ((n : Nat) / 1000) + 1 / 2 : Rat).floor.toNat,
             (t.bay b).ballast = true ∧ (t.bay b).power = 0))

/-- O50. Temperatures: a sample sets every junction, and edge junctions of 105 °C or more enter a warm reset with cause 0x0503; a clock
rises once its voltage has settled; a trip gates its die and enters shed; a die tripped for 100 ms resets. So junctionSample,
clockRaiseAfterSettle, thermalTrip and tripHoldTimeout complete. -/
def Obligations.ThermalLimitsAct : Prop :=
  ∀ (dt : Nat) (s u : State), u = s.elapse dt → u.up = true →
    (∀ (raw : List Int) (tj : Nat → Int), tj = (fun i => nth 0 raw i + toSigned 32 (u.num 0x6110 (i + 1))) →
      ∃ t, exec (.junctionSample dt raw) s = .next t
        ∧ (tj 4 < 105000 → tj 5 < 105000 → (∀ d, d < 4 → (t.die d).junction = tj d) ∧ t.power.edge0 = tj 4 ∧ t.power.edge1 = tj 5
            ∧ t.mem = u.mem)
        ∧ (105000 ≤ tj 4 ∨ 105000 ≤ tj 5 → t.boot.phase = .warmBoot ∧ t.cnt 0x7101 2 = 0x0503))
    ∧ (∀ d, d < 4 → (u.die d).settle = true →
      exec (.clockRaiseAfterSettle dt d) s = .next (u.setDie d { u.die d with clock := u.dieLimit d, settle := false }))
    ∧ (∀ d, d < 4 → (u.die d).gated = false →
      ∃ t, exec (.thermalTrip dt d) s = .next t ∧ (t.die d).gated = true ∧ (t.die d).tripped = true ∧ (t.die d).tripSince = u.stamp
        ∧ tripCause d ∈ t.power.shedCauses ∧ t.cnt 0x6040 4 = min (u.cnt 0x6040 4 + 1) (2 ^ 64 - 1) ∧ (t.sourceOf 2).pend = true
        ∧ t.mem = u.mem)
    ∧ ∀ d, d < 4 → (u.die d).tripped = true → (u.die d).tripSince + 100 * ms ≤ u.stamp → u.dieReset d = false →
      ∃ t, exec (.tripHoldTimeout dt d) s = .next t ∧ (t.die d).inReset = true ∧ (t.die d).voltage = 600

/-- O51. Shed: SHED_N low enters it from any phase but cold reset, with source 3; SHED_N high takes that cause away; once it is high
and no internal cause has stood for 10 ms, shed ends and the governor restarts at the mean work. Regulators and power-good: an alert
raises source 4 and is counted, and does what its status says; its end takes over-current, over-temperature and the under-voltage cause
away; the loss of a beam die's power-good resets the die with source 5, that of the SoC's enters cold reset with cause 0x0712; seconds
above 0.80 V are added to the wear of each die. So shedNAssert, shedNDeassert, shedEnd, vrAlert, vrAlertDeassert, pgBeamLoss,
pgSocLoss and wearCommit complete. -/
def Obligations.ShedAndRegulators : Prop :=
  (∀ (dt : Nat) (s u : State), u = s.elapse dt →
     (u.boot.phase ≠ .coldReset → u.power.shedPin = false →
       ∃ t, exec (.shedNAssert dt) s = .next t ∧ t.pins.shedN = false ∧ t.power.shed = true ∧ t.power.shedPin = true
         ∧ t.cnt 0x6040 5 = min (u.cnt 0x6040 5 + 1) (2 ^ 64 - 1) ∧ (t.sourceOf 3).pend = true ∧ t.mem = u.mem)
     ∧ (u.boot.phase = .coldReset →
       exec (.shedNAssert dt) s = .next { u with pins := { u.pins with shedN := false } })
     ∧ exec (.shedNDeassert dt) s = .next { u with
         pins := { u.pins with shedN := true }, power := { u.power with shedPin := false } }
     ∧ (u.up = true → u.power.shed = true → u.power.shedPin = false → u.power.shedCauses = [] → u.power.shedClearSince + 10 * ms ≤ u.stamp →
       ∃ t, exec (.shedEnd dt) s = .next t ∧ t.power.shed = false ∧ t.power.shedL3 = false ∧ t.power.g = u.meanWork ∧ t.mem = u.mem)) ∧
  (∀ (dt : Nat) (s u : State), u = s.elapse dt →
     (∀ st, u.up = true →
       ∃ t, exec (.vrAlert dt st) s = .next t ∧ t.pins.vrAlertN = false ∧ (t.sourceOf 4).pend = true
         ∧ t.cnt 0x6040 8 = min (u.cnt 0x6040 8 + 1) (2 ^ 64 - 1) ∧ t.mem = u.mem
         ∧ (st = .overCurrent → t.power.vrOver = true)
         ∧ (∀ d, st = .overTemperature d → d ∈ t.power.vrDies)
         ∧ (st = .underVoltage → 2 ∈ t.power.shedCauses))
     ∧ (∃ t, exec (.vrAlertDeassert dt) s = .next t ∧ t.pins = { u.pins with vrAlertN := true } ∧ t.power.vrOver = false
         ∧ t.power.vrDies = [] ∧ 2 ∉ t.power.shedCauses ∧ t = { u with pins := t.pins, power := t.power })
     ∧ (∀ d, d < 4 → u.up = true → u.dieReset d = false →
       ∃ t, exec (.pgBeamLoss dt d) s = .next t ∧ t.pins.pgBeam = u.pins.pgBeam.set d false ∧ (t.die d).inReset = true
         ∧ (t.sourceOf 5).pend = true ∧ t.cnt 0x6040 9 = min (u.cnt 0x6040 9 + 1) (2 ^ 64 - 1))
     ∧ (u.boot.phase ≠ .coldReset →
       ∃ t, exec (.pgSocLoss dt) s = .next t ∧ t.boot.phase = .coldReset ∧ t.cnt 0x7101 2 = 0x0712 ∧ t.pins.pgSoc = false ∧ t.mem = []
         ∧ t.ctxs = [] ∧ t.pending = u.pending)
     ∧ (∀ l, u.up = true →
       ∃ t, exec (.wearCommit dt l) s = .next t ∧ t.mem = u.mem ∧ ∀ d, d < 4 → (t.die d).wearSeconds = (u.die d).wearSeconds + nth 0 l d))

/-- O52. Power states: an idle bay enters P1; a bay in P1 that nothing holds enters P2 and loses its bench, and only its; a waking unit is
in P0 when its wake completes; device P2 is refused with 0x0501 or puts every bay into P2; P3 leaves the always-on domain; a wake starts
from either; P2 comes by itself where object 0x6003.05 says so. So bayIdleGate, baySleep, bayWakeComplete, deviceP2Request,
deviceP3Request, deviceWakeRequest and autoP2Timeout complete. -/
def Obligations.PowerStatesChange : Prop :=
  ∀ (dt : Nat) (s u : State), u = s.elapse dt →
    (∀ b, u.up = true → b < 64 → (u.bay b).power = 0 → (u.bay b).ballast = false → (u.bay b).waking = false → u.bayWork b = false →
      exec (.bayIdleGate dt b) s = .next (u.setBay b { u.bay b with power := 1, idleSince := u.stamp }))
    ∧ (∀ b, u.up = true → b < 64 → (u.bay b).power = 1 → u.ctxs.any (fun e => e.2.grantedOn b) = false →
        (u.bay b).idleSince + u.num 0x6003 4 * us ≤ u.stamp → u.heldAwake b = false → u.num 0x6011 4 = 0 ∨ u.num 0x6011 2 = 0 →
      ∃ t, exec (.baySleep dt b) s = .next t ∧ (t.bay b).power = 2 ∧ t = { u with mem := t.mem, bays := t.bays }
        ∧ ∀ a, t.byte a = if a / benchBytes = b ∧ a < benchEnd then 0 else u.byte a)
    ∧ (∀ b, u.up = true → (u.bay b).waking = true →
      exec (.bayWakeComplete dt (some b)) s = .next (u.setBay b { u.bay b with power := 0, waking := false, idleSince := u.stamp }))
    ∧ (u.up = true → u.power.waking = true →
      exec (.bayWakeComplete dt none) s = .next { u with power := { u.power with device := 0, waking := false } })
    ∧ (u.up = true → u.p2Refused = true → exec (.deviceP2Request dt) s = .next (u.setCnt 0x6003 3 0x0501))
    ∧ (u.up = true → u.p2Refused = false →
      ∃ t, exec (.deviceP2Request dt) s = .next t ∧ t.power.device = 2 ∧ t.cnt 0x6003 3 = 0 ∧ (∀ b, b < 64 → (t.bay b).power = 2)
        ∧ ∀ a, t.byte a = if a < benchEnd then 0 else u.byte a)
    ∧ (u.up = true → ∃ t, exec (.deviceP3Request dt) s = .next t ∧ t.power.device = 3 ∧ t.boot.phase = .p3 ∧ t.ctxs = [] ∧ t.sessions = [])
    ∧ (u.up = true → u.power.device = 2 →
      ∃ t, exec (.deviceWakeRequest dt) s = .next t ∧ t.power = { u.power with waking := true } ∧ t.cnt 0x6003 3 = 0
        ∧ t = { u with objs := t.objs, power := t.power })
    ∧ (u.boot.phase = .p3 →
      ∃ t, exec (.deviceWakeRequest dt) s = .next t ∧ t.boot = { u.boot with phase := .warmBoot } ∧ t.cnt 0x7101 2 = 0x0714
        ∧ t = { u with objs := t.objs, boot := t.boot, intr := { u.intr with config := [], ordered := true, reason := 1 } })
    ∧ (u.up = true → u.num 0x6003 5 = 1 → u.power.device = 0 → u.power.noResidentSince + u.num 0x6003 6 * ms ≤ u.stamp →
        u.p2Refused = false →
      ∃ t, exec (.autoP2Timeout dt) s = .next t ∧ t.power.device = 2 ∧ ∀ b, b < 64 → (t.bay b).power = 2)

/-! ### Faults and recovery -/

/-- O53. A request for a free shared resource, or for a timer of the pool while one is free, is granted at once: the unit is held from now
on by its asker at its level, and nothing else changes. -/
def Obligations.FreeUnitsAreGranted : Prop :=
  (∀ (n level : Nat) (a : Asker) (s : State), (s.resUnit n).holder = none →
      ∃ t h, s.requestUnit n a level = (t, 0) ∧ (t.resUnit n).holder = some h ∧ h.asker = a ∧ h.level = level ∧ h.stamp = s.stamp
        ∧ t = { s with res := t.res, resOrder := t.resOrder })
  ∧ ∀ (level : Nat) (a : Asker) (s : State), (∃ n ∈ timerUnits, (s.resUnit n).holder = none) →
      ∃ t n h, s.requestTimer a level = (t, some n, 0) ∧ (s.resUnit n).holder = none ∧ (t.resUnit n).holder = some h ∧ h.asker = a
        ∧ h.level = level ∧ h.stamp = s.stamp ∧ t = { s with res := t.res, resOrder := t.resOrder }

/-- O54. An engine that has held a command for the hang time is counted and its unit is reset: a bay for a bay engine, a beam die for a
scarf engine, the device for the reduce engine. A quarantine over its limit passes to the next suspect. The heartbeat restarts the
watchdog and leaves for the fault manager; a watchdog that runs out signals source 0, whose handler, where it can run, enters a warm
reset; where it cannot, the grace's end does. A firmware fault enters a warm reset with cause 0x0708: a failed check, an error in
firmware memory, or an access of a management core that Table 1-6 refuses; one that it allows is none. So hangDetected,
quarantineLimit, heartbeatKick, watchdogExpiry, watchdogGraceExpiry and firmwareFault complete. -/
def Obligations.HangsAndWatchdog : Prop :=
  (∀ (dt : Nat) (s u : State), u = s.elapse dt → u.up = true →
     (∀ e n, u.hangStamp e = some n → n ≤ u.stamp → u.engineLive e = true →
       ∃ t, exec (.hangDetected dt e) s = .next t
         ∧ (e < 256 → (t.bay (e / 4)).inReset = true ∧ (t.engine e).running = none)
         ∧ (256 ≤ e → e < 272 → (t.die ((e - 256) / 4)).inReset = true ∧ (t.engine e).running = none)
         ∧ (272 ≤ e → t.boot.phase = .warmBoot ∧ t.cnt 0x7101 2 = 0x0705 ∧ t.engines = []))
     ∧ ∀ b c d l, (u.bay b).qCurrent = some c → (u.bay b).qActive = true → (u.bay b).qOrder = d :: l →
         (u.bay b).qSince + u.num 0x7006 2 * ms ≤ u.stamp →
       ∃ t, exec (.quarantineLimit dt b) s = .next t ∧ (t.bay b).qCurrent = some d ∧ (t.bay b).qOrder = l ∧ (t.bay b).qSince = u.stamp
         ∧ t.mem = u.mem) ∧
  (∀ (dt : Nat) (s u : State), u = s.elapse dt → u.up = true →
     (∃ t, exec (.heartbeatKick dt) s = .next t ∧ t.fault = { u.fault with lastKick := u.stamp, watchdogOn := true, expired := none }
         ∧ t.cnt 0x7005 4 = (u.cnt 0x7005 4 + 1) % 2 ^ 32
         ∧ (let h : EfythHdr := { EfythHdr.zero with
              seq := u.cnt 0x7005 4 % 65536, device := u.deviceId, length := u.heartbeatBytes.length, stamp := u.stamp }
            t.sent = u.sent ++ [.efyth u.boot.fuses.macMgmt u.recoveryMac 5 h (efythBytes 5 h u.heartbeatBytes) 1])
         ∧ t = { u with objs := t.objs, sent := t.sent, fault := t.fault })
     ∧ (u.fault.watchdogOn = true → u.fault.expired = none → u.fault.lastKick + u.num 0x7005 2 * u.num 0x7005 1 * ms ≤ u.stamp →
       ∃ t, exec (.watchdogExpiry dt) s = .next t ∧ (t.sourceOf 0).pend = true
         ∧ (u.fastReady = false → t.fault.expired = some u.stamp ∧ t.cnt 0x7010 5 = min (u.cnt 0x7010 5 + 1) (2 ^ 64 - 1) ∧ t.mem = u.mem)
         ∧ (u.fastReady = true → t.boot.phase = .warmBoot ∧ t.cnt 0x7101 2 = 0x0706))
     ∧ (∀ n, u.fault.expired = some n → n + u.num 0x7005 3 * ms ≤ u.stamp →
       ∃ t, exec (.watchdogGraceExpiry dt) s = .next t ∧ t.boot.phase = .warmBoot ∧ t.cnt 0x7101 2 = 0x0706)
     ∧ (∀ k, (∀ a n w, k = .access a n w → u.accessCode .mgmt 0 a n w ≠ 0) →
       ∃ t, exec (.firmwareFault dt k) s = .next t ∧ t.boot.phase = .warmBoot ∧ t.cnt 0x7101 2 = 0x0708)
     ∧ ∀ a n w, u.accessCode .mgmt 0 a n w = 0 → exec (.firmwareFault dt (.access a n w)) s = .next u)

/-- O55. Resets: of a bay, whose bench is lost; of a beam die; of a host port, a purlin port or a rafter link, which goes Down; a warm reset
closes every context and session, empties the engines and loses every bench; a cold reset leaves the state of cold reset, with nothing
in memory. A reset's completion brings its unit back; after a warm reset a good image in the flash runs. So bayReset, beamDieReset,
edgeLinkReset, warmReset, coldReset and resetComplete complete. -/
def Obligations.ResetsBeginAndEnd : Prop :=
  ∀ (dt : Nat) (s u : State), u = s.elapse dt →
    (∀ b, u.up = true → b < 64 → u.benchInReset b = false →
      ∃ t, exec (.bayReset dt b) s = .next t ∧ (t.bay b).inReset = true ∧ ∀ a, a / benchBytes = b → a < benchEnd → t.byte a = 0)
    ∧ (∀ d, u.up = true → d < 4 → u.dieReset d = false → ∃ t, exec (.beamDieReset dt d) s = .next t ∧ (t.die d).inReset = true)
    ∧ (∀ i, u.up = true →
      ∃ t, exec (.edgeLinkReset dt i) s = .next t
        ∧ (i < 2 → Assoc.get 0 u.hostPorts i ≠ 3 → Assoc.get 0 t.hostPorts i = 0)
        ∧ (2 ≤ i → i < 18 → Assoc.get 0 u.ports (i - 2) ≠ 3 → Assoc.get 0 t.ports (i - 2) = 0)
        ∧ (18 ≤ i → i < 50 → (u.link (i - 18)).state ≠ 0 → (u.link (i - 18)).state ≠ 8 → (u.link (i - 18)).lent = [] →
            (t.link (i - 18)).state = 0))
    ∧ (u.up = true →
      ∃ t, exec (.warmReset dt) s = .next t ∧ t.boot.phase = .warmBoot ∧ t.cnt 0x7101 2 = 0x0710 ∧ t.cnt 0x7101 3 = u.stamp ∧ t.ctxs = []
        ∧ t.sessions = [] ∧ t.engines = [] ∧ ∀ a, a < benchEnd → t.byte a = 0)
    ∧ (u.up = true →
      ∃ t, exec (.coldReset dt) s = .next t ∧ t.boot.phase = .coldReset ∧ t.cnt 0x7101 2 = 0x0710 ∧ t.mem = [] ∧ t.stamp = 0 ∧ t.ctxs = []
        ∧ t.boot.fuses = u.boot.fuses ∧ t.boot.flash = u.boot.flash)
    ∧ (∀ b p, u.up = true → (u.bay b).inReset = true →
      ∃ t, exec (.resetComplete dt 1 b p) s = .next t ∧ (t.bay b).inReset = false ∧ t.pending = u.pending)
    ∧ (∀ d p, u.up = true → (u.die d).inReset = true →
      ∃ t, exec (.resetComplete dt 2 d p) s = .next t ∧ (t.die d).inReset = false)
    ∧ (∀ n p, u.boot.phase = .warmBoot → u.dumpWaits = false →
      ∃ t, exec (.resetComplete dt 4 n p) s = .next t
        ∧ t.boot.phase = (if checkImage u.boot.fuses u.boot.flash = 0 then .running else .recovery))

/-- O56. Crash dumps: one starts unless one runs; sealed, its source pends; a kept one is copied to the staging area. The write of FATAL_ACK
clears the fatal bit; health comes back one point each 36 s; the admission state is as written; a self-test that is not refused runs in
ordered delivery, and its end takes the failed bays out of service, says whether it passed and, with no dump running, ends ordered
delivery. So crashDumpStart, crashDumpSealed, crashDumpCopy, fatalAck, healthRestoreTick, admissionStateWrite, selfTestStart and selfTestComplete complete. -/
def Obligations.DumpsAndTestsRun : Prop :=
  ∀ (dt : Nat) (s u : State), u = s.elapse dt →
    (u.up = true → u.fault.dumping = none →
      ∃ t, exec (.crashDumpStart dt) s = .next t ∧ t.fault.dumping = some u.stamp ∧ t.fault.dumpWritten = true ∧ t.intr.ordered = true
        ∧ t.mem = u.mem)
    ∧ (∀ b, u.fault.dumping.isSome = true →
      ∃ t, exec (.crashDumpSealed dt b) s = .next t ∧ t.fault.dumping = none ∧ (t.sourceOf 452).pend = true)
    ∧ (∀ n o, u.up = true → n < 4 → u.fault.dumps[n]? = some o →
      exec (.crashDumpCopy dt n) s = .next (u.coreWrite stagingBase
        ((((u.object o).pages.flatMap (fun p => u.readBytes (sillPageAddr p) pageBytes)).take (u.object o).length).take u.stagingBytes)))
    ∧ (u.up = true → ∃ t, exec (.fatalAck dt 1) s = .next t ∧ t.fault = { u.fault with fatalUnacked := false }
        ∧ t = { u with fault := t.fault, res := t.res })
    ∧ (u.fault.transient ≠ 0 → u.fault.lastRestore + 36 * sec ≤ u.stamp →
      ∃ t, exec (.healthRestoreTick dt) s = .next t ∧ t.fault.transient = u.fault.transient - 1
        ∧ t.fault.lastRestore = u.fault.lastRestore + 36 * sec ∧ t.mem = u.mem)
    ∧ (∀ v, u.up = true → v < 2 → ∃ t, exec (.admissionStateWrite dt v) s = .next t ∧ t.num 0x7103 1 = v
        ∧ t = { u with objs := t.objs, efyth := t.efyth })
    ∧ (u.up = true → u.fault.selfTest ≠ 1 →
      ∃ t, exec (.selfTestStart dt) s = .next t ∧ t.mem = u.mem
        ∧ (u.testRefused = true → t.fault.selfTest = 4 ∧ t.cnt 0x7104 2 = 4)
        ∧ (u.testRefused = false → t.fault.selfTest = 1 ∧ t.cnt 0x7104 2 = 1 ∧ t.intr.ordered = true))
    ∧ (∀ bays hbms sills paths pages, u.up = true → u.fault.selfTest = 1 →
      ∃ t, exec (.selfTestComplete dt bays hbms sills paths pages) s = .next t
        ∧ t.fault.selfTest = (if bays.isEmpty && hbms.isEmpty && paths.isEmpty then 2 else 3)
        ∧ (∀ b ∈ bays, b < 64 → (t.bay b).out = true) ∧ (u.fault.dumping = none → t.intr.ordered = false) ∧ (t.sourceOf 451).pend = true)

/-! ### Boot, firmware, security, pins -/

/-- O57. A cold boot counts, samples straps, fuses and flash, and runs a good image; a failed start-up test stops it, strap 2 holds it. In
the hold, BOOT_CTL boots from the flash or starts a recovery fetch. A fetch takes bytes of its window, and requests again on a time-out
and after a restart. So coldBoot, bootCtlUpdate, recoveryData, recoveryWindowTimeout and recoveryFetchRestart complete. -/
def Obligations.BootRuns : Prop :=
  ∀ (dt : Nat) (s u : State), u = s.elapse dt →
    (∀ env : BootEnv, u.boot.phase = .coldReset → env.powered = true → u.pins.refLost = false →
      ∃ t, exec (.coldBoot dt env) s = .next t ∧ t.boot.coldResets = (u.boot.coldResets + 1) % 2 ^ 32
        ∧ t.boot.fuses = env.fuses.getD u.boot.fuses ∧ t.pins.resetN = true
        ∧ (env.rngPass = false → t.boot.phase = .rngStopped ∧ t.boot.rngBad = true)
        ∧ (env.rngPass = true → bits env.straps 4 3 = 2 → t.boot.phase = .hold)
        ∧ (env.rngPass = true → bits env.straps 4 3 = 1 → t.boot.phase = .recovery ∧ t.boot.source = 2)
        ∧ (env.rngPass = true → bits env.straps 4 3 = 0 →
            checkImage (env.fuses.getD u.boot.fuses) (env.flash.getD u.boot.flash) = 0 →
            t.boot.phase = .running ∧ t.boot.image = env.flash.getD u.boot.flash
              ∧ ∀ c, c < env.epochDraws.length → c < 4096 → t.epoch c = nth 0 env.epochDraws c % 65536))
    ∧ (∀ v p, u.boot.phase = .hold →
      ∃ t, exec (.bootCtlUpdate dt v p) s = .next t
        ∧ (v % 4 = 1 → t.boot.phase = (if checkImage u.boot.fuses u.boot.flash = 0 then .running else .recovery))
        ∧ (v % 4 = 2 → t.boot.phase = .recovery)
        ∧ (v % 4 = 0 ∨ v % 4 = 3 → t = u))
    ∧ (∀ m : EfythMsg, u.fetchTakes m = true →
        let b : Boot := { u.boot with
          fetched := putAt u.boot.fetched m.hdr.offset m.payload,
          got := u.boot.got ++ [(m.hdr.offset - u.boot.window, m.hdr.offset - u.boot.window + m.payload.length)] }
        b.windowDone = false → exec (.recoveryData dt m) s = .next { (u.bump 0x1106 1) with boot := b })
    ∧ (u.fetching = true → u.boot.requestStamp + (if u.boot.requests ≤ 30 then 2 else 10) * sec ≤ u.stamp →
      ∃ t, exec (.recoveryWindowTimeout dt) s = .next t
        ∧ t.boot = { u.boot with requests := u.boot.requests + 1, requestStamp := u.stamp } ∧ t.mem = u.mem)
    ∧ (u.boot.phase = .recovery → u.boot.restartWait = true → u.boot.requestStamp + sec ≤ u.stamp →
      ∃ t, exec (.recoveryFetchRestart dt) s = .next t
        ∧ t.boot = { u.boot with restartWait := false, requests := u.boot.requests + 1, requestStamp := u.stamp } ∧ t.mem = u.mem)

/-- O58. While no update runs, a firmware image from the staging area that passes the checks and reads back is in the flash, with source 450;
one that fails a check is not, and its code stands in object 0x7802.04. An update from a station asks it for the image; the image's last
frame has it checked and programmed in the same way. The minimum security version rises to that of the running image and
never falls; the debug lock is for good. A quote over a nonce of 32 bytes is signed at once (its signature is a free value), or waits
while the random source has failed; after a wait of 10 ms it is refused with 0x0603; a source that passes again signs the quote that
waits. So firmwareUpdate, firmwareUpdateFetch, raiseMinSecurity, debugLockBlow, quote, rngHealthFail, randomWaitTimeout and
rngHealthPass complete. -/
def Obligations.FirmwareAndQuotes : Prop :=
  (∀ (dt : Nat) (s u : State), u = s.elapse dt → u.up = true →
     (∀ n img, u.boot.updateFrom = none → 4097 ≤ n → n ≤ 25165824 → img = u.readBytes stagingBase n →
       (checkImage u.boot.fuses img = 0 → ∃ t, exec (.firmwareUpdate dt n true) s = .next t ∧ t.boot = { u.boot with flash := img }
           ∧ t.cnt 0x7802 3 = 4 ∧ t.num 0x7802 5 = imageVersion img ∧ (t.sourceOf 450).pend = true ∧ t.mem = u.mem)
       ∧ (checkImage u.boot.fuses img ≠ 0 → ∃ t, exec (.firmwareUpdate dt n true) s = .next t
           ∧ t.cnt 0x7802 3 = 5 ∧ t.cnt 0x7802 4 = checkImage u.boot.fuses img ∧ t = { u with objs := t.objs }))
     ∧ (∀ mac left good, u.boot.updateFrom = none → mac < 2 ^ 48 →
       ∃ t, exec (.firmwareUpdateFetch dt mac left good) s = .next t ∧ t.cnt 0x7802 3 = 1 ∧ t.mem = u.mem
         ∧ t.boot = { u.boot.fetchFresh with
             updateFrom := some mac, updateBack := if good then none else some left, requests := 1, requestStamp := u.stamp }
         ∧ ∃ h p, t.sent = u.sent ++ [.efyth u.boot.fuses.macMgmt mac 6 h (efythBytes 6 h p) 4] ∧ h.offset = 0)
     ∧ (∀ mac img, u.boot.updateFrom = some mac → img = u.boot.fetched.take u.boot.imageLen → u.boot.updateBack = none →
       (checkImage u.boot.fuses img = 0 → u.fetchedImage.boot = { u.boot.fetchFresh with updateFrom := none, flash := img }
           ∧ u.fetchedImage.cnt 0x7802 3 = 4 ∧ (u.fetchedImage.sourceOf 450).pend = true ∧ u.fetchedImage.mem = u.mem)
       ∧ (checkImage u.boot.fuses img ≠ 0 → u.fetchedImage.cnt 0x7802 3 = 5 ∧ u.fetchedImage.cnt 0x7802 4 = checkImage u.boot.fuses img
           ∧ u.fetchedImage.boot.flash = u.boot.flash))
     ∧ (∃ t, exec (.raiseMinSecurity dt 1) s = .next t
         ∧ t.boot.fuses.minSecurity = max u.boot.fuses.minSecurity (min 64 (imageSecurity u.boot.image))
         ∧ t = { u with boot := { u.boot with fuses := { u.boot.fuses with minSecurity := t.boot.fuses.minSecurity } } })
     ∧ exec (.debugLockBlow dt 1) s = .next { u with boot := { u.boot with
         fuses := { u.boot.fuses with debugLock := true }, debugNext := false } }) ∧
  (∀ (dt : Nat) (s u : State), u = s.elapse dt → u.up = true →
     (∀ nonce, nonce.length = 32 → u.boot.rngWaitQuote = none →
       (u.boot.rngBad = false → ∃ t, exec (.quote dt nonce) s = .next t ∧ t.cnt 0x7820 3 = 0 ∧ t.freeCtr = u.freeCtr + 1
           ∧ t.obj 0x7820 2 = .blob (u.quoteBody nonce (u.boot.slots.flatMap id) ++ (Config.freeSignature u.freeCtr).toList)
           ∧ t = { u with objs := t.objs, freeCtr := t.freeCtr })
       ∧ (u.boot.rngBad = true → exec (.quote dt nonce) s = .next { u with boot := { u.boot with
           rngWaitQuote := some (u.stamp, nonce ++ u.boot.slots.flatMap id) } }))
     ∧ (∃ t, exec (.rngHealthFail dt) s = .next t ∧ t.boot = { u.boot with rngBad := true } ∧ (t.sourceOf 11).pend = true
         ∧ t.cnt 0x7830 2 = min (u.cnt 0x7830 2 + 1) (2 ^ 64 - 1) ∧ t.mem = u.mem)
     ∧ (∀ w, u.boot.rngWaitQuote = some w → u.boot.rngWaitOpens = [] → w.1 + 10 * ms ≤ u.stamp →
       ∃ t, exec (.randomWaitTimeout dt) s = .next t ∧ t.boot = { u.boot with rngWaitQuote := none } ∧ t.cnt 0x7820 3 = 0x0603
         ∧ t = { u with objs := t.objs, boot := t.boot })
     ∧ ∀ w draws, u.boot.rngWaitQuote = some w → u.boot.rngWaitOpens = [] →
       exec (.rngHealthPass dt draws) s = .next
         (({ u with boot := { u.boot with rngBad := false, rngWaitQuote := none } } : State).sign (w.2.take 32) (w.2.drop 32)))

/-- O59. A write of 33 bytes extends the slot that its first byte names, clamped to 4 to 7 and then counted: the slot takes SM3 over itself
and the 32 bytes after it; of two extends that wait, the first takes effect first. So extendSlot completes. -/
def Obligations.SlotsExtend : Prop :=
  (∀ (dt k : Nat) (x : List Byte) (s u : State), u = s.elapse dt → u.up = true → k < 256 → x.length = 32 →
      exec (.extendSlot dt (BitVec.ofNat 8 k :: x)) s = .next { (if clampNat k 4 7 = k then u else u.countClamp 0x7812) with
        boot := { u.boot with slots := u.boot.slots.set (clampNat k 4 7) (sm3 (nth (zeroBytes 32) u.boot.slots (clampNat k 4 7) ++ x)) } })
  ∧ ∀ (dt k : Nat) (x y : List Byte) (rest : List Instr) (s u : State), u = s.elapse dt → u.up = true → 4 ≤ k → k ≤ 7 →
      x.length = 32 → y.length = 32 → s.boot.slots.length = 8 →
      s.pending = .extendSlot dt (BitVec.ofNat 8 k :: x) :: .extendSlot 0 (BitVec.ofNat 8 k :: y) :: rest →
      ∃ t v, step s = .next t ∧ step t = .next v ∧ v.pending = rest
        ∧ nth (zeroBytes 32) v.boot.slots k = sm3 (sm3 (nth (zeroBytes 32) s.boot.slots k ++ x) ++ y)

/-- O60. RESET_N low enters cold reset with cause 0x0711; the loss of the reference clock holds the device in warm reset with cause 0x0502
and clock state 5, and its return boots it; a job signal takes its free pin; JTAG test mode enters ordered delivery; a free unit goes to
the waiter that is first; a die-to-die path that loses a lane takes a spare or is down for good. So resetNAssert, refclkLoss,
refclkRestored, jobSignalAssign, jtagTestModeEntry, resourceRearm and diePathLaneLoss complete. -/
def Obligations.PinsAct : Prop :=
  ∀ (dt : Nat) (s u : State), u = s.elapse dt →
    (u.boot.phase ≠ .coldReset →
      ∃ t, exec (.resetNAssert dt) s = .next t ∧ t.boot.phase = .coldReset ∧ t.cnt 0x7101 2 = 0x0711 ∧ t.pins = { Pins.reset with
          resetN := false, pgSoc := u.pins.pgSoc, pgBeam := u.pins.pgBeam, shedN := u.pins.shedN, vrAlertN := u.pins.vrAlertN,
          refLost := u.pins.refLost, jtagTest := u.pins.jtagTest } ∧ t.mem = [] ∧ t.pending = u.pending ∧ t.sent = u.sent)
    ∧ (u.boot.phase ≠ .coldReset → u.pins.refLost = false →
      ∃ t, exec (.refclkLoss dt) s = .next t ∧ t.boot.phase = .warmHold ∧ t.cnt 0x7101 2 = 0x0502 ∧ t.clock.state = 5
        ∧ t.pins.refLost = true ∧ (t.sourceOf 7).pend = true ∧ t.ctxs = [] ∧ ∀ a, a < benchEnd → t.byte a = 0)
    ∧ (u.boot.phase = .warmHold →
      ∃ t, exec (.refclkRestored dt) s = .next t ∧ t.pins = { u.pins with refLost := false }
        ∧ t.boot.phase = (if checkImage u.boot.fuses u.boot.flash = 0 then .running else .recovery))
    ∧ (∀ k v, u.up = true → k = 1 ∨ k = 2 → v = v &&& 0x81FF → (u.resUnit (201 + k)).holder = none →
      ∃ t, exec (.jobSignalAssign dt k v) s = .next t ∧ t.num 0x7F03 k = v
        ∧ (v.testBit 15 = true → ∃ h, (t.resUnit (201 + k)).holder = some h ∧ h.asker = .jobSignal)
        ∧ t = { u with objs := t.objs, efyth := t.efyth, res := t.res, resOrder := t.resOrder })
    ∧ exec (.jtagTestModeEntry dt) s = .next { u with
        pins := { u.pins with jtagTest := true }, intr := { u.intr with ordered := true, reason := 2 } }
    ∧ (∀ n w, u.up = true → (u.resUnit n).holder = none → u.firstWaiter n = some w →
      ∃ t h, exec (.resourceRearm dt n) s = .next t ∧ (t.resUnit n).holder = some h ∧ h.asker = w.1 ∧ h.level = w.2.1
        ∧ t = { u with res := t.res, resOrder := t.resOrder, perf := t.perf })
    ∧ (∀ p, u.up = true → p < 15 → u.cnt 0x2004 (p + 1) ≠ 2 →
      (exec (.diePathLaneLoss dt p true) s = .next (u.setCnt 0x2004 (p + 1) 1))
      ∧ ∃ t, exec (.diePathLaneLoss dt p false) s = .next t ∧ t.cnt 0x2004 (p + 1) = 2 ∧ (t.sourceOf 8).pend = true
          ∧ Assoc.get 0 t.fault.permanent (pathKey p) = 100 ∧ t.mem = u.mem)
end

