-- ==== Sys2Proof/Laws/Assoc.lean ====
section
/-! SUPPORT. Laws of the sparse arrays: what a read gives after each change, and that every change keeps the canonical form. -/

namespace Sys2Proof.Machine

variable {α : Type}

/-! ### Reads after changes -/

@[simp] theorem Assoc.get_nil (d : α) (k : Nat) : Assoc.get d [] k = d := rfl

@[simp] theorem Assoc.get_insert_self (d : α) (k : Nat) (v : α) (l : List (Nat × α)) : Assoc.get d (Assoc.insert k v l) k = v := by
  induction l with
  | nil => simp [Assoc.insert, Assoc.get]
  | cons e l ih =>
    obtain ⟨j, w⟩ := e
    unfold Assoc.insert
    split
    · simp [Assoc.get]
    · split
      · simp [Assoc.get]
      · next h => simp [Assoc.get, h, ih]

theorem Assoc.get_insert_ne (d : α) {k j : Nat} (v : α) (l : List (Nat × α)) (h : j ≠ k) :
    Assoc.get d (Assoc.insert k v l) j = Assoc.get d l j := by
  induction l with
  | nil => simp [Assoc.insert, Assoc.get, h]
  | cons e l ih =>
    obtain ⟨i, w⟩ := e
    unfold Assoc.insert
    split
    · simp [Assoc.get, h]
    · split
      · next _ hk => subst hk; simp [Assoc.get, h]
      · simp [Assoc.get, ih]

@[simp] theorem Assoc.get_erase_self (d : α) (k : Nat) (l : List (Nat × α)) : Assoc.get d (Assoc.erase k l) k = d := by
  induction l with
  | nil => rfl
  | cons e l ih =>
    obtain ⟨j, w⟩ := e
    unfold Assoc.erase
    split
    · exact ih
    · next h => simp [Assoc.get, h, ih]

theorem Assoc.get_erase_ne (d : α) {k j : Nat} (l : List (Nat × α)) (h : j ≠ k) :
    Assoc.get d (Assoc.erase k l) j = Assoc.get d l j := by
  induction l with
  | nil => rfl
  | cons e l ih =>
    obtain ⟨i, w⟩ := e
    unfold Assoc.erase
    split
    · next hk => subst hk; simp [Assoc.get, h, ih]
    · simp [Assoc.get, ih]

/-- A read at the place of a write gives what was written. -/
@[simp] theorem Assoc.get_set_self [DecidableEq α] (d : α) (l : List (Nat × α)) (k : Nat) (v : α) :
    Assoc.get d (Assoc.set d l k v) k = v := by
  unfold Assoc.set
  split
  · next h => subst h; simp
  · simp

/-- A read elsewhere is not changed by a write. -/
theorem Assoc.get_set_ne [DecidableEq α] (d : α) (l : List (Nat × α)) {k j : Nat} (v : α) (h : j ≠ k) :
    Assoc.get d (Assoc.set d l k v) j = Assoc.get d l j := by
  unfold Assoc.set
  split
  · exact Assoc.get_erase_ne d l h
  · exact Assoc.get_insert_ne d v l h

theorem Assoc.get_set [DecidableEq α] (d : α) (l : List (Nat × α)) (k j : Nat) (v : α) :
    Assoc.get d (Assoc.set d l k v) j = if j = k then v else Assoc.get d l j := by
  split
  · next h => subst h; simp
  · next h => exact Assoc.get_set_ne d l v h

/-- Filtering by the key alone keeps what stays and gives the default for what goes. -/
theorem Assoc.get_filter_key (d : α) (l : List (Nat × α)) (p : Nat → Bool) (k : Nat) :
    Assoc.get d (l.filter (fun e => p e.1)) k = if p k then Assoc.get d l k else d := by
  induction l with
  | nil => simp [Assoc.get]
  | cons e l ih =>
    obtain ⟨j, w⟩ := e
    by_cases hk : k = j
    · subst hk
      cases hp : p k <;> simp [List.filter, hp, Assoc.get, ih]
    · cases hj : p j <;> simp [List.filter, hj, Assoc.get, ih, hk]

theorem Assoc.get_clearRange (d : α) (l : List (Nat × α)) (lo hi k : Nat) :
    Assoc.get d (Assoc.clearRange l lo hi) k = if lo ≤ k ∧ k < hi then d else Assoc.get d l k := by
  unfold Assoc.clearRange
  rw [Assoc.get_filter_key d l (fun k => decide (k < lo) || decide (hi ≤ k)) k]
  by_cases h : lo ≤ k ∧ k < hi
  · simp [h, show ¬ k < lo by omega, show ¬ hi ≤ k by omega]
  · have : k < lo ∨ hi ≤ k := by omega
    simp [h, this]

/-! ### The canonical form -/

theorem Assoc.wf_nil [DecidableEq α] (d : α) : Assoc.wf d ([] : List (Nat × α)) = true := rfl

/-- A bound may be lowered. -/
theorem Assoc.wfFrom_mono [DecidableEq α] (d : α) (l : List (Nat × α)) {a b : Nat} (h : a ≤ b)
    (w : Assoc.wfFrom d (some b) l = true) : Assoc.wfFrom d (some a) l = true := by
  cases l with
  | nil => rfl
  | cons e l =>
    obtain ⟨k, v⟩ := e
    simp only [Assoc.wfFrom, Bool.and_eq_true, decide_eq_true_eq] at w ⊢
    exact ⟨⟨by omega, w.1.2⟩, w.2⟩

theorem Assoc.wfFrom_none [DecidableEq α] (d : α) (l : List (Nat × α)) {a : Nat}
    (w : Assoc.wfFrom d (some a) l = true) : Assoc.wfFrom d none l = true := by
  cases l with
  | nil => rfl
  | cons e l =>
    obtain ⟨k, v⟩ := e
    simp only [Assoc.wfFrom, Bool.and_eq_true] at w ⊢
    exact ⟨⟨trivial, w.1.2⟩, w.2⟩

/-- Taking entries away keeps the form. -/
theorem Assoc.wfFrom_filter [DecidableEq α] (d : α) (p : Nat × α → Bool) (l : List (Nat × α)) (lo : Option Nat)
    (w : Assoc.wfFrom d lo l = true) : Assoc.wfFrom d lo (l.filter p) = true := by
  induction l generalizing lo with
  | nil => rfl
  | cons e l ih =>
    obtain ⟨k, v⟩ := e
    have w' := w
    simp only [Assoc.wfFrom, Bool.and_eq_true] at w
    cases hp : p (k, v) with
    | true =>
      simp only [List.filter, hp, Assoc.wfFrom, Bool.and_eq_true]
      exact ⟨w.1, ih (some k) w.2⟩
    | false =>
      simp only [List.filter, hp]
      cases lo with
      | none => exact ih none (Assoc.wfFrom_none d l w.2)
      | some a =>
        simp only [decide_eq_true_eq] at w
        exact ih (some a) (Assoc.wfFrom_mono d l (by omega) w.2)

theorem Assoc.wf_filter [DecidableEq α] (d : α) (p : Nat × α → Bool) (l : List (Nat × α)) (w : Assoc.wf d l = true) :
    Assoc.wf d (l.filter p) = true := Assoc.wfFrom_filter d p l none w

theorem Assoc.wf_clearRange [DecidableEq α] (d : α) (l : List (Nat × α)) (lo hi : Nat) (w : Assoc.wf d l = true) :
    Assoc.wf d (Assoc.clearRange l lo hi) = true := Assoc.wf_filter d _ l w

theorem Assoc.erase_eq_filter (k : Nat) (l : List (Nat × α)) : Assoc.erase k l = l.filter (fun e => e.1 != k) := by
  induction l with
  | nil => rfl
  | cons e l ih =>
    obtain ⟨j, v⟩ := e
    unfold Assoc.erase
    split
    · next h => subst h; simp [ih]
    · next h => simp [ih, Ne.symm h]

theorem Assoc.wfFrom_insert [DecidableEq α] (d : α) (k : Nat) (v : α) (hv : v ≠ d) (l : List (Nat × α)) (lo : Option Nat)
    (hlo : ∀ a, lo = some a → a < k) (w : Assoc.wfFrom d lo l = true) : Assoc.wfFrom d lo (Assoc.insert k v l) = true := by
  induction l generalizing lo with
  | nil =>
    cases lo with
    | none => simp [Assoc.insert, Assoc.wfFrom, hv]
    | some a => simp [Assoc.insert, Assoc.wfFrom, hv, hlo a rfl]
  | cons e l ih =>
    obtain ⟨j, x⟩ := e
    have w0 := w
    simp only [Assoc.wfFrom, Bool.and_eq_true, decide_eq_true_eq] at w
    unfold Assoc.insert
    split
    · next h =>
      cases lo with
      | none => simp [Assoc.wfFrom, hv, h, w.1.2, w.2]
      | some a => simp [Assoc.wfFrom, hv, h, w.1.2, w.2, hlo a rfl]
    · split
      · next h =>
        subst h
        cases lo with
        | none => simp [Assoc.wfFrom, hv, w.2]
        | some a => simp [Assoc.wfFrom, hv, w.2, hlo a rfl]
      · next h1 h2 =>
        simp only [Assoc.wfFrom, Bool.and_eq_true, decide_eq_true_eq]
        exact ⟨w.1, ih (some j) (fun a ha => by cases ha; omega) w.2⟩

/-- A write keeps the form. -/
theorem Assoc.wf_set [DecidableEq α] (d : α) (l : List (Nat × α)) (k : Nat) (v : α) (w : Assoc.wf d l = true) :
    Assoc.wf d (Assoc.set d l k v) = true := by
  unfold Assoc.set
  split
  · rw [Assoc.erase_eq_filter]; exact Assoc.wf_filter d _ l w
  · next h => exact Assoc.wfFrom_insert d k v h l none (fun a ha => by cases ha) w

end Sys2Proof.Machine
end

