-- ==== Sys2Proof/Laws/State.lean ====
section
/-! SUPPORT. What each plain update of State leaves: one lemma per field per update, and what a read gives after the update of its
table. -/

namespace Sys2Proof.Machine

/-! ### State.setByte -/

@[simp] theorem State.setByte_pending (s : State) (a : Nat) (b : Byte) : (s.setByte a b).pending = s.pending := rfl
@[simp] theorem State.setByte_stamp (s : State) (a : Nat) (b : Byte) : (s.setByte a b).stamp = s.stamp := rfl
@[simp] theorem State.setByte_freeCtr (s : State) (a : Nat) (b : Byte) : (s.setByte a b).freeCtr = s.freeCtr := rfl
@[simp] theorem State.setByte_sent (s : State) (a : Nat) (b : Byte) : (s.setByte a b).sent = s.sent := rfl
@[simp] theorem State.setByte_objs (s : State) (a : Nat) (b : Byte) : (s.setByte a b).objs = s.objs := rfl
@[simp] theorem State.setByte_hbm (s : State) (a : Nat) (b : Byte) : (s.setByte a b).hbm = s.hbm := rfl
@[simp] theorem State.setByte_sill (s : State) (a : Nat) (b : Byte) : (s.setByte a b).sill = s.sill := rfl
@[simp] theorem State.setByte_copies (s : State) (a : Nat) (b : Byte) : (s.setByte a b).copies = s.copies := rfl
@[simp] theorem State.setByte_copyQueue (s : State) (a : Nat) (b : Byte) : (s.setByte a b).copyQueue = s.copyQueue := rfl
@[simp] theorem State.setByte_loft (s : State) (a : Nat) (b : Byte) : (s.setByte a b).loft = s.loft := rfl
@[simp] theorem State.setByte_interleave (s : State) (a : Nat) (b : Byte) : (s.setByte a b).interleave = s.interleave := rfl
@[simp] theorem State.setByte_stale (s : State) (a : Nat) (b : Byte) : (s.setByte a b).stale = s.stale := rfl
@[simp] theorem State.setByte_objects (s : State) (a : Nat) (b : Byte) : (s.setByte a b).objects = s.objects := rfl
@[simp] theorem State.setByte_nextObj (s : State) (a : Nat) (b : Byte) : (s.setByte a b).nextObj = s.nextObj := rfl
@[simp] theorem State.setByte_engines (s : State) (a : Nat) (b : Byte) : (s.setByte a b).engines = s.engines := rfl
@[simp] theorem State.setByte_bays (s : State) (a : Nat) (b : Byte) : (s.setByte a b).bays = s.bays := rfl
@[simp] theorem State.setByte_dies (s : State) (a : Nat) (b : Byte) : (s.setByte a b).dies = s.dies := rfl
@[simp] theorem State.setByte_res (s : State) (a : Nat) (b : Byte) : (s.setByte a b).res = s.res := rfl
@[simp] theorem State.setByte_resOrder (s : State) (a : Nat) (b : Byte) : (s.setByte a b).resOrder = s.resOrder := rfl
@[simp] theorem State.setByte_ctxs (s : State) (a : Nat) (b : Byte) : (s.setByte a b).ctxs = s.ctxs := rfl
@[simp] theorem State.setByte_epochs (s : State) (a : Nat) (b : Byte) : (s.setByte a b).epochs = s.epochs := rfl
@[simp] theorem State.setByte_sched (s : State) (a : Nat) (b : Byte) : (s.setByte a b).sched = s.sched := rfl
@[simp] theorem State.setByte_links (s : State) (a : Nat) (b : Byte) : (s.setByte a b).links = s.links := rfl
@[simp] theorem State.setByte_ports (s : State) (a : Nat) (b : Byte) : (s.setByte a b).ports = s.ports := rfl
@[simp] theorem State.setByte_hostPorts (s : State) (a : Nat) (b : Byte) : (s.setByte a b).hostPorts = s.hostPorts := rfl
@[simp] theorem State.setByte_fab (s : State) (a : Nat) (b : Byte) : (s.setByte a b).fab = s.fab := rfl
@[simp] theorem State.setByte_sessions (s : State) (a : Nat) (b : Byte) : (s.setByte a b).sessions = s.sessions := rfl
@[simp] theorem State.setByte_clock (s : State) (a : Nat) (b : Byte) : (s.setByte a b).clock = s.clock := rfl
@[simp] theorem State.setByte_efyth (s : State) (a : Nat) (b : Byte) : (s.setByte a b).efyth = s.efyth := rfl
@[simp] theorem State.setByte_intr (s : State) (a : Nat) (b : Byte) : (s.setByte a b).intr = s.intr := rfl
@[simp] theorem State.setByte_cores (s : State) (a : Nat) (b : Byte) : (s.setByte a b).cores = s.cores := rfl
@[simp] theorem State.setByte_perf (s : State) (a : Nat) (b : Byte) : (s.setByte a b).perf = s.perf := rfl
@[simp] theorem State.setByte_power (s : State) (a : Nat) (b : Byte) : (s.setByte a b).power = s.power := rfl
@[simp] theorem State.setByte_fault (s : State) (a : Nat) (b : Byte) : (s.setByte a b).fault = s.fault := rfl
@[simp] theorem State.setByte_boot (s : State) (a : Nat) (b : Byte) : (s.setByte a b).boot = s.boot := rfl
@[simp] theorem State.setByte_pins (s : State) (a : Nat) (b : Byte) : (s.setByte a b).pins = s.pins := rfl

/-! ### State.zeroRange -/

@[simp] theorem State.zeroRange_pending (s : State) (lo hi : Nat) : (s.zeroRange lo hi).pending = s.pending := rfl
@[simp] theorem State.zeroRange_stamp (s : State) (lo hi : Nat) : (s.zeroRange lo hi).stamp = s.stamp := rfl
@[simp] theorem State.zeroRange_freeCtr (s : State) (lo hi : Nat) : (s.zeroRange lo hi).freeCtr = s.freeCtr := rfl
@[simp] theorem State.zeroRange_sent (s : State) (lo hi : Nat) : (s.zeroRange lo hi).sent = s.sent := rfl
@[simp] theorem State.zeroRange_objs (s : State) (lo hi : Nat) : (s.zeroRange lo hi).objs = s.objs := rfl
@[simp] theorem State.zeroRange_hbm (s : State) (lo hi : Nat) : (s.zeroRange lo hi).hbm = s.hbm := rfl
@[simp] theorem State.zeroRange_sill (s : State) (lo hi : Nat) : (s.zeroRange lo hi).sill = s.sill := rfl
@[simp] theorem State.zeroRange_copies (s : State) (lo hi : Nat) : (s.zeroRange lo hi).copies = s.copies := rfl
@[simp] theorem State.zeroRange_copyQueue (s : State) (lo hi : Nat) : (s.zeroRange lo hi).copyQueue = s.copyQueue := rfl
@[simp] theorem State.zeroRange_loft (s : State) (lo hi : Nat) : (s.zeroRange lo hi).loft = s.loft := rfl
@[simp] theorem State.zeroRange_interleave (s : State) (lo hi : Nat) : (s.zeroRange lo hi).interleave = s.interleave := rfl
@[simp] theorem State.zeroRange_stale (s : State) (lo hi : Nat) : (s.zeroRange lo hi).stale = s.stale := rfl
@[simp] theorem State.zeroRange_objects (s : State) (lo hi : Nat) : (s.zeroRange lo hi).objects = s.objects := rfl
@[simp] theorem State.zeroRange_nextObj (s : State) (lo hi : Nat) : (s.zeroRange lo hi).nextObj = s.nextObj := rfl
@[simp] theorem State.zeroRange_engines (s : State) (lo hi : Nat) : (s.zeroRange lo hi).engines = s.engines := rfl
@[simp] theorem State.zeroRange_bays (s : State) (lo hi : Nat) : (s.zeroRange lo hi).bays = s.bays := rfl
@[simp] theorem State.zeroRange_dies (s : State) (lo hi : Nat) : (s.zeroRange lo hi).dies = s.dies := rfl
@[simp] theorem State.zeroRange_res (s : State) (lo hi : Nat) : (s.zeroRange lo hi).res = s.res := rfl
@[simp] theorem State.zeroRange_resOrder (s : State) (lo hi : Nat) : (s.zeroRange lo hi).resOrder = s.resOrder := rfl
@[simp] theorem State.zeroRange_ctxs (s : State) (lo hi : Nat) : (s.zeroRange lo hi).ctxs = s.ctxs := rfl
@[simp] theorem State.zeroRange_epochs (s : State) (lo hi : Nat) : (s.zeroRange lo hi).epochs = s.epochs := rfl
@[simp] theorem State.zeroRange_sched (s : State) (lo hi : Nat) : (s.zeroRange lo hi).sched = s.sched := rfl
@[simp] theorem State.zeroRange_links (s : State) (lo hi : Nat) : (s.zeroRange lo hi).links = s.links := rfl
@[simp] theorem State.zeroRange_ports (s : State) (lo hi : Nat) : (s.zeroRange lo hi).ports = s.ports := rfl
@[simp] theorem State.zeroRange_hostPorts (s : State) (lo hi : Nat) : (s.zeroRange lo hi).hostPorts = s.hostPorts := rfl
@[simp] theorem State.zeroRange_fab (s : State) (lo hi : Nat) : (s.zeroRange lo hi).fab = s.fab := rfl
@[simp] theorem State.zeroRange_sessions (s : State) (lo hi : Nat) : (s.zeroRange lo hi).sessions = s.sessions := rfl
@[simp] theorem State.zeroRange_clock (s : State) (lo hi : Nat) : (s.zeroRange lo hi).clock = s.clock := rfl
@[simp] theorem State.zeroRange_efyth (s : State) (lo hi : Nat) : (s.zeroRange lo hi).efyth = s.efyth := rfl
@[simp] theorem State.zeroRange_intr (s : State) (lo hi : Nat) : (s.zeroRange lo hi).intr = s.intr := rfl
@[simp] theorem State.zeroRange_cores (s : State) (lo hi : Nat) : (s.zeroRange lo hi).cores = s.cores := rfl
@[simp] theorem State.zeroRange_perf (s : State) (lo hi : Nat) : (s.zeroRange lo hi).perf = s.perf := rfl
@[simp] theorem State.zeroRange_power (s : State) (lo hi : Nat) : (s.zeroRange lo hi).power = s.power := rfl
@[simp] theorem State.zeroRange_fault (s : State) (lo hi : Nat) : (s.zeroRange lo hi).fault = s.fault := rfl
@[simp] theorem State.zeroRange_boot (s : State) (lo hi : Nat) : (s.zeroRange lo hi).boot = s.boot := rfl
@[simp] theorem State.zeroRange_pins (s : State) (lo hi : Nat) : (s.zeroRange lo hi).pins = s.pins := rfl

/-! ### State.zeroBanks -/

@[simp] theorem State.zeroBanks_pending (s : State) (b m : Nat) : (s.zeroBanks b m).pending = s.pending := rfl
@[simp] theorem State.zeroBanks_stamp (s : State) (b m : Nat) : (s.zeroBanks b m).stamp = s.stamp := rfl
@[simp] theorem State.zeroBanks_freeCtr (s : State) (b m : Nat) : (s.zeroBanks b m).freeCtr = s.freeCtr := rfl
@[simp] theorem State.zeroBanks_sent (s : State) (b m : Nat) : (s.zeroBanks b m).sent = s.sent := rfl
@[simp] theorem State.zeroBanks_objs (s : State) (b m : Nat) : (s.zeroBanks b m).objs = s.objs := rfl
@[simp] theorem State.zeroBanks_hbm (s : State) (b m : Nat) : (s.zeroBanks b m).hbm = s.hbm := rfl
@[simp] theorem State.zeroBanks_sill (s : State) (b m : Nat) : (s.zeroBanks b m).sill = s.sill := rfl
@[simp] theorem State.zeroBanks_copies (s : State) (b m : Nat) : (s.zeroBanks b m).copies = s.copies := rfl
@[simp] theorem State.zeroBanks_copyQueue (s : State) (b m : Nat) : (s.zeroBanks b m).copyQueue = s.copyQueue := rfl
@[simp] theorem State.zeroBanks_loft (s : State) (b m : Nat) : (s.zeroBanks b m).loft = s.loft := rfl
@[simp] theorem State.zeroBanks_interleave (s : State) (b m : Nat) : (s.zeroBanks b m).interleave = s.interleave := rfl
@[simp] theorem State.zeroBanks_stale (s : State) (b m : Nat) : (s.zeroBanks b m).stale = s.stale := rfl
@[simp] theorem State.zeroBanks_objects (s : State) (b m : Nat) : (s.zeroBanks b m).objects = s.objects := rfl
@[simp] theorem State.zeroBanks_nextObj (s : State) (b m : Nat) : (s.zeroBanks b m).nextObj = s.nextObj := rfl
@[simp] theorem State.zeroBanks_engines (s : State) (b m : Nat) : (s.zeroBanks b m).engines = s.engines := rfl
@[simp] theorem State.zeroBanks_bays (s : State) (b m : Nat) : (s.zeroBanks b m).bays = s.bays := rfl
@[simp] theorem State.zeroBanks_dies (s : State) (b m : Nat) : (s.zeroBanks b m).dies = s.dies := rfl
@[simp] theorem State.zeroBanks_res (s : State) (b m : Nat) : (s.zeroBanks b m).res = s.res := rfl
@[simp] theorem State.zeroBanks_resOrder (s : State) (b m : Nat) : (s.zeroBanks b m).resOrder = s.resOrder := rfl
@[simp] theorem State.zeroBanks_ctxs (s : State) (b m : Nat) : (s.zeroBanks b m).ctxs = s.ctxs := rfl
@[simp] theorem State.zeroBanks_epochs (s : State) (b m : Nat) : (s.zeroBanks b m).epochs = s.epochs := rfl
@[simp] theorem State.zeroBanks_sched (s : State) (b m : Nat) : (s.zeroBanks b m).sched = s.sched := rfl
@[simp] theorem State.zeroBanks_links (s : State) (b m : Nat) : (s.zeroBanks b m).links = s.links := rfl
@[simp] theorem State.zeroBanks_ports (s : State) (b m : Nat) : (s.zeroBanks b m).ports = s.ports := rfl
@[simp] theorem State.zeroBanks_hostPorts (s : State) (b m : Nat) : (s.zeroBanks b m).hostPorts = s.hostPorts := rfl
@[simp] theorem State.zeroBanks_fab (s : State) (b m : Nat) : (s.zeroBanks b m).fab = s.fab := rfl
@[simp] theorem State.zeroBanks_sessions (s : State) (b m : Nat) : (s.zeroBanks b m).sessions = s.sessions := rfl
@[simp] theorem State.zeroBanks_clock (s : State) (b m : Nat) : (s.zeroBanks b m).clock = s.clock := rfl
@[simp] theorem State.zeroBanks_efyth (s : State) (b m : Nat) : (s.zeroBanks b m).efyth = s.efyth := rfl
@[simp] theorem State.zeroBanks_intr (s : State) (b m : Nat) : (s.zeroBanks b m).intr = s.intr := rfl
@[simp] theorem State.zeroBanks_cores (s : State) (b m : Nat) : (s.zeroBanks b m).cores = s.cores := rfl
@[simp] theorem State.zeroBanks_perf (s : State) (b m : Nat) : (s.zeroBanks b m).perf = s.perf := rfl
@[simp] theorem State.zeroBanks_power (s : State) (b m : Nat) : (s.zeroBanks b m).power = s.power := rfl
@[simp] theorem State.zeroBanks_fault (s : State) (b m : Nat) : (s.zeroBanks b m).fault = s.fault := rfl
@[simp] theorem State.zeroBanks_boot (s : State) (b m : Nat) : (s.zeroBanks b m).boot = s.boot := rfl
@[simp] theorem State.zeroBanks_pins (s : State) (b m : Nat) : (s.zeroBanks b m).pins = s.pins := rfl

/-! ### State.clearBench -/

@[simp] theorem State.clearBench_pending (s : State) : (s.clearBench).pending = s.pending := rfl
@[simp] theorem State.clearBench_stamp (s : State) : (s.clearBench).stamp = s.stamp := rfl
@[simp] theorem State.clearBench_freeCtr (s : State) : (s.clearBench).freeCtr = s.freeCtr := rfl
@[simp] theorem State.clearBench_sent (s : State) : (s.clearBench).sent = s.sent := rfl
@[simp] theorem State.clearBench_objs (s : State) : (s.clearBench).objs = s.objs := rfl
@[simp] theorem State.clearBench_hbm (s : State) : (s.clearBench).hbm = s.hbm := rfl
@[simp] theorem State.clearBench_sill (s : State) : (s.clearBench).sill = s.sill := rfl
@[simp] theorem State.clearBench_copies (s : State) : (s.clearBench).copies = s.copies := rfl
@[simp] theorem State.clearBench_copyQueue (s : State) : (s.clearBench).copyQueue = s.copyQueue := rfl
@[simp] theorem State.clearBench_loft (s : State) : (s.clearBench).loft = s.loft := rfl
@[simp] theorem State.clearBench_interleave (s : State) : (s.clearBench).interleave = s.interleave := rfl
@[simp] theorem State.clearBench_stale (s : State) : (s.clearBench).stale = s.stale := rfl
@[simp] theorem State.clearBench_objects (s : State) : (s.clearBench).objects = s.objects := rfl
@[simp] theorem State.clearBench_nextObj (s : State) : (s.clearBench).nextObj = s.nextObj := rfl
@[simp] theorem State.clearBench_engines (s : State) : (s.clearBench).engines = s.engines := rfl
@[simp] theorem State.clearBench_bays (s : State) : (s.clearBench).bays = s.bays := rfl
@[simp] theorem State.clearBench_dies (s : State) : (s.clearBench).dies = s.dies := rfl
@[simp] theorem State.clearBench_res (s : State) : (s.clearBench).res = s.res := rfl
@[simp] theorem State.clearBench_resOrder (s : State) : (s.clearBench).resOrder = s.resOrder := rfl
@[simp] theorem State.clearBench_ctxs (s : State) : (s.clearBench).ctxs = s.ctxs := rfl
@[simp] theorem State.clearBench_epochs (s : State) : (s.clearBench).epochs = s.epochs := rfl
@[simp] theorem State.clearBench_sched (s : State) : (s.clearBench).sched = s.sched := rfl
@[simp] theorem State.clearBench_links (s : State) : (s.clearBench).links = s.links := rfl
@[simp] theorem State.clearBench_ports (s : State) : (s.clearBench).ports = s.ports := rfl
@[simp] theorem State.clearBench_hostPorts (s : State) : (s.clearBench).hostPorts = s.hostPorts := rfl
@[simp] theorem State.clearBench_fab (s : State) : (s.clearBench).fab = s.fab := rfl
@[simp] theorem State.clearBench_sessions (s : State) : (s.clearBench).sessions = s.sessions := rfl
@[simp] theorem State.clearBench_clock (s : State) : (s.clearBench).clock = s.clock := rfl
@[simp] theorem State.clearBench_efyth (s : State) : (s.clearBench).efyth = s.efyth := rfl
@[simp] theorem State.clearBench_intr (s : State) : (s.clearBench).intr = s.intr := rfl
@[simp] theorem State.clearBench_cores (s : State) : (s.clearBench).cores = s.cores := rfl
@[simp] theorem State.clearBench_perf (s : State) : (s.clearBench).perf = s.perf := rfl
@[simp] theorem State.clearBench_power (s : State) : (s.clearBench).power = s.power := rfl
@[simp] theorem State.clearBench_fault (s : State) : (s.clearBench).fault = s.fault := rfl
@[simp] theorem State.clearBench_boot (s : State) : (s.clearBench).boot = s.boot := rfl
@[simp] theorem State.clearBench_pins (s : State) : (s.clearBench).pins = s.pins := rfl

/-! ### State.setCtx -/

@[simp] theorem State.setCtx_pending (s : State) (c : Nat) (x : Ctx) : (s.setCtx c x).pending = s.pending := rfl
@[simp] theorem State.setCtx_stamp (s : State) (c : Nat) (x : Ctx) : (s.setCtx c x).stamp = s.stamp := rfl
@[simp] theorem State.setCtx_freeCtr (s : State) (c : Nat) (x : Ctx) : (s.setCtx c x).freeCtr = s.freeCtr := rfl
@[simp] theorem State.setCtx_sent (s : State) (c : Nat) (x : Ctx) : (s.setCtx c x).sent = s.sent := rfl
@[simp] theorem State.setCtx_objs (s : State) (c : Nat) (x : Ctx) : (s.setCtx c x).objs = s.objs := rfl
@[simp] theorem State.setCtx_mem (s : State) (c : Nat) (x : Ctx) : (s.setCtx c x).mem = s.mem := rfl
@[simp] theorem State.setCtx_hbm (s : State) (c : Nat) (x : Ctx) : (s.setCtx c x).hbm = s.hbm := rfl
@[simp] theorem State.setCtx_sill (s : State) (c : Nat) (x : Ctx) : (s.setCtx c x).sill = s.sill := rfl
@[simp] theorem State.setCtx_copies (s : State) (c : Nat) (x : Ctx) : (s.setCtx c x).copies = s.copies := rfl
@[simp] theorem State.setCtx_copyQueue (s : State) (c : Nat) (x : Ctx) : (s.setCtx c x).copyQueue = s.copyQueue := rfl
@[simp] theorem State.setCtx_loft (s : State) (c : Nat) (x : Ctx) : (s.setCtx c x).loft = s.loft := rfl
@[simp] theorem State.setCtx_interleave (s : State) (c : Nat) (x : Ctx) : (s.setCtx c x).interleave = s.interleave := rfl
@[simp] theorem State.setCtx_stale (s : State) (c : Nat) (x : Ctx) : (s.setCtx c x).stale = s.stale := rfl
@[simp] theorem State.setCtx_objects (s : State) (c : Nat) (x : Ctx) : (s.setCtx c x).objects = s.objects := rfl
@[simp] theorem State.setCtx_nextObj (s : State) (c : Nat) (x : Ctx) : (s.setCtx c x).nextObj = s.nextObj := rfl
@[simp] theorem State.setCtx_engines (s : State) (c : Nat) (x : Ctx) : (s.setCtx c x).engines = s.engines := rfl
@[simp] theorem State.setCtx_bays (s : State) (c : Nat) (x : Ctx) : (s.setCtx c x).bays = s.bays := rfl
@[simp] theorem State.setCtx_dies (s : State) (c : Nat) (x : Ctx) : (s.setCtx c x).dies = s.dies := rfl
@[simp] theorem State.setCtx_res (s : State) (c : Nat) (x : Ctx) : (s.setCtx c x).res = s.res := rfl
@[simp] theorem State.setCtx_resOrder (s : State) (c : Nat) (x : Ctx) : (s.setCtx c x).resOrder = s.resOrder := rfl
@[simp] theorem State.setCtx_epochs (s : State) (c : Nat) (x : Ctx) : (s.setCtx c x).epochs = s.epochs := rfl
@[simp] theorem State.setCtx_sched (s : State) (c : Nat) (x : Ctx) : (s.setCtx c x).sched = s.sched := rfl
@[simp] theorem State.setCtx_links (s : State) (c : Nat) (x : Ctx) : (s.setCtx c x).links = s.links := rfl
@[simp] theorem State.setCtx_ports (s : State) (c : Nat) (x : Ctx) : (s.setCtx c x).ports = s.ports := rfl
@[simp] theorem State.setCtx_hostPorts (s : State) (c : Nat) (x : Ctx) : (s.setCtx c x).hostPorts = s.hostPorts := rfl
@[simp] theorem State.setCtx_fab (s : State) (c : Nat) (x : Ctx) : (s.setCtx c x).fab = s.fab := rfl
@[simp] theorem State.setCtx_sessions (s : State) (c : Nat) (x : Ctx) : (s.setCtx c x).sessions = s.sessions := rfl
@[simp] theorem State.setCtx_clock (s : State) (c : Nat) (x : Ctx) : (s.setCtx c x).clock = s.clock := rfl
@[simp] theorem State.setCtx_efyth (s : State) (c : Nat) (x : Ctx) : (s.setCtx c x).efyth = s.efyth := rfl
@[simp] theorem State.setCtx_intr (s : State) (c : Nat) (x : Ctx) : (s.setCtx c x).intr = s.intr := rfl
@[simp] theorem State.setCtx_cores (s : State) (c : Nat) (x : Ctx) : (s.setCtx c x).cores = s.cores := rfl
@[simp] theorem State.setCtx_perf (s : State) (c : Nat) (x : Ctx) : (s.setCtx c x).perf = s.perf := rfl
@[simp] theorem State.setCtx_power (s : State) (c : Nat) (x : Ctx) : (s.setCtx c x).power = s.power := rfl
@[simp] theorem State.setCtx_fault (s : State) (c : Nat) (x : Ctx) : (s.setCtx c x).fault = s.fault := rfl
@[simp] theorem State.setCtx_boot (s : State) (c : Nat) (x : Ctx) : (s.setCtx c x).boot = s.boot := rfl
@[simp] theorem State.setCtx_pins (s : State) (c : Nat) (x : Ctx) : (s.setCtx c x).pins = s.pins := rfl

/-! ### State.setEngine -/

@[simp] theorem State.setEngine_pending (s : State) (e : Nat) (x : Engine) : (s.setEngine e x).pending = s.pending := rfl
@[simp] theorem State.setEngine_stamp (s : State) (e : Nat) (x : Engine) : (s.setEngine e x).stamp = s.stamp := rfl
@[simp] theorem State.setEngine_freeCtr (s : State) (e : Nat) (x : Engine) : (s.setEngine e x).freeCtr = s.freeCtr := rfl
@[simp] theorem State.setEngine_sent (s : State) (e : Nat) (x : Engine) : (s.setEngine e x).sent = s.sent := rfl
@[simp] theorem State.setEngine_objs (s : State) (e : Nat) (x : Engine) : (s.setEngine e x).objs = s.objs := rfl
@[simp] theorem State.setEngine_mem (s : State) (e : Nat) (x : Engine) : (s.setEngine e x).mem = s.mem := rfl
@[simp] theorem State.setEngine_hbm (s : State) (e : Nat) (x : Engine) : (s.setEngine e x).hbm = s.hbm := rfl
@[simp] theorem State.setEngine_sill (s : State) (e : Nat) (x : Engine) : (s.setEngine e x).sill = s.sill := rfl
@[simp] theorem State.setEngine_copies (s : State) (e : Nat) (x : Engine) : (s.setEngine e x).copies = s.copies := rfl
@[simp] theorem State.setEngine_copyQueue (s : State) (e : Nat) (x : Engine) : (s.setEngine e x).copyQueue = s.copyQueue := rfl
@[simp] theorem State.setEngine_loft (s : State) (e : Nat) (x : Engine) : (s.setEngine e x).loft = s.loft := rfl
@[simp] theorem State.setEngine_interleave (s : State) (e : Nat) (x : Engine) : (s.setEngine e x).interleave = s.interleave := rfl
@[simp] theorem State.setEngine_stale (s : State) (e : Nat) (x : Engine) : (s.setEngine e x).stale = s.stale := rfl
@[simp] theorem State.setEngine_objects (s : State) (e : Nat) (x : Engine) : (s.setEngine e x).objects = s.objects := rfl
@[simp] theorem State.setEngine_nextObj (s : State) (e : Nat) (x : Engine) : (s.setEngine e x).nextObj = s.nextObj := rfl
@[simp] theorem State.setEngine_bays (s : State) (e : Nat) (x : Engine) : (s.setEngine e x).bays = s.bays := rfl
@[simp] theorem State.setEngine_dies (s : State) (e : Nat) (x : Engine) : (s.setEngine e x).dies = s.dies := rfl
@[simp] theorem State.setEngine_res (s : State) (e : Nat) (x : Engine) : (s.setEngine e x).res = s.res := rfl
@[simp] theorem State.setEngine_resOrder (s : State) (e : Nat) (x : Engine) : (s.setEngine e x).resOrder = s.resOrder := rfl
@[simp] theorem State.setEngine_ctxs (s : State) (e : Nat) (x : Engine) : (s.setEngine e x).ctxs = s.ctxs := rfl
@[simp] theorem State.setEngine_epochs (s : State) (e : Nat) (x : Engine) : (s.setEngine e x).epochs = s.epochs := rfl
@[simp] theorem State.setEngine_sched (s : State) (e : Nat) (x : Engine) : (s.setEngine e x).sched = s.sched := rfl
@[simp] theorem State.setEngine_links (s : State) (e : Nat) (x : Engine) : (s.setEngine e x).links = s.links := rfl
@[simp] theorem State.setEngine_ports (s : State) (e : Nat) (x : Engine) : (s.setEngine e x).ports = s.ports := rfl
@[simp] theorem State.setEngine_hostPorts (s : State) (e : Nat) (x : Engine) : (s.setEngine e x).hostPorts = s.hostPorts := rfl
@[simp] theorem State.setEngine_fab (s : State) (e : Nat) (x : Engine) : (s.setEngine e x).fab = s.fab := rfl
@[simp] theorem State.setEngine_sessions (s : State) (e : Nat) (x : Engine) : (s.setEngine e x).sessions = s.sessions := rfl
@[simp] theorem State.setEngine_clock (s : State) (e : Nat) (x : Engine) : (s.setEngine e x).clock = s.clock := rfl
@[simp] theorem State.setEngine_efyth (s : State) (e : Nat) (x : Engine) : (s.setEngine e x).efyth = s.efyth := rfl
@[simp] theorem State.setEngine_intr (s : State) (e : Nat) (x : Engine) : (s.setEngine e x).intr = s.intr := rfl
@[simp] theorem State.setEngine_cores (s : State) (e : Nat) (x : Engine) : (s.setEngine e x).cores = s.cores := rfl
@[simp] theorem State.setEngine_perf (s : State) (e : Nat) (x : Engine) : (s.setEngine e x).perf = s.perf := rfl
@[simp] theorem State.setEngine_power (s : State) (e : Nat) (x : Engine) : (s.setEngine e x).power = s.power := rfl
@[simp] theorem State.setEngine_fault (s : State) (e : Nat) (x : Engine) : (s.setEngine e x).fault = s.fault := rfl
@[simp] theorem State.setEngine_boot (s : State) (e : Nat) (x : Engine) : (s.setEngine e x).boot = s.boot := rfl
@[simp] theorem State.setEngine_pins (s : State) (e : Nat) (x : Engine) : (s.setEngine e x).pins = s.pins := rfl

/-! ### State.setBay -/

@[simp] theorem State.setBay_pending (s : State) (b : Nat) (x : Bay) : (s.setBay b x).pending = s.pending := rfl
@[simp] theorem State.setBay_stamp (s : State) (b : Nat) (x : Bay) : (s.setBay b x).stamp = s.stamp := rfl
@[simp] theorem State.setBay_freeCtr (s : State) (b : Nat) (x : Bay) : (s.setBay b x).freeCtr = s.freeCtr := rfl
@[simp] theorem State.setBay_sent (s : State) (b : Nat) (x : Bay) : (s.setBay b x).sent = s.sent := rfl
@[simp] theorem State.setBay_objs (s : State) (b : Nat) (x : Bay) : (s.setBay b x).objs = s.objs := rfl
@[simp] theorem State.setBay_mem (s : State) (b : Nat) (x : Bay) : (s.setBay b x).mem = s.mem := rfl
@[simp] theorem State.setBay_hbm (s : State) (b : Nat) (x : Bay) : (s.setBay b x).hbm = s.hbm := rfl
@[simp] theorem State.setBay_sill (s : State) (b : Nat) (x : Bay) : (s.setBay b x).sill = s.sill := rfl
@[simp] theorem State.setBay_copies (s : State) (b : Nat) (x : Bay) : (s.setBay b x).copies = s.copies := rfl
@[simp] theorem State.setBay_copyQueue (s : State) (b : Nat) (x : Bay) : (s.setBay b x).copyQueue = s.copyQueue := rfl
@[simp] theorem State.setBay_loft (s : State) (b : Nat) (x : Bay) : (s.setBay b x).loft = s.loft := rfl
@[simp] theorem State.setBay_interleave (s : State) (b : Nat) (x : Bay) : (s.setBay b x).interleave = s.interleave := rfl
@[simp] theorem State.setBay_stale (s : State) (b : Nat) (x : Bay) : (s.setBay b x).stale = s.stale := rfl
@[simp] theorem State.setBay_objects (s : State) (b : Nat) (x : Bay) : (s.setBay b x).objects = s.objects := rfl
@[simp] theorem State.setBay_nextObj (s : State) (b : Nat) (x : Bay) : (s.setBay b x).nextObj = s.nextObj := rfl
@[simp] theorem State.setBay_engines (s : State) (b : Nat) (x : Bay) : (s.setBay b x).engines = s.engines := rfl
@[simp] theorem State.setBay_dies (s : State) (b : Nat) (x : Bay) : (s.setBay b x).dies = s.dies := rfl
@[simp] theorem State.setBay_res (s : State) (b : Nat) (x : Bay) : (s.setBay b x).res = s.res := rfl
@[simp] theorem State.setBay_resOrder (s : State) (b : Nat) (x : Bay) : (s.setBay b x).resOrder = s.resOrder := rfl
@[simp] theorem State.setBay_ctxs (s : State) (b : Nat) (x : Bay) : (s.setBay b x).ctxs = s.ctxs := rfl
@[simp] theorem State.setBay_epochs (s : State) (b : Nat) (x : Bay) : (s.setBay b x).epochs = s.epochs := rfl
@[simp] theorem State.setBay_sched (s : State) (b : Nat) (x : Bay) : (s.setBay b x).sched = s.sched := rfl
@[simp] theorem State.setBay_links (s : State) (b : Nat) (x : Bay) : (s.setBay b x).links = s.links := rfl
@[simp] theorem State.setBay_ports (s : State) (b : Nat) (x : Bay) : (s.setBay b x).ports = s.ports := rfl
@[simp] theorem State.setBay_hostPorts (s : State) (b : Nat) (x : Bay) : (s.setBay b x).hostPorts = s.hostPorts := rfl
@[simp] theorem State.setBay_fab (s : State) (b : Nat) (x : Bay) : (s.setBay b x).fab = s.fab := rfl
@[simp] theorem State.setBay_sessions (s : State) (b : Nat) (x : Bay) : (s.setBay b x).sessions = s.sessions := rfl
@[simp] theorem State.setBay_clock (s : State) (b : Nat) (x : Bay) : (s.setBay b x).clock = s.clock := rfl
@[simp] theorem State.setBay_efyth (s : State) (b : Nat) (x : Bay) : (s.setBay b x).efyth = s.efyth := rfl
@[simp] theorem State.setBay_intr (s : State) (b : Nat) (x : Bay) : (s.setBay b x).intr = s.intr := rfl
@[simp] theorem State.setBay_cores (s : State) (b : Nat) (x : Bay) : (s.setBay b x).cores = s.cores := rfl
@[simp] theorem State.setBay_perf (s : State) (b : Nat) (x : Bay) : (s.setBay b x).perf = s.perf := rfl
@[simp] theorem State.setBay_power (s : State) (b : Nat) (x : Bay) : (s.setBay b x).power = s.power := rfl
@[simp] theorem State.setBay_fault (s : State) (b : Nat) (x : Bay) : (s.setBay b x).fault = s.fault := rfl
@[simp] theorem State.setBay_boot (s : State) (b : Nat) (x : Bay) : (s.setBay b x).boot = s.boot := rfl
@[simp] theorem State.setBay_pins (s : State) (b : Nat) (x : Bay) : (s.setBay b x).pins = s.pins := rfl

/-! ### State.setDie -/

@[simp] theorem State.setDie_pending (s : State) (d : Nat) (x : Die) : (s.setDie d x).pending = s.pending := rfl
@[simp] theorem State.setDie_stamp (s : State) (d : Nat) (x : Die) : (s.setDie d x).stamp = s.stamp := rfl
@[simp] theorem State.setDie_freeCtr (s : State) (d : Nat) (x : Die) : (s.setDie d x).freeCtr = s.freeCtr := rfl
@[simp] theorem State.setDie_sent (s : State) (d : Nat) (x : Die) : (s.setDie d x).sent = s.sent := rfl
@[simp] theorem State.setDie_objs (s : State) (d : Nat) (x : Die) : (s.setDie d x).objs = s.objs := rfl
@[simp] theorem State.setDie_mem (s : State) (d : Nat) (x : Die) : (s.setDie d x).mem = s.mem := rfl
@[simp] theorem State.setDie_hbm (s : State) (d : Nat) (x : Die) : (s.setDie d x).hbm = s.hbm := rfl
@[simp] theorem State.setDie_sill (s : State) (d : Nat) (x : Die) : (s.setDie d x).sill = s.sill := rfl
@[simp] theorem State.setDie_copies (s : State) (d : Nat) (x : Die) : (s.setDie d x).copies = s.copies := rfl
@[simp] theorem State.setDie_copyQueue (s : State) (d : Nat) (x : Die) : (s.setDie d x).copyQueue = s.copyQueue := rfl
@[simp] theorem State.setDie_loft (s : State) (d : Nat) (x : Die) : (s.setDie d x).loft = s.loft := rfl
@[simp] theorem State.setDie_interleave (s : State) (d : Nat) (x : Die) : (s.setDie d x).interleave = s.interleave := rfl
@[simp] theorem State.setDie_stale (s : State) (d : Nat) (x : Die) : (s.setDie d x).stale = s.stale := rfl
@[simp] theorem State.setDie_objects (s : State) (d : Nat) (x : Die) : (s.setDie d x).objects = s.objects := rfl
@[simp] theorem State.setDie_nextObj (s : State) (d : Nat) (x : Die) : (s.setDie d x).nextObj = s.nextObj := rfl
@[simp] theorem State.setDie_engines (s : State) (d : Nat) (x : Die) : (s.setDie d x).engines = s.engines := rfl
@[simp] theorem State.setDie_bays (s : State) (d : Nat) (x : Die) : (s.setDie d x).bays = s.bays := rfl
@[simp] theorem State.setDie_res (s : State) (d : Nat) (x : Die) : (s.setDie d x).res = s.res := rfl
@[simp] theorem State.setDie_resOrder (s : State) (d : Nat) (x : Die) : (s.setDie d x).resOrder = s.resOrder := rfl
@[simp] theorem State.setDie_ctxs (s : State) (d : Nat) (x : Die) : (s.setDie d x).ctxs = s.ctxs := rfl
@[simp] theorem State.setDie_epochs (s : State) (d : Nat) (x : Die) : (s.setDie d x).epochs = s.epochs := rfl
@[simp] theorem State.setDie_sched (s : State) (d : Nat) (x : Die) : (s.setDie d x).sched = s.sched := rfl
@[simp] theorem State.setDie_links (s : State) (d : Nat) (x : Die) : (s.setDie d x).links = s.links := rfl
@[simp] theorem State.setDie_ports (s : State) (d : Nat) (x : Die) : (s.setDie d x).ports = s.ports := rfl
@[simp] theorem State.setDie_hostPorts (s : State) (d : Nat) (x : Die) : (s.setDie d x).hostPorts = s.hostPorts := rfl
@[simp] theorem State.setDie_fab (s : State) (d : Nat) (x : Die) : (s.setDie d x).fab = s.fab := rfl
@[simp] theorem State.setDie_sessions (s : State) (d : Nat) (x : Die) : (s.setDie d x).sessions = s.sessions := rfl
@[simp] theorem State.setDie_clock (s : State) (d : Nat) (x : Die) : (s.setDie d x).clock = s.clock := rfl
@[simp] theorem State.setDie_efyth (s : State) (d : Nat) (x : Die) : (s.setDie d x).efyth = s.efyth := rfl
@[simp] theorem State.setDie_intr (s : State) (d : Nat) (x : Die) : (s.setDie d x).intr = s.intr := rfl
@[simp] theorem State.setDie_cores (s : State) (d : Nat) (x : Die) : (s.setDie d x).cores = s.cores := rfl
@[simp] theorem State.setDie_perf (s : State) (d : Nat) (x : Die) : (s.setDie d x).perf = s.perf := rfl
@[simp] theorem State.setDie_power (s : State) (d : Nat) (x : Die) : (s.setDie d x).power = s.power := rfl
@[simp] theorem State.setDie_fault (s : State) (d : Nat) (x : Die) : (s.setDie d x).fault = s.fault := rfl
@[simp] theorem State.setDie_boot (s : State) (d : Nat) (x : Die) : (s.setDie d x).boot = s.boot := rfl
@[simp] theorem State.setDie_pins (s : State) (d : Nat) (x : Die) : (s.setDie d x).pins = s.pins := rfl

/-! ### State.setLink -/

@[simp] theorem State.setLink_pending (s : State) (n : Nat) (x : Link) : (s.setLink n x).pending = s.pending := rfl
@[simp] theorem State.setLink_stamp (s : State) (n : Nat) (x : Link) : (s.setLink n x).stamp = s.stamp := rfl
@[simp] theorem State.setLink_freeCtr (s : State) (n : Nat) (x : Link) : (s.setLink n x).freeCtr = s.freeCtr := rfl
@[simp] theorem State.setLink_sent (s : State) (n : Nat) (x : Link) : (s.setLink n x).sent = s.sent := rfl
@[simp] theorem State.setLink_objs (s : State) (n : Nat) (x : Link) : (s.setLink n x).objs = s.objs := rfl
@[simp] theorem State.setLink_mem (s : State) (n : Nat) (x : Link) : (s.setLink n x).mem = s.mem := rfl
@[simp] theorem State.setLink_hbm (s : State) (n : Nat) (x : Link) : (s.setLink n x).hbm = s.hbm := rfl
@[simp] theorem State.setLink_sill (s : State) (n : Nat) (x : Link) : (s.setLink n x).sill = s.sill := rfl
@[simp] theorem State.setLink_copies (s : State) (n : Nat) (x : Link) : (s.setLink n x).copies = s.copies := rfl
@[simp] theorem State.setLink_copyQueue (s : State) (n : Nat) (x : Link) : (s.setLink n x).copyQueue = s.copyQueue := rfl
@[simp] theorem State.setLink_loft (s : State) (n : Nat) (x : Link) : (s.setLink n x).loft = s.loft := rfl
@[simp] theorem State.setLink_interleave (s : State) (n : Nat) (x : Link) : (s.setLink n x).interleave = s.interleave := rfl
@[simp] theorem State.setLink_stale (s : State) (n : Nat) (x : Link) : (s.setLink n x).stale = s.stale := rfl
@[simp] theorem State.setLink_objects (s : State) (n : Nat) (x : Link) : (s.setLink n x).objects = s.objects := rfl
@[simp] theorem State.setLink_nextObj (s : State) (n : Nat) (x : Link) : (s.setLink n x).nextObj = s.nextObj := rfl
@[simp] theorem State.setLink_engines (s : State) (n : Nat) (x : Link) : (s.setLink n x).engines = s.engines := rfl
@[simp] theorem State.setLink_bays (s : State) (n : Nat) (x : Link) : (s.setLink n x).bays = s.bays := rfl
@[simp] theorem State.setLink_dies (s : State) (n : Nat) (x : Link) : (s.setLink n x).dies = s.dies := rfl
@[simp] theorem State.setLink_res (s : State) (n : Nat) (x : Link) : (s.setLink n x).res = s.res := rfl
@[simp] theorem State.setLink_resOrder (s : State) (n : Nat) (x : Link) : (s.setLink n x).resOrder = s.resOrder := rfl
@[simp] theorem State.setLink_ctxs (s : State) (n : Nat) (x : Link) : (s.setLink n x).ctxs = s.ctxs := rfl
@[simp] theorem State.setLink_epochs (s : State) (n : Nat) (x : Link) : (s.setLink n x).epochs = s.epochs := rfl
@[simp] theorem State.setLink_sched (s : State) (n : Nat) (x : Link) : (s.setLink n x).sched = s.sched := rfl
@[simp] theorem State.setLink_ports (s : State) (n : Nat) (x : Link) : (s.setLink n x).ports = s.ports := rfl
@[simp] theorem State.setLink_hostPorts (s : State) (n : Nat) (x : Link) : (s.setLink n x).hostPorts = s.hostPorts := rfl
@[simp] theorem State.setLink_fab (s : State) (n : Nat) (x : Link) : (s.setLink n x).fab = s.fab := rfl
@[simp] theorem State.setLink_sessions (s : State) (n : Nat) (x : Link) : (s.setLink n x).sessions = s.sessions := rfl
@[simp] theorem State.setLink_clock (s : State) (n : Nat) (x : Link) : (s.setLink n x).clock = s.clock := rfl
@[simp] theorem State.setLink_efyth (s : State) (n : Nat) (x : Link) : (s.setLink n x).efyth = s.efyth := rfl
@[simp] theorem State.setLink_intr (s : State) (n : Nat) (x : Link) : (s.setLink n x).intr = s.intr := rfl
@[simp] theorem State.setLink_cores (s : State) (n : Nat) (x : Link) : (s.setLink n x).cores = s.cores := rfl
@[simp] theorem State.setLink_perf (s : State) (n : Nat) (x : Link) : (s.setLink n x).perf = s.perf := rfl
@[simp] theorem State.setLink_power (s : State) (n : Nat) (x : Link) : (s.setLink n x).power = s.power := rfl
@[simp] theorem State.setLink_fault (s : State) (n : Nat) (x : Link) : (s.setLink n x).fault = s.fault := rfl
@[simp] theorem State.setLink_boot (s : State) (n : Nat) (x : Link) : (s.setLink n x).boot = s.boot := rfl
@[simp] theorem State.setLink_pins (s : State) (n : Nat) (x : Link) : (s.setLink n x).pins = s.pins := rfl

/-! ### State.setHbmPage -/

@[simp] theorem State.setHbmPage_pending (s : State) (p : Nat) (x : HbmPage) : (s.setHbmPage p x).pending = s.pending := rfl
@[simp] theorem State.setHbmPage_stamp (s : State) (p : Nat) (x : HbmPage) : (s.setHbmPage p x).stamp = s.stamp := rfl
@[simp] theorem State.setHbmPage_freeCtr (s : State) (p : Nat) (x : HbmPage) : (s.setHbmPage p x).freeCtr = s.freeCtr := rfl
@[simp] theorem State.setHbmPage_sent (s : State) (p : Nat) (x : HbmPage) : (s.setHbmPage p x).sent = s.sent := rfl
@[simp] theorem State.setHbmPage_objs (s : State) (p : Nat) (x : HbmPage) : (s.setHbmPage p x).objs = s.objs := rfl
@[simp] theorem State.setHbmPage_mem (s : State) (p : Nat) (x : HbmPage) : (s.setHbmPage p x).mem = s.mem := rfl
@[simp] theorem State.setHbmPage_sill (s : State) (p : Nat) (x : HbmPage) : (s.setHbmPage p x).sill = s.sill := rfl
@[simp] theorem State.setHbmPage_copies (s : State) (p : Nat) (x : HbmPage) : (s.setHbmPage p x).copies = s.copies := rfl
@[simp] theorem State.setHbmPage_copyQueue (s : State) (p : Nat) (x : HbmPage) : (s.setHbmPage p x).copyQueue = s.copyQueue := rfl
@[simp] theorem State.setHbmPage_loft (s : State) (p : Nat) (x : HbmPage) : (s.setHbmPage p x).loft = s.loft := rfl
@[simp] theorem State.setHbmPage_interleave (s : State) (p : Nat) (x : HbmPage) : (s.setHbmPage p x).interleave = s.interleave := rfl
@[simp] theorem State.setHbmPage_stale (s : State) (p : Nat) (x : HbmPage) : (s.setHbmPage p x).stale = s.stale := rfl
@[simp] theorem State.setHbmPage_objects (s : State) (p : Nat) (x : HbmPage) : (s.setHbmPage p x).objects = s.objects := rfl
@[simp] theorem State.setHbmPage_nextObj (s : State) (p : Nat) (x : HbmPage) : (s.setHbmPage p x).nextObj = s.nextObj := rfl
@[simp] theorem State.setHbmPage_engines (s : State) (p : Nat) (x : HbmPage) : (s.setHbmPage p x).engines = s.engines := rfl
@[simp] theorem State.setHbmPage_bays (s : State) (p : Nat) (x : HbmPage) : (s.setHbmPage p x).bays = s.bays := rfl
@[simp] theorem State.setHbmPage_dies (s : State) (p : Nat) (x : HbmPage) : (s.setHbmPage p x).dies = s.dies := rfl
@[simp] theorem State.setHbmPage_res (s : State) (p : Nat) (x : HbmPage) : (s.setHbmPage p x).res = s.res := rfl
@[simp] theorem State.setHbmPage_resOrder (s : State) (p : Nat) (x : HbmPage) : (s.setHbmPage p x).resOrder = s.resOrder := rfl
@[simp] theorem State.setHbmPage_ctxs (s : State) (p : Nat) (x : HbmPage) : (s.setHbmPage p x).ctxs = s.ctxs := rfl
@[simp] theorem State.setHbmPage_epochs (s : State) (p : Nat) (x : HbmPage) : (s.setHbmPage p x).epochs = s.epochs := rfl
@[simp] theorem State.setHbmPage_sched (s : State) (p : Nat) (x : HbmPage) : (s.setHbmPage p x).sched = s.sched := rfl
@[simp] theorem State.setHbmPage_links (s : State) (p : Nat) (x : HbmPage) : (s.setHbmPage p x).links = s.links := rfl
@[simp] theorem State.setHbmPage_ports (s : State) (p : Nat) (x : HbmPage) : (s.setHbmPage p x).ports = s.ports := rfl
@[simp] theorem State.setHbmPage_hostPorts (s : State) (p : Nat) (x : HbmPage) : (s.setHbmPage p x).hostPorts = s.hostPorts := rfl
@[simp] theorem State.setHbmPage_fab (s : State) (p : Nat) (x : HbmPage) : (s.setHbmPage p x).fab = s.fab := rfl
@[simp] theorem State.setHbmPage_sessions (s : State) (p : Nat) (x : HbmPage) : (s.setHbmPage p x).sessions = s.sessions := rfl
@[simp] theorem State.setHbmPage_clock (s : State) (p : Nat) (x : HbmPage) : (s.setHbmPage p x).clock = s.clock := rfl
@[simp] theorem State.setHbmPage_efyth (s : State) (p : Nat) (x : HbmPage) : (s.setHbmPage p x).efyth = s.efyth := rfl
@[simp] theorem State.setHbmPage_intr (s : State) (p : Nat) (x : HbmPage) : (s.setHbmPage p x).intr = s.intr := rfl
@[simp] theorem State.setHbmPage_cores (s : State) (p : Nat) (x : HbmPage) : (s.setHbmPage p x).cores = s.cores := rfl
@[simp] theorem State.setHbmPage_perf (s : State) (p : Nat) (x : HbmPage) : (s.setHbmPage p x).perf = s.perf := rfl
@[simp] theorem State.setHbmPage_power (s : State) (p : Nat) (x : HbmPage) : (s.setHbmPage p x).power = s.power := rfl
@[simp] theorem State.setHbmPage_fault (s : State) (p : Nat) (x : HbmPage) : (s.setHbmPage p x).fault = s.fault := rfl
@[simp] theorem State.setHbmPage_boot (s : State) (p : Nat) (x : HbmPage) : (s.setHbmPage p x).boot = s.boot := rfl
@[simp] theorem State.setHbmPage_pins (s : State) (p : Nat) (x : HbmPage) : (s.setHbmPage p x).pins = s.pins := rfl

/-! ### State.setSillPage -/

@[simp] theorem State.setSillPage_pending (s : State) (p : Nat) (x : SillPage) : (s.setSillPage p x).pending = s.pending := rfl
@[simp] theorem State.setSillPage_stamp (s : State) (p : Nat) (x : SillPage) : (s.setSillPage p x).stamp = s.stamp := rfl
@[simp] theorem State.setSillPage_freeCtr (s : State) (p : Nat) (x : SillPage) : (s.setSillPage p x).freeCtr = s.freeCtr := rfl
@[simp] theorem State.setSillPage_sent (s : State) (p : Nat) (x : SillPage) : (s.setSillPage p x).sent = s.sent := rfl
@[simp] theorem State.setSillPage_objs (s : State) (p : Nat) (x : SillPage) : (s.setSillPage p x).objs = s.objs := rfl
@[simp] theorem State.setSillPage_mem (s : State) (p : Nat) (x : SillPage) : (s.setSillPage p x).mem = s.mem := rfl
@[simp] theorem State.setSillPage_hbm (s : State) (p : Nat) (x : SillPage) : (s.setSillPage p x).hbm = s.hbm := rfl
@[simp] theorem State.setSillPage_copies (s : State) (p : Nat) (x : SillPage) : (s.setSillPage p x).copies = s.copies := rfl
@[simp] theorem State.setSillPage_copyQueue (s : State) (p : Nat) (x : SillPage) : (s.setSillPage p x).copyQueue = s.copyQueue := rfl
@[simp] theorem State.setSillPage_loft (s : State) (p : Nat) (x : SillPage) : (s.setSillPage p x).loft = s.loft := rfl
@[simp] theorem State.setSillPage_interleave (s : State) (p : Nat) (x : SillPage) : (s.setSillPage p x).interleave = s.interleave := rfl
@[simp] theorem State.setSillPage_stale (s : State) (p : Nat) (x : SillPage) : (s.setSillPage p x).stale = s.stale := rfl
@[simp] theorem State.setSillPage_objects (s : State) (p : Nat) (x : SillPage) : (s.setSillPage p x).objects = s.objects := rfl
@[simp] theorem State.setSillPage_nextObj (s : State) (p : Nat) (x : SillPage) : (s.setSillPage p x).nextObj = s.nextObj := rfl
@[simp] theorem State.setSillPage_engines (s : State) (p : Nat) (x : SillPage) : (s.setSillPage p x).engines = s.engines := rfl
@[simp] theorem State.setSillPage_bays (s : State) (p : Nat) (x : SillPage) : (s.setSillPage p x).bays = s.bays := rfl
@[simp] theorem State.setSillPage_dies (s : State) (p : Nat) (x : SillPage) : (s.setSillPage p x).dies = s.dies := rfl
@[simp] theorem State.setSillPage_res (s : State) (p : Nat) (x : SillPage) : (s.setSillPage p x).res = s.res := rfl
@[simp] theorem State.setSillPage_resOrder (s : State) (p : Nat) (x : SillPage) : (s.setSillPage p x).resOrder = s.resOrder := rfl
@[simp] theorem State.setSillPage_ctxs (s : State) (p : Nat) (x : SillPage) : (s.setSillPage p x).ctxs = s.ctxs := rfl
@[simp] theorem State.setSillPage_epochs (s : State) (p : Nat) (x : SillPage) : (s.setSillPage p x).epochs = s.epochs := rfl
@[simp] theorem State.setSillPage_sched (s : State) (p : Nat) (x : SillPage) : (s.setSillPage p x).sched = s.sched := rfl
@[simp] theorem State.setSillPage_links (s : State) (p : Nat) (x : SillPage) : (s.setSillPage p x).links = s.links := rfl
@[simp] theorem State.setSillPage_ports (s : State) (p : Nat) (x : SillPage) : (s.setSillPage p x).ports = s.ports := rfl
@[simp] theorem State.setSillPage_hostPorts (s : State) (p : Nat) (x : SillPage) : (s.setSillPage p x).hostPorts = s.hostPorts := rfl
@[simp] theorem State.setSillPage_fab (s : State) (p : Nat) (x : SillPage) : (s.setSillPage p x).fab = s.fab := rfl
@[simp] theorem State.setSillPage_sessions (s : State) (p : Nat) (x : SillPage) : (s.setSillPage p x).sessions = s.sessions := rfl
@[simp] theorem State.setSillPage_clock (s : State) (p : Nat) (x : SillPage) : (s.setSillPage p x).clock = s.clock := rfl
@[simp] theorem State.setSillPage_efyth (s : State) (p : Nat) (x : SillPage) : (s.setSillPage p x).efyth = s.efyth := rfl
@[simp] theorem State.setSillPage_intr (s : State) (p : Nat) (x : SillPage) : (s.setSillPage p x).intr = s.intr := rfl
@[simp] theorem State.setSillPage_cores (s : State) (p : Nat) (x : SillPage) : (s.setSillPage p x).cores = s.cores := rfl
@[simp] theorem State.setSillPage_perf (s : State) (p : Nat) (x : SillPage) : (s.setSillPage p x).perf = s.perf := rfl
@[simp] theorem State.setSillPage_power (s : State) (p : Nat) (x : SillPage) : (s.setSillPage p x).power = s.power := rfl
@[simp] theorem State.setSillPage_fault (s : State) (p : Nat) (x : SillPage) : (s.setSillPage p x).fault = s.fault := rfl
@[simp] theorem State.setSillPage_boot (s : State) (p : Nat) (x : SillPage) : (s.setSillPage p x).boot = s.boot := rfl
@[simp] theorem State.setSillPage_pins (s : State) (p : Nat) (x : SillPage) : (s.setSillPage p x).pins = s.pins := rfl

/-! ### State.setObject -/

@[simp] theorem State.setObject_pending (s : State) (o : Nat) (x : Obj) : (s.setObject o x).pending = s.pending := rfl
@[simp] theorem State.setObject_stamp (s : State) (o : Nat) (x : Obj) : (s.setObject o x).stamp = s.stamp := rfl
@[simp] theorem State.setObject_freeCtr (s : State) (o : Nat) (x : Obj) : (s.setObject o x).freeCtr = s.freeCtr := rfl
@[simp] theorem State.setObject_sent (s : State) (o : Nat) (x : Obj) : (s.setObject o x).sent = s.sent := rfl
@[simp] theorem State.setObject_objs (s : State) (o : Nat) (x : Obj) : (s.setObject o x).objs = s.objs := rfl
@[simp] theorem State.setObject_mem (s : State) (o : Nat) (x : Obj) : (s.setObject o x).mem = s.mem := rfl
@[simp] theorem State.setObject_hbm (s : State) (o : Nat) (x : Obj) : (s.setObject o x).hbm = s.hbm := rfl
@[simp] theorem State.setObject_sill (s : State) (o : Nat) (x : Obj) : (s.setObject o x).sill = s.sill := rfl
@[simp] theorem State.setObject_copies (s : State) (o : Nat) (x : Obj) : (s.setObject o x).copies = s.copies := rfl
@[simp] theorem State.setObject_copyQueue (s : State) (o : Nat) (x : Obj) : (s.setObject o x).copyQueue = s.copyQueue := rfl
@[simp] theorem State.setObject_loft (s : State) (o : Nat) (x : Obj) : (s.setObject o x).loft = s.loft := rfl
@[simp] theorem State.setObject_interleave (s : State) (o : Nat) (x : Obj) : (s.setObject o x).interleave = s.interleave := rfl
@[simp] theorem State.setObject_stale (s : State) (o : Nat) (x : Obj) : (s.setObject o x).stale = s.stale := rfl
@[simp] theorem State.setObject_nextObj (s : State) (o : Nat) (x : Obj) : (s.setObject o x).nextObj = s.nextObj := rfl
@[simp] theorem State.setObject_engines (s : State) (o : Nat) (x : Obj) : (s.setObject o x).engines = s.engines := rfl
@[simp] theorem State.setObject_bays (s : State) (o : Nat) (x : Obj) : (s.setObject o x).bays = s.bays := rfl
@[simp] theorem State.setObject_dies (s : State) (o : Nat) (x : Obj) : (s.setObject o x).dies = s.dies := rfl
@[simp] theorem State.setObject_res (s : State) (o : Nat) (x : Obj) : (s.setObject o x).res = s.res := rfl
@[simp] theorem State.setObject_resOrder (s : State) (o : Nat) (x : Obj) : (s.setObject o x).resOrder = s.resOrder := rfl
@[simp] theorem State.setObject_ctxs (s : State) (o : Nat) (x : Obj) : (s.setObject o x).ctxs = s.ctxs := rfl
@[simp] theorem State.setObject_epochs (s : State) (o : Nat) (x : Obj) : (s.setObject o x).epochs = s.epochs := rfl
@[simp] theorem State.setObject_sched (s : State) (o : Nat) (x : Obj) : (s.setObject o x).sched = s.sched := rfl
@[simp] theorem State.setObject_links (s : State) (o : Nat) (x : Obj) : (s.setObject o x).links = s.links := rfl
@[simp] theorem State.setObject_ports (s : State) (o : Nat) (x : Obj) : (s.setObject o x).ports = s.ports := rfl
@[simp] theorem State.setObject_hostPorts (s : State) (o : Nat) (x : Obj) : (s.setObject o x).hostPorts = s.hostPorts := rfl
@[simp] theorem State.setObject_fab (s : State) (o : Nat) (x : Obj) : (s.setObject o x).fab = s.fab := rfl
@[simp] theorem State.setObject_sessions (s : State) (o : Nat) (x : Obj) : (s.setObject o x).sessions = s.sessions := rfl
@[simp] theorem State.setObject_clock (s : State) (o : Nat) (x : Obj) : (s.setObject o x).clock = s.clock := rfl
@[simp] theorem State.setObject_efyth (s : State) (o : Nat) (x : Obj) : (s.setObject o x).efyth = s.efyth := rfl
@[simp] theorem State.setObject_intr (s : State) (o : Nat) (x : Obj) : (s.setObject o x).intr = s.intr := rfl
@[simp] theorem State.setObject_cores (s : State) (o : Nat) (x : Obj) : (s.setObject o x).cores = s.cores := rfl
@[simp] theorem State.setObject_perf (s : State) (o : Nat) (x : Obj) : (s.setObject o x).perf = s.perf := rfl
@[simp] theorem State.setObject_power (s : State) (o : Nat) (x : Obj) : (s.setObject o x).power = s.power := rfl
@[simp] theorem State.setObject_fault (s : State) (o : Nat) (x : Obj) : (s.setObject o x).fault = s.fault := rfl
@[simp] theorem State.setObject_boot (s : State) (o : Nat) (x : Obj) : (s.setObject o x).boot = s.boot := rfl
@[simp] theorem State.setObject_pins (s : State) (o : Nat) (x : Obj) : (s.setObject o x).pins = s.pins := rfl

/-! ### State.setSession -/

@[simp] theorem State.setSession_pending (s : State) (n : Nat) (x : Session) : (s.setSession n x).pending = s.pending := rfl
@[simp] theorem State.setSession_stamp (s : State) (n : Nat) (x : Session) : (s.setSession n x).stamp = s.stamp := rfl
@[simp] theorem State.setSession_freeCtr (s : State) (n : Nat) (x : Session) : (s.setSession n x).freeCtr = s.freeCtr := rfl
@[simp] theorem State.setSession_sent (s : State) (n : Nat) (x : Session) : (s.setSession n x).sent = s.sent := rfl
@[simp] theorem State.setSession_objs (s : State) (n : Nat) (x : Session) : (s.setSession n x).objs = s.objs := rfl
@[simp] theorem State.setSession_mem (s : State) (n : Nat) (x : Session) : (s.setSession n x).mem = s.mem := rfl
@[simp] theorem State.setSession_hbm (s : State) (n : Nat) (x : Session) : (s.setSession n x).hbm = s.hbm := rfl
@[simp] theorem State.setSession_sill (s : State) (n : Nat) (x : Session) : (s.setSession n x).sill = s.sill := rfl
@[simp] theorem State.setSession_copies (s : State) (n : Nat) (x : Session) : (s.setSession n x).copies = s.copies := rfl
@[simp] theorem State.setSession_copyQueue (s : State) (n : Nat) (x : Session) : (s.setSession n x).copyQueue = s.copyQueue := rfl
@[simp] theorem State.setSession_loft (s : State) (n : Nat) (x : Session) : (s.setSession n x).loft = s.loft := rfl
@[simp] theorem State.setSession_interleave (s : State) (n : Nat) (x : Session) : (s.setSession n x).interleave = s.interleave := rfl
@[simp] theorem State.setSession_stale (s : State) (n : Nat) (x : Session) : (s.setSession n x).stale = s.stale := rfl
@[simp] theorem State.setSession_objects (s : State) (n : Nat) (x : Session) : (s.setSession n x).objects = s.objects := rfl
@[simp] theorem State.setSession_nextObj (s : State) (n : Nat) (x : Session) : (s.setSession n x).nextObj = s.nextObj := rfl
@[simp] theorem State.setSession_engines (s : State) (n : Nat) (x : Session) : (s.setSession n x).engines = s.engines := rfl
@[simp] theorem State.setSession_bays (s : State) (n : Nat) (x : Session) : (s.setSession n x).bays = s.bays := rfl
@[simp] theorem State.setSession_dies (s : State) (n : Nat) (x : Session) : (s.setSession n x).dies = s.dies := rfl
@[simp] theorem State.setSession_res (s : State) (n : Nat) (x : Session) : (s.setSession n x).res = s.res := rfl
@[simp] theorem State.setSession_resOrder (s : State) (n : Nat) (x : Session) : (s.setSession n x).resOrder = s.resOrder := rfl
@[simp] theorem State.setSession_ctxs (s : State) (n : Nat) (x : Session) : (s.setSession n x).ctxs = s.ctxs := rfl
@[simp] theorem State.setSession_epochs (s : State) (n : Nat) (x : Session) : (s.setSession n x).epochs = s.epochs := rfl
@[simp] theorem State.setSession_sched (s : State) (n : Nat) (x : Session) : (s.setSession n x).sched = s.sched := rfl
@[simp] theorem State.setSession_links (s : State) (n : Nat) (x : Session) : (s.setSession n x).links = s.links := rfl
@[simp] theorem State.setSession_ports (s : State) (n : Nat) (x : Session) : (s.setSession n x).ports = s.ports := rfl
@[simp] theorem State.setSession_hostPorts (s : State) (n : Nat) (x : Session) : (s.setSession n x).hostPorts = s.hostPorts := rfl
@[simp] theorem State.setSession_fab (s : State) (n : Nat) (x : Session) : (s.setSession n x).fab = s.fab := rfl
@[simp] theorem State.setSession_clock (s : State) (n : Nat) (x : Session) : (s.setSession n x).clock = s.clock := rfl
@[simp] theorem State.setSession_efyth (s : State) (n : Nat) (x : Session) : (s.setSession n x).efyth = s.efyth := rfl
@[simp] theorem State.setSession_intr (s : State) (n : Nat) (x : Session) : (s.setSession n x).intr = s.intr := rfl
@[simp] theorem State.setSession_cores (s : State) (n : Nat) (x : Session) : (s.setSession n x).cores = s.cores := rfl
@[simp] theorem State.setSession_perf (s : State) (n : Nat) (x : Session) : (s.setSession n x).perf = s.perf := rfl
@[simp] theorem State.setSession_power (s : State) (n : Nat) (x : Session) : (s.setSession n x).power = s.power := rfl
@[simp] theorem State.setSession_fault (s : State) (n : Nat) (x : Session) : (s.setSession n x).fault = s.fault := rfl
@[simp] theorem State.setSession_boot (s : State) (n : Nat) (x : Session) : (s.setSession n x).boot = s.boot := rfl
@[simp] theorem State.setSession_pins (s : State) (n : Nat) (x : Session) : (s.setSession n x).pins = s.pins := rfl

/-! ### State.setSourceOf -/

@[simp] theorem State.setSourceOf_pending (s : State) (n : Nat) (x : Source) : (s.setSourceOf n x).pending = s.pending := rfl
@[simp] theorem State.setSourceOf_stamp (s : State) (n : Nat) (x : Source) : (s.setSourceOf n x).stamp = s.stamp := rfl
@[simp] theorem State.setSourceOf_freeCtr (s : State) (n : Nat) (x : Source) : (s.setSourceOf n x).freeCtr = s.freeCtr := rfl
@[simp] theorem State.setSourceOf_sent (s : State) (n : Nat) (x : Source) : (s.setSourceOf n x).sent = s.sent := rfl
@[simp] theorem State.setSourceOf_objs (s : State) (n : Nat) (x : Source) : (s.setSourceOf n x).objs = s.objs := rfl
@[simp] theorem State.setSourceOf_mem (s : State) (n : Nat) (x : Source) : (s.setSourceOf n x).mem = s.mem := rfl
@[simp] theorem State.setSourceOf_hbm (s : State) (n : Nat) (x : Source) : (s.setSourceOf n x).hbm = s.hbm := rfl
@[simp] theorem State.setSourceOf_sill (s : State) (n : Nat) (x : Source) : (s.setSourceOf n x).sill = s.sill := rfl
@[simp] theorem State.setSourceOf_copies (s : State) (n : Nat) (x : Source) : (s.setSourceOf n x).copies = s.copies := rfl
@[simp] theorem State.setSourceOf_copyQueue (s : State) (n : Nat) (x : Source) : (s.setSourceOf n x).copyQueue = s.copyQueue := rfl
@[simp] theorem State.setSourceOf_loft (s : State) (n : Nat) (x : Source) : (s.setSourceOf n x).loft = s.loft := rfl
@[simp] theorem State.setSourceOf_interleave (s : State) (n : Nat) (x : Source) : (s.setSourceOf n x).interleave = s.interleave := rfl
@[simp] theorem State.setSourceOf_stale (s : State) (n : Nat) (x : Source) : (s.setSourceOf n x).stale = s.stale := rfl
@[simp] theorem State.setSourceOf_objects (s : State) (n : Nat) (x : Source) : (s.setSourceOf n x).objects = s.objects := rfl
@[simp] theorem State.setSourceOf_nextObj (s : State) (n : Nat) (x : Source) : (s.setSourceOf n x).nextObj = s.nextObj := rfl
@[simp] theorem State.setSourceOf_engines (s : State) (n : Nat) (x : Source) : (s.setSourceOf n x).engines = s.engines := rfl
@[simp] theorem State.setSourceOf_bays (s : State) (n : Nat) (x : Source) : (s.setSourceOf n x).bays = s.bays := rfl
@[simp] theorem State.setSourceOf_dies (s : State) (n : Nat) (x : Source) : (s.setSourceOf n x).dies = s.dies := rfl
@[simp] theorem State.setSourceOf_res (s : State) (n : Nat) (x : Source) : (s.setSourceOf n x).res = s.res := rfl
@[simp] theorem State.setSourceOf_resOrder (s : State) (n : Nat) (x : Source) : (s.setSourceOf n x).resOrder = s.resOrder := rfl
@[simp] theorem State.setSourceOf_ctxs (s : State) (n : Nat) (x : Source) : (s.setSourceOf n x).ctxs = s.ctxs := rfl
@[simp] theorem State.setSourceOf_epochs (s : State) (n : Nat) (x : Source) : (s.setSourceOf n x).epochs = s.epochs := rfl
@[simp] theorem State.setSourceOf_sched (s : State) (n : Nat) (x : Source) : (s.setSourceOf n x).sched = s.sched := rfl
@[simp] theorem State.setSourceOf_links (s : State) (n : Nat) (x : Source) : (s.setSourceOf n x).links = s.links := rfl
@[simp] theorem State.setSourceOf_ports (s : State) (n : Nat) (x : Source) : (s.setSourceOf n x).ports = s.ports := rfl
@[simp] theorem State.setSourceOf_hostPorts (s : State) (n : Nat) (x : Source) : (s.setSourceOf n x).hostPorts = s.hostPorts := rfl
@[simp] theorem State.setSourceOf_fab (s : State) (n : Nat) (x : Source) : (s.setSourceOf n x).fab = s.fab := rfl
@[simp] theorem State.setSourceOf_sessions (s : State) (n : Nat) (x : Source) : (s.setSourceOf n x).sessions = s.sessions := rfl
@[simp] theorem State.setSourceOf_clock (s : State) (n : Nat) (x : Source) : (s.setSourceOf n x).clock = s.clock := rfl
@[simp] theorem State.setSourceOf_efyth (s : State) (n : Nat) (x : Source) : (s.setSourceOf n x).efyth = s.efyth := rfl
@[simp] theorem State.setSourceOf_cores (s : State) (n : Nat) (x : Source) : (s.setSourceOf n x).cores = s.cores := rfl
@[simp] theorem State.setSourceOf_perf (s : State) (n : Nat) (x : Source) : (s.setSourceOf n x).perf = s.perf := rfl
@[simp] theorem State.setSourceOf_power (s : State) (n : Nat) (x : Source) : (s.setSourceOf n x).power = s.power := rfl
@[simp] theorem State.setSourceOf_fault (s : State) (n : Nat) (x : Source) : (s.setSourceOf n x).fault = s.fault := rfl
@[simp] theorem State.setSourceOf_boot (s : State) (n : Nat) (x : Source) : (s.setSourceOf n x).boot = s.boot := rfl
@[simp] theorem State.setSourceOf_pins (s : State) (n : Nat) (x : Source) : (s.setSourceOf n x).pins = s.pins := rfl

/-! ### State.setCore -/

@[simp] theorem State.setCore_pending (s : State) (k : Nat) (x : Core) : (s.setCore k x).pending = s.pending := rfl
@[simp] theorem State.setCore_stamp (s : State) (k : Nat) (x : Core) : (s.setCore k x).stamp = s.stamp := rfl
@[simp] theorem State.setCore_freeCtr (s : State) (k : Nat) (x : Core) : (s.setCore k x).freeCtr = s.freeCtr := rfl
@[simp] theorem State.setCore_sent (s : State) (k : Nat) (x : Core) : (s.setCore k x).sent = s.sent := rfl
@[simp] theorem State.setCore_objs (s : State) (k : Nat) (x : Core) : (s.setCore k x).objs = s.objs := rfl
@[simp] theorem State.setCore_mem (s : State) (k : Nat) (x : Core) : (s.setCore k x).mem = s.mem := rfl
@[simp] theorem State.setCore_hbm (s : State) (k : Nat) (x : Core) : (s.setCore k x).hbm = s.hbm := rfl
@[simp] theorem State.setCore_sill (s : State) (k : Nat) (x : Core) : (s.setCore k x).sill = s.sill := rfl
@[simp] theorem State.setCore_copies (s : State) (k : Nat) (x : Core) : (s.setCore k x).copies = s.copies := rfl
@[simp] theorem State.setCore_copyQueue (s : State) (k : Nat) (x : Core) : (s.setCore k x).copyQueue = s.copyQueue := rfl
@[simp] theorem State.setCore_loft (s : State) (k : Nat) (x : Core) : (s.setCore k x).loft = s.loft := rfl
@[simp] theorem State.setCore_interleave (s : State) (k : Nat) (x : Core) : (s.setCore k x).interleave = s.interleave := rfl
@[simp] theorem State.setCore_stale (s : State) (k : Nat) (x : Core) : (s.setCore k x).stale = s.stale := rfl
@[simp] theorem State.setCore_objects (s : State) (k : Nat) (x : Core) : (s.setCore k x).objects = s.objects := rfl
@[simp] theorem State.setCore_nextObj (s : State) (k : Nat) (x : Core) : (s.setCore k x).nextObj = s.nextObj := rfl
@[simp] theorem State.setCore_engines (s : State) (k : Nat) (x : Core) : (s.setCore k x).engines = s.engines := rfl
@[simp] theorem State.setCore_bays (s : State) (k : Nat) (x : Core) : (s.setCore k x).bays = s.bays := rfl
@[simp] theorem State.setCore_dies (s : State) (k : Nat) (x : Core) : (s.setCore k x).dies = s.dies := rfl
@[simp] theorem State.setCore_res (s : State) (k : Nat) (x : Core) : (s.setCore k x).res = s.res := rfl
@[simp] theorem State.setCore_resOrder (s : State) (k : Nat) (x : Core) : (s.setCore k x).resOrder = s.resOrder := rfl
@[simp] theorem State.setCore_ctxs (s : State) (k : Nat) (x : Core) : (s.setCore k x).ctxs = s.ctxs := rfl
@[simp] theorem State.setCore_epochs (s : State) (k : Nat) (x : Core) : (s.setCore k x).epochs = s.epochs := rfl
@[simp] theorem State.setCore_sched (s : State) (k : Nat) (x : Core) : (s.setCore k x).sched = s.sched := rfl
@[simp] theorem State.setCore_links (s : State) (k : Nat) (x : Core) : (s.setCore k x).links = s.links := rfl
@[simp] theorem State.setCore_ports (s : State) (k : Nat) (x : Core) : (s.setCore k x).ports = s.ports := rfl
@[simp] theorem State.setCore_hostPorts (s : State) (k : Nat) (x : Core) : (s.setCore k x).hostPorts = s.hostPorts := rfl
@[simp] theorem State.setCore_fab (s : State) (k : Nat) (x : Core) : (s.setCore k x).fab = s.fab := rfl
@[simp] theorem State.setCore_sessions (s : State) (k : Nat) (x : Core) : (s.setCore k x).sessions = s.sessions := rfl
@[simp] theorem State.setCore_clock (s : State) (k : Nat) (x : Core) : (s.setCore k x).clock = s.clock := rfl
@[simp] theorem State.setCore_efyth (s : State) (k : Nat) (x : Core) : (s.setCore k x).efyth = s.efyth := rfl
@[simp] theorem State.setCore_intr (s : State) (k : Nat) (x : Core) : (s.setCore k x).intr = s.intr := rfl
@[simp] theorem State.setCore_perf (s : State) (k : Nat) (x : Core) : (s.setCore k x).perf = s.perf := rfl
@[simp] theorem State.setCore_power (s : State) (k : Nat) (x : Core) : (s.setCore k x).power = s.power := rfl
@[simp] theorem State.setCore_fault (s : State) (k : Nat) (x : Core) : (s.setCore k x).fault = s.fault := rfl
@[simp] theorem State.setCore_boot (s : State) (k : Nat) (x : Core) : (s.setCore k x).boot = s.boot := rfl
@[simp] theorem State.setCore_pins (s : State) (k : Nat) (x : Core) : (s.setCore k x).pins = s.pins := rfl

/-! ### State.setResUnit -/

@[simp] theorem State.setResUnit_pending (s : State) (u : Nat) (x : ResUnit) : (s.setResUnit u x).pending = s.pending := rfl
@[simp] theorem State.setResUnit_stamp (s : State) (u : Nat) (x : ResUnit) : (s.setResUnit u x).stamp = s.stamp := rfl
@[simp] theorem State.setResUnit_freeCtr (s : State) (u : Nat) (x : ResUnit) : (s.setResUnit u x).freeCtr = s.freeCtr := rfl
@[simp] theorem State.setResUnit_sent (s : State) (u : Nat) (x : ResUnit) : (s.setResUnit u x).sent = s.sent := rfl
@[simp] theorem State.setResUnit_objs (s : State) (u : Nat) (x : ResUnit) : (s.setResUnit u x).objs = s.objs := rfl
@[simp] theorem State.setResUnit_mem (s : State) (u : Nat) (x : ResUnit) : (s.setResUnit u x).mem = s.mem := rfl
@[simp] theorem State.setResUnit_hbm (s : State) (u : Nat) (x : ResUnit) : (s.setResUnit u x).hbm = s.hbm := rfl
@[simp] theorem State.setResUnit_sill (s : State) (u : Nat) (x : ResUnit) : (s.setResUnit u x).sill = s.sill := rfl
@[simp] theorem State.setResUnit_copies (s : State) (u : Nat) (x : ResUnit) : (s.setResUnit u x).copies = s.copies := rfl
@[simp] theorem State.setResUnit_copyQueue (s : State) (u : Nat) (x : ResUnit) : (s.setResUnit u x).copyQueue = s.copyQueue := rfl
@[simp] theorem State.setResUnit_loft (s : State) (u : Nat) (x : ResUnit) : (s.setResUnit u x).loft = s.loft := rfl
@[simp] theorem State.setResUnit_interleave (s : State) (u : Nat) (x : ResUnit) : (s.setResUnit u x).interleave = s.interleave := rfl
@[simp] theorem State.setResUnit_stale (s : State) (u : Nat) (x : ResUnit) : (s.setResUnit u x).stale = s.stale := rfl
@[simp] theorem State.setResUnit_objects (s : State) (u : Nat) (x : ResUnit) : (s.setResUnit u x).objects = s.objects := rfl
@[simp] theorem State.setResUnit_nextObj (s : State) (u : Nat) (x : ResUnit) : (s.setResUnit u x).nextObj = s.nextObj := rfl
@[simp] theorem State.setResUnit_engines (s : State) (u : Nat) (x : ResUnit) : (s.setResUnit u x).engines = s.engines := rfl
@[simp] theorem State.setResUnit_bays (s : State) (u : Nat) (x : ResUnit) : (s.setResUnit u x).bays = s.bays := rfl
@[simp] theorem State.setResUnit_dies (s : State) (u : Nat) (x : ResUnit) : (s.setResUnit u x).dies = s.dies := rfl
@[simp] theorem State.setResUnit_resOrder (s : State) (u : Nat) (x : ResUnit) : (s.setResUnit u x).resOrder = s.resOrder := rfl
@[simp] theorem State.setResUnit_ctxs (s : State) (u : Nat) (x : ResUnit) : (s.setResUnit u x).ctxs = s.ctxs := rfl
@[simp] theorem State.setResUnit_epochs (s : State) (u : Nat) (x : ResUnit) : (s.setResUnit u x).epochs = s.epochs := rfl
@[simp] theorem State.setResUnit_sched (s : State) (u : Nat) (x : ResUnit) : (s.setResUnit u x).sched = s.sched := rfl
@[simp] theorem State.setResUnit_links (s : State) (u : Nat) (x : ResUnit) : (s.setResUnit u x).links = s.links := rfl
@[simp] theorem State.setResUnit_ports (s : State) (u : Nat) (x : ResUnit) : (s.setResUnit u x).ports = s.ports := rfl
@[simp] theorem State.setResUnit_hostPorts (s : State) (u : Nat) (x : ResUnit) : (s.setResUnit u x).hostPorts = s.hostPorts := rfl
@[simp] theorem State.setResUnit_fab (s : State) (u : Nat) (x : ResUnit) : (s.setResUnit u x).fab = s.fab := rfl
@[simp] theorem State.setResUnit_sessions (s : State) (u : Nat) (x : ResUnit) : (s.setResUnit u x).sessions = s.sessions := rfl
@[simp] theorem State.setResUnit_clock (s : State) (u : Nat) (x : ResUnit) : (s.setResUnit u x).clock = s.clock := rfl
@[simp] theorem State.setResUnit_efyth (s : State) (u : Nat) (x : ResUnit) : (s.setResUnit u x).efyth = s.efyth := rfl
@[simp] theorem State.setResUnit_intr (s : State) (u : Nat) (x : ResUnit) : (s.setResUnit u x).intr = s.intr := rfl
@[simp] theorem State.setResUnit_cores (s : State) (u : Nat) (x : ResUnit) : (s.setResUnit u x).cores = s.cores := rfl
@[simp] theorem State.setResUnit_perf (s : State) (u : Nat) (x : ResUnit) : (s.setResUnit u x).perf = s.perf := rfl
@[simp] theorem State.setResUnit_power (s : State) (u : Nat) (x : ResUnit) : (s.setResUnit u x).power = s.power := rfl
@[simp] theorem State.setResUnit_fault (s : State) (u : Nat) (x : ResUnit) : (s.setResUnit u x).fault = s.fault := rfl
@[simp] theorem State.setResUnit_boot (s : State) (u : Nat) (x : ResUnit) : (s.setResUnit u x).boot = s.boot := rfl
@[simp] theorem State.setResUnit_pins (s : State) (u : Nat) (x : ResUnit) : (s.setResUnit u x).pins = s.pins := rfl

/-! ### State.setPerfValue -/

@[simp] theorem State.setPerfValue_pending (s : State) (u k v : Nat) : (s.setPerfValue u k v).pending = s.pending := rfl
@[simp] theorem State.setPerfValue_stamp (s : State) (u k v : Nat) : (s.setPerfValue u k v).stamp = s.stamp := rfl
@[simp] theorem State.setPerfValue_freeCtr (s : State) (u k v : Nat) : (s.setPerfValue u k v).freeCtr = s.freeCtr := rfl
@[simp] theorem State.setPerfValue_sent (s : State) (u k v : Nat) : (s.setPerfValue u k v).sent = s.sent := rfl
@[simp] theorem State.setPerfValue_objs (s : State) (u k v : Nat) : (s.setPerfValue u k v).objs = s.objs := rfl
@[simp] theorem State.setPerfValue_mem (s : State) (u k v : Nat) : (s.setPerfValue u k v).mem = s.mem := rfl
@[simp] theorem State.setPerfValue_hbm (s : State) (u k v : Nat) : (s.setPerfValue u k v).hbm = s.hbm := rfl
@[simp] theorem State.setPerfValue_sill (s : State) (u k v : Nat) : (s.setPerfValue u k v).sill = s.sill := rfl
@[simp] theorem State.setPerfValue_copies (s : State) (u k v : Nat) : (s.setPerfValue u k v).copies = s.copies := rfl
@[simp] theorem State.setPerfValue_copyQueue (s : State) (u k v : Nat) : (s.setPerfValue u k v).copyQueue = s.copyQueue := rfl
@[simp] theorem State.setPerfValue_loft (s : State) (u k v : Nat) : (s.setPerfValue u k v).loft = s.loft := rfl
@[simp] theorem State.setPerfValue_interleave (s : State) (u k v : Nat) : (s.setPerfValue u k v).interleave = s.interleave := rfl
@[simp] theorem State.setPerfValue_stale (s : State) (u k v : Nat) : (s.setPerfValue u k v).stale = s.stale := rfl
@[simp] theorem State.setPerfValue_objects (s : State) (u k v : Nat) : (s.setPerfValue u k v).objects = s.objects := rfl
@[simp] theorem State.setPerfValue_nextObj (s : State) (u k v : Nat) : (s.setPerfValue u k v).nextObj = s.nextObj := rfl
@[simp] theorem State.setPerfValue_engines (s : State) (u k v : Nat) : (s.setPerfValue u k v).engines = s.engines := rfl
@[simp] theorem State.setPerfValue_bays (s : State) (u k v : Nat) : (s.setPerfValue u k v).bays = s.bays := rfl
@[simp] theorem State.setPerfValue_dies (s : State) (u k v : Nat) : (s.setPerfValue u k v).dies = s.dies := rfl
@[simp] theorem State.setPerfValue_res (s : State) (u k v : Nat) : (s.setPerfValue u k v).res = s.res := rfl
@[simp] theorem State.setPerfValue_resOrder (s : State) (u k v : Nat) : (s.setPerfValue u k v).resOrder = s.resOrder := rfl
@[simp] theorem State.setPerfValue_ctxs (s : State) (u k v : Nat) : (s.setPerfValue u k v).ctxs = s.ctxs := rfl
@[simp] theorem State.setPerfValue_epochs (s : State) (u k v : Nat) : (s.setPerfValue u k v).epochs = s.epochs := rfl
@[simp] theorem State.setPerfValue_sched (s : State) (u k v : Nat) : (s.setPerfValue u k v).sched = s.sched := rfl
@[simp] theorem State.setPerfValue_links (s : State) (u k v : Nat) : (s.setPerfValue u k v).links = s.links := rfl
@[simp] theorem State.setPerfValue_ports (s : State) (u k v : Nat) : (s.setPerfValue u k v).ports = s.ports := rfl
@[simp] theorem State.setPerfValue_hostPorts (s : State) (u k v : Nat) : (s.setPerfValue u k v).hostPorts = s.hostPorts := rfl
@[simp] theorem State.setPerfValue_fab (s : State) (u k v : Nat) : (s.setPerfValue u k v).fab = s.fab := rfl
@[simp] theorem State.setPerfValue_sessions (s : State) (u k v : Nat) : (s.setPerfValue u k v).sessions = s.sessions := rfl
@[simp] theorem State.setPerfValue_clock (s : State) (u k v : Nat) : (s.setPerfValue u k v).clock = s.clock := rfl
@[simp] theorem State.setPerfValue_efyth (s : State) (u k v : Nat) : (s.setPerfValue u k v).efyth = s.efyth := rfl
@[simp] theorem State.setPerfValue_intr (s : State) (u k v : Nat) : (s.setPerfValue u k v).intr = s.intr := rfl
@[simp] theorem State.setPerfValue_cores (s : State) (u k v : Nat) : (s.setPerfValue u k v).cores = s.cores := rfl
@[simp] theorem State.setPerfValue_power (s : State) (u k v : Nat) : (s.setPerfValue u k v).power = s.power := rfl
@[simp] theorem State.setPerfValue_fault (s : State) (u k v : Nat) : (s.setPerfValue u k v).fault = s.fault := rfl
@[simp] theorem State.setPerfValue_boot (s : State) (u k v : Nat) : (s.setPerfValue u k v).boot = s.boot := rfl
@[simp] theorem State.setPerfValue_pins (s : State) (u k v : Nat) : (s.setPerfValue u k v).pins = s.pins := rfl

/-! ### State.setObj -/

@[simp] theorem State.setObj_pending (s : State) (i k : Nat) (v : ObjVal) : (s.setObj i k v).pending = s.pending := rfl
@[simp] theorem State.setObj_stamp (s : State) (i k : Nat) (v : ObjVal) : (s.setObj i k v).stamp = s.stamp := rfl
@[simp] theorem State.setObj_freeCtr (s : State) (i k : Nat) (v : ObjVal) : (s.setObj i k v).freeCtr = s.freeCtr := rfl
@[simp] theorem State.setObj_sent (s : State) (i k : Nat) (v : ObjVal) : (s.setObj i k v).sent = s.sent := rfl
@[simp] theorem State.setObj_mem (s : State) (i k : Nat) (v : ObjVal) : (s.setObj i k v).mem = s.mem := rfl
@[simp] theorem State.setObj_hbm (s : State) (i k : Nat) (v : ObjVal) : (s.setObj i k v).hbm = s.hbm := rfl
@[simp] theorem State.setObj_sill (s : State) (i k : Nat) (v : ObjVal) : (s.setObj i k v).sill = s.sill := rfl
@[simp] theorem State.setObj_copies (s : State) (i k : Nat) (v : ObjVal) : (s.setObj i k v).copies = s.copies := rfl
@[simp] theorem State.setObj_copyQueue (s : State) (i k : Nat) (v : ObjVal) : (s.setObj i k v).copyQueue = s.copyQueue := rfl
@[simp] theorem State.setObj_loft (s : State) (i k : Nat) (v : ObjVal) : (s.setObj i k v).loft = s.loft := rfl
@[simp] theorem State.setObj_interleave (s : State) (i k : Nat) (v : ObjVal) : (s.setObj i k v).interleave = s.interleave := rfl
@[simp] theorem State.setObj_stale (s : State) (i k : Nat) (v : ObjVal) : (s.setObj i k v).stale = s.stale := rfl
@[simp] theorem State.setObj_objects (s : State) (i k : Nat) (v : ObjVal) : (s.setObj i k v).objects = s.objects := rfl
@[simp] theorem State.setObj_nextObj (s : State) (i k : Nat) (v : ObjVal) : (s.setObj i k v).nextObj = s.nextObj := rfl
@[simp] theorem State.setObj_engines (s : State) (i k : Nat) (v : ObjVal) : (s.setObj i k v).engines = s.engines := rfl
@[simp] theorem State.setObj_bays (s : State) (i k : Nat) (v : ObjVal) : (s.setObj i k v).bays = s.bays := rfl
@[simp] theorem State.setObj_dies (s : State) (i k : Nat) (v : ObjVal) : (s.setObj i k v).dies = s.dies := rfl
@[simp] theorem State.setObj_res (s : State) (i k : Nat) (v : ObjVal) : (s.setObj i k v).res = s.res := rfl
@[simp] theorem State.setObj_resOrder (s : State) (i k : Nat) (v : ObjVal) : (s.setObj i k v).resOrder = s.resOrder := rfl
@[simp] theorem State.setObj_ctxs (s : State) (i k : Nat) (v : ObjVal) : (s.setObj i k v).ctxs = s.ctxs := rfl
@[simp] theorem State.setObj_epochs (s : State) (i k : Nat) (v : ObjVal) : (s.setObj i k v).epochs = s.epochs := rfl
@[simp] theorem State.setObj_sched (s : State) (i k : Nat) (v : ObjVal) : (s.setObj i k v).sched = s.sched := rfl
@[simp] theorem State.setObj_links (s : State) (i k : Nat) (v : ObjVal) : (s.setObj i k v).links = s.links := rfl
@[simp] theorem State.setObj_ports (s : State) (i k : Nat) (v : ObjVal) : (s.setObj i k v).ports = s.ports := rfl
@[simp] theorem State.setObj_hostPorts (s : State) (i k : Nat) (v : ObjVal) : (s.setObj i k v).hostPorts = s.hostPorts := rfl
@[simp] theorem State.setObj_fab (s : State) (i k : Nat) (v : ObjVal) : (s.setObj i k v).fab = s.fab := rfl
@[simp] theorem State.setObj_sessions (s : State) (i k : Nat) (v : ObjVal) : (s.setObj i k v).sessions = s.sessions := rfl
@[simp] theorem State.setObj_clock (s : State) (i k : Nat) (v : ObjVal) : (s.setObj i k v).clock = s.clock := rfl
@[simp] theorem State.setObj_efyth (s : State) (i k : Nat) (v : ObjVal) : (s.setObj i k v).efyth = s.efyth := rfl
@[simp] theorem State.setObj_intr (s : State) (i k : Nat) (v : ObjVal) : (s.setObj i k v).intr = s.intr := rfl
@[simp] theorem State.setObj_cores (s : State) (i k : Nat) (v : ObjVal) : (s.setObj i k v).cores = s.cores := rfl
@[simp] theorem State.setObj_perf (s : State) (i k : Nat) (v : ObjVal) : (s.setObj i k v).perf = s.perf := rfl
@[simp] theorem State.setObj_power (s : State) (i k : Nat) (v : ObjVal) : (s.setObj i k v).power = s.power := rfl
@[simp] theorem State.setObj_fault (s : State) (i k : Nat) (v : ObjVal) : (s.setObj i k v).fault = s.fault := rfl
@[simp] theorem State.setObj_boot (s : State) (i k : Nat) (v : ObjVal) : (s.setObj i k v).boot = s.boot := rfl
@[simp] theorem State.setObj_pins (s : State) (i k : Nat) (v : ObjVal) : (s.setObj i k v).pins = s.pins := rfl

/-! ### State.setCnt -/

@[simp] theorem State.setCnt_pending (s : State) (i k n : Nat) : (s.setCnt i k n).pending = s.pending := rfl
@[simp] theorem State.setCnt_stamp (s : State) (i k n : Nat) : (s.setCnt i k n).stamp = s.stamp := rfl
@[simp] theorem State.setCnt_freeCtr (s : State) (i k n : Nat) : (s.setCnt i k n).freeCtr = s.freeCtr := rfl
@[simp] theorem State.setCnt_sent (s : State) (i k n : Nat) : (s.setCnt i k n).sent = s.sent := rfl
@[simp] theorem State.setCnt_mem (s : State) (i k n : Nat) : (s.setCnt i k n).mem = s.mem := rfl
@[simp] theorem State.setCnt_hbm (s : State) (i k n : Nat) : (s.setCnt i k n).hbm = s.hbm := rfl
@[simp] theorem State.setCnt_sill (s : State) (i k n : Nat) : (s.setCnt i k n).sill = s.sill := rfl
@[simp] theorem State.setCnt_copies (s : State) (i k n : Nat) : (s.setCnt i k n).copies = s.copies := rfl
@[simp] theorem State.setCnt_copyQueue (s : State) (i k n : Nat) : (s.setCnt i k n).copyQueue = s.copyQueue := rfl
@[simp] theorem State.setCnt_loft (s : State) (i k n : Nat) : (s.setCnt i k n).loft = s.loft := rfl
@[simp] theorem State.setCnt_interleave (s : State) (i k n : Nat) : (s.setCnt i k n).interleave = s.interleave := rfl
@[simp] theorem State.setCnt_stale (s : State) (i k n : Nat) : (s.setCnt i k n).stale = s.stale := rfl
@[simp] theorem State.setCnt_objects (s : State) (i k n : Nat) : (s.setCnt i k n).objects = s.objects := rfl
@[simp] theorem State.setCnt_nextObj (s : State) (i k n : Nat) : (s.setCnt i k n).nextObj = s.nextObj := rfl
@[simp] theorem State.setCnt_engines (s : State) (i k n : Nat) : (s.setCnt i k n).engines = s.engines := rfl
@[simp] theorem State.setCnt_bays (s : State) (i k n : Nat) : (s.setCnt i k n).bays = s.bays := rfl
@[simp] theorem State.setCnt_dies (s : State) (i k n : Nat) : (s.setCnt i k n).dies = s.dies := rfl
@[simp] theorem State.setCnt_res (s : State) (i k n : Nat) : (s.setCnt i k n).res = s.res := rfl
@[simp] theorem State.setCnt_resOrder (s : State) (i k n : Nat) : (s.setCnt i k n).resOrder = s.resOrder := rfl
@[simp] theorem State.setCnt_ctxs (s : State) (i k n : Nat) : (s.setCnt i k n).ctxs = s.ctxs := rfl
@[simp] theorem State.setCnt_epochs (s : State) (i k n : Nat) : (s.setCnt i k n).epochs = s.epochs := rfl
@[simp] theorem State.setCnt_sched (s : State) (i k n : Nat) : (s.setCnt i k n).sched = s.sched := rfl
@[simp] theorem State.setCnt_links (s : State) (i k n : Nat) : (s.setCnt i k n).links = s.links := rfl
@[simp] theorem State.setCnt_ports (s : State) (i k n : Nat) : (s.setCnt i k n).ports = s.ports := rfl
@[simp] theorem State.setCnt_hostPorts (s : State) (i k n : Nat) : (s.setCnt i k n).hostPorts = s.hostPorts := rfl
@[simp] theorem State.setCnt_fab (s : State) (i k n : Nat) : (s.setCnt i k n).fab = s.fab := rfl
@[simp] theorem State.setCnt_sessions (s : State) (i k n : Nat) : (s.setCnt i k n).sessions = s.sessions := rfl
@[simp] theorem State.setCnt_clock (s : State) (i k n : Nat) : (s.setCnt i k n).clock = s.clock := rfl
@[simp] theorem State.setCnt_efyth (s : State) (i k n : Nat) : (s.setCnt i k n).efyth = s.efyth := rfl
@[simp] theorem State.setCnt_intr (s : State) (i k n : Nat) : (s.setCnt i k n).intr = s.intr := rfl
@[simp] theorem State.setCnt_cores (s : State) (i k n : Nat) : (s.setCnt i k n).cores = s.cores := rfl
@[simp] theorem State.setCnt_perf (s : State) (i k n : Nat) : (s.setCnt i k n).perf = s.perf := rfl
@[simp] theorem State.setCnt_power (s : State) (i k n : Nat) : (s.setCnt i k n).power = s.power := rfl
@[simp] theorem State.setCnt_fault (s : State) (i k n : Nat) : (s.setCnt i k n).fault = s.fault := rfl
@[simp] theorem State.setCnt_boot (s : State) (i k n : Nat) : (s.setCnt i k n).boot = s.boot := rfl
@[simp] theorem State.setCnt_pins (s : State) (i k n : Nat) : (s.setCnt i k n).pins = s.pins := rfl

/-! ### State.bumpBy -/

@[simp] theorem State.bumpBy_pending (s : State) (i k n : Nat) : (s.bumpBy i k n).pending = s.pending := rfl
@[simp] theorem State.bumpBy_stamp (s : State) (i k n : Nat) : (s.bumpBy i k n).stamp = s.stamp := rfl
@[simp] theorem State.bumpBy_freeCtr (s : State) (i k n : Nat) : (s.bumpBy i k n).freeCtr = s.freeCtr := rfl
@[simp] theorem State.bumpBy_sent (s : State) (i k n : Nat) : (s.bumpBy i k n).sent = s.sent := rfl
@[simp] theorem State.bumpBy_mem (s : State) (i k n : Nat) : (s.bumpBy i k n).mem = s.mem := rfl
@[simp] theorem State.bumpBy_hbm (s : State) (i k n : Nat) : (s.bumpBy i k n).hbm = s.hbm := rfl
@[simp] theorem State.bumpBy_sill (s : State) (i k n : Nat) : (s.bumpBy i k n).sill = s.sill := rfl
@[simp] theorem State.bumpBy_copies (s : State) (i k n : Nat) : (s.bumpBy i k n).copies = s.copies := rfl
@[simp] theorem State.bumpBy_copyQueue (s : State) (i k n : Nat) : (s.bumpBy i k n).copyQueue = s.copyQueue := rfl
@[simp] theorem State.bumpBy_loft (s : State) (i k n : Nat) : (s.bumpBy i k n).loft = s.loft := rfl
@[simp] theorem State.bumpBy_interleave (s : State) (i k n : Nat) : (s.bumpBy i k n).interleave = s.interleave := rfl
@[simp] theorem State.bumpBy_stale (s : State) (i k n : Nat) : (s.bumpBy i k n).stale = s.stale := rfl
@[simp] theorem State.bumpBy_objects (s : State) (i k n : Nat) : (s.bumpBy i k n).objects = s.objects := rfl
@[simp] theorem State.bumpBy_nextObj (s : State) (i k n : Nat) : (s.bumpBy i k n).nextObj = s.nextObj := rfl
@[simp] theorem State.bumpBy_engines (s : State) (i k n : Nat) : (s.bumpBy i k n).engines = s.engines := rfl
@[simp] theorem State.bumpBy_bays (s : State) (i k n : Nat) : (s.bumpBy i k n).bays = s.bays := rfl
@[simp] theorem State.bumpBy_dies (s : State) (i k n : Nat) : (s.bumpBy i k n).dies = s.dies := rfl
@[simp] theorem State.bumpBy_res (s : State) (i k n : Nat) : (s.bumpBy i k n).res = s.res := rfl
@[simp] theorem State.bumpBy_resOrder (s : State) (i k n : Nat) : (s.bumpBy i k n).resOrder = s.resOrder := rfl
@[simp] theorem State.bumpBy_ctxs (s : State) (i k n : Nat) : (s.bumpBy i k n).ctxs = s.ctxs := rfl
@[simp] theorem State.bumpBy_epochs (s : State) (i k n : Nat) : (s.bumpBy i k n).epochs = s.epochs := rfl
@[simp] theorem State.bumpBy_sched (s : State) (i k n : Nat) : (s.bumpBy i k n).sched = s.sched := rfl
@[simp] theorem State.bumpBy_links (s : State) (i k n : Nat) : (s.bumpBy i k n).links = s.links := rfl
@[simp] theorem State.bumpBy_ports (s : State) (i k n : Nat) : (s.bumpBy i k n).ports = s.ports := rfl
@[simp] theorem State.bumpBy_hostPorts (s : State) (i k n : Nat) : (s.bumpBy i k n).hostPorts = s.hostPorts := rfl
@[simp] theorem State.bumpBy_fab (s : State) (i k n : Nat) : (s.bumpBy i k n).fab = s.fab := rfl
@[simp] theorem State.bumpBy_sessions (s : State) (i k n : Nat) : (s.bumpBy i k n).sessions = s.sessions := rfl
@[simp] theorem State.bumpBy_clock (s : State) (i k n : Nat) : (s.bumpBy i k n).clock = s.clock := rfl
@[simp] theorem State.bumpBy_efyth (s : State) (i k n : Nat) : (s.bumpBy i k n).efyth = s.efyth := rfl
@[simp] theorem State.bumpBy_intr (s : State) (i k n : Nat) : (s.bumpBy i k n).intr = s.intr := rfl
@[simp] theorem State.bumpBy_cores (s : State) (i k n : Nat) : (s.bumpBy i k n).cores = s.cores := rfl
@[simp] theorem State.bumpBy_perf (s : State) (i k n : Nat) : (s.bumpBy i k n).perf = s.perf := rfl
@[simp] theorem State.bumpBy_power (s : State) (i k n : Nat) : (s.bumpBy i k n).power = s.power := rfl
@[simp] theorem State.bumpBy_fault (s : State) (i k n : Nat) : (s.bumpBy i k n).fault = s.fault := rfl
@[simp] theorem State.bumpBy_boot (s : State) (i k n : Nat) : (s.bumpBy i k n).boot = s.boot := rfl
@[simp] theorem State.bumpBy_pins (s : State) (i k n : Nat) : (s.bumpBy i k n).pins = s.pins := rfl

/-! ### State.bump -/

@[simp] theorem State.bump_pending (s : State) (i k : Nat) : (s.bump i k).pending = s.pending := rfl
@[simp] theorem State.bump_stamp (s : State) (i k : Nat) : (s.bump i k).stamp = s.stamp := rfl
@[simp] theorem State.bump_freeCtr (s : State) (i k : Nat) : (s.bump i k).freeCtr = s.freeCtr := rfl
@[simp] theorem State.bump_sent (s : State) (i k : Nat) : (s.bump i k).sent = s.sent := rfl
@[simp] theorem State.bump_mem (s : State) (i k : Nat) : (s.bump i k).mem = s.mem := rfl
@[simp] theorem State.bump_hbm (s : State) (i k : Nat) : (s.bump i k).hbm = s.hbm := rfl
@[simp] theorem State.bump_sill (s : State) (i k : Nat) : (s.bump i k).sill = s.sill := rfl
@[simp] theorem State.bump_copies (s : State) (i k : Nat) : (s.bump i k).copies = s.copies := rfl
@[simp] theorem State.bump_copyQueue (s : State) (i k : Nat) : (s.bump i k).copyQueue = s.copyQueue := rfl
@[simp] theorem State.bump_loft (s : State) (i k : Nat) : (s.bump i k).loft = s.loft := rfl
@[simp] theorem State.bump_interleave (s : State) (i k : Nat) : (s.bump i k).interleave = s.interleave := rfl
@[simp] theorem State.bump_stale (s : State) (i k : Nat) : (s.bump i k).stale = s.stale := rfl
@[simp] theorem State.bump_objects (s : State) (i k : Nat) : (s.bump i k).objects = s.objects := rfl
@[simp] theorem State.bump_nextObj (s : State) (i k : Nat) : (s.bump i k).nextObj = s.nextObj := rfl
@[simp] theorem State.bump_engines (s : State) (i k : Nat) : (s.bump i k).engines = s.engines := rfl
@[simp] theorem State.bump_bays (s : State) (i k : Nat) : (s.bump i k).bays = s.bays := rfl
@[simp] theorem State.bump_dies (s : State) (i k : Nat) : (s.bump i k).dies = s.dies := rfl
@[simp] theorem State.bump_res (s : State) (i k : Nat) : (s.bump i k).res = s.res := rfl
@[simp] theorem State.bump_resOrder (s : State) (i k : Nat) : (s.bump i k).resOrder = s.resOrder := rfl
@[simp] theorem State.bump_ctxs (s : State) (i k : Nat) : (s.bump i k).ctxs = s.ctxs := rfl
@[simp] theorem State.bump_epochs (s : State) (i k : Nat) : (s.bump i k).epochs = s.epochs := rfl
@[simp] theorem State.bump_sched (s : State) (i k : Nat) : (s.bump i k).sched = s.sched := rfl
@[simp] theorem State.bump_links (s : State) (i k : Nat) : (s.bump i k).links = s.links := rfl
@[simp] theorem State.bump_ports (s : State) (i k : Nat) : (s.bump i k).ports = s.ports := rfl
@[simp] theorem State.bump_hostPorts (s : State) (i k : Nat) : (s.bump i k).hostPorts = s.hostPorts := rfl
@[simp] theorem State.bump_fab (s : State) (i k : Nat) : (s.bump i k).fab = s.fab := rfl
@[simp] theorem State.bump_sessions (s : State) (i k : Nat) : (s.bump i k).sessions = s.sessions := rfl
@[simp] theorem State.bump_clock (s : State) (i k : Nat) : (s.bump i k).clock = s.clock := rfl
@[simp] theorem State.bump_efyth (s : State) (i k : Nat) : (s.bump i k).efyth = s.efyth := rfl
@[simp] theorem State.bump_intr (s : State) (i k : Nat) : (s.bump i k).intr = s.intr := rfl
@[simp] theorem State.bump_cores (s : State) (i k : Nat) : (s.bump i k).cores = s.cores := rfl
@[simp] theorem State.bump_perf (s : State) (i k : Nat) : (s.bump i k).perf = s.perf := rfl
@[simp] theorem State.bump_power (s : State) (i k : Nat) : (s.bump i k).power = s.power := rfl
@[simp] theorem State.bump_fault (s : State) (i k : Nat) : (s.bump i k).fault = s.fault := rfl
@[simp] theorem State.bump_boot (s : State) (i k : Nat) : (s.bump i k).boot = s.boot := rfl
@[simp] theorem State.bump_pins (s : State) (i k : Nat) : (s.bump i k).pins = s.pins := rfl

/-! ### State.resetObjs -/

@[simp] theorem State.resetObjs_pending (s : State) (i lo n : Nat) : (s.resetObjs i lo n).pending = s.pending := rfl
@[simp] theorem State.resetObjs_stamp (s : State) (i lo n : Nat) : (s.resetObjs i lo n).stamp = s.stamp := rfl
@[simp] theorem State.resetObjs_freeCtr (s : State) (i lo n : Nat) : (s.resetObjs i lo n).freeCtr = s.freeCtr := rfl
@[simp] theorem State.resetObjs_sent (s : State) (i lo n : Nat) : (s.resetObjs i lo n).sent = s.sent := rfl
@[simp] theorem State.resetObjs_mem (s : State) (i lo n : Nat) : (s.resetObjs i lo n).mem = s.mem := rfl
@[simp] theorem State.resetObjs_hbm (s : State) (i lo n : Nat) : (s.resetObjs i lo n).hbm = s.hbm := rfl
@[simp] theorem State.resetObjs_sill (s : State) (i lo n : Nat) : (s.resetObjs i lo n).sill = s.sill := rfl
@[simp] theorem State.resetObjs_copies (s : State) (i lo n : Nat) : (s.resetObjs i lo n).copies = s.copies := rfl
@[simp] theorem State.resetObjs_copyQueue (s : State) (i lo n : Nat) : (s.resetObjs i lo n).copyQueue = s.copyQueue := rfl
@[simp] theorem State.resetObjs_loft (s : State) (i lo n : Nat) : (s.resetObjs i lo n).loft = s.loft := rfl
@[simp] theorem State.resetObjs_interleave (s : State) (i lo n : Nat) : (s.resetObjs i lo n).interleave = s.interleave := rfl
@[simp] theorem State.resetObjs_stale (s : State) (i lo n : Nat) : (s.resetObjs i lo n).stale = s.stale := rfl
@[simp] theorem State.resetObjs_objects (s : State) (i lo n : Nat) : (s.resetObjs i lo n).objects = s.objects := rfl
@[simp] theorem State.resetObjs_nextObj (s : State) (i lo n : Nat) : (s.resetObjs i lo n).nextObj = s.nextObj := rfl
@[simp] theorem State.resetObjs_engines (s : State) (i lo n : Nat) : (s.resetObjs i lo n).engines = s.engines := rfl
@[simp] theorem State.resetObjs_bays (s : State) (i lo n : Nat) : (s.resetObjs i lo n).bays = s.bays := rfl
@[simp] theorem State.resetObjs_dies (s : State) (i lo n : Nat) : (s.resetObjs i lo n).dies = s.dies := rfl
@[simp] theorem State.resetObjs_res (s : State) (i lo n : Nat) : (s.resetObjs i lo n).res = s.res := rfl
@[simp] theorem State.resetObjs_resOrder (s : State) (i lo n : Nat) : (s.resetObjs i lo n).resOrder = s.resOrder := rfl
@[simp] theorem State.resetObjs_ctxs (s : State) (i lo n : Nat) : (s.resetObjs i lo n).ctxs = s.ctxs := rfl
@[simp] theorem State.resetObjs_epochs (s : State) (i lo n : Nat) : (s.resetObjs i lo n).epochs = s.epochs := rfl
@[simp] theorem State.resetObjs_sched (s : State) (i lo n : Nat) : (s.resetObjs i lo n).sched = s.sched := rfl
@[simp] theorem State.resetObjs_links (s : State) (i lo n : Nat) : (s.resetObjs i lo n).links = s.links := rfl
@[simp] theorem State.resetObjs_ports (s : State) (i lo n : Nat) : (s.resetObjs i lo n).ports = s.ports := rfl
@[simp] theorem State.resetObjs_hostPorts (s : State) (i lo n : Nat) : (s.resetObjs i lo n).hostPorts = s.hostPorts := rfl
@[simp] theorem State.resetObjs_fab (s : State) (i lo n : Nat) : (s.resetObjs i lo n).fab = s.fab := rfl
@[simp] theorem State.resetObjs_sessions (s : State) (i lo n : Nat) : (s.resetObjs i lo n).sessions = s.sessions := rfl
@[simp] theorem State.resetObjs_clock (s : State) (i lo n : Nat) : (s.resetObjs i lo n).clock = s.clock := rfl
@[simp] theorem State.resetObjs_efyth (s : State) (i lo n : Nat) : (s.resetObjs i lo n).efyth = s.efyth := rfl
@[simp] theorem State.resetObjs_intr (s : State) (i lo n : Nat) : (s.resetObjs i lo n).intr = s.intr := rfl
@[simp] theorem State.resetObjs_cores (s : State) (i lo n : Nat) : (s.resetObjs i lo n).cores = s.cores := rfl
@[simp] theorem State.resetObjs_perf (s : State) (i lo n : Nat) : (s.resetObjs i lo n).perf = s.perf := rfl
@[simp] theorem State.resetObjs_power (s : State) (i lo n : Nat) : (s.resetObjs i lo n).power = s.power := rfl
@[simp] theorem State.resetObjs_fault (s : State) (i lo n : Nat) : (s.resetObjs i lo n).fault = s.fault := rfl
@[simp] theorem State.resetObjs_boot (s : State) (i lo n : Nat) : (s.resetObjs i lo n).boot = s.boot := rfl
@[simp] theorem State.resetObjs_pins (s : State) (i lo n : Nat) : (s.resetObjs i lo n).pins = s.pins := rfl

/-! ### State.noteRwp -/

@[simp] theorem State.noteRwp_pending (s : State) (k : Nat) : (s.noteRwp k).pending = s.pending := rfl
@[simp] theorem State.noteRwp_stamp (s : State) (k : Nat) : (s.noteRwp k).stamp = s.stamp := rfl
@[simp] theorem State.noteRwp_freeCtr (s : State) (k : Nat) : (s.noteRwp k).freeCtr = s.freeCtr := rfl
@[simp] theorem State.noteRwp_sent (s : State) (k : Nat) : (s.noteRwp k).sent = s.sent := rfl
@[simp] theorem State.noteRwp_objs (s : State) (k : Nat) : (s.noteRwp k).objs = s.objs := rfl
@[simp] theorem State.noteRwp_mem (s : State) (k : Nat) : (s.noteRwp k).mem = s.mem := rfl
@[simp] theorem State.noteRwp_hbm (s : State) (k : Nat) : (s.noteRwp k).hbm = s.hbm := rfl
@[simp] theorem State.noteRwp_sill (s : State) (k : Nat) : (s.noteRwp k).sill = s.sill := rfl
@[simp] theorem State.noteRwp_copies (s : State) (k : Nat) : (s.noteRwp k).copies = s.copies := rfl
@[simp] theorem State.noteRwp_copyQueue (s : State) (k : Nat) : (s.noteRwp k).copyQueue = s.copyQueue := rfl
@[simp] theorem State.noteRwp_loft (s : State) (k : Nat) : (s.noteRwp k).loft = s.loft := rfl
@[simp] theorem State.noteRwp_interleave (s : State) (k : Nat) : (s.noteRwp k).interleave = s.interleave := rfl
@[simp] theorem State.noteRwp_stale (s : State) (k : Nat) : (s.noteRwp k).stale = s.stale := rfl
@[simp] theorem State.noteRwp_objects (s : State) (k : Nat) : (s.noteRwp k).objects = s.objects := rfl
@[simp] theorem State.noteRwp_nextObj (s : State) (k : Nat) : (s.noteRwp k).nextObj = s.nextObj := rfl
@[simp] theorem State.noteRwp_engines (s : State) (k : Nat) : (s.noteRwp k).engines = s.engines := rfl
@[simp] theorem State.noteRwp_bays (s : State) (k : Nat) : (s.noteRwp k).bays = s.bays := rfl
@[simp] theorem State.noteRwp_dies (s : State) (k : Nat) : (s.noteRwp k).dies = s.dies := rfl
@[simp] theorem State.noteRwp_res (s : State) (k : Nat) : (s.noteRwp k).res = s.res := rfl
@[simp] theorem State.noteRwp_resOrder (s : State) (k : Nat) : (s.noteRwp k).resOrder = s.resOrder := rfl
@[simp] theorem State.noteRwp_ctxs (s : State) (k : Nat) : (s.noteRwp k).ctxs = s.ctxs := rfl
@[simp] theorem State.noteRwp_epochs (s : State) (k : Nat) : (s.noteRwp k).epochs = s.epochs := rfl
@[simp] theorem State.noteRwp_sched (s : State) (k : Nat) : (s.noteRwp k).sched = s.sched := rfl
@[simp] theorem State.noteRwp_links (s : State) (k : Nat) : (s.noteRwp k).links = s.links := rfl
@[simp] theorem State.noteRwp_ports (s : State) (k : Nat) : (s.noteRwp k).ports = s.ports := rfl
@[simp] theorem State.noteRwp_hostPorts (s : State) (k : Nat) : (s.noteRwp k).hostPorts = s.hostPorts := rfl
@[simp] theorem State.noteRwp_fab (s : State) (k : Nat) : (s.noteRwp k).fab = s.fab := rfl
@[simp] theorem State.noteRwp_sessions (s : State) (k : Nat) : (s.noteRwp k).sessions = s.sessions := rfl
@[simp] theorem State.noteRwp_clock (s : State) (k : Nat) : (s.noteRwp k).clock = s.clock := rfl
@[simp] theorem State.noteRwp_intr (s : State) (k : Nat) : (s.noteRwp k).intr = s.intr := rfl
@[simp] theorem State.noteRwp_cores (s : State) (k : Nat) : (s.noteRwp k).cores = s.cores := rfl
@[simp] theorem State.noteRwp_perf (s : State) (k : Nat) : (s.noteRwp k).perf = s.perf := rfl
@[simp] theorem State.noteRwp_power (s : State) (k : Nat) : (s.noteRwp k).power = s.power := rfl
@[simp] theorem State.noteRwp_fault (s : State) (k : Nat) : (s.noteRwp k).fault = s.fault := rfl
@[simp] theorem State.noteRwp_boot (s : State) (k : Nat) : (s.noteRwp k).boot = s.boot := rfl
@[simp] theorem State.noteRwp_pins (s : State) (k : Nat) : (s.noteRwp k).pins = s.pins := rfl

/-! ### State.setRwp -/

@[simp] theorem State.setRwp_pending (s : State) (i k : Nat) (v : ObjVal) : (s.setRwp i k v).pending = s.pending := rfl
@[simp] theorem State.setRwp_stamp (s : State) (i k : Nat) (v : ObjVal) : (s.setRwp i k v).stamp = s.stamp := rfl
@[simp] theorem State.setRwp_freeCtr (s : State) (i k : Nat) (v : ObjVal) : (s.setRwp i k v).freeCtr = s.freeCtr := rfl
@[simp] theorem State.setRwp_sent (s : State) (i k : Nat) (v : ObjVal) : (s.setRwp i k v).sent = s.sent := rfl
@[simp] theorem State.setRwp_mem (s : State) (i k : Nat) (v : ObjVal) : (s.setRwp i k v).mem = s.mem := rfl
@[simp] theorem State.setRwp_hbm (s : State) (i k : Nat) (v : ObjVal) : (s.setRwp i k v).hbm = s.hbm := rfl
@[simp] theorem State.setRwp_sill (s : State) (i k : Nat) (v : ObjVal) : (s.setRwp i k v).sill = s.sill := rfl
@[simp] theorem State.setRwp_copies (s : State) (i k : Nat) (v : ObjVal) : (s.setRwp i k v).copies = s.copies := rfl
@[simp] theorem State.setRwp_copyQueue (s : State) (i k : Nat) (v : ObjVal) : (s.setRwp i k v).copyQueue = s.copyQueue := rfl
@[simp] theorem State.setRwp_loft (s : State) (i k : Nat) (v : ObjVal) : (s.setRwp i k v).loft = s.loft := rfl
@[simp] theorem State.setRwp_interleave (s : State) (i k : Nat) (v : ObjVal) : (s.setRwp i k v).interleave = s.interleave := rfl
@[simp] theorem State.setRwp_stale (s : State) (i k : Nat) (v : ObjVal) : (s.setRwp i k v).stale = s.stale := rfl
@[simp] theorem State.setRwp_objects (s : State) (i k : Nat) (v : ObjVal) : (s.setRwp i k v).objects = s.objects := rfl
@[simp] theorem State.setRwp_nextObj (s : State) (i k : Nat) (v : ObjVal) : (s.setRwp i k v).nextObj = s.nextObj := rfl
@[simp] theorem State.setRwp_engines (s : State) (i k : Nat) (v : ObjVal) : (s.setRwp i k v).engines = s.engines := rfl
@[simp] theorem State.setRwp_bays (s : State) (i k : Nat) (v : ObjVal) : (s.setRwp i k v).bays = s.bays := rfl
@[simp] theorem State.setRwp_dies (s : State) (i k : Nat) (v : ObjVal) : (s.setRwp i k v).dies = s.dies := rfl
@[simp] theorem State.setRwp_res (s : State) (i k : Nat) (v : ObjVal) : (s.setRwp i k v).res = s.res := rfl
@[simp] theorem State.setRwp_resOrder (s : State) (i k : Nat) (v : ObjVal) : (s.setRwp i k v).resOrder = s.resOrder := rfl
@[simp] theorem State.setRwp_ctxs (s : State) (i k : Nat) (v : ObjVal) : (s.setRwp i k v).ctxs = s.ctxs := rfl
@[simp] theorem State.setRwp_epochs (s : State) (i k : Nat) (v : ObjVal) : (s.setRwp i k v).epochs = s.epochs := rfl
@[simp] theorem State.setRwp_sched (s : State) (i k : Nat) (v : ObjVal) : (s.setRwp i k v).sched = s.sched := rfl
@[simp] theorem State.setRwp_links (s : State) (i k : Nat) (v : ObjVal) : (s.setRwp i k v).links = s.links := rfl
@[simp] theorem State.setRwp_ports (s : State) (i k : Nat) (v : ObjVal) : (s.setRwp i k v).ports = s.ports := rfl
@[simp] theorem State.setRwp_hostPorts (s : State) (i k : Nat) (v : ObjVal) : (s.setRwp i k v).hostPorts = s.hostPorts := rfl
@[simp] theorem State.setRwp_fab (s : State) (i k : Nat) (v : ObjVal) : (s.setRwp i k v).fab = s.fab := rfl
@[simp] theorem State.setRwp_sessions (s : State) (i k : Nat) (v : ObjVal) : (s.setRwp i k v).sessions = s.sessions := rfl
@[simp] theorem State.setRwp_clock (s : State) (i k : Nat) (v : ObjVal) : (s.setRwp i k v).clock = s.clock := rfl
@[simp] theorem State.setRwp_intr (s : State) (i k : Nat) (v : ObjVal) : (s.setRwp i k v).intr = s.intr := rfl
@[simp] theorem State.setRwp_cores (s : State) (i k : Nat) (v : ObjVal) : (s.setRwp i k v).cores = s.cores := rfl
@[simp] theorem State.setRwp_perf (s : State) (i k : Nat) (v : ObjVal) : (s.setRwp i k v).perf = s.perf := rfl
@[simp] theorem State.setRwp_power (s : State) (i k : Nat) (v : ObjVal) : (s.setRwp i k v).power = s.power := rfl
@[simp] theorem State.setRwp_fault (s : State) (i k : Nat) (v : ObjVal) : (s.setRwp i k v).fault = s.fault := rfl
@[simp] theorem State.setRwp_boot (s : State) (i k : Nat) (v : ObjVal) : (s.setRwp i k v).boot = s.boot := rfl
@[simp] theorem State.setRwp_pins (s : State) (i k : Nat) (v : ObjVal) : (s.setRwp i k v).pins = s.pins := rfl

/-! ### State.push -/

@[simp] theorem State.push_pending (s : State) (m : Sent) : (s.push m).pending = s.pending := rfl
@[simp] theorem State.push_stamp (s : State) (m : Sent) : (s.push m).stamp = s.stamp := rfl
@[simp] theorem State.push_freeCtr (s : State) (m : Sent) : (s.push m).freeCtr = s.freeCtr := rfl
@[simp] theorem State.push_objs (s : State) (m : Sent) : (s.push m).objs = s.objs := rfl
@[simp] theorem State.push_mem (s : State) (m : Sent) : (s.push m).mem = s.mem := rfl
@[simp] theorem State.push_hbm (s : State) (m : Sent) : (s.push m).hbm = s.hbm := rfl
@[simp] theorem State.push_sill (s : State) (m : Sent) : (s.push m).sill = s.sill := rfl
@[simp] theorem State.push_copies (s : State) (m : Sent) : (s.push m).copies = s.copies := rfl
@[simp] theorem State.push_copyQueue (s : State) (m : Sent) : (s.push m).copyQueue = s.copyQueue := rfl
@[simp] theorem State.push_loft (s : State) (m : Sent) : (s.push m).loft = s.loft := rfl
@[simp] theorem State.push_interleave (s : State) (m : Sent) : (s.push m).interleave = s.interleave := rfl
@[simp] theorem State.push_stale (s : State) (m : Sent) : (s.push m).stale = s.stale := rfl
@[simp] theorem State.push_objects (s : State) (m : Sent) : (s.push m).objects = s.objects := rfl
@[simp] theorem State.push_nextObj (s : State) (m : Sent) : (s.push m).nextObj = s.nextObj := rfl
@[simp] theorem State.push_engines (s : State) (m : Sent) : (s.push m).engines = s.engines := rfl
@[simp] theorem State.push_bays (s : State) (m : Sent) : (s.push m).bays = s.bays := rfl
@[simp] theorem State.push_dies (s : State) (m : Sent) : (s.push m).dies = s.dies := rfl
@[simp] theorem State.push_res (s : State) (m : Sent) : (s.push m).res = s.res := rfl
@[simp] theorem State.push_resOrder (s : State) (m : Sent) : (s.push m).resOrder = s.resOrder := rfl
@[simp] theorem State.push_ctxs (s : State) (m : Sent) : (s.push m).ctxs = s.ctxs := rfl
@[simp] theorem State.push_epochs (s : State) (m : Sent) : (s.push m).epochs = s.epochs := rfl
@[simp] theorem State.push_sched (s : State) (m : Sent) : (s.push m).sched = s.sched := rfl
@[simp] theorem State.push_links (s : State) (m : Sent) : (s.push m).links = s.links := rfl
@[simp] theorem State.push_ports (s : State) (m : Sent) : (s.push m).ports = s.ports := rfl
@[simp] theorem State.push_hostPorts (s : State) (m : Sent) : (s.push m).hostPorts = s.hostPorts := rfl
@[simp] theorem State.push_fab (s : State) (m : Sent) : (s.push m).fab = s.fab := rfl
@[simp] theorem State.push_sessions (s : State) (m : Sent) : (s.push m).sessions = s.sessions := rfl
@[simp] theorem State.push_clock (s : State) (m : Sent) : (s.push m).clock = s.clock := rfl
@[simp] theorem State.push_efyth (s : State) (m : Sent) : (s.push m).efyth = s.efyth := rfl
@[simp] theorem State.push_intr (s : State) (m : Sent) : (s.push m).intr = s.intr := rfl
@[simp] theorem State.push_cores (s : State) (m : Sent) : (s.push m).cores = s.cores := rfl
@[simp] theorem State.push_perf (s : State) (m : Sent) : (s.push m).perf = s.perf := rfl
@[simp] theorem State.push_power (s : State) (m : Sent) : (s.push m).power = s.power := rfl
@[simp] theorem State.push_fault (s : State) (m : Sent) : (s.push m).fault = s.fault := rfl
@[simp] theorem State.push_boot (s : State) (m : Sent) : (s.push m).boot = s.boot := rfl
@[simp] theorem State.push_pins (s : State) (m : Sent) : (s.push m).pins = s.pins := rfl

/-! ### State.enterOrdered -/

@[simp] theorem State.enterOrdered_pending (s : State) (r : Nat) : (s.enterOrdered r).pending = s.pending := rfl
@[simp] theorem State.enterOrdered_stamp (s : State) (r : Nat) : (s.enterOrdered r).stamp = s.stamp := rfl
@[simp] theorem State.enterOrdered_freeCtr (s : State) (r : Nat) : (s.enterOrdered r).freeCtr = s.freeCtr := rfl
@[simp] theorem State.enterOrdered_sent (s : State) (r : Nat) : (s.enterOrdered r).sent = s.sent := rfl
@[simp] theorem State.enterOrdered_objs (s : State) (r : Nat) : (s.enterOrdered r).objs = s.objs := rfl
@[simp] theorem State.enterOrdered_mem (s : State) (r : Nat) : (s.enterOrdered r).mem = s.mem := rfl
@[simp] theorem State.enterOrdered_hbm (s : State) (r : Nat) : (s.enterOrdered r).hbm = s.hbm := rfl
@[simp] theorem State.enterOrdered_sill (s : State) (r : Nat) : (s.enterOrdered r).sill = s.sill := rfl
@[simp] theorem State.enterOrdered_copies (s : State) (r : Nat) : (s.enterOrdered r).copies = s.copies := rfl
@[simp] theorem State.enterOrdered_copyQueue (s : State) (r : Nat) : (s.enterOrdered r).copyQueue = s.copyQueue := rfl
@[simp] theorem State.enterOrdered_loft (s : State) (r : Nat) : (s.enterOrdered r).loft = s.loft := rfl
@[simp] theorem State.enterOrdered_interleave (s : State) (r : Nat) : (s.enterOrdered r).interleave = s.interleave := rfl
@[simp] theorem State.enterOrdered_stale (s : State) (r : Nat) : (s.enterOrdered r).stale = s.stale := rfl
@[simp] theorem State.enterOrdered_objects (s : State) (r : Nat) : (s.enterOrdered r).objects = s.objects := rfl
@[simp] theorem State.enterOrdered_nextObj (s : State) (r : Nat) : (s.enterOrdered r).nextObj = s.nextObj := rfl
@[simp] theorem State.enterOrdered_engines (s : State) (r : Nat) : (s.enterOrdered r).engines = s.engines := rfl
@[simp] theorem State.enterOrdered_bays (s : State) (r : Nat) : (s.enterOrdered r).bays = s.bays := rfl
@[simp] theorem State.enterOrdered_dies (s : State) (r : Nat) : (s.enterOrdered r).dies = s.dies := rfl
@[simp] theorem State.enterOrdered_res (s : State) (r : Nat) : (s.enterOrdered r).res = s.res := rfl
@[simp] theorem State.enterOrdered_resOrder (s : State) (r : Nat) : (s.enterOrdered r).resOrder = s.resOrder := rfl
@[simp] theorem State.enterOrdered_ctxs (s : State) (r : Nat) : (s.enterOrdered r).ctxs = s.ctxs := rfl
@[simp] theorem State.enterOrdered_epochs (s : State) (r : Nat) : (s.enterOrdered r).epochs = s.epochs := rfl
@[simp] theorem State.enterOrdered_sched (s : State) (r : Nat) : (s.enterOrdered r).sched = s.sched := rfl
@[simp] theorem State.enterOrdered_links (s : State) (r : Nat) : (s.enterOrdered r).links = s.links := rfl
@[simp] theorem State.enterOrdered_ports (s : State) (r : Nat) : (s.enterOrdered r).ports = s.ports := rfl
@[simp] theorem State.enterOrdered_hostPorts (s : State) (r : Nat) : (s.enterOrdered r).hostPorts = s.hostPorts := rfl
@[simp] theorem State.enterOrdered_fab (s : State) (r : Nat) : (s.enterOrdered r).fab = s.fab := rfl
@[simp] theorem State.enterOrdered_sessions (s : State) (r : Nat) : (s.enterOrdered r).sessions = s.sessions := rfl
@[simp] theorem State.enterOrdered_clock (s : State) (r : Nat) : (s.enterOrdered r).clock = s.clock := rfl
@[simp] theorem State.enterOrdered_efyth (s : State) (r : Nat) : (s.enterOrdered r).efyth = s.efyth := rfl
@[simp] theorem State.enterOrdered_cores (s : State) (r : Nat) : (s.enterOrdered r).cores = s.cores := rfl
@[simp] theorem State.enterOrdered_perf (s : State) (r : Nat) : (s.enterOrdered r).perf = s.perf := rfl
@[simp] theorem State.enterOrdered_power (s : State) (r : Nat) : (s.enterOrdered r).power = s.power := rfl
@[simp] theorem State.enterOrdered_fault (s : State) (r : Nat) : (s.enterOrdered r).fault = s.fault := rfl
@[simp] theorem State.enterOrdered_boot (s : State) (r : Nat) : (s.enterOrdered r).boot = s.boot := rfl
@[simp] theorem State.enterOrdered_pins (s : State) (r : Nat) : (s.enterOrdered r).pins = s.pins := rfl

/-! ### State.leaveOrdered -/

@[simp] theorem State.leaveOrdered_pending (s : State) : (s.leaveOrdered).pending = s.pending := rfl
@[simp] theorem State.leaveOrdered_stamp (s : State) : (s.leaveOrdered).stamp = s.stamp := rfl
@[simp] theorem State.leaveOrdered_freeCtr (s : State) : (s.leaveOrdered).freeCtr = s.freeCtr := rfl
@[simp] theorem State.leaveOrdered_sent (s : State) : (s.leaveOrdered).sent = s.sent := rfl
@[simp] theorem State.leaveOrdered_objs (s : State) : (s.leaveOrdered).objs = s.objs := rfl
@[simp] theorem State.leaveOrdered_mem (s : State) : (s.leaveOrdered).mem = s.mem := rfl
@[simp] theorem State.leaveOrdered_hbm (s : State) : (s.leaveOrdered).hbm = s.hbm := rfl
@[simp] theorem State.leaveOrdered_sill (s : State) : (s.leaveOrdered).sill = s.sill := rfl
@[simp] theorem State.leaveOrdered_copies (s : State) : (s.leaveOrdered).copies = s.copies := rfl
@[simp] theorem State.leaveOrdered_copyQueue (s : State) : (s.leaveOrdered).copyQueue = s.copyQueue := rfl
@[simp] theorem State.leaveOrdered_loft (s : State) : (s.leaveOrdered).loft = s.loft := rfl
@[simp] theorem State.leaveOrdered_interleave (s : State) : (s.leaveOrdered).interleave = s.interleave := rfl
@[simp] theorem State.leaveOrdered_stale (s : State) : (s.leaveOrdered).stale = s.stale := rfl
@[simp] theorem State.leaveOrdered_objects (s : State) : (s.leaveOrdered).objects = s.objects := rfl
@[simp] theorem State.leaveOrdered_nextObj (s : State) : (s.leaveOrdered).nextObj = s.nextObj := rfl
@[simp] theorem State.leaveOrdered_engines (s : State) : (s.leaveOrdered).engines = s.engines := rfl
@[simp] theorem State.leaveOrdered_bays (s : State) : (s.leaveOrdered).bays = s.bays := rfl
@[simp] theorem State.leaveOrdered_dies (s : State) : (s.leaveOrdered).dies = s.dies := rfl
@[simp] theorem State.leaveOrdered_res (s : State) : (s.leaveOrdered).res = s.res := rfl
@[simp] theorem State.leaveOrdered_resOrder (s : State) : (s.leaveOrdered).resOrder = s.resOrder := rfl
@[simp] theorem State.leaveOrdered_ctxs (s : State) : (s.leaveOrdered).ctxs = s.ctxs := rfl
@[simp] theorem State.leaveOrdered_epochs (s : State) : (s.leaveOrdered).epochs = s.epochs := rfl
@[simp] theorem State.leaveOrdered_sched (s : State) : (s.leaveOrdered).sched = s.sched := rfl
@[simp] theorem State.leaveOrdered_links (s : State) : (s.leaveOrdered).links = s.links := rfl
@[simp] theorem State.leaveOrdered_ports (s : State) : (s.leaveOrdered).ports = s.ports := rfl
@[simp] theorem State.leaveOrdered_hostPorts (s : State) : (s.leaveOrdered).hostPorts = s.hostPorts := rfl
@[simp] theorem State.leaveOrdered_fab (s : State) : (s.leaveOrdered).fab = s.fab := rfl
@[simp] theorem State.leaveOrdered_sessions (s : State) : (s.leaveOrdered).sessions = s.sessions := rfl
@[simp] theorem State.leaveOrdered_clock (s : State) : (s.leaveOrdered).clock = s.clock := rfl
@[simp] theorem State.leaveOrdered_efyth (s : State) : (s.leaveOrdered).efyth = s.efyth := rfl
@[simp] theorem State.leaveOrdered_cores (s : State) : (s.leaveOrdered).cores = s.cores := rfl
@[simp] theorem State.leaveOrdered_perf (s : State) : (s.leaveOrdered).perf = s.perf := rfl
@[simp] theorem State.leaveOrdered_power (s : State) : (s.leaveOrdered).power = s.power := rfl
@[simp] theorem State.leaveOrdered_fault (s : State) : (s.leaveOrdered).fault = s.fault := rfl
@[simp] theorem State.leaveOrdered_boot (s : State) : (s.leaveOrdered).boot = s.boot := rfl
@[simp] theorem State.leaveOrdered_pins (s : State) : (s.leaveOrdered).pins = s.pins := rfl

/-! ### State.elapse -/

@[simp] theorem State.elapse_pending (s : State) (dt : Nat) : (s.elapse dt).pending = s.pending := rfl
@[simp] theorem State.elapse_freeCtr (s : State) (dt : Nat) : (s.elapse dt).freeCtr = s.freeCtr := rfl
@[simp] theorem State.elapse_sent (s : State) (dt : Nat) : (s.elapse dt).sent = s.sent := rfl
@[simp] theorem State.elapse_objs (s : State) (dt : Nat) : (s.elapse dt).objs = s.objs := rfl
@[simp] theorem State.elapse_mem (s : State) (dt : Nat) : (s.elapse dt).mem = s.mem := rfl
@[simp] theorem State.elapse_hbm (s : State) (dt : Nat) : (s.elapse dt).hbm = s.hbm := rfl
@[simp] theorem State.elapse_sill (s : State) (dt : Nat) : (s.elapse dt).sill = s.sill := rfl
@[simp] theorem State.elapse_copies (s : State) (dt : Nat) : (s.elapse dt).copies = s.copies := rfl
@[simp] theorem State.elapse_copyQueue (s : State) (dt : Nat) : (s.elapse dt).copyQueue = s.copyQueue := rfl
@[simp] theorem State.elapse_loft (s : State) (dt : Nat) : (s.elapse dt).loft = s.loft := rfl
@[simp] theorem State.elapse_interleave (s : State) (dt : Nat) : (s.elapse dt).interleave = s.interleave := rfl
@[simp] theorem State.elapse_stale (s : State) (dt : Nat) : (s.elapse dt).stale = s.stale := rfl
@[simp] theorem State.elapse_objects (s : State) (dt : Nat) : (s.elapse dt).objects = s.objects := rfl
@[simp] theorem State.elapse_nextObj (s : State) (dt : Nat) : (s.elapse dt).nextObj = s.nextObj := rfl
@[simp] theorem State.elapse_engines (s : State) (dt : Nat) : (s.elapse dt).engines = s.engines := rfl
@[simp] theorem State.elapse_bays (s : State) (dt : Nat) : (s.elapse dt).bays = s.bays := rfl
@[simp] theorem State.elapse_dies (s : State) (dt : Nat) : (s.elapse dt).dies = s.dies := rfl
@[simp] theorem State.elapse_res (s : State) (dt : Nat) : (s.elapse dt).res = s.res := rfl
@[simp] theorem State.elapse_resOrder (s : State) (dt : Nat) : (s.elapse dt).resOrder = s.resOrder := rfl
@[simp] theorem State.elapse_ctxs (s : State) (dt : Nat) : (s.elapse dt).ctxs = s.ctxs := rfl
@[simp] theorem State.elapse_epochs (s : State) (dt : Nat) : (s.elapse dt).epochs = s.epochs := rfl
@[simp] theorem State.elapse_sched (s : State) (dt : Nat) : (s.elapse dt).sched = { s.sched with waits := s.waitsAfter dt } := rfl
@[simp] theorem State.elapse_links (s : State) (dt : Nat) : (s.elapse dt).links = s.links := rfl
@[simp] theorem State.elapse_ports (s : State) (dt : Nat) : (s.elapse dt).ports = s.ports := rfl
@[simp] theorem State.elapse_hostPorts (s : State) (dt : Nat) : (s.elapse dt).hostPorts = s.hostPorts := rfl
@[simp] theorem State.elapse_fab (s : State) (dt : Nat) : (s.elapse dt).fab = s.fab := rfl
@[simp] theorem State.elapse_sessions (s : State) (dt : Nat) : (s.elapse dt).sessions = s.sessions := rfl
@[simp] theorem State.elapse_efyth (s : State) (dt : Nat) : (s.elapse dt).efyth = s.efyth := rfl
@[simp] theorem State.elapse_intr (s : State) (dt : Nat) : (s.elapse dt).intr = s.intr := rfl
@[simp] theorem State.elapse_cores (s : State) (dt : Nat) : (s.elapse dt).cores = s.cores := rfl
@[simp] theorem State.elapse_perf (s : State) (dt : Nat) : (s.elapse dt).perf = s.perf := rfl
@[simp] theorem State.elapse_power (s : State) (dt : Nat) : (s.elapse dt).power = s.power := rfl
@[simp] theorem State.elapse_fault (s : State) (dt : Nat) : (s.elapse dt).fault = s.fault := rfl
@[simp] theorem State.elapse_boot (s : State) (dt : Nat) : (s.elapse dt).boot = s.boot := rfl
@[simp] theorem State.elapse_pins (s : State) (dt : Nat) : (s.elapse dt).pins = s.pins := rfl

/-! ### State.setSamplingRun -/

@[simp] theorem State.setSamplingRun_pending (s : State) (n : Nat) (r : Sampling) : (s.setSamplingRun n r).pending = s.pending := by unfold State.setSamplingRun; split <;> rfl
@[simp] theorem State.setSamplingRun_stamp (s : State) (n : Nat) (r : Sampling) : (s.setSamplingRun n r).stamp = s.stamp := by unfold State.setSamplingRun; split <;> rfl
@[simp] theorem State.setSamplingRun_freeCtr (s : State) (n : Nat) (r : Sampling) : (s.setSamplingRun n r).freeCtr = s.freeCtr := by unfold State.setSamplingRun; split <;> rfl
@[simp] theorem State.setSamplingRun_sent (s : State) (n : Nat) (r : Sampling) : (s.setSamplingRun n r).sent = s.sent := by unfold State.setSamplingRun; split <;> rfl
@[simp] theorem State.setSamplingRun_objs (s : State) (n : Nat) (r : Sampling) : (s.setSamplingRun n r).objs = s.objs := by unfold State.setSamplingRun; split <;> rfl
@[simp] theorem State.setSamplingRun_mem (s : State) (n : Nat) (r : Sampling) : (s.setSamplingRun n r).mem = s.mem := by unfold State.setSamplingRun; split <;> rfl
@[simp] theorem State.setSamplingRun_hbm (s : State) (n : Nat) (r : Sampling) : (s.setSamplingRun n r).hbm = s.hbm := by unfold State.setSamplingRun; split <;> rfl
@[simp] theorem State.setSamplingRun_sill (s : State) (n : Nat) (r : Sampling) : (s.setSamplingRun n r).sill = s.sill := by unfold State.setSamplingRun; split <;> rfl
@[simp] theorem State.setSamplingRun_copies (s : State) (n : Nat) (r : Sampling) : (s.setSamplingRun n r).copies = s.copies := by unfold State.setSamplingRun; split <;> rfl
@[simp] theorem State.setSamplingRun_copyQueue (s : State) (n : Nat) (r : Sampling) : (s.setSamplingRun n r).copyQueue = s.copyQueue := by unfold State.setSamplingRun; split <;> rfl
@[simp] theorem State.setSamplingRun_objects (s : State) (n : Nat) (r : Sampling) : (s.setSamplingRun n r).objects = s.objects := by unfold State.setSamplingRun; split <;> rfl
@[simp] theorem State.setSamplingRun_nextObj (s : State) (n : Nat) (r : Sampling) : (s.setSamplingRun n r).nextObj = s.nextObj := by unfold State.setSamplingRun; split <;> rfl
@[simp] theorem State.setSamplingRun_engines (s : State) (n : Nat) (r : Sampling) : (s.setSamplingRun n r).engines = s.engines := by unfold State.setSamplingRun; split <;> rfl
@[simp] theorem State.setSamplingRun_bays (s : State) (n : Nat) (r : Sampling) : (s.setSamplingRun n r).bays = s.bays := by unfold State.setSamplingRun; split <;> rfl
@[simp] theorem State.setSamplingRun_dies (s : State) (n : Nat) (r : Sampling) : (s.setSamplingRun n r).dies = s.dies := by unfold State.setSamplingRun; split <;> rfl
@[simp] theorem State.setSamplingRun_res (s : State) (n : Nat) (r : Sampling) : (s.setSamplingRun n r).res = s.res := by unfold State.setSamplingRun; split <;> rfl
@[simp] theorem State.setSamplingRun_resOrder (s : State) (n : Nat) (r : Sampling) : (s.setSamplingRun n r).resOrder = s.resOrder := by unfold State.setSamplingRun; split <;> rfl
@[simp] theorem State.setSamplingRun_ctxs (s : State) (n : Nat) (r : Sampling) : (s.setSamplingRun n r).ctxs = s.ctxs := by unfold State.setSamplingRun; split <;> rfl
@[simp] theorem State.setSamplingRun_epochs (s : State) (n : Nat) (r : Sampling) : (s.setSamplingRun n r).epochs = s.epochs := by unfold State.setSamplingRun; split <;> rfl
@[simp] theorem State.setSamplingRun_sched (s : State) (n : Nat) (r : Sampling) : (s.setSamplingRun n r).sched = s.sched := by unfold State.setSamplingRun; split <;> rfl
@[simp] theorem State.setSamplingRun_links (s : State) (n : Nat) (r : Sampling) : (s.setSamplingRun n r).links = s.links := by unfold State.setSamplingRun; split <;> rfl
@[simp] theorem State.setSamplingRun_ports (s : State) (n : Nat) (r : Sampling) : (s.setSamplingRun n r).ports = s.ports := by unfold State.setSamplingRun; split <;> rfl
@[simp] theorem State.setSamplingRun_hostPorts (s : State) (n : Nat) (r : Sampling) : (s.setSamplingRun n r).hostPorts = s.hostPorts := by unfold State.setSamplingRun; split <;> rfl
@[simp] theorem State.setSamplingRun_fab (s : State) (n : Nat) (r : Sampling) : (s.setSamplingRun n r).fab = s.fab := by unfold State.setSamplingRun; split <;> rfl
@[simp] theorem State.setSamplingRun_sessions (s : State) (n : Nat) (r : Sampling) : (s.setSamplingRun n r).sessions = s.sessions := by unfold State.setSamplingRun; split <;> rfl
@[simp] theorem State.setSamplingRun_clock (s : State) (n : Nat) (r : Sampling) : (s.setSamplingRun n r).clock = s.clock := by unfold State.setSamplingRun; split <;> rfl
@[simp] theorem State.setSamplingRun_efyth (s : State) (n : Nat) (r : Sampling) : (s.setSamplingRun n r).efyth = s.efyth := by unfold State.setSamplingRun; split <;> rfl
@[simp] theorem State.setSamplingRun_intr (s : State) (n : Nat) (r : Sampling) : (s.setSamplingRun n r).intr = s.intr := by unfold State.setSamplingRun; split <;> rfl
@[simp] theorem State.setSamplingRun_cores (s : State) (n : Nat) (r : Sampling) : (s.setSamplingRun n r).cores = s.cores := by unfold State.setSamplingRun; split <;> rfl
@[simp] theorem State.setSamplingRun_power (s : State) (n : Nat) (r : Sampling) : (s.setSamplingRun n r).power = s.power := by unfold State.setSamplingRun; split <;> rfl
@[simp] theorem State.setSamplingRun_fault (s : State) (n : Nat) (r : Sampling) : (s.setSamplingRun n r).fault = s.fault := by unfold State.setSamplingRun; split <;> rfl
@[simp] theorem State.setSamplingRun_boot (s : State) (n : Nat) (r : Sampling) : (s.setSamplingRun n r).boot = s.boot := by unfold State.setSamplingRun; split <;> rfl
@[simp] theorem State.setSamplingRun_pins (s : State) (n : Nat) (r : Sampling) : (s.setSamplingRun n r).pins = s.pins := by unfold State.setSamplingRun; split <;> rfl

/-! ### State.setBank -/

@[simp] theorem State.setBank_pending (s : State) (k : Nat) (b : List Byte) : (s.setBank k b).pending = s.pending := by unfold State.setBank; split <;> rfl
@[simp] theorem State.setBank_stamp (s : State) (k : Nat) (b : List Byte) : (s.setBank k b).stamp = s.stamp := by unfold State.setBank; split <;> rfl
@[simp] theorem State.setBank_freeCtr (s : State) (k : Nat) (b : List Byte) : (s.setBank k b).freeCtr = s.freeCtr := by unfold State.setBank; split <;> rfl
@[simp] theorem State.setBank_sent (s : State) (k : Nat) (b : List Byte) : (s.setBank k b).sent = s.sent := by unfold State.setBank; split <;> rfl
@[simp] theorem State.setBank_objs (s : State) (k : Nat) (b : List Byte) : (s.setBank k b).objs = s.objs := by unfold State.setBank; split <;> rfl
@[simp] theorem State.setBank_mem (s : State) (k : Nat) (b : List Byte) : (s.setBank k b).mem = s.mem := by unfold State.setBank; split <;> rfl
@[simp] theorem State.setBank_hbm (s : State) (k : Nat) (b : List Byte) : (s.setBank k b).hbm = s.hbm := by unfold State.setBank; split <;> rfl
@[simp] theorem State.setBank_sill (s : State) (k : Nat) (b : List Byte) : (s.setBank k b).sill = s.sill := by unfold State.setBank; split <;> rfl
@[simp] theorem State.setBank_copies (s : State) (k : Nat) (b : List Byte) : (s.setBank k b).copies = s.copies := by unfold State.setBank; split <;> rfl
@[simp] theorem State.setBank_copyQueue (s : State) (k : Nat) (b : List Byte) : (s.setBank k b).copyQueue = s.copyQueue := by unfold State.setBank; split <;> rfl
@[simp] theorem State.setBank_objects (s : State) (k : Nat) (b : List Byte) : (s.setBank k b).objects = s.objects := by unfold State.setBank; split <;> rfl
@[simp] theorem State.setBank_nextObj (s : State) (k : Nat) (b : List Byte) : (s.setBank k b).nextObj = s.nextObj := by unfold State.setBank; split <;> rfl
@[simp] theorem State.setBank_engines (s : State) (k : Nat) (b : List Byte) : (s.setBank k b).engines = s.engines := by unfold State.setBank; split <;> rfl
@[simp] theorem State.setBank_bays (s : State) (k : Nat) (b : List Byte) : (s.setBank k b).bays = s.bays := by unfold State.setBank; split <;> rfl
@[simp] theorem State.setBank_dies (s : State) (k : Nat) (b : List Byte) : (s.setBank k b).dies = s.dies := by unfold State.setBank; split <;> rfl
@[simp] theorem State.setBank_res (s : State) (k : Nat) (b : List Byte) : (s.setBank k b).res = s.res := by unfold State.setBank; split <;> rfl
@[simp] theorem State.setBank_resOrder (s : State) (k : Nat) (b : List Byte) : (s.setBank k b).resOrder = s.resOrder := by unfold State.setBank; split <;> rfl
@[simp] theorem State.setBank_ctxs (s : State) (k : Nat) (b : List Byte) : (s.setBank k b).ctxs = s.ctxs := by unfold State.setBank; split <;> rfl
@[simp] theorem State.setBank_epochs (s : State) (k : Nat) (b : List Byte) : (s.setBank k b).epochs = s.epochs := by unfold State.setBank; split <;> rfl
@[simp] theorem State.setBank_sched (s : State) (k : Nat) (b : List Byte) : (s.setBank k b).sched = s.sched := by unfold State.setBank; split <;> rfl
@[simp] theorem State.setBank_links (s : State) (k : Nat) (b : List Byte) : (s.setBank k b).links = s.links := by unfold State.setBank; split <;> rfl
@[simp] theorem State.setBank_ports (s : State) (k : Nat) (b : List Byte) : (s.setBank k b).ports = s.ports := by unfold State.setBank; split <;> rfl
@[simp] theorem State.setBank_hostPorts (s : State) (k : Nat) (b : List Byte) : (s.setBank k b).hostPorts = s.hostPorts := by unfold State.setBank; split <;> rfl
@[simp] theorem State.setBank_fab (s : State) (k : Nat) (b : List Byte) : (s.setBank k b).fab = s.fab := by unfold State.setBank; split <;> rfl
@[simp] theorem State.setBank_sessions (s : State) (k : Nat) (b : List Byte) : (s.setBank k b).sessions = s.sessions := by unfold State.setBank; split <;> rfl
@[simp] theorem State.setBank_clock (s : State) (k : Nat) (b : List Byte) : (s.setBank k b).clock = s.clock := by unfold State.setBank; split <;> rfl
@[simp] theorem State.setBank_intr (s : State) (k : Nat) (b : List Byte) : (s.setBank k b).intr = s.intr := by unfold State.setBank; split <;> rfl
@[simp] theorem State.setBank_cores (s : State) (k : Nat) (b : List Byte) : (s.setBank k b).cores = s.cores := by unfold State.setBank; split <;> rfl
@[simp] theorem State.setBank_perf (s : State) (k : Nat) (b : List Byte) : (s.setBank k b).perf = s.perf := by unfold State.setBank; split <;> rfl
@[simp] theorem State.setBank_power (s : State) (k : Nat) (b : List Byte) : (s.setBank k b).power = s.power := by unfold State.setBank; split <;> rfl
@[simp] theorem State.setBank_fault (s : State) (k : Nat) (b : List Byte) : (s.setBank k b).fault = s.fault := by unfold State.setBank; split <;> rfl
@[simp] theorem State.setBank_boot (s : State) (k : Nat) (b : List Byte) : (s.setBank k b).boot = s.boot := by unfold State.setBank; split <;> rfl
@[simp] theorem State.setBank_pins (s : State) (k : Nat) (b : List Byte) : (s.setBank k b).pins = s.pins := by unfold State.setBank; split <;> rfl

/-! ### State.countClamp -/

@[simp] theorem State.countClamp_pending (s : State) (i : Nat) : (s.countClamp i).pending = s.pending := by unfold State.countClamp; split <;> rfl
@[simp] theorem State.countClamp_stamp (s : State) (i : Nat) : (s.countClamp i).stamp = s.stamp := by unfold State.countClamp; split <;> rfl
@[simp] theorem State.countClamp_freeCtr (s : State) (i : Nat) : (s.countClamp i).freeCtr = s.freeCtr := by unfold State.countClamp; split <;> rfl
@[simp] theorem State.countClamp_sent (s : State) (i : Nat) : (s.countClamp i).sent = s.sent := by unfold State.countClamp; split <;> rfl
@[simp] theorem State.countClamp_mem (s : State) (i : Nat) : (s.countClamp i).mem = s.mem := by unfold State.countClamp; split <;> rfl
@[simp] theorem State.countClamp_hbm (s : State) (i : Nat) : (s.countClamp i).hbm = s.hbm := by unfold State.countClamp; split <;> rfl
@[simp] theorem State.countClamp_sill (s : State) (i : Nat) : (s.countClamp i).sill = s.sill := by unfold State.countClamp; split <;> rfl
@[simp] theorem State.countClamp_copies (s : State) (i : Nat) : (s.countClamp i).copies = s.copies := by unfold State.countClamp; split <;> rfl
@[simp] theorem State.countClamp_copyQueue (s : State) (i : Nat) : (s.countClamp i).copyQueue = s.copyQueue := by unfold State.countClamp; split <;> rfl
@[simp] theorem State.countClamp_objects (s : State) (i : Nat) : (s.countClamp i).objects = s.objects := by unfold State.countClamp; split <;> rfl
@[simp] theorem State.countClamp_nextObj (s : State) (i : Nat) : (s.countClamp i).nextObj = s.nextObj := by unfold State.countClamp; split <;> rfl
@[simp] theorem State.countClamp_engines (s : State) (i : Nat) : (s.countClamp i).engines = s.engines := by unfold State.countClamp; split <;> rfl
@[simp] theorem State.countClamp_bays (s : State) (i : Nat) : (s.countClamp i).bays = s.bays := by unfold State.countClamp; split <;> rfl
@[simp] theorem State.countClamp_dies (s : State) (i : Nat) : (s.countClamp i).dies = s.dies := by unfold State.countClamp; split <;> rfl
@[simp] theorem State.countClamp_res (s : State) (i : Nat) : (s.countClamp i).res = s.res := by unfold State.countClamp; split <;> rfl
@[simp] theorem State.countClamp_resOrder (s : State) (i : Nat) : (s.countClamp i).resOrder = s.resOrder := by unfold State.countClamp; split <;> rfl
@[simp] theorem State.countClamp_ctxs (s : State) (i : Nat) : (s.countClamp i).ctxs = s.ctxs := by unfold State.countClamp; split <;> rfl
@[simp] theorem State.countClamp_epochs (s : State) (i : Nat) : (s.countClamp i).epochs = s.epochs := by unfold State.countClamp; split <;> rfl
@[simp] theorem State.countClamp_sched (s : State) (i : Nat) : (s.countClamp i).sched = s.sched := by unfold State.countClamp; split <;> rfl
@[simp] theorem State.countClamp_links (s : State) (i : Nat) : (s.countClamp i).links = s.links := by unfold State.countClamp; split <;> rfl
@[simp] theorem State.countClamp_ports (s : State) (i : Nat) : (s.countClamp i).ports = s.ports := by unfold State.countClamp; split <;> rfl
@[simp] theorem State.countClamp_hostPorts (s : State) (i : Nat) : (s.countClamp i).hostPorts = s.hostPorts := by unfold State.countClamp; split <;> rfl
@[simp] theorem State.countClamp_fab (s : State) (i : Nat) : (s.countClamp i).fab = s.fab := by unfold State.countClamp; split <;> rfl
@[simp] theorem State.countClamp_sessions (s : State) (i : Nat) : (s.countClamp i).sessions = s.sessions := by unfold State.countClamp; split <;> rfl
@[simp] theorem State.countClamp_clock (s : State) (i : Nat) : (s.countClamp i).clock = s.clock := by unfold State.countClamp; split <;> rfl
@[simp] theorem State.countClamp_efyth (s : State) (i : Nat) : (s.countClamp i).efyth = s.efyth := by unfold State.countClamp; split <;> rfl
@[simp] theorem State.countClamp_intr (s : State) (i : Nat) : (s.countClamp i).intr = s.intr := by unfold State.countClamp; split <;> rfl
@[simp] theorem State.countClamp_cores (s : State) (i : Nat) : (s.countClamp i).cores = s.cores := by unfold State.countClamp; split <;> rfl
@[simp] theorem State.countClamp_perf (s : State) (i : Nat) : (s.countClamp i).perf = s.perf := by unfold State.countClamp; split <;> rfl
@[simp] theorem State.countClamp_power (s : State) (i : Nat) : (s.countClamp i).power = s.power := by unfold State.countClamp; split <;> rfl
@[simp] theorem State.countClamp_fault (s : State) (i : Nat) : (s.countClamp i).fault = s.fault := by unfold State.countClamp; split <;> rfl
@[simp] theorem State.countClamp_boot (s : State) (i : Nat) : (s.countClamp i).boot = s.boot := by unfold State.countClamp; split <;> rfl
@[simp] theorem State.countClamp_pins (s : State) (i : Nat) : (s.countClamp i).pins = s.pins := by unfold State.countClamp; split <;> rfl

/-! ### Reads of the table that an update changed -/

@[simp] theorem State.setCtx_ctx_self (s : State) (i : Nat) (x : Ctx) : (s.setCtx i x).ctx i = x := Assoc.get_set_self _ _ _ _
theorem State.setCtx_ctx_ne (s : State) {i j : Nat} (x : Ctx) (h : j ≠ i) : (s.setCtx i x).ctx j = s.ctx j :=
  Assoc.get_set_ne _ _ _ h

@[simp] theorem State.setEngine_engine_self (s : State) (i : Nat) (x : Engine) : (s.setEngine i x).engine i = x := Assoc.get_set_self _ _ _ _
theorem State.setEngine_engine_ne (s : State) {i j : Nat} (x : Engine) (h : j ≠ i) : (s.setEngine i x).engine j = s.engine j :=
  Assoc.get_set_ne _ _ _ h

@[simp] theorem State.setBay_bay_self (s : State) (i : Nat) (x : Bay) : (s.setBay i x).bay i = x := Assoc.get_set_self _ _ _ _
theorem State.setBay_bay_ne (s : State) {i j : Nat} (x : Bay) (h : j ≠ i) : (s.setBay i x).bay j = s.bay j :=
  Assoc.get_set_ne _ _ _ h

@[simp] theorem State.setDie_die_self (s : State) (i : Nat) (x : Die) : (s.setDie i x).die i = x := Assoc.get_set_self _ _ _ _
theorem State.setDie_die_ne (s : State) {i j : Nat} (x : Die) (h : j ≠ i) : (s.setDie i x).die j = s.die j :=
  Assoc.get_set_ne _ _ _ h

@[simp] theorem State.setLink_link_self (s : State) (i : Nat) (x : Link) : (s.setLink i x).link i = x := Assoc.get_set_self _ _ _ _
theorem State.setLink_link_ne (s : State) {i j : Nat} (x : Link) (h : j ≠ i) : (s.setLink i x).link j = s.link j :=
  Assoc.get_set_ne _ _ _ h

@[simp] theorem State.setHbmPage_hbmPage_self (s : State) (i : Nat) (x : HbmPage) : (s.setHbmPage i x).hbmPage i = x := Assoc.get_set_self _ _ _ _
theorem State.setHbmPage_hbmPage_ne (s : State) {i j : Nat} (x : HbmPage) (h : j ≠ i) : (s.setHbmPage i x).hbmPage j = s.hbmPage j :=
  Assoc.get_set_ne _ _ _ h

@[simp] theorem State.setSillPage_sillPage_self (s : State) (i : Nat) (x : SillPage) : (s.setSillPage i x).sillPage i = x := Assoc.get_set_self _ _ _ _
theorem State.setSillPage_sillPage_ne (s : State) {i j : Nat} (x : SillPage) (h : j ≠ i) : (s.setSillPage i x).sillPage j = s.sillPage j :=
  Assoc.get_set_ne _ _ _ h

@[simp] theorem State.setObject_object_self (s : State) (i : Nat) (x : Obj) : (s.setObject i x).object i = x := Assoc.get_set_self _ _ _ _
theorem State.setObject_object_ne (s : State) {i j : Nat} (x : Obj) (h : j ≠ i) : (s.setObject i x).object j = s.object j :=
  Assoc.get_set_ne _ _ _ h

@[simp] theorem State.setSession_session_self (s : State) (i : Nat) (x : Session) : (s.setSession i x).session i = x := Assoc.get_set_self _ _ _ _
theorem State.setSession_session_ne (s : State) {i j : Nat} (x : Session) (h : j ≠ i) : (s.setSession i x).session j = s.session j :=
  Assoc.get_set_ne _ _ _ h

@[simp] theorem State.setSourceOf_sourceOf_self (s : State) (i : Nat) (x : Source) : (s.setSourceOf i x).sourceOf i = x := Assoc.get_set_self _ _ _ _
theorem State.setSourceOf_sourceOf_ne (s : State) {i j : Nat} (x : Source) (h : j ≠ i) : (s.setSourceOf i x).sourceOf j = s.sourceOf j :=
  Assoc.get_set_ne _ _ _ h

@[simp] theorem State.setCore_core_self (s : State) (i : Nat) (x : Core) : (s.setCore i x).core i = x := Assoc.get_set_self _ _ _ _
theorem State.setCore_core_ne (s : State) {i j : Nat} (x : Core) (h : j ≠ i) : (s.setCore i x).core j = s.core j :=
  Assoc.get_set_ne _ _ _ h

@[simp] theorem State.setResUnit_resUnit_self (s : State) (i : Nat) (x : ResUnit) : (s.setResUnit i x).resUnit i = x := Assoc.get_set_self _ _ _ _
theorem State.setResUnit_resUnit_ne (s : State) {i j : Nat} (x : ResUnit) (h : j ≠ i) : (s.setResUnit i x).resUnit j = s.resUnit j :=
  Assoc.get_set_ne _ _ _ h

@[simp] theorem State.setByte_byte_self (s : State) (a : Nat) (b : Byte) : (s.setByte a b).byte a = b := Assoc.get_set_self _ _ _ _
theorem State.setByte_byte_ne (s : State) {a x : Nat} (b : Byte) (h : x ≠ a) : (s.setByte a b).byte x = s.byte x :=
  Assoc.get_set_ne _ _ _ h

theorem State.zeroRange_byte (s : State) (lo hi x : Nat) : (s.zeroRange lo hi).byte x = if lo ≤ x ∧ x < hi then 0 else s.byte x :=
  Assoc.get_clearRange _ _ _ _ _

/-- Objects have keys of their own. -/
theorem objKey_inj {i k j m : Nat} (hk : k < 256) (hm : m < 256) (h : objKey i k = objKey j m) : i = j ∧ k = m := by
  unfold objKey at h
  omega

@[simp] theorem State.setObj_obj_self (s : State) (i k : Nat) (v : ObjVal) : (s.setObj i k v).obj i k = v := Assoc.get_set_self _ _ _ _
theorem State.setObj_obj_ne (s : State) {i k j m : Nat} (v : ObjVal) (h : objKey j m ≠ objKey i k) :
    (s.setObj i k v).obj j m = s.obj j m := by
  unfold State.setObj State.obj
  simp only
  unfold Assoc.set
  split
  · exact Assoc.get_erase_ne _ _ h
  · exact Assoc.get_insert_ne _ _ _ h

@[simp] theorem State.setCnt_cnt_self (s : State) (i k n : Nat) : (s.setCnt i k n).cnt i k = n := by
  unfold State.setCnt State.cnt
  simp [ObjVal.toNat]
theorem State.setCnt_cnt_ne (s : State) {i k j m : Nat} (n : Nat) (h : objKey j m ≠ objKey i k) : (s.setCnt i k n).cnt j m = s.cnt j m := by
  unfold State.setCnt State.cnt
  simp only
  rw [Assoc.get_set_ne _ _ _ h]
theorem State.setCnt_obj_ne (s : State) {i k j m : Nat} (n : Nat) (h : objKey j m ≠ objKey i k) : (s.setCnt i k n).obj j m = s.obj j m := by
  unfold State.setCnt State.obj
  simp only
  unfold Assoc.set
  split
  · exact Assoc.get_erase_ne _ _ h
  · exact Assoc.get_insert_ne _ _ _ h
theorem State.setCnt_num_ne (s : State) {i k j m : Nat} (n : Nat) (h : objKey j m ≠ objKey i k) : (s.setCnt i k n).num j m = s.num j m := by
  unfold State.num
  rw [State.setCnt_obj_ne s n h]

@[simp] theorem State.bump_cnt_self (s : State) (i k : Nat) : (s.bump i k).cnt i k = min (s.cnt i k + 1) (2 ^ 64 - 1) :=
  State.setCnt_cnt_self _ _ _ _
theorem State.bump_cnt_ne (s : State) {i k j m : Nat} (h : objKey j m ≠ objKey i k) : (s.bump i k).cnt j m = s.cnt j m :=
  State.setCnt_cnt_ne s _ h

/-! ### Gating -/

/-- While the firmware runs, a gated effect happens. -/
theorem State.whenUp_up {s : State} (f : State → State) (h : s.up = true) : s.whenUp f = f s := by
  unfold State.whenUp
  rw [if_pos h]

/-- Before it runs, nothing happens. -/
theorem State.whenUp_down {s : State} (f : State → State) (h : s.up = false) : s.whenUp f = s := by
  unfold State.whenUp
  rw [if_neg (by rw [h]; exact Bool.false_ne_true)]

end Sys2Proof.Machine
end

