-- ==== Sys2Proof/Laws/Memory.lean ====
section
/-! SUPPORT. Every operation on memory keeps the canonical form of the byte store (Memory.wf), and what each leaves of a byte. -/

namespace Sys2Proof.Machine

/-- Nothing is listed at reset. -/
theorem State.reset_mem_wf : Memory.wf State.reset.mem = true := rfl

theorem State.setByte_wf {s : State} (h : Memory.wf s.mem = true) (a : Nat) (b : Byte) : Memory.wf (s.setByte a b).mem = true :=
  Assoc.wf_set _ _ _ _ h

theorem State.writeBytes_wf {s : State} (h : Memory.wf s.mem = true) (a : Nat) (l : List Byte) :
    Memory.wf (s.writeBytes a l).mem = true := by
  induction l generalizing s a with
  | nil => exact h
  | cons b l ih => exact ih (State.setByte_wf h a b) _

theorem State.writeNat_wf {s : State} (h : Memory.wf s.mem = true) (a n v : Nat) : Memory.wf (s.writeNat a n v).mem = true :=
  State.writeBytes_wf h _ _

theorem State.zeroRange_wf {s : State} (h : Memory.wf s.mem = true) (lo hi : Nat) : Memory.wf (s.zeroRange lo hi).mem = true :=
  Assoc.wf_clearRange _ _ _ _ h

theorem State.loadRange_wf {s : State} (h : Memory.wf s.mem = true) (lo : Nat) (l : Sparse Nat) :
    Memory.wf (s.loadRange lo l).mem = true := by
  unfold State.loadRange
  induction l generalizing s with
  | nil => exact h
  | cons c l ih => exact ih (State.setByte_wf h _ _)

theorem State.zeroBanks_wf {s : State} (h : Memory.wf s.mem = true) (bay mask : Nat) : Memory.wf (s.zeroBanks bay mask).mem = true :=
  Assoc.wf_filter _ _ _ h

theorem State.clearBench_wf {s : State} (h : Memory.wf s.mem = true) : Memory.wf s.clearBench.mem = true :=
  Assoc.wf_clearRange _ _ _ _ h

/-- What each step of a fold keeps of memory, the fold keeps. -/
theorem State.foldl_wf {α : Type} {f : State → α → State} (hf : ∀ s x, Memory.wf s.mem = true → Memory.wf (f s x).mem = true)
    (l : List α) {s : State} (h : Memory.wf s.mem = true) : Memory.wf (l.foldl f s).mem = true := by
  induction l generalizing s with
  | nil => exact h
  | cons x l ih => exact ih (hf s x h)

/-! ### The save area and the lofts -/

theorem State.putSave_wf (s : State) (x : Ctx) (o : Nat) (l : List Byte) (h : Memory.wf s.mem = true) :
    Memory.wf (s.putSave x o l).mem = true := by
  refine State.foldl_wf (fun s e h => ?_) _ h
  split
  · exact h
  · exact State.setByte_wf h _ _

theorem State.putTable_wf (s : State) (x : Ctx) (o n : Nat) (l : List (Nat × List Byte)) (h : Memory.wf s.mem = true) :
    Memory.wf (s.putTable x o n l).mem = true :=
  State.foldl_wf (fun s _ h => State.putSave_wf s x _ _ h) _ h

theorem State.saveParked_wf {s : State} (h : Memory.wf s.mem = true) (c : Nat) : Memory.wf (s.saveParked c).mem = true := by
  unfold State.saveParked
  dsimp only
  split
  · exact State.putTable_wf _ _ _ _ _ (State.zeroRange_wf h _ _)
  · exact h

theorem State.saveState_wf {s : State} (h : Memory.wf s.mem = true) (c : Nat) : Memory.wf (s.saveState c).mem = true := by
  unfold State.saveState
  dsimp only
  refine State.putTable_wf _ _ _ _ _ (State.putTable_wf _ _ _ _ _ (State.putTable_wf _ _ _ _ _ (State.putTable_wf _ _ _ _ _
    (State.putTable_wf _ _ _ _ _ (State.putSave_wf _ _ _ _ ?_)))))
  exact State.foldl_wf (fun s p h => State.zeroRange_wf h _ _) _ h

theorem State.saveKept_wf {s : State} (h : Memory.wf s.mem = true) (x : Ctx) (l : List Nat) : Memory.wf (s.saveKept x l).mem = true :=
  State.foldl_wf (fun _ _ h => State.foldl_wf (fun _ _ h => State.setByte_wf h _ _) _ h) _ h

theorem State.loadKept_wf {s : State} (h : Memory.wf s.mem = true) (x : Ctx) (l : List Nat) : Memory.wf (s.loadKept x l).mem = true := by
  refine State.foldl_wf (fun t c h => ?_) _ h
  split
  · exact h
  · dsimp only
    split
    · exact h
    · exact State.setByte_wf h _ _

/-- A loft holds lines, and no bytes of its own. -/
@[simp] theorem State.loftRead_mem (s : State) (u : LoftUse) (a n : Nat) : (s.loftRead u a n).mem = s.mem := by
  unfold State.loftRead
  generalize linesOf a n = l
  induction l generalizing s with
  | nil => rfl
  | cons i l ih => exact ih _

@[simp] theorem State.loftWrite_mem (s : State) (u : LoftUse) (a : Nat) (b : List Byte) : (s.loftWrite u a b).mem = s.mem := by
  unfold State.loftWrite
  generalize linesOf a b.length = l
  suffices h : ∀ t : State, (l.foldl (fun t i =>
      t.setLoftSet (loftKey i) (writeLine u i (s.readBytes (128 * i) 128) (overlay i a b) (t.loftSet (loftKey i)))) t).mem = t.mem from h s
  induction l with
  | nil => exact fun _ => rfl
  | cons i l ih => exact fun t => ih _

/-- A store reaches its bytes whether its line stands in a loft or not. -/
theorem State.storeAt_mem (s : State) (u : LoftUse) (a : Nat) (l : List Byte) : (s.storeAt u a l).mem = (s.writeBytes a l).mem := by
  have h : ∀ (s t : State) (a : Nat) (l : List Byte), s.mem = t.mem → (s.writeBytes a l).mem = (t.writeBytes a l).mem := by
    intro s t a l e
    induction l generalizing s t a with
    | nil => exact e
    | cons b l ih => exact ih _ _ _ (by simp [State.setByte, e])
  unfold State.storeAt
  split
  · exact h _ _ _ _ (State.loftWrite_mem _ _ _ _)
  · rfl

theorem State.storeAt_wf {s : State} (h : Memory.wf s.mem = true) (u : LoftUse) (a : Nat) (l : List Byte) :
    Memory.wf (s.storeAt u a l).mem = true := by
  rw [State.storeAt_mem]
  exact State.writeBytes_wf h a l

theorem State.loseDirty_wf {s : State} (h : Memory.wf s.mem = true) (l : List LoftLine) : Memory.wf (s.loseDirty l).mem = true := by
  refine State.foldl_wf (fun t x h => ?_) _ h
  split
  · exact State.writeBytes_wf h _ _
  · exact h

theorem State.warmFlush_wf {s : State} (h : Memory.wf s.mem = true) : Memory.wf s.warmFlush.mem = true :=
  State.loseDirty_wf (s := { s with freeCtr := s.freeCtr + 1 }) h _

/-! ### The pages of HBM -/

/-- Loading one page use leaves memory. -/
theorem State.setHbmPage_foldl_mem (l : List Nat) (p : State → Nat → Bool) (x : State → Nat → HbmPage) (s : State) :
    (l.foldl (fun s n => if p s n then s.setHbmPage n (x s n) else s) s).mem = s.mem := by
  induction l generalizing s with
  | nil => rfl
  | cons n l ih =>
    rw [List.foldl_cons, ih]
    split
    · rfl
    · rfl

theorem State.zeroDevice_mem (s : State) (keep : Bool) :
    (s.zeroDevice keep).mem
      = Assoc.clearRange s.mem (if keep then hbmBase + min (s.num 0x4806 1) s.boot.staging * pageBytes else hbmBase) hbmEnd := by
  unfold State.zeroDevice
  dsimp only
  have h := State.setHbmPage_foldl_mem (stagingPages (s.num 0x4806 1)) (fun s p => decide ((s.hbmPage p).use = .free))
    (fun s p => { s.hbmPage p with use := .staging })
  have k := State.setHbmPage_foldl_mem firmwareSet (fun s p => decide ((s.hbmPage p).use = .free))
    (fun s p => { s.hbmPage p with use := .firmware })
  simp only [decide_eq_true_eq] at h k
  rw [k, h]

theorem State.zeroDevice_wf {s : State} (h : Memory.wf s.mem = true) (keep : Bool) : Memory.wf (s.zeroDevice keep).mem = true := by
  rw [State.zeroDevice_mem]
  exact Assoc.wf_clearRange _ _ _ _ h

/-- A byte after a run of bytes is written elsewhere. -/
theorem State.writeBytes_byte_of_lt (s : State) (a : Nat) (l : List Byte) {x : Nat} (h : x < a) :
    (s.writeBytes a l).byte x = s.byte x := by
  induction l generalizing s a with
  | nil => rfl
  | cons b l ih =>
    rw [State.writeBytes, ih _ _ (by omega), State.setByte_byte_ne _ _ (by omega)]

/-- A byte after the loss of the benches. -/
theorem State.clearBench_byte (s : State) (x : Nat) : s.clearBench.byte x = if x < benchEnd then 0 else s.byte x := by
  simp [State.clearBench, State.byte, Assoc.get_clearRange, memDefault]

/-- A byte after banks of a bay are zeroed. -/
theorem State.zeroBanks_byte (s : State) (bay mask x : Nat) :
    (s.zeroBanks bay mask).byte x
      = if x / benchBytes = bay ∧ x < benchEnd ∧ mask.testBit ((x % benchBytes / 1024) % 32) = true then 0 else s.byte x := by
  have h := Assoc.get_filter_key memDefault s.mem
    (fun k => !(decide (k / benchBytes = bay) && decide (k < benchEnd) && mask.testBit ((k % benchBytes / 1024) % 32))) x
  unfold State.byte State.zeroBanks
  refine h.trans ?_
  by_cases h1 : x / benchBytes = bay <;> by_cases h2 : x < benchEnd <;>
    cases h3 : mask.testBit ((x % benchBytes / 1024) % 32) <;> simp [h1, h2, memDefault]

end Sys2Proof.Machine
end

