-- ==== Sys2Proof/Tests/Slice0.lean ====
section
/-! SUPPORT. Tests of the model: a term that each check of WellFormed refuses, examples that the manual works out, and for every
statement with hypotheses a concrete state and operands that meet all of them together. -/

open Sys2Proof Sys2Proof.Machine

namespace Sys2Proof.Tests

set_option Elab.async false

/-! ### Ill-formed commands -/

theorem test_units : (Instr.swap (2 ^ 64)).wellFormed = false := by decide
theorem test_index : (Instr.objectWrite 0 (.object 0x10000) 1 [] Aux.none).wellFormed = false := by decide
theorem test_sub : (Instr.objectWrite 0 (.object 0x6011) 256 [] Aux.none).wellFormed = false := by decide
theorem test_register : (Instr.objectWrite 0 (.register 0) 0x0EFFFFFFFFFF [] Aux.none).wellFormed = false := by decide
theorem test_value_length : (Instr.scheduleTableWrite 0 (List.replicate 8193 0)).wellFormed = false := by decide +kernel
theorem test_block_length : (Instr.contextCreate 0 (List.replicate 65 0) Placement.none).wellFormed = false := by decide
theorem test_placement : (Instr.contextCreate 0 [] { Placement.none with bayMap := [64] }).wellFormed = false := by decide
theorem test_ctx : (Instr.contextClose 0 4096).wellFormed = false := by decide
theorem test_engine : (Instr.commandStart 0 274 false).wellFormed = false := by decide
theorem test_queue : (Instr.park 0 1 275).wellFormed = false := by decide
theorem test_bay : (Instr.bayReset 0 64).wellFormed = false := by decide
theorem test_die : (Instr.thermalTrip 0 4).wellFormed = false := by decide
theorem test_stack : (Instr.copyPoolWrite 0 16 0).wellFormed = false := by decide
theorem test_package : (Instr.copyComplete 0 8 false).wellFormed = false := by decide
theorem test_path : (Instr.diePathLaneLoss 0 15 true).wellFormed = false := by decide
theorem test_core : (Instr.take 0 4 0).wellFormed = false := by decide
theorem test_page : (Instr.pageZeroingComplete 0 917504).wellFormed = false := by decide
theorem test_link : (Instr.partnerSignal 0 32).wellFormed = false := by decide
theorem test_lane : (Instr.laneLoss 0 0 4).wellFormed = false := by decide
theorem test_purlin : (Instr.portStateChange 0 16 0).wellFormed = false := by decide
theorem test_port_state : (Instr.portStateChange 0 0 4).wellFormed = false := by decide
theorem test_host_port : (Instr.hostPortStateChange 0 2 0).wellFormed = false := by decide
theorem test_net_port : (Instr.arpRequest 0 18 0 0).wellFormed = false := by decide
theorem test_edge : (Instr.edgeLinkReset 0 50).wellFormed = false := by decide
theorem test_source : (Instr.setSource 0 512).wellFormed = false := by decide
theorem test_session : (Instr.sessionTimeout 0 64).wellFormed = false := by decide
theorem test_device : (Instr.peerResetHoldExpiry 0 (2 ^ 18)).wellFormed = false := by decide
theorem test_mac : (Instr.multipartTimeout 0 (2 ^ 48)).wellFormed = false := by decide
theorem test_flit : (Instr.identify 0 0 (2 ^ 256)).wellFormed = false := by decide
theorem test_codeword_seq : (Instr.codewordReceive 0 0 true 0 1024 0 []).wellFormed = false := by decide
theorem test_crc10 : (Instr.codewordReceive 0 0 true 0 0 1024 []).wellFormed = false := by decide
theorem test_word32 : (Instr.linkRetrain 0 (2 ^ 32)).wellFormed = false := by decide
theorem test_word64 : (Instr.modeWrite 0 (2 ^ 64)).wellFormed = false := by decide
theorem test_job_pin : (Instr.jobSignalAssign 0 3 0).wellFormed = false := by decide
theorem test_domain : (Instr.resetComplete 0 6 0 Placement.none).wellFormed = false := by decide
theorem test_fault_cause : (Instr.firmwareFault 0 (.access 0 65 false)).wellFormed = false := by decide
theorem test_perf_unit : (Instr.counterWrap 0 83 0).wellFormed = false := by decide
theorem test_perf_counter : (Instr.counterWrap 0 0 8).wellFormed = false := by decide
theorem test_resource : (Instr.resourceRearm 0 132).wellFormed = false := by decide
theorem test_memory : (Instr.patrolScrub 0 5 [] []).wellFormed = false := by decide
theorem test_pend_word : (Instr.pendClear 0 8 0).wellFormed = false := by decide
theorem test_diag : (Instr.fp32Add 0 0 (some (.residue 192 0))).wellFormed = false := by decide
theorem test_via : viaFits (.purlin 16) = false := by decide
theorem test_fab : fabFits { ok := true, typ := none, hdr := { FabHdr.zero with seq := 2 ^ 32 }, payload := [] } = false := by decide
theorem test_type : fabFits { ok := true, typ := some 256, hdr := FabHdr.zero, payload := [] } = false := by decide
theorem test_host : hostFits { src := [], dst := 0, dstPort := 0, ok := true, typ := none, hdr := HostHdr.zero, payload := [] } = false := by decide
theorem test_efyth : efythFits { src := 2 ^ 48, dst := 0, ok := true, typ := none, hdr := EfythHdr.zero, payload := [] } = false := by decide
theorem test_well_formed : (Instr.bayReset 0 63).wellFormed = true := by decide

/-! ### A running device -/

/-- A device that has booted: nothing else differs from reset. -/
def up : State := { State.reset with boot := { Boot.reset with phase := .running } }

/-- Two seconds later. -/
def late : State := { up with stamp := 8000000000 }

/-- Context 1, resident, with every bank of bay 0 granted. -/
def ctx1 : Ctx := { Ctx.undefined with state := 2, grant := [(0, 0xFFFFFFFF)], queueLog2 := 4, ringLog2 := 6, queueBase := 0x40000, ringBase := 0x2000 }

/-- `x` as context 1. -/
def withCtx (s : State) (x : Ctx) : State := s.setCtx 1 x

/-- A command of an opcode and a body. -/
def cmdOf (op body : Nat) : Cmd :=
  { tag := 0, waitValue := 0, waitQueue := 0, waitKind := 0, irq := false, fence := false, cmpl := false, opcode := op, body := body }

/-- Context 1 running a command of an opcode and a body. -/
def runOf (e op body : Nat) : Run :=
  { ctx := 1, queue := e, slot := 0, cmd := cmdOf op body, clamped := false, start := 0, issued := 0, level := 0, defGrain := 0,
    defOther := 0, block := [], tile := none, slots := 0, await := .none, waitFrom := 0, failed := none, woken := false, out := [], purlin := false }

/-- Engine `e` runs it. -/
def running (e : Nat) (r : Run) : State :=
  (withCtx up ctx1).setEngine e { Engine.idle with running := some r }

/-! ### States and operands that meet the hypotheses of the statements -/

theorem witness_StepRunsFrontCommand :
    ({ up with pending := [.swap 1] } : State).pending = [.swap 1] ∧ up.pending = [] := ⟨rfl, rfl⟩

theorem witness_StepKeepsSound : State.reset.Sound ∧ ∃ t, step { State.reset with pending := [.swap 1] } = .next t :=
  ⟨⟨rfl, by decide⟩, _, rfl⟩

theorem witness_CommandsKeepQueueAndOutput : ∃ t, exec (.cycleStart 7) up = .next t := ⟨_, rfl⟩

theorem witness_FirmwareCommandsWaitForBoot : (Instr.cycleStart 0).needsFirmware = true ∧ State.reset.up = false := by decide

theorem witness_TimePasses : ({ up with stamp := 2 ^ 64 - 1 } : State).clock.slew = 0 ∧ up.clock.aon = 0 ∧ up.boot.phase ≠ .p3 := by decide

/-- The lowest and the highest clamp counter of its own that a region has. -/
theorem witness_ClearsReset : (up.elapse 0).up = true ∧ (0x10FF % 256 = 0xFF ∧ clampCounter 0x10FF = some (0x10FF, 1))
    ∧ (0x7FFF % 256 = 0xFF ∧ clampCounter 0x7FFF = some (0x7FFF, 1)) := by decide

/-- What a row command needs, for each opcode from 0x20 to 0x25 and for the add. -/
theorem witness_RowCommandsComplete : ∀ op ∈ [0x20, 0x21, 0x22, 0x23, 0x24, 0x25, 0x28],
    ((running 0 (runOf 0 op 0)).elapse 0).up = true
      ∧ (((running 0 (runOf 0 op 0)).elapse 0).engine 0).running = some (runOf 0 op 0)
      ∧ ((running 0 (runOf 0 op 0)).elapse 0).engineLive 0 = true ∧ (runOf 0 op 0).await = .none ∧ (runOf 0 op 0).failed = none
      ∧ (runOf 0 op 0).cmd.opcode = op
      ∧ ((running 0 (runOf 0 op 0)).elapse 0).firstFault (.bay 0) 1
          (((decodeRow 0).reads op).map rd ++ ((decodeRow 0).writes op).map wr) = 0
      ∧ ((running 0 (runOf 0 op 0)).elapse 0).firstFault (.bay 0) 1 [rd (0, 4), rd (0, 4), wr (0, 4)] = 0 := by
  decide +kernel

/-- A tensor product with a legal body, at most 768 rows, an empty epilogue and a slot. -/
theorem witness_TensorProductCompletes :
    ((running 0 (runOf 0 0x10 0)).elapse 0).up = true ∧ ((running 0 (runOf 0 0x10 0)).elapse 0).engineLive 0 = true
      ∧ (runOf 0 0x10 0).tile = none
      ∧ ((running 0 (runOf 0 0x10 0)).elapse 0).tensorCode 0 1 (decodeTensor 0).1 = 0
      ∧ (decodeTensor 0).1.rows ≤ 768 ∧ (((running 0 (runOf 0 0x10 0)).elapse 0).engine 0).epilogue = none
      ∧ (((running 0 (runOf 0 0x10 0)).elapse 0).engine 0).slotsFor 1 (runOf 0 0x10 0) = some 1 := by
  decide +kernel

/-- A tile in its epilogue whose emission writes one grain block and its record at address 0. -/
def tileState : State :=
  (withCtx up ctx1).setEngine 0 { Engine.idle with epilogue := some { runOf 0 0x10 0 with tile := some { accs := [], renorms := 0 } } }

theorem witness_TileEpilogueCompletes :
    (tileState.elapse 0).up = true ∧ (tileState.elapse 0).engineLive 0 = true
      ∧ ((tileState.elapse 0).engine 0).epilogueRun = some { runOf 0 0x10 0 with tile := some { accs := [], renorms := 0 } }
      ∧ ((decodeTensor 0).1.predicted && isGrain (decodeTensor 0).1.outFmt && !(decodeTensor 0).1.phantom) = false
      ∧ (tileState.elapse 0).sharedBlock 1 (decodeTensor 0).1 = (false, false)
      ∧ (tileState.elapse 0).worstFault (.bay 0) 1 ((decodeTensor 0).1.writes.map wr ++ [wr ((decodeTensor 0).1.record, 64)]) = 0 := by
  decide +kernel

/-- Context 1 with a stack of one lane in its bench. -/
def stackCtx : Ctx := { ctx1 with lanes := 1, segSize := 0x1000, stackBase := 0x8000 }

/-- Context 1 with its stack, running a haul of a stick operation on haul engine 0 of bay 0. -/
def stackState (s : State) (x : Ctx) (op : Nat) : State :=
  (withCtx s x).setEngine 2 { Engine.idle with running := some (runOf 2 0x30 (op * 2 ^ 421)) }

/-- After a push, and after the pop with hold of that stick. -/
def pushed : State := ((stackState up stackCtx 1).haulDesc 0 1 (haulDescOf (cmdOf 0x30 (1 * 2 ^ 421))) false false none).state
def heldStick : State := ((stackState pushed (pushed.ctx 1) 3).haulDesc 0 1 (haulDescOf (cmdOf 0x30 (3 * 2 ^ 421))) false false none).state

/-- What a haul of each stick operation needs. -/
def haulMeets (s : State) (op : Nat) : Bool :=
  let r := runOf 2 0x30 (op * 2 ^ 421)
  let u := (stackState s (s.ctx 1) op).elapse 0
  u.up && decide ((u.engine 2).running = some r) && u.engineLive 2 && decide (r.await = .none) && decide (r.failed = none)
    && !(isRemote 2 r.cmd) && (haulOp r.cmd == op) && !(u.stickBefore 2 r)
    && ((u.haulDesc 0 1 (haulDescOf r.cmd) ((haulDescOf r.cmd).keyed 0 0) false none).code == 0)

/-- The remote haul to device 5 over link 8. -/
def remoteState : State :=
  ((withCtx up ctx1).setLink 8 { Link.down with state := 5, peer := 5 }).setEngine 2
    { Engine.idle with running := some (runOf 2 0x30 (2 ^ 383 + 5 * 2 ^ 365)) }

theorem witness_HaulsComplete :
    (haulMeets (withCtx up ctx1) 0 && haulMeets (withCtx up stackCtx) 1 && haulMeets pushed 2 && haulMeets pushed 3
      && haulMeets heldStick 4 && haulMeets heldStick 5) = true
    ∧ (let u := remoteState.elapse 0
       let m := (runOf 2 0x30 (2 ^ 383 + 5 * 2 ^ 365)).cmd
       let o := u.haulDesc 0 1 (remoteDesc (haulDescOf m)) ((remoteDesc (haulDescOf m)).keyed 0 0) true none
       u.up = true ∧ (u.engine 2).running = some (runOf 2 0x30 (2 ^ 383 + 5 * 2 ^ 365)) ∧ u.engineLive 2 = true
         ∧ isRemote 2 m = true ∧ haulOp m = 0 ∧ (remoteWord m).device = 5 ∧ u.inPeerReset 5 = false ∧ (u.upLinks 5).isEmpty = false
         ∧ o.code = 0 ∧ u.unanswered 5 + max 1 (remoteMessages o.out).length ≤ 4096) := by
  constructor
  · decide +kernel
  · decide +kernel

/-- A first push, and a pop of the stick below which nothing lies. -/
theorem witness_StickOperationsMoveTheCursor :
    ((withCtx up stackCtx).stickPush 0 1 (haulDescOf (cmdOf 0x30 (1 * 2 ^ 421))) { op := 1, lane := 0, tag := 0 } false none).2 = 0
      ∧ ((pushed.ctx 1).segment 0 0).cursor = some 0
      ∧ (pushed.stickPop 0 1 (haulDescOf (cmdOf 0x30 (2 * 2 ^ 421))) { op := 2, lane := 0, tag := 0 } false false false none).code = 0 := by
  decide +kernel

/-- Weights and their gradient, one element each. -/
def testTensor (i g : Nat) : Tensor :=
  { id := i, kind := 0, fmt := 4, ndims := 1, dims := [1], size := 1, gradTarget := g, baseId := 0, layer := 0, split := 0, tier := 0,
    base := 0x1000 * i, bytes := 4 }

/-- The recipe block of tensor 1: plain descent, every number 0. -/
def updRun : Run := { runOf 256 0x40 0 with block := leBytes 64 (2 ^ 160) }

/-- Update engine 0 of context 1, whose step is sealed with `n` non-finite elements. -/
def updState (n : Nat) : State :=
  ((withCtx up { ctx1 with tensors := [testTensor 1 2, testTensor 2 0], sealed := true, nonfinite := n, skipCounted := decide (n ≠ 0) }).setEngine 256
    { Engine.idle with running := some updRun }).setObj 0x2202 1 (.num (min n 1))

theorem witness_UpdateCompletes : ∀ n ∈ [0, 1],
    ((updState n).elapse 0).up = true ∧ (((updState n).elapse 0).engine 256).running = some updRun ∧ ((updState n).elapse 0).engineLive 256 = true
      ∧ ((updState n).elapse 0).accessCode (engineAgent 256) 1 (recipeAddr updRun.cmd) 64 false = 0 ∧ recipeAddr updRun.cmd % 64 = 0
      ∧ (((updState n).elapse 0).ctx 1).updTensors (recipeOf updRun.block) = some (testTensor 1 2, testTensor 2 0, none, none)
      ∧ (((updState n).elapse 0).ctx 1).sealed = true ∧ (((updState n).elapse 0).ctx 1).sealCode = 0
      ∧ flt (clipFactor (recipeOf updRun.block).clipNorm (((updState n).elapse 0).ctx 1).gn) f32One = false
      ∧ (((updState n).elapse 0).ctx 1).nonfinite = n
      ∧ (n = 0 → ((updState n).elapse 0).firstFault (.update 0) 1
          ((((updState n).elapse 0).updRanges 1 0 (recipeOf updRun.block) (testTensor 1 2) (testTensor 2 0) none none).1.map rd
            ++ (((updState n).elapse 0).updRanges 1 0 (recipeOf updRun.block) (testTensor 1 2) (testTensor 2 0) none none).2.map wr ++ [wr (recipeAddr updRun.cmd, 64)]) = 0)
      ∧ (n = 1 → ((updState n).elapse 0).num 0x2202 1 = 1 ∧ (((updState n).elapse 0).ctx 1).skipCounted = true) := by
  decide +kernel

/-- A code that abandons nothing, and completions with a record and without one. -/
theorem witness_CompletionsAreRecorded : abandonCode 0 = false ∧ (cmdOf 0 0).irq = false
    ∧ ({ queue := 0, cmd := { cmdOf 0 0 with cmpl := true }, clamped := false, start := 0, code := 0, aborted := false } : Done).record = true
    ∧ ({ queue := 0, cmd := cmdOf 0 0, clamped := false, start := 0, code := 0, aborted := false } : Done).record = false := by
  decide

theorem witness_HeatAndCopyPool : (late.elapse 0).up = true ∧ (late.elapse 0).stamp % ms = 0
    ∧ ((15 : Nat) < 16 ∧ 1024 ≤ 1024 ∧ (late.elapse 0).copies.length ≤ 1024) := by decide +kernel

/-- A copy of sill page 7 into the last page of stack 0 is at the front of package 0's queue. -/
def copying : State :=
  { up with copies := [{ sill := 7, page := 24575, done := false }], copyQueue := [(0, [7])] }

theorem witness_CopyCompletes : (copying.elapse 0).Sound ∧ (copying.elapse 0).up = true ∧ Assoc.get [] (copying.elapse 0).copyQueue 0 = [7]
    ∧ (copying.elapse 0).copies.find? (fun y => y.sill == 7) = some { sill := 7, page := 24575, done := false } :=
  ⟨⟨rfl, by decide⟩, by decide +kernel⟩

/-- Entry 0 in flight. -/
def flight0 : Flight := { entry := 0, code := 0, desc := 0, defGrain := 0, defOther := 0 }

/-- Context 1 in a step, with a schedule of one entry (at 0x100 of its bench, all zero but its target, 1) on bay 0. -/
def prefState (inFlight : List Flight) : State :=
  (withCtx up { ctx1 with
    stepOpen := true, prefAddr := [(0, 0x100)], prefCount := [(0, 1)],
    baySteps := if inFlight.isEmpty then [] else [(0, { BayStep.zero with inFlight := inFlight })] }).writeNat 0x100 16 (2 ^ 29)

theorem witness_PrefetchEntriesFireAndComplete :
    ((prefState []).elapse 0).up = true
      ∧ (((prefState []).elapse 0).ctxs.find? (fun e => (((prefState []).elapse 0).nextPref e.1 0).isSome)).map (·.1) = some 1
      ∧ ((prefState []).elapse 0).nextPref 1 0 = some (.inr 0) ∧ (((prefState []).elapse 0).bay 0).out = false
      ∧ (let u := ((prefState []).setBay 0 { (prefState []).bay 0 with out := true }).elapse 0
         (u.ctxs.find? (fun e => (u.nextPref e.1 0).isSome)).map (·.1) = some 1 ∧ u.nextPref 1 0 = some (.inr 0) ∧ (u.bay 0).out = true)
      ∧ (((prefState [flight0]).elapse 0).ctxs.find? (fun e => (e.2.bayStep 0).inFlight.any (fun y => y.entry == 0))).map (·.1) = some 1
      ∧ ((((prefState [flight0]).elapse 0).ctx 1).bayStep 0).inFlight.find? (fun y => y.entry == 0) = some flight0
      ∧ (((prefState [flight0]).elapse 0).prefEntry 1 0 0).1.target = 1 := by
  decide +kernel

/-! ### Contexts, queues, the schedule -/

/-- A section of a container: its directory entry. -/
def sectEntry (t off len : Nat) : Nat := t + off * 2 ^ 64 + len * 2 ^ 128

/-- The least container: a meta section, a table of one activation tensor of one BF16 element, a stream of one slot, a bench plan. -/
def containerBody : List Byte :=
  leBytes 32 (sectEntry 1 256 64) ++ leBytes 32 (sectEntry 2 384 64) ++ leBytes 32 (sectEntry 3 512 256) ++ leBytes 32 (sectEntry 7 768 512)
    ++ zeroBytes 64
    ++ leBytes 64 (2 ^ 432 + 2 ^ 424 + 2 ^ 408 + 0x3F800000 * 2 ^ 336 + 2 ^ 304 + 2 ^ 288) ++ zeroBytes 64
    ++ leBytes 64 (1 * 2 ^ 160 + 3 * 2 ^ 136 + 5 * 2 ^ 133 + 1 * 2 ^ 130 + 4 * 2 ^ 127 + 1 * 2 ^ 256 + 2 * 2 ^ 384 + 0xFFFF * 2 ^ 144) ++ zeroBytes 64
    ++ leBytes 128 (2 ^ 96 + 0xFFFF * 2 ^ 48 + 0xFF * 2 ^ 40) ++ zeroBytes 128 ++ zeroBytes 512

def container : List Byte :=
  leBytes 16 (0x4C545543 + 1 * 2 ^ 32 + 4 * 2 ^ 48 + 1280 * 2 ^ 64) ++ sm3 containerBody ++ zeroBytes 16 ++ containerBody

/-- The bytes of a list at an address, as memory holds them. -/
def cellsAt (a : Nat) (l : List Byte) : List Host.Cell := (l.zipIdx.filter (fun x => x.1 != 0)).map (fun x => (a + x.2, x.1))

/-- A device with the container at the start of its staging area. -/
def staged : State := { up with mem := cellsAt hbmBase container }
def createBlock : List Byte := leBytes 64 (1 * 2 ^ 4 + 4 * 2 ^ 36 + 4 * 2 ^ 40 + hbmBase * 2 ^ 128)

theorem witness_ContextCreateCompletes : (staged.elapse 0).up = true ∧ createBlock.length = 64
    ∧ (Create.raw (leNat createBlock)).clamp = Create.raw (leNat createBlock)
    ∧ ((staged.elapse 0).create (Create.raw (leNat createBlock)) Placement.none).2 = 0 := by
  decide +kernel

/-- The steps of a teardown: resident, draining, draining beyond its limit with a command that still runs, invalidating, zeroing. -/
theorem witness_TeardownAdvances :
    ((withCtx up ctx1).elapse 0).up = true ∧ (1 : Nat) < 4096 ∧ (((withCtx up ctx1).elapse 0).ctx 1).state = 2
      ∧ ((withCtx up ctx1).elapse 0).sched.swapping ≠ some 1 ∧ ((withCtx up ctx1).elapse 0).sched.outgoing.contains 1 = false
      ∧ (((withCtx up { ctx1 with state := 4, closePhase := 1 }).elapse 0).ctx 1).closePhase = 1
      ∧ ((withCtx up { ctx1 with state := 4, closePhase := 1 }).elapse 0).drained 1 = true
      ∧ (let v := ((running 0 (runOf 0 0 0)).setCtx 1 { ctx1 with state := 4, closePhase := 1 }).elapse (200 * us)
         (v.ctx 1).closePhase = 1 ∧ v.drained 1 = false ∧ (v.ctx 1).closeStamp + 200 * us ≤ v.stamp)
      ∧ (((withCtx up { ctx1 with state := 4, closePhase := 2 }).elapse 0).ctx 1).closePhase = 2
      ∧ (((withCtx up { Ctx.undefined with state := 4, closePhase := 3 }).elapse 0).ctx 1).closePhase = 3
      ∧ (((withCtx up { Ctx.undefined with state := 4, closePhase := 3 }).elapse 0).ctx 1).pages = [] := by
  decide +kernel

theorem witness_TeardownAdvances_banks : ∀ b, (((withCtx up { Ctx.undefined with state := 4, closePhase := 3 }).elapse 0).bay b).zeroing = false :=
  fun _ => rfl

/-- Contexts in state 2, 3 and 4, the last queue, and values inside, above, below and opposite the window. -/
theorem witness_DoorbellWritesClamp :
    ((withCtx up ctx1).elapse 0).up = true ∧ (((withCtx up ctx1).elapse 0).ctx 1).state = 2
      ∧ (((withCtx up { ctx1 with state := 3 }).elapse 0).ctx 1).state = 3 ∧ (((withCtx up { ctx1 with state := 4 }).elapse 0).ctx 1).state = 4
      ∧ (((withCtx up ctx1).elapse 0).ctx 1).draining = false ∧ (273 : Nat) ≤ 273
      ∧ sub32 16 0 ≤ sub32 16 0 ∧ (sub32 16 0 < sub32 17 0 ∧ sub32 17 16 < sub32 0 17)
      ∧ (sub32 16 0 < sub32 (2 ^ 32 - 1) 0 ∧ sub32 0 (2 ^ 32 - 1) ≤ sub32 (2 ^ 32 - 1) 16)
      ∧ (sub32 16 0 < sub32 (2 ^ 31 + 8) 0 ∧ sub32 0 (2 ^ 31 + 8) = sub32 (2 ^ 31 + 8) 16) := by
  decide +kernel

/-- Context 1 with one command, a no-op, visible in queue `e`. -/
def queued (e : Nat) : State := withCtx up { ctx1 with queues := [(e, { Queue.empty with tail := 1, marks := [(1, 0)] })] }

theorem witness_CommandStartStarts : ∀ e ∈ [0, 273],
    ((queued e).elapse 0).up = true ∧ e ≤ 273 ∧ ((queued e).elapse 0).expireWaits.engineReady e = true
      ∧ (((queued e).elapse 0).expireWaits.engine e).running = none
      ∧ (∃ k, ((queued e).elapse 0).expireWaits.choose e false = some k ∧ k.pick = .head
          ∧ ((queued e).elapse 0).expireWaits.instantCode k.ctx e (((queued e).elapse 0).expireWaits.headCmd k.ctx e).1 = none) := by
  intro e he
  simp only [List.mem_cons, List.not_mem_nil, or_false] at he
  rcases he with rfl | rfl
  · refine ⟨by decide +kernel, by decide, by decide +kernel, by decide +kernel, { rank := 4, last := 0, ctx := 1, pick := .head }, ?_⟩
    decide +kernel
  · refine ⟨by decide +kernel, by decide, by decide +kernel, by decide +kernel, { rank := 4, last := 0, ctx := 1, pick := .head }, ?_⟩
    decide +kernel

theorem witness_MarkersAndStepsComplete :
    (∀ op ∈ [0, 1], ((running 0 (runOf 0 op 0)).elapse 0).up = true
      ∧ (((running 0 (runOf 0 op 0)).elapse 0).engine 0).running = some (runOf 0 op 0)
      ∧ ((running 0 (runOf 0 op 0)).elapse 0).engineLive 0 = true ∧ (runOf 0 op 0).await = .none ∧ (runOf 0 op 0).failed = none
      ∧ (runOf 0 op 0).cmd.opcode = op ∧ ((running 0 (runOf 0 op 0)).elapse 0).mayEnd 0 (runOf 0 op 0) = true)
    ∧ ∀ op ∈ [2, 3], ((running 273 (runOf 273 op 0)).elapse 0).up = true
      ∧ (((running 273 (runOf 273 op 0)).elapse 0).engine 273).running = some (runOf 273 op 0)
      ∧ ((running 273 (runOf 273 op 0)).elapse 0).engineLive 273 = true ∧ (runOf 273 op 0).cmd.opcode = op := by
  decide +kernel

/-- A stored schedule that waits for its activation, a guarded bay asleep, and a wait of 5 s. -/
def scheduled : State := { up with sched := { Sched.reset with pending := some (0, []), active := [2 ^ 40] } }

theorem witness_ScheduleTakesEffect :
    (up.elapse 0).up = true ∧ (zeroBytes 8192).length = 8192 ∧ (scheduled.elapse 0).stamp % cycleUnits = 0
      ∧ (scheduled.elapse 0).sched.pending = some (0, []) ∧ 0 ≤ (scheduled.elapse 0).cycleNo
      ∧ (let v := (scheduled.setBay 3 { Bay.inService with power := 2 }).elapse 0
         3 ∈ guardedBays (v.entry v.slotNo) ∧ v.stamp % slotUnits = 0 ∧ v.power.device = 0 ∧ (v.bay 3).power = 2 ∧ (v.bay 3).out = false
           ∧ ∀ e ∈ v.ctxs, e.2.state ≠ 3)
      ∧ (let v := (withCtx late { ctx1 with waitSince := some 0 }).elapse (100 * sec)
         (v.ctx 1).waitSince = some 0 ∧ (v.ctx 1).waitRaised = false ∧ 0 + v.num 0x3202 4 * ms < v.stamp) := by
  decide +kernel

/-- A haul that awaits its acknowledgement since reset; the scheduler holds its deadline timer, and a record has waited too long. -/
def awaitRun : Run := { runOf 2 0x30 0 with await := .ack 5 0 1 0 0 1 0 0 }
def oldRecord : Parked :=
  { parkStamp := 0, deadline := 1, fillStamp := 0, tag := 0, progress := 0, ctxEpoch := 0, mortise := 0x400, slotIndex := 0, queue := 2,
    kind := 1, state := 0, code := 0, fired := false, run := none }
def timed : State :=
  { withCtx late { ctx1 with parked := [oldRecord] } with
    res := [(100, { holder := some { asker := .remoteWait, level := 4, order := 0, stamp := 0, wasFree := true }, waiters := [] })] }

/-- Context 1 swapped out with a runnable no-op and a plan on bay 0, where nothing else is granted; then its swap under way. -/
def swapReady : State :=
  withCtx up { ctx1 with state := 3, grant := [], plan := [(0, 0xF)], queues := [(273, { Queue.empty with tail := 1, marks := [(1, 0)] })],
                         ringBase := hbmBase, queueBase := hbmBase + 0x100000 }

theorem witness_WaitsSwapsAndDeadlines :
    (let v := ((running 2 awaitRun).elapse (100 * sec))
     v.up = true ∧ (v.engine 2).running = some awaitRun ∧ awaitRun.ctx = 1 ∧ awaitRun.remoteWait = some (1, 0x400)
       ∧ (v.engine 2).progress + v.num 0x3202 6 * us ≤ v.stamp ∧ (v.ctx 1).recordsFree = true ∧ (v.ctx 1).state ≠ 3)
    ∧ (let v := timed.elapse 0
       v.up = true ∧ (v.timerOf .remoteWait).isSome = true ∧ oldRecord ∈ (v.ctx 1).parked ∧ oldRecord.state = 0 ∧ oldRecord.deadline < v.stamp
       ∧ ∀ e ∈ v.ctxs, e.2.state ≠ 3)
    ∧ (let v := (swapReady.elapse 0).expireWaits.ctxs.foldl (fun a e => a.track e.1) (swapReady.elapse 0).expireWaits
       (swapReady.elapse 0).up = true ∧ v.sched.swapping = none ∧ (v.entry v.slotNo).testBit 13 = false ∧ v.power.device = 0
         ∧ v.runnable = [1] ∧ v.residents.length < 64 ∧ v.meetsPlan (v.ctx 1) = true)
    ∧ (let v := ({ swapReady with sched := { Sched.reset with swapping := some 1 } } : State).elapse 0
       v.up = true ∧ v.sched.swapping = some 1 ∧ (v.ctx 1).closePending = false ∧ (∀ d ∈ v.sched.outgoing, (v.ctx d).closePending = false)
         ∧ v.bays.any (fun b => b.2.grantWaits.any (fun w => w.1 == 1)) = false) := by
  decide +kernel

/-! ### Links, ports and messages -/

/-- Link `n` as `x` is. -/
def linked (n : Nat) (x : Link) : State := up.setLink n x

/-- In order, beyond the expected seq at the ends of its range, and while the link waits. -/
theorem witness_CodewordsAreTakenInOrder :
    ((linked 0 { Link.down with state := 5, rxSeq := 1023 }).elapse 0).up = true
      ∧ (((linked 0 { Link.down with state := 5, rxSeq := 1023 }).elapse 0).link 0).carries = true
      ∧ crc10 [] = 0 ∧ crc10 [] ≠ 1 ∧ (1023 : Nat) = (((linked 0 { Link.down with state := 5, rxSeq := 1023 }).elapse 0).link 0).rxSeq
      ∧ (((linked 31 { Link.down with state := 4, waiting := true }).elapse 0).link 31).carries = true
      ∧ (1023 : Nat) ≠ (((linked 31 { Link.down with state := 4, waiting := true }).elapse 0).link 31).rxSeq
      ∧ (((linked 31 { Link.down with state := 4, waiting := true }).elapse 0).link 31).waiting = true := by
  decide +kernel

/-- A flit of a kind, and one that asks for codeword 3 again. -/
def flitOf (kind : Nat) : Nat := kind * 2 ^ 252
def follower : State :=
  { (linked 8 { Link.down with state := 5, peer := 5 }) with boot := { up.boot with deviceId := 1 } }

theorem witness_ControlFlitsAct :
    (let u := (linked 0 { Link.down with state := 5, unacked := [(3, [], 0)] }).elapse 0
     (u.link 0).held = [] ∧ (u.link 0).swapping = false ∧ u.up = true ∧ (u.link 0).carries = true ∧ flitKind (flitOf 8) = 8 ∧ flitKind (flitOf 9 + 3) = 9
       ∧ ((u.link 0).take (flitOf 9 + 3)).unacked.find? (fun y => y.1 == bits (flitOf 9 + 3) 9 0) = some (3, [], 0)
       ∧ (0 : Nat) < u.num 0x4003 2 ∧ flitKind (flitOf 0xA) = 0xA ∧ u.leads = true)
    ∧ (let u := ({ linked 0 { Link.down with state := 5 } with clock := { Clock.reset with syncSent := some 0 } } : State).elapse 0
       flitKind (flitOf 0xB) = 0xB ∧ u.clock.syncSent = some (bits (flitOf 0xB) 191 128) ∧ flitKind (flitOf 0xD) = 0xD
         ∧ ((u.link 0).take (flitOf 0xD)).unacked = [])
    ∧ (follower.elapse 0).up = true ∧ (follower.elapse 0).leads = false ∧ (follower.elapse 0).leaderLinks = []
    ∧ (let u := ((workingLinks 1 0).foldl (fun s n => s.setLink n { Link.down with state := 5 }) follower).elapse 0
       u.leads = false ∧ u.leaderLinks = workingLinks 1 0 ∧ workingLinks 1 0 ≠ []) := by
  decide +kernel

theorem witness_LinksComeAndGo :
    (let u := late.elapse 0; u.up = true ∧ (u.link 31).state = 0 ∧ (u.link 31).downSince + ms ≤ u.stamp)
    ∧ (∀ st ∈ [1, 2, 3, 4], ((linked 31 { Link.down with state := st }).elapse 0).up = true
        ∧ (((linked 31 { Link.down with state := st }).elapse 0).link 31).state = st)
    ∧ flitKind (flitOf 0xC) = 0xC
    ∧ (let u := (linked 14 { Link.down with state := 5 }).elapse 0
       (u.link 14).isUp = true ∧ ((u.link 14).spare ≠ 0 ∨ u.wholeSpare 14 = none) ∧ (u.link 14).lent = [] ∧ (u.link 14).lanes = 4
         ∧ (u.link 14).lost = [] ∧ isSpare 14 = true ∧ (u.link 14).state ≠ 0 ∧ (u.link 14).state ≠ 8)
    ∧ (let u := (linked 0 { Link.down with spare := 15, state := 5 }).elapse 0
       (u.link 0).isUp = true ∧ (u.link 0).spare ≠ 0 ∧ (u.link 0).lent = [])
    ∧ (let u := ({ late with stamp := 600 * sec + 1 } : State).elapse 0
       (u.link 0).state ≤ 4 ∧ isSpare 0 = false ∧ (u.link 0).deducted = false ∧ (u.link 0).lostSince + 600 * sec < u.stamp) := by
  decide +kernel

theorem witness_LinksComeAndGo_disable : ((up.elapse 0).link 0).state = 0 ∧ ∀ k, ((up.elapse 0).link k).state = 0
    ∧ ((up.elapse 0).link k).lent = [] ∧ ((up.elapse 0).link k).spare = 0 ∧ ((up.elapse 0).link k).msgs = [] ∧ ((up.elapse 0).link k).held = [] :=
  ⟨rfl, fun _ => ⟨rfl, rfl, rfl, rfl, rfl⟩⟩

theorem witness_PortsChangeAndAnswer :
    (up.elapse 0).up = true ∧ Assoc.get 0 (up.elapse 0).ports 15 ≠ 2 ∧ Assoc.get 0 (up.elapse 0).hostPorts 1 ≠ 2
      ∧ Assoc.get 0 (({ up with ports := [(15, 2)] } : State).elapse 0).ports 15 ≠ 0
      ∧ Assoc.get 0 (({ up with hostPorts := [(1, 2)] } : State).elapse 0).hostPorts 1 ≠ 0
      ∧ (({ up with ports := [(15, 2)] } : State).elapse 0).portUp 17 = true
      ∧ (({ up with ports := [(15, 2)] } : State).elapse 0).portFamily 17 = 0
      ∧ (({ up with ports := [(15, 2)], fab := { Fabric.reset with frames := [(15, [1])] } } : State).elapse 0).portUp 17 = true
      ∧ (({ up with ports := [(15, 2)], fab := { Fabric.reset with frames := [(15, [1])] } } : State).elapse 0).portFamily 17 = 1 := by
  decide +kernel

/-- A message of device 5 for context 1. -/
def msgOf (ty : Nat) (f : FabHdr → FabHdr) (p : List Byte) : FabMsg :=
  let h := f { FabHdr.zero with version := 1, srcDevice := 5, dstCtx := 1, length := p.length, pcrc := payloadCrc p }
  { ok := true, typ := none, hdr := { h with hcrc := crc32 (fabHead ty h) }, payload := p }

/-- Link 0 is Up, and context 1 receives. -/
def hearing : State := (withCtx up ctx1).setLink 0 { Link.down with state := 5 }

/-- What `accepts` asks, as a test. -/
def accepted (s : State) (ty : Nat) (m : FabMsg) : Bool :=
  let u := s.elapse 0
  let w := u.arrive (.rafter 0) ty m
  u.up && u.viaUp (.rafter 0) && wireOk (.rafter 0) ty m && (w.formCode ty m == 0) && !(w.inPeerReset m.hdr.srcDevice)
    && !((w.rxOf m.hdr.srcDevice).seen m.hdr.seq) && !((w.rxOf m.hdr.srcDevice).beyond m.hdr.seq) && w.receives ty m.hdr
    && (decide (0x20 ≤ ty) || (m.hdr.roleEpoch == (w.ctx m.hdr.dstCtx).roleEpoch))

theorem accepted_accepts {s : State} {ty : Nat} {m : FabMsg} (h : accepted s ty m = true) : (s.elapse 0).accepts ty (.rafter 0) m := by
  simp only [accepted, Bool.and_eq_true, Bool.or_eq_true, beq_iff_eq, Bool.not_eq_true', decide_eq_true_eq] at h
  obtain ⟨⟨⟨⟨⟨⟨⟨⟨h1, h2⟩, h3⟩, h4⟩, h5⟩, h6⟩, h7⟩, h8⟩, h9⟩ := h
  exact ⟨h1, h2, h3, h4, h5, h6, h7, h8, fun h => h9.resolve_left (Nat.not_le.mpr h)⟩

def writeMsg : FabMsg := msgOf 0x01 (fun h => { h with mortise := 0xFFFF, dstAddr := 0 }) (zeroBytes 8)
def doorMsg : FabMsg := msgOf 0x02 (fun h => { h with mortise := 0xFFFF, dstAddr := ctlBase + 65536 }) (zeroBytes 8)
def fillMsg : FabMsg := msgOf 0x03 (fun h => { h with mortise := 0x03FF, flags := 0xC0 }) []
def noticeMsg : FabMsg := msgOf 0x30 (fun h => { h with value := 1 }) []

theorem witness_MessagesLand_accepted :
    (accepted hearing 0x01 writeMsg && accepted hearing 0x02 doorMsg && accepted hearing 0x03 fillMsg && accepted hearing 0x30 noticeMsg
      && accepted hearing 0x11 (msgOf 0x11 id (zeroBytes 64)) && accepted hearing 0x11 (msgOf 0x11 id (({ item := 0, index := 0, offset := 0, layoutEpoch := 0, image := true } : PagePre).bytes ++ zeroBytes 32))
      && (PagePre.parse (({ item := 0, index := 0, offset := 0, layoutEpoch := 0, image := true } : PagePre).bytes ++ zeroBytes 32)).image && !(PagePre.parse (zeroBytes 64)).image) = true := by
  decide +kernel

theorem witness_MessagesLand :
    (((hearing.elapse 0).arrive (.rafter 0) 0x01 writeMsg).landCode 0x01 writeMsg.hdr = 0)
      ∧ ((hearing.elapse 0).arrive (.rafter 0) 0x02 doorMsg).landCode 0x02 doorMsg.hdr = 0 ∧ doorMsg.hdr.dstAddr % 65536 = 0
      ∧ ((hearing.elapse 0).ctx 1).draining = false ∧ ((hearing.elapse 0).ctx 1).state = 2
      ∧ ((hearing.elapse 0).arrive (.rafter 0) 0x03 fillMsg).landCode 0x03 fillMsg.hdr = 0 ∧ fillMsg.hdr.mortise ≠ 0xFFFF
      ∧ (((hearing.elapse 0).arrive (.rafter 0) 0x03 fillMsg).noteLanded fillMsg.hdr).2 = some fillMsg.hdr := by
  decide +kernel

def ackMsg : FabMsg := msgOf 0x20 id []
def nackMsg (code : Nat) : FabMsg := msgOf 0x21 (fun h => { h with srcQueue := 2, code := code }) []
def resetMsg : FabMsg := msgOf 0x31 (fun h => { h with value := 5 }) []

/-- The haul of engine 2 with one message out, which is due to be sent again; a page that left on a purlin. -/
def sending : State :=
  { (running 2 { awaitRun with out := [(FabHdr.zero, [])] }).setLink 0 { Link.down with state := 5 } with
    fab := { Fabric.reset with resend := [(1, 2, 0, 0, 0, 0)] } }
def pageSent : State :=
  { late with fab := { Fabric.reset with
      pageOut := [{ ctx := 1, queue := 274, slot := 0, device := 5, msgs := [], purlin := true, lastSend := 0, resends := 0 }] } }

theorem witness_ResponsesAndPeerResets :
    (accepted hearing 0x20 ackMsg && accepted hearing 0x21 (nackMsg 0x0301) && accepted sending 0x21 (nackMsg 0x0308)
        && wireOk (.rafter 0) 0x31 resetMsg) = true
      ∧ (nackMsg 0x0301).hdr.code ≠ 0x0308 ∧ (nackMsg 0x0308).hdr.code = 0x0308 ∧ ((sending.elapse 0).outOf 1 2 0).isEmpty = false
      ∧ (sending.elapse 0).fab.resend.find? (fun e => e.1 == 1 && e.2.1 == 2 && e.2.2.2.2.1 == 0 && decide (e.2.2.2.2.2 ≤ (sending.elapse 0).stamp))
          = some (1, 2, 0, 0, 0, 0)
      ∧ ((sending.elapse 0).outOf 1 2 0).find? (fun y => y.1.msgIndex == 0 && y.1.dstDevice == 0) = some (FabHdr.zero, [])
      ∧ (pageSent.elapse 0).up = true ∧ ((pageSent.elapse 0).pageOutOf 1 274 0).isSome = true ∧ (pageSent.elapse 0).resendDue 0 = true
      ∧ (0 : Nat) < (pageSent.elapse 0).num 0x4106 2
      ∧ ((hearing.elapse 0).arrive (.rafter 0) 0x31 resetMsg).formCode 0x31 resetMsg = 0 ∧ (hearing.elapse 0).viaUp (.rafter 0) = true
      ∧ resetMsg.hdr.value % 2 ^ 18 ≠ (hearing.elapse 0).deviceId
      ∧ (({ late with fab := { Fabric.reset with resetPeers := [(5, 8000000000)] } } : State).elapse 0).inPeerReset 5 = true
      ∧ Assoc.get 0 (({ late with fab := { Fabric.reset with resetPeers := [(5, 8000000000)] } } : State).elapse 0).fab.resetPeers 5
          ≤ (({ late with fab := { Fabric.reset with resetPeers := [(5, 8000000000)] } } : State).elapse 0).stamp := by
  decide +kernel

/-! ### Collectives, raising, checkpoints -/

/-- Context 1 of a job of one replica, with a plan of one collective over the replicas. -/
def collCtx (op : Nat) : Ctx :=
  { ctx1 with gridR := 1, gridP := 1, collPlan := [{ slot := 0, kind := 1, opcode := op, nMax := 0, staging := 0, bf16 := false }] }
def collRun (op : Nat) : Run := runOf 272 op (2 ^ 580)
def collState (op : Nat) : State := (withCtx up (collCtx op)).setEngine 272 { Engine.idle with running := some (collRun op) }

theorem witness_CollectivesExchange : ∀ op ∈ [0x50, 0x51, 0x52, 0x53, 0x54, 0x55, 0x56, 0x57],
    let u := (collState op).elapse 0
    let k := collOf (u.ctx 1) (collRun op).cmd
    u.up = true ∧ (u.engine 272).running = some (collRun op) ∧ (collRun op).failed = none ∧ (collRun op).cmd.opcode = op
      ∧ (u.ctx 1).planOk k = true ∧ (u.ctx 1).contribs.any (k.disagrees (u.ctx 1)) = false
      ∧ u.worstFault .reduce 1 (k.accesses (u.ctx 1)) = 0 ∧ u.lostMember 1 k = none
      ∧ (k.done ((u.exchange 1 (collRun op) k).ctx 1) = true
          → ((u.exchange 1 (collRun op) k).engine 272).running.isSome = true) := by
  decide +kernel

/-- A contribution of the layout epoch, its copy, and one of another epoch. -/
def givenMsg (epoch : Nat) : FabMsg := msgOf 0x10 (fun h => { h with mortise := 0xFFFF, aux := epoch }) (zeroBytes 32)
def given : Contrib := contribOf (Preamble.parse (zeroBytes 32)) 0 []
def hearingHad : State := (withCtx up { ctx1 with contribs := [given] }).setLink 0 { Link.down with state := 5 }

theorem witness_ContributionsAreTakenOnce :
    (accepted hearing 0x10 (givenMsg 0) && accepted hearing 0x10 (givenMsg 1) && accepted hearingHad 0x10 (givenMsg 0)) = true
      ∧ (Preamble.parse (givenMsg 0).payload).abort = false ∧ (givenMsg 0).payload.length ≤ 32
      ∧ (givenMsg 0).hdr.mortise = 0xFFFF
      ∧ (givenMsg 0).hdr.aux = (((hearing.elapse 0).arrive (.rafter 0) 0x10 (givenMsg 0)).ctx 1).layoutEpoch
      ∧ (givenMsg 1).hdr.aux ≠ (((hearing.elapse 0).arrive (.rafter 0) 0x10 (givenMsg 1)).ctx 1).layoutEpoch
      ∧ (((hearing.elapse 0).arrive (.rafter 0) 0x10 (givenMsg 0)).ctx 1).contribs.any (fun y => y.same given) = false
      ∧ (((hearingHad.elapse 0).arrive (.rafter 0) 0x10 (givenMsg 0)).ctx 1).contribs.any (fun y => y.same given) = true := by
  decide +kernel

/-- A host and a guest where pairing is allowed; the re-shard block of the next layout epoch, due now and after step 9. -/
def pairing : State := ((withCtx up { ctx1 with hostBit := true, gridP := 1 }).setCtx 2 ctx1).setObj 0x4203 1 (.num 1)
def reshardBlk (after : Nat) : List Byte := leBytes 32 (1 * 2 ^ 172 + 1 * 2 ^ 156 + after * 2 ^ 124)

theorem witness_LayoutsChange :
    (pairing.elapse 0).up = true ∧ (pairing.elapse 0).pairRefused 1 2 = false ∧ (pairing.elapse 0).pairRefused 1 1 = true
      ∧ ∀ after ∈ [0, 9],
        let u := (withCtx up ctx1).elapse 0
        (reshardBlk after).length = 32 ∧ (reshardOf (reshardBlk after)).ctx = 1 ∧ (u.ctx 1).state = 2 ∧ (u.ctx 1).reshard = 0
          ∧ (reshardOf (reshardBlk after)).epoch = ((u.ctx 1).layoutEpoch + 1) % 65536
          ∧ ({ u.ctx 1 with reshard := 1, reshardBlock := reshardBlk after } : Ctx).reshardDue = decide (after = 0)
          ∧ (u.ctx 1).image = none ∧ newSlot (u.ctx 1).imageSlots = some 0 := by
  decide +kernel

/-- Context 1 with the frozen tensor 1 of one BF16 element, off the device; a manifest of one entry, which fills it with zeros. -/
def frozenCtx : Ctx :=
  { ctx1 with tensors := [{ testTensor 1 0 with kind := 1, fmt := 5, size := 2, split := 4, base := 0, bytes := 2 }], current := 1, mapped := 1 }
def manifestBytes : List Byte := leBytes 64 (0x4E414D57 + 2 ^ 32 + 2 ^ 64) ++ leBytes 64 (2 * 2 ^ 192 + 1 * 2 ^ 128 + 0xFF * 2 ^ 88 + 1 * 2 ^ 86)
def raising : State := withCtx { up with mem := cellsAt hbmBase manifestBytes } frozenCtx
def raiseBlk (mode : Nat) : List Byte := leBytes 32 (hbmBase * 2 ^ 208 + 2 * 2 ^ 176 + 1 * 2 ^ 164 + mode * 2 ^ 162)

theorem witness_RaisesStart : ∀ mode ∈ [0, 1],
    let u := raising.elapse 0
    let k := raiseBlock (raiseBlk mode)
    u.up = true ∧ (raiseBlk mode).length = 32 ∧ (u.ctx k.ctx).raising = false ∧ u.raiseWrong k = false ∧ k.mode = mode
      ∧ ((u.manifest k.ctx k.manifest).elim false (fun m =>
          m.ok (u.ctx k.ctx) k.mode && !(m.entries.any (u.baseBad (u.ctx k.ctx)))
            && (mode == 0 || ((u.dropVersion k.ctx k.version).startSet k m Placement.none).2 == 0))) = true := by
  decide +kernel

/-- Versions 1, whole, and 2, not there. -/
def versioned : State := withCtx up { ctx1 with versions := [{ version := 1, raised := true, set := [], objs := [] }] }

theorem witness_RecheckAndSwitch :
    (late.elapse 0).up = true ∧ (late.elapse 0).fault.recheck.getD (late.elapse 0).stamp ≤ (late.elapse 0).stamp ∧ (late.elapse 0).differing = []
      ∧ ((versioned.elapse 0).ctx 1).tensors = []
      ∧ (1 : Nat) < 4096 ∧ (2 ^ 32 - 1 : Nat) < 2 ^ 32
      ∧ ((versioned.elapse 0).ctx 1).versionOf 1 = some { version := 1, raised := true, set := [], objs := [] }
      ∧ ((versioned.elapse 0).ctx 1).versionOf (2 ^ 32 - 1) = none := by
  decide +kernel

/-- A restore that awaits its image. -/
def awaited : Restoring := { step := 0, holder := 5, table := 0, place := Placement.none, phase := 2, since := 0 }

def restoreBlk : List Byte := leBytes 32 (1 * 2 ^ 178 + 7 * 2 ^ 146)

theorem witness_CheckpointsAndRestore :
    ((withCtx up ctx1).elapse 0).up = true ∧ (((withCtx up ctx1).elapse 0).ctx 1).state = 2
      ∧ (((withCtx up { ctx1 with state := 3 }).elapse 0).ctx 1).state = 3 ∧ (((withCtx up ctx1).elapse 0).ctx 1).reshard = 0
      ∧ restoreBlk.length = 32 ∧ (restoreBlock restoreBlk).ctx = 1 ∧ (restoreBlock restoreBlk).table = 0
      ∧ (((withCtx up ctx1).elapse 0).ctx 1).restoring = none
      ∧ ((withCtx up ctx1).elapse 0).drained 1 = true ∧ ((running 0 (runOf 0 0 0)).elapse 0).drained 1 = false
      ∧ (((running 0 (runOf 0 0 0)).elapse 0).ctx 1).state = 2
      ∧ (((withCtx up { ctx1 with restoring := some awaited }).elapse 0).ctx 1).restoring = some awaited ∧ awaited.phase = 2
      ∧ ((withCtx up { ctx1 with restoring := some awaited }).elapse 0).localImage 1 awaited.step = none := by
  decide +kernel

/-! ### Host sessions, time, the dictionary, the management port -/

/-- A host message of a type for session 0. -/
def hostMsg (ty : Nat) (f : HostHdr → HostHdr) (p : List Byte) : HostMsg :=
  let h := f { HostHdr.zero with version := 2, length := p.length, pcrc := payloadCrc p }
  { src := leBytes 16 1, dst := State.reset.hostAddr 0, dstPort := State.reset.hostFraming 0 4, ok := true, typ := none,
    hdr := { h with hcrc := crc32 (hostHead ty h) }, payload := p }

/-- Session 0 of a listed host is open on port 0. -/
def hosted : State :=
  (({ up with hostPorts := [(0, 2)] } : State).setObj 0x4804 1 (.blob (leBytes 16 1))).setSession 0
    { Session.none with isOpen := true, src := leBytes 16 1, events := [(3, [], 15, 0)] }

def heard (ty : Nat) (m : HostMsg) : Bool :=
  let u := hosted.elapse 0
  let w := u.hostArrive 0 m
  u.up && u.hostTakes 0 m && !(discarded ty m) && !(misformed ty m) && (w.sessionOf m == some 0)
    && ((w.session 0).tag == m.hdr.tag) && (payloadCrc m.payload == m.hdr.pcrc) && ((w.session 0).rxSeq == m.hdr.seq % 2 ^ 32)
    && (w.session 0).ahead.isEmpty

theorem witness_HostMessagesAreServed :
    (heard 0x42 (hostMsg 0x42 id []) && heard 0x43 (hostMsg 0x43 id []) && heard 0x48 (hostMsg 0x48 id [])
      && heard 0x49 (hostMsg 0x49 id (zeroBytes 4)) && heard 0x4C (hostMsg 0x4C id (zeroBytes 8)) && heard 0x50 (hostMsg 0x50 id (zeroBytes 4))
      && heard 0x51 (hostMsg 0x51 (fun h => { h with value := 1 }) []) && heard 0x53 (hostMsg 0x53 id (zeroBytes 33))) = true := by
  decide +kernel

/-- A write at the first byte of a staging area of one page and one outside it; a doorbell of context 1. -/
def stagedHost : State := { withCtx hosted ctx1 with boot := { up.boot with staging := 1 } }

theorem witness_HostMessagesAct :
    (stagedHost.session 0).kind = 0 ∧ stagedHost.inStaging stagingBase 4 = true ∧ stagedHost.inStaging 0 4 = false
      ∧ (65536 : Nat) % 65536 = 0 ∧ 65536 / 65536 < 4096 ∧ (stagedHost.ctx (65536 / 65536)).state = 2 := by
  decide +kernel

theorem witness_SessionsOpenAndClose :
    (let u := hosted.elapse 0
     let m := hostMsg 0x40 id []
     u.up = true ∧ u.hostTakes 0 m = true ∧ discarded 0x40 m = false ∧ misformed 0x40 m = false ∧ m.hdr.pcrc = 0
       ∧ (u.hostArrive 0 m).openCode m = 0 ∧ (u.hostArrive 0 m).freeSession = some 1 ∧ u.boot.rngBad = false)
    ∧ (let u := (hosted.elapse (100 * sec))
       (u.session 0).isOpen = true ∧ (u.session 0).lastHeard + u.num 0x4805 1 * ms ≤ u.stamp)
    ∧ ((hosted.elapse 0).session 0).events.find? (fun x => x.1 == 3) = some (3, [], 15, 0) ∧ (15 : Nat) < 16
    ∧ (let u := hosted.elapse sec; (u.session 0).isOpen = true ∧ 0 + u.num 0x4805 2 * us ≤ u.stamp) := by
  decide +kernel

/-- The leader of its bent with host port 0 Up and a master there, locked or not; a clock in each state; PPS_IN chosen. -/
def timeState (state : Nat) (locked : Bool) (pps stamp : Nat) : State :=
  ({ up with hostPorts := [(0, 2)], stamp := stamp, clock := { Clock.reset with state := state, locked := locked, masters := [(0, [1])] } } : State).setObj
    0x4807 3 (.num pps)

theorem witness_ClockFollows :
    (∀ locked ∈ [true, false], let u := (timeState 1 locked 0 0).elapse 0
      u.up = true ∧ u.steers = true ∧ u.masterPort = some 0 ∧ u.takesPtp 0 (u.num 0x4807 2) = true ∧ u.usesPps = false ∧ u.clock.locked = locked)
    ∧ (∀ st ∈ [2, 3], let u := (timeState st true 0 syncLoss).elapse 0
      u.up = true ∧ u.clock.state = st ∧ u.clock.lastSync + syncLoss ≤ u.stamp)
    ∧ ((timeState 4 true 0 sec).elapse 0).clock.state = 4
    ∧ ((timeState 4 true 0 sec).elapse 0).clock.lastSync + sec ≤ ((timeState 4 true 0 sec).elapse 0).stamp
    ∧ (∀ p ∈ [sec + us, sec + us + 1], let u := (timeState 3 true 1 p).elapse 0
      u.usesPps = true ∧ u.steers = true ∧ u.clock.locked = true
        ∧ decide ((nearestMultiple u.stamp 4000000000 - (u.stamp : Int)).natAbs ≤ us) = decide (p = sec + us))
    ∧ (let u := ((timeState 2 true 0 sec).setObj 0x4807 4 (.num 1)).elapse 0
       u.num 0x4807 4 = 1 ∧ u.clock.state ≠ 0 ∧ u.clock.state ≠ 5 ∧ u.stamp % sec = 0)
    ∧ (let u := ({ late with pins := { Pins.reset with ppsOut := true, ppsRise := 8000000000 } } : State).elapse (100 * ms)
       u.pins.ppsOut = true ∧ u.pins.ppsRise + 100 * ms ≤ u.stamp) := by
  decide +kernel

/-- No object, one that is RO, plain ones that are RW and RWP, and images of this device and of another. -/
def ownImage (serial : Nat) : List Byte := (leBytes 8 serial ++ zeroBytes 104) ++ sm3 (leBytes 8 serial ++ zeroBytes 104)

theorem witness_ObjectsTakeLegalValues :
    (up.elapse 0).up = true ∧ rowFor 0x0FFF 1 = none ∧ (rowFor 0x3110 1).map (·.acc) = some .ro
      ∧ (∀ o ∈ [(0x2110, 1), (0x2202, 1)], (rowFor o.1 o.2).isSome = true ∧ ownClamp o.1 o.2 = false ∧ isClear o.1 o.2 = false
          ∧ o.1 ∉ actingObjects ∧ isCalibration o.1 = false)
      ∧ (ownImage 0).length = 144 ∧ (up.elapse 0).imageFits (ownImage 0) = true ∧ (ownImage 1).length = 144
      ∧ (up.elapse 0).imageFits (ownImage 1) = false
      ∧ ctlPart (ctlBase + 65536 + 8) = .door 1 ∧ (up.elapse 0).accessCode .mgmt 0 (ctlBase + 65536 + 8) 8 true = 0 := by
  decide +kernel

/-- A frame of station 0x0A for device 0: a read, a write of an object, a buffer that is not finished. -/
def efythMsg (idx sub : Nat) (p : List Byte) : EfythMsg :=
  { src := 10, dst := 0, ok := true, typ := none, hdr := { EfythHdr.zero with version := 3, seq := 1, index := idx, sub := sub, length := p.length }, payload := p }

theorem witness_EfythIsAnswered :
    (let u := late.elapse 0
     let m := efythMsg 0x2110 1 (zeroBytes 4)
     u.up = true ∧ m.ok = true ∧ m.hdr.version = 3 ∧ m.dst = u.boot.fuses.macMgmt ∧ m.typ = none ∧ m.hdr.device = u.deviceId ∧ malformed m = false
       ∧ u.efyth.replies.find? (fun e => e.1 == m.src && e.2.1 == m.hdr.seq) = none ∧ u.replyWaits m.src m.hdr.seq = false
       ∧ u.unlisted m.src = false ∧ m.hdr.sub ≠ 0 ∧ m.hdr.offset = 0 ∧ m.hdr.flags.testBit 7 = false ∧ u.buffer m.src = none
       ∧ (u.bump 0x1106 1).endsAnswer m.hdr.index m.hdr.sub (m.payload.take m.hdr.length) = false
       ∧ (rowFor 0x2110 1).map (·.acc) = some .rw ∧ (rowFor 0x3110 1).map (·.acc) = some .ro
       ∧ ((u.bump 0x1106 1).readObject 0x2110 1).1 = 0 ∧ ((u.bump 0x1106 1).readObject 0x0FFF 1).1 ≠ 0)
    ∧ (let u := ({ late with efyth := { Efyth.reset with buffers := [(10, Parts.none)], plcaPending := some 0 } } : State).elapse 0
       u.buffer 10 = some Parts.none ∧ Parts.none.last + sec ≤ u.stamp ∧ u.efyth.plcaPending = some 0 ∧ 0 + ms ≤ u.stamp) := by
  decide +kernel

theorem witness_CommitsSave :
    (let u := ({ up with efyth := { Efyth.reset with gather := [1], gatherSince := some 0 } } : State).elapse (10 * ms)
     u.up = true ∧ u.efyth.gatherSince = some 0 ∧ 0 + 10 * ms ≤ u.stamp ∧ u.efyth.commit = none)
    ∧ (let u := ({ up with efyth := { Efyth.reset with commit := some ([1], [], [1]) } } : State).elapse 0
       u.efyth.commit = some ([1], [], [1]) ∧ (1 : Nat) < 2) := by
  decide +kernel

/-! ### Interrupts, counters, sampling -/

/-- Core 0 runs and source 480, of priority 1 and enabled, is pending. -/
def interrupted : State :=
  { up with
    cores := [(0, { Core.zero with running := true })],
    intr := { sources := [(480, { Source.zero with pend := true })], config := [(480, 0x8800)], ordered := false, reason := 0 } }

/-- Core 3 is in the handler of source 511, core 0 in that of source 0, in the fast bank. -/
def serving : State :=
  { up with cores := [(0, { Core.zero with service := [(0, 4)], inFast := true }), (3, { Core.zero with service := [(511, 4)] })] }

theorem witness_InterruptsAreTaken :
    (up.elapse 0).up = true ∧ (0 : Nat) < 512 ∧ sourceDefined 0 = true ∧ sourceDefined 351 = true ∧ sourceDefined 352 = true
      ∧ sourceDefined 448 = true ∧ sourceDefined 480 = true ∧ sourceDefined 511 = true ∧ (3 : Nat) < 4 ∧ (511 : Nat) < 512 ∧ (7 : Nat) < 8
      ∧ (interrupted.elapse 0).up = true ∧ ((interrupted.elapse 0).core 0).running = true ∧ (interrupted.elapse 0).nextSource 0 = some 480
      ∧ (serving.elapse 0).up = true ∧ ((serving.elapse 0).core 0).service = [(0, 4)] ∧ ((serving.elapse 0).core 3).service = [(511, 4)]
      ∧ (2 : Nat) % 2 = 0 ∧ (2 ^ 64 - 1 : Nat) % 2 = 1 := by
  decide +kernel

/-- Counters 2 and 3 of unit 80 are a chained pair at their highest value. -/
def chained : State :=
  { up with perf := { up.perf with
      values := [(642, 2 ^ 48 - 1), (643, 2 ^ 48 - 1)], config := [(642, 2 ^ 48 + 2 ^ 32), (643, 2 ^ 49 + 2 ^ 48)] } }

theorem witness_CounterPairsCarry :
    (80 : Nat) < 81 ∧ 3 < unitCounters 80 ∧ (2 ^ 48 : Nat) ≤ 2 ^ 48
      ∧ chained.perfValue 80 2 < 2 ^ 48 ∧ chained.perfValue 80 3 < 2 ^ 48 ∧ 2 % 2 = 0
      ∧ (chained.perfConfig 80 3).testBit 49 = true ∧ (chained.perfConfig 80 3).testBit 48 = true
      ∧ 2 ^ 96 ≤ chained.perfValue 80 3 * 2 ^ 48 + chained.perfValue 80 2 + 1
      ∧ 0 < unitCounters 0 ∧ up.perfValue 0 0 + (2 ^ 48 - 1) < 2 ^ 48
      ∧ ¬ (0 % 2 = 0 ∧ (up.perfConfig 0 1).testBit 49 = true ∧ (up.perfConfig 0 1).testBit 48 = true)
      ∧ 2 ^ 48 ≤ up.perfValue 0 0 + 2 ^ 48 ∧ (2 ^ 49 : Nat).testBit 49 = true := by
  decide +kernel

/-- Counter 3 of unit 80 counts event 1; windows are on and one ends at stamp 0 of no length; run 1 watches event 1, every time. -/
def counting : State :=
  let s : State := { up with stamp := 4000000 * 1000, perf := { up.perf with config := [(643, 2 ^ 48 + 2 ^ 32)], windowOn := true, windowFrom := 0 } }
  (s.setObj 0x5130 1 (.num 1000)).setSamplingRun 1 { Sampling.idle with state := 1, config := 2 ^ 34 }

def seen : Occurrence :=
  { bay := 63, event := 1, addr := 0, tag := 0, slotIndex := 0, ctx := 0, queue := 0, opcode := 0, latency := 0 }

theorem witness_CountersAndSamples :
    (counting.elapse 0).up = true ∧ (80 : Nat) < 81 ∧ 3 < unitCounters 80
      ∧ ((counting.elapse 0).perfConfig 80 3).testBit 48 = true ∧ ((counting.elapse 0).perfConfig 80 3).testBit 49 = false
      ∧ bits ((counting.elapse 0).perfConfig 80 3) 47 32 ≠ 0
      ∧ (counting.elapse 0).perf.windowOn = true ∧ (counting.elapse 0).stamp % (counting.elapse 0).windowUnits = 0
      ∧ (counting.elapse 0).perf.windowFrom + (counting.elapse 0).windowUnits ≤ (counting.elapse 0).stamp
      ∧ (counting.elapse 0).selectedRun = 0 ∧ ((counting.elapse 0).samplingRun 0).state ≠ 1 ∧ ((counting.elapse 0).resUnit 1).holder = none
      ∧ seen.bay < 64 ∧ 1 = seen.bay / 32 ∧ ((counting.elapse 0).samplingRun 1).state = 1 ∧ seen.event ≠ 0
      ∧ runEvent ((counting.elapse 0).samplingRun 1).config = seen.event ∧ runFilter ((counting.elapse 0).samplingRun 1).config = false
      ∧ Assoc.get 0 ((counting.elapse 0).samplingRun 1).counts seen.bay + 1 = runPeriod ((counting.elapse 0).samplingRun 1).config
      ∧ (counting.elapse 0).recentSample ((counting.elapse 0).samplingRun 1) seen.bay = false
      ∧ ((counting.elapse 0).samplingRun 1).unread < 65536 ∧ (65535 : Nat) < 65536 := by
  decide +kernel

/-! ### Power -/

/-- The governor's value is under the work of the last windows. -/
def overWork : State :=
  { up with power := { up.power with workWindows := [2000000], g := 1000, windows := [2000000] } }

/-- A quiet device at a band of 1,500 MHz. -/
def lowBand : State := { up with stamp := 400000, power := { up.power with band := 1500, g := 3000 } }

theorem witness_PowerIsGoverned :
    (up.elapse 0).up = true ∧ (3 : Nat) < 4 ∧ ((up.elapse 0).die 3).frozen = false
      ∧ 15 ≤ (((up.setDie 0 { up.die 0 with failRun := 15 }).elapse 0).die 0).failRun
      ∧ ((up.setObj 0x6011 3 (.num 0)).elapse 0).num 0x6011 3 = 0
      ∧ (((up.setObj 0x6011 3 (.num 0)).setObj 0x6011 4 (.num 0)).elapse 0).num 0x6011 4 = 0
      ∧ (((up.setObj 0x6011 3 (.num 0)).setObj 0x6011 4 (.num 1)).elapse 0).num 0x6011 4 ≠ 0
      ∧ (overWork.elapse 0).up = true
      ∧ (overWork.elapse 0).power.g * 51 / 50 < (overWork.elapse 0).meanWork
      ∧ (overWork.elapse 0).power.g * 51 / 50 < (overWork.elapse 0).work10
      ∧ 1050 < (overWork.elapse 0).power.band
      ∧ ({ overWork with power := { overWork.power with band := 1050 } } : State).power.band ≤ 1050
      ∧ (lowBand.elapse 0).up = true ∧ (lowBand.elapse 0).mean1ms ≤ (((lowBand.elapse 0).num 0x6011 1 : Nat) : Rat)
      ∧ (lowBand.elapse 0).stamp % 400000 = 0 ∧ (lowBand.elapse 0).power.band < 2100
      ∧ (lowBand.elapse 0).meanWork ≤ (lowBand.elapse 0).power.g * 51 / 50
      ∧ (lowBand.elapse 0).work10 + ((1000 : Nat) : Rat) / 1000 ≤ (lowBand.elapse 0).power.g * 51 / 50
      ∧ ((up.setObj 0x6011 4 (.num 1)).elapse 0).clipReasons = 0 := by
  decide +kernel

/-- Die 3 has been tripped for long; edge junctions at the limit and one milli-degree below it. -/
def tripped : State := late.setDie 3 { late.die 3 with tripped := true, tripSince := 0 }

theorem witness_ThermalLimitsAct :
    (up.elapse 0).up = true ∧ (105000 : Int) ≤ nth 0 [0, 0, 0, 0, 105000] 4 + toSigned 32 ((up.elapse 0).num 0x6110 5)
      ∧ nth 0 [0, 0, 0, 0, 104999] 4 + toSigned 32 ((up.elapse 0).num 0x6110 5) < (105000 : Int)
      ∧ nth 0 [0, 0, 0, 0, 104999] 5 + toSigned 32 ((up.elapse 0).num 0x6110 6) < (105000 : Int)
      ∧ (((up.setDie 3 { up.die 3 with settle := true }).elapse 0).die 3).settle = true
      ∧ ((up.elapse 0).die 3).gated = false ∧ ((up.elapse 0).die 0).gated = false
      ∧ (tripped.elapse 0).up = true ∧ ((tripped.elapse 0).die 3).tripped = true
      ∧ ((tripped.elapse 0).die 3).tripSince + 100 * ms ≤ (tripped.elapse 0).stamp ∧ (tripped.elapse 0).dieReset 3 = false := by
  decide +kernel

def shedding (pin : Bool) : State := { late with power := { late.power with shed := true, shedPin := pin } }

theorem witness_ShedAndRegulators :
    (up.elapse 0).boot.phase ≠ .coldReset ∧ (up.elapse 0).power.shedPin = false
      ∧ (({ up with boot := { up.boot with phase := .p3 } } : State).elapse 0).boot.phase ≠ .coldReset
      ∧ (State.reset.elapse 0).boot.phase = .coldReset ∧ ((shedding true).elapse 0).power.shedPin = true
      ∧ ((shedding false).elapse 0).up = true ∧ ((shedding false).elapse 0).power.shed = true
      ∧ ((shedding false).elapse 0).power.shedPin = false ∧ ((shedding false).elapse 0).power.shedCauses = []
      ∧ ((shedding false).elapse 0).power.shedClearSince + 10 * ms ≤ ((shedding false).elapse 0).stamp
      ∧ (up.elapse 0).up = true ∧ (up.elapse 0).dieReset 3 = false ∧ (up.elapse 0).dieReset 0 = false := by
  decide +kernel

/-- Bay 63 has been in P1 for two seconds. -/
def resting : State := late.setBay 63 { late.bay 63 with power := 1, idleSince := 0 }

theorem witness_PowerStatesChange :
    (up.elapse 0).up = true ∧ ((up.elapse 0).bay 63).power = 0 ∧ ((up.elapse 0).bay 63).ballast = false
      ∧ ((up.elapse 0).bay 63).waking = false ∧ (up.elapse 0).bayWork 63 = false ∧ (up.elapse 0).bayWork 0 = false
      ∧ (resting.elapse 0).up = true ∧ ((resting.elapse 0).bay 63).power = 1
      ∧ (resting.elapse 0).ctxs.any (fun e => e.2.grantedOn 63) = false
      ∧ ((resting.elapse 0).bay 63).idleSince + (resting.elapse 0).num 0x6003 4 * us ≤ (resting.elapse 0).stamp
      ∧ (resting.elapse 0).heldAwake 63 = false ∧ ((resting.elapse 0).num 0x6011 4 = 0 ∨ (resting.elapse 0).num 0x6011 2 = 0)
      ∧ (((up.setBay 5 { up.bay 5 with waking := true }).elapse 0).bay 5).waking = true
      ∧ (({ up with power := { up.power with waking := true } } : State).elapse 0).power.waking = true
      ∧ (up.elapse 0).p2Refused = false ∧ ((withCtx up ctx1).elapse 0).p2Refused = true
      ∧ (({ up with power := { up.power with device := 2 } } : State).elapse 0).power.device = 2
      ∧ (({ up with boot := { up.boot with phase := .p3 } } : State).elapse 0).boot.phase = .p3
      ∧ ((late.setObj 0x6003 5 (.num 1)).elapse 0).num 0x6003 5 = 1 ∧ ((late.setObj 0x6003 5 (.num 1)).elapse 0).power.device = 0
      ∧ ((late.setObj 0x6003 5 (.num 1)).elapse 0).power.noResidentSince + ((late.setObj 0x6003 5 (.num 1)).elapse 0).num 0x6003 6 * ms
          ≤ ((late.setObj 0x6003 5 (.num 1)).elapse 0).stamp
      ∧ ((late.setObj 0x6003 5 (.num 1)).elapse 0).p2Refused = false := by
  decide +kernel

/-! ### Faults, resets, boot, firmware, pins -/

theorem witness_FreeUnitsAreGranted : (up.resUnit 1).holder = none ∧ (up.resUnit 131).holder = none ∧ 131 ∈ timerUnits ∧ 100 ∈ timerUnits := by
  decide +kernel

/-- The command on engine `e` made no progress for two seconds. -/
def hung (e : Nat) : State :=
  (withCtx late ctx1).setEngine e { Engine.idle with running := some (runOf e 0x10 0) }

/-- A bay in quarantine past its limit, with one suspect to come. -/
def suspected : State :=
  late.setBay 63 { late.bay 63 with qActive := true, qCurrent := some 1, qOrder := [2], qSince := 0 }

def watched (fast : Bool) : State :=
  { late with
    fault := { late.fault with watchdogOn := true, lastKick := 0 }, intr := { late.intr with config := if fast then [(0, 0x8000)] else [] } }

theorem witness_HangsAndWatchdog :
    (∀ e ∈ [0, 255, 256, 271, 272], ((hung e).elapse 0).up = true ∧ ((hung e).elapse 0).engineLive e = true
      ∧ (((hung e).elapse 0).hangStamp e).any (fun n => decide (n ≤ ((hung e).elapse 0).stamp)) = true)
      ∧ (suspected.elapse 0).up = true ∧ ((suspected.elapse 0).bay 63).qCurrent = some 1 ∧ ((suspected.elapse 0).bay 63).qActive = true
      ∧ ((suspected.elapse 0).bay 63).qOrder = [2]
      ∧ ((suspected.elapse 0).bay 63).qSince + (suspected.elapse 0).num 0x7006 2 * ms ≤ (suspected.elapse 0).stamp
      ∧ (∀ f ∈ [false, true], ((watched f).elapse 0).up = true ∧ ((watched f).elapse 0).fault.watchdogOn = true
          ∧ ((watched f).elapse 0).fault.expired = none ∧ ((watched f).elapse 0).fastReady = f
          ∧ ((watched f).elapse 0).fault.lastKick + ((watched f).elapse 0).num 0x7005 2 * ((watched f).elapse 0).num 0x7005 1 * ms
              ≤ ((watched f).elapse 0).stamp)
      ∧ (({ late with fault := { late.fault with expired := some 0 } } : State).elapse 0).fault.expired = some 0
      ∧ 0 + (late.elapse 0).num 0x7005 3 * ms ≤ (late.elapse 0).stamp
      ∧ (late.elapse 0).accessCode .mgmt 0 (hbmEnd) 8 true ≠ 0 ∧ (late.elapse 0).accessCode .mgmt 0 hbmBase 8 true = 0 := by
  decide +kernel

/-- Bay 63 and beam die 3 are in reset. -/
def inReset : State := (up.setBay 63 { up.bay 63 with inReset := true }).setDie 3 { up.die 3 with inReset := true }

theorem witness_ResetsBeginAndEnd :
    (up.elapse 0).up = true ∧ (up.elapse 0).benchInReset 63 = false ∧ (up.elapse 0).benchInReset 0 = false ∧ (up.elapse 0).dieReset 3 = false
      ∧ Assoc.get 0 (up.elapse 0).hostPorts 1 ≠ 3 ∧ Assoc.get 0 (up.elapse 0).ports 15 ≠ 3
      ∧ (((up.setLink 31 { Link.down with state := 3 }).elapse 0).link 31).state = 3
      ∧ (((up.setLink 31 { Link.down with state := 3 }).elapse 0).link 31).lent = []
      ∧ (inReset.elapse 0).up = true ∧ ((inReset.elapse 0).bay 63).inReset = true ∧ ((inReset.elapse 0).die 3).inReset = true
      ∧ (({ up with boot := { up.boot with phase := .warmBoot } } : State).elapse 0).boot.phase = .warmBoot
      ∧ (({ up with boot := { up.boot with phase := .warmBoot } } : State).elapse 0).dumpWaits = false := by
  decide +kernel

def dumping : State := { up with fault := { up.fault with dumping := some 0, dumps := [7], transient := 1, selfTest := 1 } }

theorem witness_DumpsAndTestsRun :
    (up.elapse 0).up = true ∧ (up.elapse 0).fault.dumping = none ∧ (dumping.elapse 0).fault.dumping.isSome = true
      ∧ (dumping.elapse 0).up = true ∧ (dumping.elapse 0).fault.dumps[0]? = some 7
      ∧ (({ late with fault := dumping.fault } : State).elapse 0).fault.transient ≠ 0
      ∧ (({ late with fault := dumping.fault } : State).elapse (36 * sec)).fault.lastRestore + 36 * sec
          ≤ (({ late with fault := dumping.fault } : State).elapse (36 * sec)).stamp
      ∧ (1 : Nat) < 2 ∧ (up.elapse 0).fault.selfTest ≠ 1 ∧ (up.elapse 0).testRefused = false ∧ ((withCtx up ctx1).elapse 0).testRefused = true
      ∧ (dumping.elapse 0).fault.selfTest = 1
      ∧ (({ up with fault := { up.fault with selfTest := 1 } } : State).elapse 0).fault.dumping = none := by
  decide +kernel

/-- A firmware image of one body byte, of security version 2, signed with the key whose digest the fuses hold. -/
def headNat : Nat :=
  0x384d4b46010002000700000001000000000000000000000000000000000000002daef60e7a0b8f5e024c81cd2ab3109f2b4f155cf83adeb2ae5532f74a157fdf63cb2de872e5dd595a57aae8b62bd596ff0ddc528dbd474ffc42b4e88a46eff3643f476f2cf9c00d0f2dd0491f605c098396e1f00268281ccf712de46aaf384b000000000000000000000000000000000000000000000000000000000000000000000000000000000000000000000000000000000000000000000000000000004c7bffc0fef3394086c032ea69372feb77c452f4c9070154c80724c156814639110bff0ddd410ca417c8b9eb9e155927d6c516196dd49d5709fd95eee58afe0d
def image : List Byte := beBytes 256 headNat ++ zeroBytes 3841
def imageFuses : Fuses :=
  { Fuses.blank with keyDigest := beBytes 32 0xa8d8696f350b4d4f27b2d4e8ecae5d1cb88ba5b76d2d2c396bfc654f30752cae }

theorem test_image_passes : checkImage imageFuses image = 0 := by decide +kernel
theorem test_unsigned_image_fails : checkImage imageFuses (zeroBytes 4097) ≠ 0 := by decide +kernel

def bootEnv (straps : Nat) (rng : Bool) : BootEnv :=
  { straps := straps, powered := true, rngPass := rng, epochDraws := [7], fuses := some imageFuses, flash := some image, banks := none,
    goodUnits := [], place := Placement.none }

/-- The recovery fetch waits for the first 1,024 bytes, from address 0. -/
def fetching : State :=
  { State.reset with boot := { Boot.reset with phase := .recovery, windowLen := 1024, deviceId := 0 } }

def firstPart : EfythMsg :=
  { src := 0, dst := 0, ok := true, typ := none, hdr := { EfythHdr.zero with device := (fetching.elapse 0).recoveryDevice, length := 1 }, payload := [1] }

theorem witness_BootRuns :
    (State.reset.elapse 0).boot.phase = .coldReset ∧ (bootEnv 0 true).powered = true ∧ (State.reset.elapse 0).pins.refLost = false
      ∧ (bootEnv 0 false).rngPass = false ∧ bits (bootEnv 0 true).straps 4 3 = 0 ∧ bits (bootEnv 8 true).straps 4 3 = 1
      ∧ bits (bootEnv 16 true).straps 4 3 = 2 ∧ 0 < (bootEnv 0 true).epochDraws.length
      ∧ (({ State.reset with boot := { Boot.reset with phase := .hold } } : State).elapse 0).boot.phase = .hold
      ∧ (fetching.elapse 0).fetchTakes firstPart = true ∧ (fetching.elapse 0).fetching = true
      ∧ ({ (fetching.elapse 0).boot with got := (fetching.elapse 0).boot.got ++ [(0, 1)] } : Boot).windowDone = false
      ∧ (fetching.elapse (2 * sec)).boot.requestStamp + 2 * sec ≤ (fetching.elapse (2 * sec)).stamp
      ∧ (let u := ({ fetching with boot := { fetching.boot with restartWait := true } } : State).elapse sec
         u.boot.phase = .recovery ∧ u.boot.restartWait = true ∧ u.boot.requestStamp + sec ≤ u.stamp) := by
  decide +kernel

/-- The random source has failed and a quote waits since stamp 0. -/
def waitingQuote : State :=
  { late with boot := { late.boot with rngBad := true, rngWaitQuote := some (0, zeroBytes 288) } }

theorem witness_FirmwareAndQuotes :
    (up.elapse 0).up = true ∧ (4097 : Nat) ≤ 25165824 ∧ (2 ^ 48 - 1 : Nat) < 2 ^ 48 ∧ (zeroBytes 32).length = 32
      ∧ (({ up with boot := { up.boot with fuses := imageFuses } } : State).elapse 0).boot.fuses = imageFuses
      ∧ (up.elapse 0).boot.updateFrom = none ∧ (up.elapse 0).boot.rngWaitQuote = none ∧ (up.elapse 0).boot.rngBad = false
      ∧ (({ up with boot := { up.boot with rngBad := true } } : State).elapse 0).boot.rngBad = true
      ∧ (waitingQuote.elapse 0).up = true ∧ (waitingQuote.elapse 0).boot.rngWaitQuote = some (0, zeroBytes 288)
      ∧ (waitingQuote.elapse 0).boot.rngWaitOpens = [] ∧ 0 + 10 * ms ≤ (waitingQuote.elapse 0).stamp := by
  decide +kernel

/-- The staging area holds the image that passes the checks: its 4,097 bytes read back. -/
theorem witness_StagedImagePasses :
    checkImage imageFuses (({ up with mem := cellsAt stagingBase image } : State).readBytes stagingBase 4097) = 0 := by
  decide +kernel

/-- The last byte of an image that passes the checks has come from station 10. -/
def fetchedUpdate : State :=
  { up with boot := { up.boot with fuses := imageFuses, updateFrom := some 10, updateBack := none, fetched := image, imageLen := 4097 } }

theorem witness_FetchedImagePasses :
    fetchedUpdate.up = true ∧ fetchedUpdate.boot.updateFrom = some 10 ∧ fetchedUpdate.boot.updateBack = none
      ∧ checkImage fetchedUpdate.boot.fuses (fetchedUpdate.boot.fetched.take fetchedUpdate.boot.imageLen) = 0 := by
  decide +kernel

/-- The measurement slots as boot leaves them. -/
def slotted : State := { up with boot := { up.boot with slots := List.replicate 8 (zeroBytes 32) } }

theorem witness_SlotsExtend :
    (up.elapse 0).up = true ∧ (255 : Nat) < 256 ∧ (zeroBytes 32).length = 32 ∧ slotted.boot.slots.length = 8
      ∧ ({ slotted with pending := [.extendSlot 0 (BitVec.ofNat 8 7 :: zeroBytes 32), .extendSlot 0 (BitVec.ofNat 8 7 :: zeroBytes 32)] } : State).pending
          = .extendSlot 0 (BitVec.ofNat 8 7 :: zeroBytes 32) :: .extendSlot 0 (BitVec.ofNat 8 7 :: zeroBytes 32) :: [] := by
  decide +kernel

theorem witness_PinsAct :
    (up.elapse 0).boot.phase ≠ .coldReset ∧ (up.elapse 0).pins.refLost = false
      ∧ (({ up with boot := { up.boot with phase := .warmHold } } : State).elapse 0).boot.phase = .warmHold
      ∧ (up.elapse 0).up = true ∧ (0x81FF = 0x81FF &&& 0x81FF) ∧ (0x81FF : Nat).testBit 15 = true
      ∧ ((up.elapse 0).resUnit 202).holder = none ∧ ((up.elapse 0).resUnit 203).holder = none
      ∧ ((({ up with res := [(1, { holder := none, waiters := [(.windows, 5, 0)] })] } : State).elapse 0).firstWaiter 1) = some (.windows, 5, 0)
      ∧ (14 : Nat) < 15 ∧ (up.elapse 0).cnt 0x2004 15 ≠ 2 ∧ (up.elapse 0).cnt 0x2004 1 ≠ 2 := by
  decide +kernel

/-! ### Two statements whose states the memory of a page decides -/

theorem witness_ScrubAndZeroing :
    (up.elapse 0).up = true ∧ (up.elapse 0).power.device < 2 ∧ benchEnd - 1 < benchEnd ∧ hbmEnd - 1 < hbmEnd ∧ hbmBase ≤ hbmEnd - 1
      ∧ ((up.elapse 0).correctedNow ((up.elapse 0).hbmPage ((hbmEnd - 1 - hbmBase) / pageBytes)).corrected).2 = false
      ∧ 2 ≤ (({ up with power := { up.power with device := 2 } } : State).elapse 0).power.device
      ∧ hbmPages - 1 < hbmPages
      ∧ (((up.setHbmPage (hbmPages - 1) { HbmPage.free with use := .zeroing }).elapse 0).hbmPage (hbmPages - 1)).use = .zeroing
      ∧ (((up.setBay 63 { up.bay 63 with zeroing := true }).elapse 0).bay 63).zeroing = true := by
  decide +kernel

/-! ### An image of a whole context, as a holder sends it -/

/-- An image of step 0 and one content page, of zeros, whose digest is `leaf`: its header page and that page. -/
def heldHeader (leaf : List Byte) : Nat := leNat (sm3 leaf) * 2 ^ 256 + 2 ^ 82
def heldImage (leaf : List Byte) : List (List Byte) := [leBytes 64 (heldHeader leaf) ++ leaf, []]

theorem heldHeader_lt (leaf : List Byte) : heldHeader leaf < 256 ^ 64 := by
  have h := leNat_lt (sm3 leaf)
  rw [sm3_length] at h
  have e : (256 : Nat) ^ 64 = 2 ^ 256 * 2 ^ 256 := by norm_num
  have f : (256 : Nat) ^ 32 = 2 ^ 256 := by norm_num
  rw [f] at h
  unfold heldHeader
  generalize leNat (sm3 leaf) = r at h
  calc r * 2 ^ 256 + 2 ^ 82 < r * 2 ^ 256 + 2 ^ 256 := by norm_num
    _ = (r + 1) * 2 ^ 256 := by ring
    _ ≤ 2 ^ 256 * 2 ^ 256 := Nat.mul_le_mul_right _ h
    _ = 256 ^ 64 := e.symm

theorem chunks_take_one (n : Nat) (l : List Byte) (h : l.isEmpty = false) : (chunks n l).take 1 = [l.take n] := by
  unfold chunks
  rw [chunksAux, h]
  rfl

theorem heldImage_ok (leaf : List Byte) (h32 : leaf.length = 32) (hp : sm3 (fitBytes pageBytes []) = leaf) :
    (readImage (heldImage leaf)).ok = true ∧ bits (readImage (heldImage leaf)).header 191 160 = 0 := by
  have hl : (leBytes 64 (heldHeader leaf) ++ leaf).length = 96 := by simp [h32]
  have hf : fitBytes pageBytes (leBytes 64 (heldHeader leaf) ++ leaf) = leBytes 64 (heldHeader leaf) ++ (leaf ++ zeroBytes (pageBytes - 96)) := by
    rw [fitBytes_of_le (by rw [hl]; decide), hl, List.append_assoc]
  have ht : (leBytes 64 (heldHeader leaf) ++ (leaf ++ zeroBytes (pageBytes - 96))).take 64 = leBytes 64 (heldHeader leaf) := by
    rw [List.take_append_of_le_length (by simp), List.take_of_length_le (by simp)]
  have hd : (leBytes 64 (heldHeader leaf) ++ (leaf ++ zeroBytes (pageBytes - 96))).drop 64 = leaf ++ zeroBytes (pageBytes - 96) := by
    rw [List.drop_append_of_le_length (by simp), List.drop_of_length_le (by simp), List.nil_append]
  have hn : leNat (leBytes 64 (heldHeader leaf)) = (heldHeader leaf) := leNat_leBytes_of_lt (heldHeader_lt leaf)
  have hr : bits (heldHeader leaf) 511 256 = leNat (sm3 leaf) := by
    have h := leNat_lt (sm3 leaf)
    rw [sm3_length] at h
    have f : (256 : Nat) ^ 32 = 2 ^ 256 := by norm_num
    rw [f] at h
    unfold bits heldHeader
    rw [Nat.shiftRight_eq_div_pow, Nat.add_comm, Nat.add_mul_div_right _ _ (by positivity), Nat.div_eq_of_lt (by norm_num), Nat.zero_add,
      Nat.mod_eq_of_lt h]
  have hc : bits (heldHeader leaf) 113 82 = 1 := by
    unfold bits heldHeader
    rw [Nat.shiftRight_eq_div_pow, show (2 : Nat) ^ 256 = 2 ^ 174 * 2 ^ 82 by norm_num, ← Nat.mul_assoc,
      Nat.add_comm, Nat.add_mul_div_right _ _ (by positivity), Nat.div_self (by positivity),
      show (2 : Nat) ^ 174 = 2 ^ 142 * 2 ^ (113 + 1 - 82) by norm_num, ← Nat.mul_assoc, Nat.add_mul_mod_self_right, Nat.mod_eq_of_lt (by norm_num)]
  have hs : bits (heldHeader leaf) 191 160 = 0 := by
    unfold bits heldHeader
    rw [Nat.shiftRight_eq_div_pow, show (2 : Nat) ^ 256 = 2 ^ 96 * 2 ^ 160 by norm_num, ← Nat.mul_assoc,
      Nat.add_comm, Nat.add_mul_div_right _ _ (by positivity), Nat.div_eq_of_lt (by norm_num), Nat.zero_add,
      show (2 : Nat) ^ 96 = 2 ^ 64 * 2 ^ (191 + 1 - 160) by norm_num, ← Nat.mul_assoc, Nat.mul_mod_left]
  have hk : contentPages 1 = 1 := by decide
  have he : (leaf ++ zeroBytes (pageBytes - 96)).isEmpty = false := by
    rw [List.isEmpty_eq_false_iff]
    intro h
    have := congrArg List.length h
    simp [h32] at this
  have hw : (chunks 32 (leaf ++ zeroBytes (pageBytes - 96))).take 1 = [leaf] := by
    rw [chunks_take_one _ _ he, List.take_append_of_le_length (by simp [h32]), List.take_of_length_le (by simp [h32])]
  have hb : leBytes 32 (leNat (sm3 leaf)) = sm3 leaf := by
    have h := leBytes_leNat (sm3 leaf)
    rwa [sm3_length] at h
  have h0 : nth [] (heldImage leaf) 0 = leBytes 64 (heldHeader leaf) ++ leaf := rfl
  refine ⟨?_, by simp only [readImage, h0, hf, ht, hn, hs]⟩
  simp only [readImage, h0, hf, ht, hd, hn, hc, hk, hr, hb, Nat.sub_self, List.take_zero, List.flatten_nil, List.append_nil, hw]
  simp [heldImage]
  exact hp

/-- The last clause of CheckpointsAndRestore: a holder's image that passes. -/
theorem witness_RestoredImage : ∃ holder, (readImage holder).ok = true ∧ bits (readImage holder).header 191 160 = 0 :=
  ⟨_, heldImage_ok _ (sm3_length _) rfl⟩

/-! ### Examples that the manual works out -/

/-- The state that a command leaves. -/
def after (c : Instr) (s : State) : State := match exec c s with | .next t => t | _ => s

/-- Chapter 0: the buddy of device 0x1_2345. -/
theorem test_buddy : buddyOf 0x12345 = 0x12341 := by decide

/-- Chapter 1: byte 0x4B00_2040 lies in bank 8 of bay 50. -/
theorem test_bank : inBank 50 8 0x4B002040 = true ∧ inBank 50 7 0x4B002040 = false := by decide

/-- Nearest even; the key is not used. -/
def nearest : Rounding := { keyed := false, key := fun _ => { seed := 0, tensor := 0, step := 0, row := 0, col := 0, site := 0, kchunk := 0 } }

/-- Table 2-12: one block of BF16 into G8, with the measured scale 0x7A. -/
theorem test_into_grain :
    ((intoBlock 2 none nearest ([0x4040, 0xBFC0, 0x3DE0, 0x3DA0, 0x3F81, 0x7FC1, 0x0001, 0x8000].map (fun w => some (decodeSrc 0 w)))).1,
      (intoBlock 2 none nearest ([0x4040, 0xBFC0, 0x3DE0, 0x3DA0, 0x3F81, 0x7FC1, 0x0001, 0x8000].map (fun w => some (decodeSrc 0 w)))).2.1)
      = (0x7A, [0x60, 0xD0, 0x04, 0x02, 0x20, 0x80, 0x00, 0x00]) := by
  decide +kernel

/-- Table 2-12, and back to BF16. -/
theorem test_out_of_grain :
    [0x60, 0xD0, 0x04, 0x02, 0x20, 0x80, 0x00].map (fun c => (outElem 2 0x7A c 0 false (nearest.key 0)).1)
      = [0x4040, 0xBFC0, 0x3E00, 0x3D80, 0x3F80, 0x7FC0, 0x0000] := by
  decide +kernel

/-- Chapter 4: one AdamW element at its first step. -/
def adamW : Recipe :=
  { tOpt := 0, p2 := f32One, p1 := f32One, clipNorm := 0, eps2 := 0, eps := 0x322BCC77, lambda := 0x3E000000, beta2 := 0x3F7FBE77,
    beta1 := 0x3F666666, lr := 0x3A800000, wId := 1, mId := 2, vId := 3, layer := 0, recipe := 2 }

theorem test_adamw : ((adamW.elem 0x3D800000 0x3F000000 0 0).w2, (adamW.elem 0x3D800000 0x3F000000 0 0).m2,
    (adamW.elem 0x3D800000 0x3F000000 0 0).v2) = (0x3EFF7800, 0x3BCCCCD0, 0x36831200) := by
  decide +kernel

/-- Chapter 9: 70 layers over 8 stages. -/
theorem test_stage_layers : (List.range 8).map (stageLayers 70 8) = [8, 9, 9, 9, 9, 9, 9, 8] := by decide +kernel

/-- Chapter 11: the stamp that a leader steering by 1588 takes from its master's time. -/
theorem test_ptp_stamp : (up.acceptSync (-1767225600123456789)).stamp = 7068902400493827156 := by decide +kernel

/-- Table 12-10: a write of 200 to object 0x3005.01 is clamped to 168 and counted. -/
theorem test_clamped_write :
    (after (.objectWrite 0 (.object 0x3005) 1 [0xC8, 0] Aux.none) up).num 0x3005 1 = 168
      ∧ (after (.objectWrite 0 (.object 0x3005) 1 [0xC8, 0] Aux.none) up).cnt 0x30FF 1 = 1 := by
  decide +kernel

/-- Table 13-6: two signals, then a take that reads count 2 and leaves nothing pending. -/
def signalled : State := after (.interruptSignal 0 49 (some 0x2A3)) (after (.interruptSignal 0 49 (some 0x2A3)) up)
def taken : State := after (.take 0 1 49) signalled

theorem test_take : (signalled.sourceOf 49).count = 2 ∧ (signalled.sourceOf 49).pend = true ∧ (taken.sourceOf 49).count = 0
    ∧ (taken.sourceOf 49).pend = false ∧ (taken.core 1).takeInfo = (signalled.sourceOf 49).takeInfo 49 := by
  decide +kernel

theorem witness_MemoryReadsBack : (1 : Nat) ≠ 0 ∧ (0 ≤ 0 ∧ (0 : Nat) < 1) ∧ ((0 : Nat) < 1 ∨ 2 ≤ 0) ∧ ((0 : Nat) < 0 ∨ 0 + 1 ≤ 1) := by decide

end Sys2Proof.Tests
end

section
/-! PROOFS. What a signal of the interrupt controller leaves (R411 to R420): the frame of SignalsTo, and every object in which signals do
not count. -/

namespace Sys2Proof.Machine

/-- A write leaves what is read elsewhere, with whatever default it is read. -/
theorem Assoc.get_set_ne_of_default {α : Type} [DecidableEq α] (d e : α) (l : List (Nat × α)) {k j : Nat} (v : α) (h : j ≠ k) :
    Assoc.get d (Assoc.set e l k v) j = Assoc.get d l j := by
  unfold Assoc.set
  split
  · exact Assoc.get_erase_ne d l h
  · exact Assoc.get_insert_ne d v l h

/-- The objects in which a signal, and what is sent for it, is counted: Efyth frames and host messages sent, events dropped, and the
counters of R421. -/
def signalCounters : List Nat :=
  [objKey 0x1106 2, objKey 0x4810 2, objKey 0x4810 6, objKey 0x5010 1, objKey 0x5010 2, objKey 0x5010 3, objKey 0x5010 4]

/-- From s to t nothing happened but signalling: the frame of SignalsTo, with every object beside the signal counters as it was. -/
structure State.SignalFrame (s t : State) : Prop where
  signalsTo : s.SignalsTo t
  object : ∀ d k, k ∉ signalCounters → Assoc.get d t.objs k = Assoc.get d s.objs k

theorem State.SignalsTo.trans {s t v : State} (h : s.SignalsTo t) (g : t.SignalsTo v) : s.SignalsTo v := by
  unfold State.SignalsTo at h g ⊢
  rw [g, h]

theorem State.SignalsTo.mem {s t : State} (h : s.SignalsTo t) : t.mem = s.mem := by
  unfold State.SignalsTo at h
  rw [h]

theorem State.SignalsTo.boot {s t : State} (h : s.SignalsTo t) : t.boot = s.boot := by
  unfold State.SignalsTo at h
  rw [h]

theorem State.SignalsTo.up {s t : State} (h : s.SignalsTo t) : t.up = s.up := by
  unfold State.up
  rw [h.boot]

/-- An update inside the frame that leaves the objects. -/
theorem State.SignalFrame.of_objs {s t : State} (h : s.SignalsTo t) (ho : t.objs = s.objs) : s.SignalFrame t :=
  ⟨h, fun _ _ _ => by rw [ho]⟩

theorem State.SignalFrame.refl (s : State) : s.SignalFrame s := .of_objs rfl rfl

theorem State.SignalFrame.trans {s t v : State} (h : s.SignalFrame t) (g : t.SignalFrame v) : s.SignalFrame v :=
  ⟨h.signalsTo.trans g.signalsTo, fun d k hk => (g.object d k hk).trans (h.object d k hk)⟩

/-- A counter in which signals do not count. -/
theorem State.SignalFrame.cnt {s t : State} (h : s.SignalFrame t) {i k : Nat} (hk : objKey i k ∉ signalCounters) :
    t.cnt i k = s.cnt i k :=
  congrArg ObjVal.toNat (h.object _ _ hk)

/-- What every step of a fold keeps of the state in its accumulator, the fold keeps. -/
theorem State.SignalFrame.foldl {α β : Type} (p : β → State) {f : β → α → β} (hf : ∀ b x, (p b).SignalFrame (p (f b x)))
    (l : List α) (b : β) : (p b).SignalFrame (p (l.foldl f b)) := by
  induction l generalizing b with
  | nil => exact .refl _
  | cons x l ih => exact (hf b x).trans (ih _)

theorem State.signalFrame_bump (s : State) {i k : Nat} (h : objKey i k ∈ signalCounters) : s.SignalFrame (s.bump i k) :=
  ⟨rfl, fun d _ hj => Assoc.get_set_ne_of_default d _ _ _ (ne_of_mem_of_not_mem h hj).symm⟩

theorem State.signalFrame_latchSignal (s : State) (n : Nat) (c : Option Nat) : s.SignalFrame (s.latchSignal n c) := by
  unfold State.latchSignal
  refine State.SignalFrame.trans ?_ (State.signalFrame_bump _ (by decide))
  split
  · exact (s.signalFrame_bump (by decide)).trans (.of_objs rfl rfl)
  · exact .of_objs rfl rfl

theorem State.signalFrame_addCounterBy {sig : State → Nat → State} (hsig : ∀ (s : State) n, s.SignalFrame (sig s n)) (f : Nat) (s : State)
    (u k n : Nat) : s.SignalFrame (State.addCounterBy sig f s u k n) := by
  induction f generalizing s k n with
  | zero => exact .refl s
  | succ f ih =>
    have hset : ∀ v, s.SignalFrame (s.setPerfValue u k v) := fun _ => .of_objs rfl rfl
    unfold State.addCounterBy
    dsimp only
    split
    · exact hset _
    · split
      · exact (hset _).trans (ih _ _ _)
      · split
        · refine State.SignalFrame.trans ?_ (hsig _ _)
          exact .of_objs rfl rfl
        · exact .of_objs rfl rfl

theorem State.signalFrame_countEventBy {sig : State → Nat → State} (hsig : ∀ (s : State) n, s.SignalFrame (sig s n)) (s : State) (u ev n : Nat)
    (c : Option Nat) : s.SignalFrame (State.countEventBy sig s u ev n c) := by
  unfold State.countEventBy
  split
  · exact .refl s
  · refine State.SignalFrame.foldl id (fun s k => ?_) _ s
    dsimp only [id]
    split
    · exact State.signalFrame_addCounterBy hsig _ _ _ _ _
    · exact .refl s

theorem State.signalFrame_hostSend (s : State) (n ty : Nat) (f : HostHdr → HostHdr) (p : List Byte) :
    s.SignalFrame (s.hostSend n ty f p) := by
  unfold State.hostSend State.hostEmit
  have hpush : ∀ m, s.SignalFrame (s.push m) := fun _ => .of_objs rfl rfl
  exact ((hpush _).trans (State.signalFrame_bump _ (by decide))).trans (.of_objs rfl rfl)

theorem State.signalFrame_efythSend (s : State) (dst ty level : Nat) (h : EfythHdr) (p : List Byte) :
    s.SignalFrame (s.efythSend dst ty level h p) := by
  unfold State.efythSend
  have hpush : ∀ m, s.SignalFrame (s.push m) := fun _ => .of_objs rfl rfl
  exact (hpush _).trans (State.signalFrame_bump _ (by decide))

theorem State.signalFrame_setSession (s : State) (n : Nat) (k : Session) : s.SignalFrame (s.setSession n k) := .of_objs rfl rfl

theorem State.signalFrame_eventTo (s : State) (n : Nat) (r : EventRec) (stamp : Nat) : s.SignalFrame (s.eventTo n r stamp).1 := by
  unfold State.eventTo
  dsimp only
  split
  · exact (s.signalFrame_setSession _ _).trans (State.signalFrame_bump _ (by decide))
  · dsimp only
    refine State.SignalFrame.trans ?_ (State.signalFrame_countEventBy (fun s n => s.signalFrame_latchSignal n none) _ _ _ _ _)
    exact (s.signalFrame_setSession _ _).trans (State.signalFrame_hostSend _ _ _ _ _)

theorem State.signalFrame_routeEvents (s : State) (l : List Nat) (r : EventRec) : s.SignalFrame (s.routeEvents l r).1 :=
  State.SignalFrame.foldl Prod.fst
    (fun a n => (State.signalFrame_eventTo a.1 n r s.stamp).trans (State.signalFrame_bump _ (by decide))) l (s, false)

theorem State.signalFrame_forwardSignal (s : State) (n : Nat) (c : Option Nat) : s.SignalFrame (s.forwardSignal n c).1 := by
  unfold State.forwardSignal
  dsimp only
  generalize hl : (_ ++ _ : List Nat) = l
  have hroute := s.signalFrame_routeEvents l (s.signalRec n c)
  split
  · refine State.SignalFrame.trans ?_ (State.signalFrame_bump _ (by decide))
    exact (hroute.trans (State.signalFrame_efythSend _ _ _ _ _ _)).trans (.of_objs rfl rfl)
  · exact hroute

theorem State.signalFrame_startWake {s : State} (h : s.up = true) : s.SignalFrame s.startWake := by
  have hphase : s.boot.phase ≠ .p3 := by
    rw [of_decide_eq_true h]
    decide
  unfold State.startWake
  rw [if_neg hphase]
  split
  · exact .of_objs rfl rfl
  · exact .refl s

/-- While the firmware runs, a signal does what SignalsTo says and counts in the signal counters alone. -/
theorem State.signalFrame_signal {s : State} (h : s.up = true) (n : Nat) (c : Option Nat) : s.SignalFrame (s.signal n c) := by
  have hsend : ∀ (t : State) n c, t.SignalFrame ((t.latchSignal n c).forwardSignal n c).1 := fun t n c =>
    (t.signalFrame_latchSignal n c).trans (State.signalFrame_forwardSignal _ n c)
  have hwake : ∀ t : State, s.SignalFrame t → s.SignalFrame (if (t.config n).testBit 8 then t.startWake else t) := by
    intro t ht
    split
    · exact ht.trans (State.signalFrame_startWake (ht.signalsTo.up.trans h))
    · exact ht
  unfold State.signal
  split
  · exact .refl s
  · refine hwake _ ?_
    split
    · exact (hsend s n c).trans (hsend _ 215 none)
    · exact hsend s n c

end Sys2Proof.Machine
end

section
/-! PROOFS. Writes of the object dictionary (R22, R23, R395, R398, R402 to R404): plain objects, the calibration image, the return to the
defaults, and the doorbell pages. -/

namespace Sys2Proof.Machine

theorem State.setRwp_cnt_ne (s : State) {i k j m : Nat} (v : ObjVal) (h : objKey j m ≠ objKey i k) :
    (s.setRwp i k v).cnt j m = s.cnt j m :=
  congrArg ObjVal.toNat (Assoc.get_set_ne_of_default _ _ _ _ h)

/-- The count of a clamp is an object of its own. -/
theorem State.countClamp_get_ne (s : State) {i j m k : Nat} (h : clampCounter i = some (j, m)) (d : ObjVal) (hk : k ≠ objKey j m) :
    Assoc.get d (s.countClamp i).objs k = Assoc.get d s.objs k := by
  unfold State.countClamp
  rw [h]
  exact Assoc.get_set_ne_of_default d _ _ _ hk

/-! ### What the three commands are -/

theorem exec_objectWrite_object {dt : Nat} {s : State} (h : (s.elapse dt).up = true) (i k : Nat) (val : List Byte) (aux : Aux) :
    exec (.objectWrite dt (.object i) k val aux) s = .next ((s.elapse dt).applyWrite i k val aux).1 :=
  congrArg Host.Outcome.next (State.whenUp_up _ h)

theorem exec_objectWrite_register {dt : Nat} {s : State} (h : (s.elapse dt).up = true) (core a : Nat) (val : List Byte) (aux : Aux) :
    exec (.objectWrite dt (.register core) a val aux) s = .next ((s.elapse dt).coreWriteReg core a (leNat (val.take 8))) :=
  congrArg Host.Outcome.next (State.whenUp_up _ h)

theorem exec_calibrationWrite {dt : Nat} {s : State} (h : (s.elapse dt).up = true) (image : List Byte) :
    exec (.calibrationWrite dt image) s = .next ((s.elapse dt).actCalibration image).1 :=
  congrArg Host.Outcome.next (State.whenUp_up _ h)

theorem exec_rwpDefaults {dt : Nat} {s : State} (h : (s.elapse dt).up = true) (v : Nat) :
    exec (.rwpDefaults dt v) s = .next ((s.elapse dt).actDefaults v) :=
  congrArg Host.Outcome.next (State.whenUp_up _ h)

/-! ### Writes that are refused (R22, R395) -/

theorem rowFor_idx {i k : Nat} {r : ORow} (h : rowFor i k = some r) : r.idx = i := by
  have hr := List.find?_some h
  simp only [Bool.and_eq_true, beq_iff_eq] at hr
  exact hr.1.1

theorem State.applyWrite_no_row (s : State) {i k : Nat} (h : rowFor i k = none) (b : List Byte) (aux : Aux) :
    (s.applyWrite i k b aux).1 = s := by
  unfold State.applyWrite
  rw [h]

theorem State.applyWrite_readOnly (s : State) {i k : Nat} {r : ORow} (h : rowFor i k = some r) (ro : r.acc = .ro) (b : List Byte)
    (aux : Aux) : (s.applyWrite i k b aux).1 = s := by
  unfold State.applyWrite
  rw [h]
  dsimp only
  rw [if_pos (Or.inr ro)]

/-! ### Plain objects (R23, R398) -/

/-- The value of a plain object of row r is set, and an RWP one noted for the next commit. -/
def State.storeValue (s : State) (r : ORow) (k : Nat) (v : ObjVal) : State :=
  if r.acc = .rwp then s.setRwp r.idx k v else s.setObj r.idx k v

@[simp] theorem State.storeValue_obj_self (s : State) (r : ORow) (k : Nat) (v : ObjVal) : (s.storeValue r k v).obj r.idx k = v := by
  unfold State.storeValue
  split
  · exact s.setObj_obj_self r.idx k v
  · exact s.setObj_obj_self r.idx k v

/-- A change of the dictionary and of what the management port gathers, and nothing beside them. -/
def State.ObjectsOnly (s t : State) : Prop := t = { s with objs := t.objs, efyth := t.efyth }

theorem State.ObjectsOnly.trans {s t v : State} (h : s.ObjectsOnly t) (g : t.ObjectsOnly v) : s.ObjectsOnly v := by
  unfold State.ObjectsOnly at h g ⊢
  rw [g, h]

theorem State.objectsOnly_storeValue (s : State) (r : ORow) (k : Nat) (v : ObjVal) : s.ObjectsOnly (s.storeValue r k v) := by
  unfold State.storeValue
  split
  · rfl
  · rfl

theorem State.objectsOnly_countClamp (s : State) (i : Nat) : s.ObjectsOnly (s.countClamp i) := by
  unfold State.countClamp
  split
  · rfl
  · rfl

/-- Indexes of the calibration region whose write does more than give them a value. -/
def calibrationActing : List Nat := [0x6101, 0x6110, 0x6111, 0x6112, 0x6113, 0x6114]

theorem State.afterSetting_plain (s : State) {i : Nat} (k : Nat) (acts : i ∉ actingObjects) (cal : isCalibration i = false) :
    s.afterSetting i k = s := by
  have hcal : ∀ j ∈ calibrationActing, isCalibration j = true := by decide
  have hi : i ∉ actingObjects ++ calibrationActing := by
    rw [List.mem_append]
    rintro (h | h)
    · exact acts h
    · exact absurd (hcal i h) (by simp [cal])
  unfold State.afterSetting
  split
  case h_14 => rfl
  all_goals exact absurd (by decide) hi

theorem State.setSetting_plain (s : State) {r : ORow} (k : Nat) (v : ObjVal) (acts : r.idx ∉ actingObjects)
    (cal : isCalibration r.idx = false) : s.setSetting r k v = s.storeValue r k v := by
  have hplain : s.setSetting r k v = s.setPlain r k v := by
    unfold State.setSetting
    split
    case h_7 => rfl
    all_goals next e => exact absurd (by rw [e]; decide) acts
  have hsel : ¬ ((r.idx = 0x5101 ∧ k = 2) ∨ (r.idx = 0x5120 ∧ k = 2)) := by
    rintro (⟨e, -⟩ | ⟨e, -⟩) <;> exact acts (by rw [e]; decide)
  rw [hplain]
  unfold State.setPlain
  rw [if_neg hsel]
  exact State.afterSetting_plain _ k acts cal

theorem State.writeRow_plain (s : State) {r : ORow} (k : Nat) (b : List Byte) (aux : Aux) (acc : r.acc ≠ .cmd)
    (own : ownClamp r.idx k = false) (clear : isClear r.idx k = false) :
    (s.writeRow r k b aux).1
      = (if (s.legalValue r k b).2 then s.countClamp r.idx else s).setSetting r k (s.legalValue r k b).1 := by
  unfold State.writeRow
  simp only [own, clear, Bool.false_eq_true, if_false]
  split
  · next e _ => exact absurd e acc
  · next e _ => exact absurd e acc
  · rfl

/-- A write to a plain RW or RWP object: a clamp is counted, and the object takes its nearest legal value. -/
theorem State.applyWrite_plain (s : State) {i k : Nat} {r : ORow} (b : List Byte) (aux : Aux) (h : rowFor i k = some r)
    (acc : r.acc = .rw ∨ r.acc = .rwp) (hk : k ≠ 0) (own : ownClamp i k = false) (clear : isClear i k = false)
    (acts : i ∉ actingObjects) (cal : isCalibration i = false) :
    (s.applyWrite i k b aux).1
      = (if (s.legalValue r k b).2 then s.countClamp i else s).storeValue r k (s.legalValue r k b).1 := by
  have hidx := rowFor_idx h
  have hro : ¬ (k = 0 ∨ r.acc = .ro) := by
    rcases acc with e | e <;> simp [e, hk]
  have hcmd : r.acc ≠ .cmd := by
    rcases acc with e | e <;> simp [e]
  subst hidx
  unfold State.applyWrite
  rw [h]
  dsimp only
  rw [if_neg hro, if_neg (by simp [hcmd]), State.writeRow_plain s k b aux hcmd own clear, State.setSetting_plain _ k _ acts cal]

theorem State.objectsOnly_clampedStore (s : State) (r : ORow) (i k : Nat) (v : ObjVal) (clamped : Bool) :
    s.ObjectsOnly ((if clamped then s.countClamp i else s).storeValue r k v) := by
  split
  · exact (s.objectsOnly_countClamp i).trans (State.objectsOnly_storeValue _ r k v)
  · exact s.objectsOnly_storeValue r k v

/-! ### A calibration image (R403, R404) -/

/-- A user's write makes the calibration set a user's, and leaves memory. -/
theorem State.userSet_spec {s : State} (h : s.up = true) : s.userSet.cnt 0x6101 3 = 1 ∧ s.userSet.mem = s.mem := by
  unfold State.userSet
  split
  · next e => exact ⟨e, rfl⟩
  · have hsig := State.signalFrame_signal (s := s.setCnt 0x6101 3 1) h 449 none
    refine ⟨?_, hsig.signalsTo.mem⟩
    rw [hsig.cnt (by decide)]
    exact s.setCnt_cnt_self _ _ _

theorem State.touchCalibration_spec {s : State} (h : s.up = true) :
    s.touchCalibration.cnt 0x6101 3 = 1 ∧ s.touchCalibration.mem = s.mem := by
  obtain ⟨hset, hmem⟩ := State.userSet_spec h
  unfold State.touchCalibration
  dsimp only
  split
  · exact ⟨(State.setRwp_cnt_ne _ _ (by decide)).trans hset, hmem⟩
  · exact ⟨hset, hmem⟩

/-- One object of an image takes its value; the Bool says that a value so far was clamped. -/
def putImageValue (b : List Byte) (a : State × Bool) (o : Nat × Nat × Nat) : State × Bool :=
  match rowFor o.1 o.2.1 with
  | none => a
  | some r =>
    let n := leNat (slice b o.2.2 4)
    (a.1.setRwp o.1 o.2.1 (.num (numNear r n)), a.2 || numNear r n != n)

/-- The key of an object of the image. -/
def imageKey (o : Nat × Nat × Nat) : Nat := objKey o.1 o.2.1

theorem imageKey_nodup : (imageObjs.map imageKey).Nodup := by decide

theorem putImageValue_mem (b : List Byte) (a : State × Bool) (o : Nat × Nat × Nat) : (putImageValue b a o).1.mem = a.1.mem := by
  unfold putImageValue
  split
  · rfl
  · rfl

theorem putImageValue_get_ne (b : List Byte) (a : State × Bool) {o : Nat × Nat × Nat} (d : ObjVal) {k : Nat} (h : k ≠ imageKey o) :
    Assoc.get d (putImageValue b a o).1.objs k = Assoc.get d a.1.objs k := by
  unfold putImageValue
  split
  · rfl
  · exact Assoc.get_set_ne_of_default d _ _ _ h

theorem putImageValue_num_self (b : List Byte) (a : State × Bool) {o : Nat × Nat × Nat} {r : ORow} (h : rowFor o.1 o.2.1 = some r) :
    (putImageValue b a o).1.num o.1 o.2.1 = numNear r (leNat (slice b o.2.2 4)) := by
  unfold putImageValue
  rw [h]
  exact congrArg ObjVal.toNat (State.setObj_obj_self _ _ _ _)

theorem putImage_mem (b : List Byte) (l : List (Nat × Nat × Nat)) (a : State × Bool) :
    (l.foldl (putImageValue b) a).1.mem = a.1.mem := by
  induction l generalizing a with
  | nil => rfl
  | cons o l ih => exact (ih _).trans (putImageValue_mem b a o)

theorem putImage_get_ne (b : List Byte) {l : List (Nat × Nat × Nat)} (a : State × Bool) (d : ObjVal) {k : Nat}
    (h : k ∉ l.map imageKey) : Assoc.get d (l.foldl (putImageValue b) a).1.objs k = Assoc.get d a.1.objs k := by
  induction l generalizing a with
  | nil => rfl
  | cons o l ih =>
    obtain ⟨ho, hl⟩ := List.ne_and_not_mem_of_not_mem_cons h
    exact (ih _ hl).trans (putImageValue_get_ne b a d ho)

/-- Each object of the list has the value that its own bytes give: no other one writes its key. -/
theorem putImage_num (b : List Byte) {l : List (Nat × Nat × Nat)} (a : State × Bool) (distinct : (l.map imageKey).Nodup)
    {o : Nat × Nat × Nat} (ho : o ∈ l) {r : ORow} (h : rowFor o.1 o.2.1 = some r) :
    (l.foldl (putImageValue b) a).1.num o.1 o.2.1 = numNear r (leNat (slice b o.2.2 4)) := by
  induction l generalizing a with
  | nil => cases ho
  | cons x l ih =>
    obtain ⟨hx, hl⟩ := List.nodup_cons.mp distinct
    rcases List.mem_cons.mp ho with rfl | ho
    · exact (congrArg ObjVal.toNat (putImage_get_ne b _ _ hx)).trans (putImageValue_num_self b a h)
    · exact ih _ hl ho

/-- The rails follow their offsets: no object changes, and no memory. -/
theorem State.refreshRails_keeps (l : List Nat) (s : State) :
    (l.foldl (fun s d => s.refreshRail d) s).objs = s.objs ∧ (l.foldl (fun s d => s.refreshRail d) s).mem = s.mem := by
  induction l generalizing s with
  | nil => exact ⟨rfl, rfl⟩
  | cons d l ih =>
    have hrail : (s.refreshRail d).objs = s.objs ∧ (s.refreshRail d).mem = s.mem := by
      unfold State.refreshRail
      dsimp only
      split
      · exact ⟨rfl, rfl⟩
      · exact ⟨rfl, rfl⟩
    exact ⟨(ih _).1.trans hrail.1, (ih _).2.trans hrail.2⟩

/-- The state after the values of an image are in place, and whether one was clamped. -/
def State.imageValues (s : State) (image : List Byte) : State × Bool :=
  imageObjs.foldl (putImageValue image) (s.touchCalibration, false)

theorem State.actCalibration_foreign (s : State) {image : List Byte} (len : image.length = 144) (h : s.imageFits image = false) :
    (s.actCalibration image).1 = s := by
  have hfit : fitBytes 144 image = image := len ▸ fitBytes_self image
  unfold State.actCalibration
  simp [hfit, h]

theorem State.actCalibration_own (s : State) {image : List Byte} (len : image.length = 144) (h : s.imageFits image = true) :
    (s.actCalibration image).1 = (List.range 4).foldl (fun s d => s.refreshRail d)
      (if (s.imageValues image).2 then (s.imageValues image).1.countClamp 0x6101 else (s.imageValues image).1) := by
  have hfit : fitBytes 144 image = image := len ▸ fitBytes_self image
  unfold State.actCalibration
  simp only [hfit, h, len, bne_self_eq_false, Bool.not_true, Bool.false_eq_true, if_false]
  rfl

/-- An image of this device leaves every object beside the clamp count of its region as the values and their first write left it. -/
theorem State.actCalibration_own_get (s : State) {image : List Byte} (len : image.length = 144) (h : s.imageFits image = true)
    (d : ObjVal) {k : Nat} (hk : k ≠ objKey 0x61FF 1) :
    Assoc.get d (s.actCalibration image).1.objs k = Assoc.get d (s.imageValues image).1.objs k := by
  rw [s.actCalibration_own len h, (State.refreshRails_keeps _ _).1]
  split
  · exact State.countClamp_get_ne _ (by decide) d hk
  · rfl

theorem State.actCalibration_own_mem {s : State} {image : List Byte} (up : s.up = true) (len : image.length = 144)
    (h : s.imageFits image = true) : (s.actCalibration image).1.mem = s.mem := by
  have hput : (s.imageValues image).1.mem = s.mem := (putImage_mem _ _ _).trans (State.touchCalibration_spec up).2
  rw [s.actCalibration_own len h, (State.refreshRails_keeps _ _).2, apply_ite State.mem, State.countClamp_mem, ite_self, hput]

theorem State.actCalibration_own_user {s : State} {image : List Byte} (up : s.up = true) (len : image.length = 144)
    (h : s.imageFits image = true) : (s.actCalibration image).1.cnt 0x6101 3 = 1 := by
  have hget := (s.actCalibration_own_get len h (.num 0) (k := objKey 0x6101 3) (by decide)).trans (putImage_get_ne _ _ _ (by decide))
  exact (congrArg ObjVal.toNat hget).trans (State.touchCalibration_spec up).1

theorem imageKey_ne_clampCount : ∀ o ∈ imageObjs, imageKey o ≠ objKey 0x61FF 1 := by decide

theorem State.actCalibration_own_num (s : State) {image : List Byte} (len : image.length = 144) (h : s.imageFits image = true)
    {o : Nat × Nat × Nat} (ho : o ∈ imageObjs) {r : ORow} (hr : rowFor o.1 o.2.1 = some r) :
    (s.actCalibration image).1.num o.1 o.2.1 = numNear r (leNat (slice image o.2.2 4)) :=
  (congrArg ObjVal.toNat (s.actCalibration_own_get len h _ (imageKey_ne_clampCount o ho))).trans
    (putImage_num image _ imageKey_nodup ho hr)

/-! ### The return to the defaults (R402) -/

theorem State.actDefaults_eq (s : State) (v : Nat) :
    s.actDefaults v = if v = 1 then s.returnDefaults else (s.countClamp 0x2005).returnDefaults :=
  apply_ite State.returnDefaults _ _ _

/-! ### Doorbell pages (R217) -/

theorem State.coreWriteReg_door (s : State) {core a c : Nat} (v : Nat) (page : ctlPart a = .door c)
    (rights : s.accessCode .mgmt 0 a 8 true = 0) : s.coreWriteReg core a v = s.doorWrite c ((a - ctlBase) % 65536) v := by
  unfold State.coreWriteReg
  rw [if_neg (by simp [rights]), page]

/-! ### O43 -/

/-- Settles O43: each clause is the rule of its command above. -/
theorem objectsTakeLegalValues : Obligations.ObjectsTakeLegalValues := by
  rintro dt s _ rfl up
  refine ⟨fun i k val aux h => ?_, fun i k val aux r h ro => ?_, fun i k val aux r h acc hk own clear acts cal => ?_,
    fun image len h => ?_, fun image len h => ?_, fun v => ?_, fun core a c val aux page rights => ?_⟩
  · rw [exec_objectWrite_object up, State.applyWrite_no_row _ h]
  · rw [exec_objectWrite_object up, State.applyWrite_readOnly _ h ro]
  · refine ⟨_, exec_objectWrite_object up i k val aux, ?_, ?_⟩
    · rw [State.applyWrite_plain _ val aux h acc hk own clear acts cal]
      exact rowFor_idx h ▸ State.storeValue_obj_self _ r k _
    · rw [State.applyWrite_plain _ val aux h acc hk own clear acts cal]
      exact State.objectsOnly_clampedStore _ r i k _ _
  · rw [exec_calibrationWrite up, State.actCalibration_foreign _ len h]
  · exact ⟨_, exec_calibrationWrite up image, State.actCalibration_own_user up len h, State.actCalibration_own_mem up len h,
      fun o ho r hr => State.actCalibration_own_num _ len h ho hr⟩
  · rw [exec_rwpDefaults up, State.actDefaults_eq]
  · rw [exec_objectWrite_register up, State.coreWriteReg_door _ _ page rights]

end Sys2Proof.Machine
end

section
/-! PROOFS. The byte store (R9, R38 to R40): a run of bytes reads back where it was written, and stands alone. -/

namespace Sys2Proof.Machine

/-! ### Runs of bytes -/

theorem State.readBytes_succ (s : State) (a n : Nat) : s.readBytes a (n + 1) = s.byte a :: s.readBytes (a + 1) n := by
  have hshift : (fun i => s.byte (a + i)) ∘ Nat.succ = fun i => s.byte (a + 1 + i) :=
    funext fun i => congrArg s.byte (Nat.succ_add_eq_add_succ a i).symm
  rw [State.readBytes, List.range_succ_eq_map, List.map_cons, List.map_map, hshift, Nat.add_zero, State.readBytes]

/-- A byte outside a run that is written stands. -/
theorem State.writeBytes_byte_of_outside (s : State) (a : Nat) (l : List Byte) {x : Nat} (h : x < a ∨ a + l.length ≤ x) :
    (s.writeBytes a l).byte x = s.byte x := by
  induction l generalizing s a with
  | nil => rfl
  | cons b l ih =>
    rw [List.length_cons] at h
    rw [State.writeBytes, ih _ _ (by omega), State.setByte_byte_ne _ _ (by omega)]

/-- No later byte of the run overwrites an earlier one, since each lies above it. -/
theorem State.readBytes_writeBytes_self (s : State) (a : Nat) (l : List Byte) : (s.writeBytes a l).readBytes a l.length = l := by
  induction l generalizing s a with
  | nil => rfl
  | cons b l ih =>
    have hhead : ((s.setByte a b).writeBytes (a + 1) l).byte a = b :=
      (State.writeBytes_byte_of_lt _ _ l a.lt_succ_self).trans (s.setByte_byte_self a b)
    rw [State.writeBytes, List.length_cons, State.readBytes_succ, hhead, ih]

/-! ### Little-endian numbers (R9) -/

theorem State.readNat_writeNat_self (s : State) (a n v : Nat) : (s.writeNat a n v).readNat a n = v % 2 ^ (8 * n) := by
  have hbytes : (s.writeBytes a (leBytes n v)).readBytes a n = leBytes n v := by
    simpa only [leBytes_length] using s.readBytes_writeBytes_self a (leBytes n v)
  have hbase : 256 ^ n = 2 ^ (8 * n) := (pow_mul 2 8 n).symm
  rw [State.readNat, State.writeNat, hbytes, leNat_leBytes, hbase]

theorem State.writeNat_byte_of_outside (s : State) {a n x : Nat} (v : Nat) (h : x < a ∨ a + n ≤ x) :
    (s.writeNat a n v).byte x = s.byte x :=
  s.writeBytes_byte_of_outside a _ (by rwa [leBytes_length])

/-! ### Zeroed ranges -/

theorem State.zeroRange_byte_of_inside (s : State) {lo hi x : Nat} (h : lo ≤ x ∧ x < hi) : (s.zeroRange lo hi).byte x = 0 := by
  rw [State.zeroRange_byte, if_pos h]

theorem State.zeroRange_byte_of_outside (s : State) {lo hi x : Nat} (h : x < lo ∨ hi ≤ x) :
    (s.zeroRange lo hi).byte x = s.byte x := by
  rw [State.zeroRange_byte, if_neg (by omega)]

/-! ### O8 -/

/-- Settles O8: single bytes and ranges by the laws of the sparse array, runs by induction along the bytes written. -/
theorem memoryReadsBack : Obligations.MemoryReadsBack :=
  ⟨⟨State.setByte_byte_self, fun s _ _ b h => s.setByte_byte_ne b h,
      fun s _ _ _ => ⟨s.zeroRange_byte_of_inside, s.zeroRange_byte_of_outside⟩⟩,
    fun s a n v => ⟨s.readNat_writeNat_self a n v, fun _ => s.writeNat_byte_of_outside v⟩⟩

end Sys2Proof.Machine
end

section
/-! PROOFS. Free shared resources (R51, R55): the grant of a unit, of its own number or of the timer pool. -/

namespace Sys2Proof.Machine

/-! ### The grant of a unit -/

/-- How a unit is held from its grant on. -/
theorem State.grantUnit_holder (s : State) (u : Nat) (a : Asker) (level : Nat) :
    ((s.grantUnit u a level).resUnit u).holder
      = some { asker := a, level := level, order := s.resOrder, stamp := s.stamp, wasFree := (s.resUnit u).holder.isNone } := by
  have hself : ∀ x, (({ s.setResUnit u x with resOrder := s.resOrder + 1 } : State).resUnit u) = x := s.setResUnit_resUnit_self u
  rw [State.grantUnit, hself]

theorem State.grantUnit_frame (s : State) (u : Nat) (a : Asker) (level : Nat) :
    s.grantUnit u a level = { s with res := (s.grantUnit u a level).res, resOrder := (s.grantUnit u a level).resOrder } := rfl

/-! ### Requests -/

theorem State.requestUnit_free (s : State) {u : Nat} (a : Asker) (level : Nat) (free : (s.resUnit u).holder = none) :
    s.requestUnit u a level = (s.grantUnit u a level, 0) := by
  unfold State.requestUnit
  rw [free]

/-- While a timer of the pool is free, a request takes a free one (R55). -/
theorem State.requestTimer_free (s : State) (a : Asker) (level : Nat) (free : ∃ n ∈ timerUnits, (s.resUnit n).holder = none) :
    ∃ n, (s.resUnit n).holder = none ∧ s.requestTimer a level = (s.grantUnit n a level, some n, 0) := by
  obtain ⟨n, hn⟩ : ∃ n, timerUnits.find? (fun u => (s.resUnit u).holder = none) = some n :=
    Option.isSome_iff_exists.mp (by simpa only [List.find?_isSome, decide_eq_true_eq] using free)
  refine ⟨n, by simpa only [decide_eq_true_eq] using List.find?_some hn, ?_⟩
  unfold State.requestTimer
  rw [hn]

/-! ### O53 -/

/-- Settles O53: both requests come down to the grant of a free unit. -/
theorem freeUnitsAreGranted : Obligations.FreeUnitsAreGranted := by
  refine ⟨fun n level a s free => ?_, fun level a s free => ?_⟩
  · exact ⟨_, _, s.requestUnit_free a level free, s.grantUnit_holder n a level, rfl, rfl, rfl, s.grantUnit_frame n a level⟩
  · obtain ⟨n, hfree, hgrant⟩ := s.requestTimer_free a level free
    exact ⟨_, n, _, hgrant, hfree, s.grantUnit_holder n a level, rfl, rfl, rfl, s.grantUnit_frame n a level⟩

end Sys2Proof.Machine
end

section
/-! PROOFS. Hauls that succeed (R147, R150, R224, R282): local ones complete with the effect of their descriptor, remote ones send their
messages and await the acknowledgement. -/

namespace Sys2Proof.Machine

/-! ### The command that runs on an engine -/

/-- A command of the engine that runs, awaits nothing and has not failed takes its effect. -/
theorem State.onRun_runs {s : State} {e : Nat} {r : Run} (h : s.runs e r) {p : Cmd → Bool} (hp : p r.cmd = true)
    (f : State → Run → State) : s.onRun e p f = f s r := by
  obtain ⟨hup, hrun, hlive, hawait, hfailed⟩ := h
  have hacts : (p r.cmd && s.engineLive e && r.await == .none) = true := by rw [hp, hlive, hawait]; rfl
  rw [State.onRun, State.whenUp_up _ hup, hrun]
  dsimp only
  rw [if_pos hacts, hfailed]

/-- The guard of R150: a sticker operation whose turn it is does not wait, and a plain haul never does. -/
theorem State.not_waits {s : State} {e op : Nat} {r : Run} (h : op ≠ 0 → s.stickBefore e r = false) :
    ¬ (op != 0 && s.stickBefore e r) = true := by
  rw [Bool.and_eq_true, bne_iff_ne]
  exact fun ⟨hop, hbefore⟩ => Bool.false_ne_true ((h hop).symm.trans hbefore)

/-! ### Local hauls -/

/-- A local haul whose turn it is ends with the state and the code of its descriptor. -/
theorem State.localHaul_runs {s : State} {e op : Nat} {diag : Option Diag} {r : Run} {o : HaulOut} (h : s.haulRuns e op diag r o) :
    s.localHaul e op diag = o.state.endWith e r o.code := by
  obtain ⟨hruns, hopcode, hlocal, hop, hturn, rfl⟩ := h
  have hp : (r.cmd.opcode == 0x30 && haulOp r.cmd == op && !isRemote e r.cmd) = true := by simp [hopcode, hop, hlocal]
  rw [State.localHaul, State.onRun_runs hruns hp, if_neg (State.not_waits hturn)]

/-! ### Remote hauls -/

/-- Engine `e` runs remote haul `r`, whose turn it is (R150), to a device that its rafters reach; `o` is what its descriptor gives, without
a failure, and its messages have room in the window (R284). -/
structure State.RemoteRuns (s : State) (e : Nat) (r : Run) (o : HaulOut) : Prop where
  runs : s.runs e r
  opcode : r.cmd.opcode = 0x30
  remote : isRemote e r.cmd = true
  turn : haulOp r.cmd ≠ 0 → s.stickBefore e r = false
  peer : s.inPeerReset (remoteWord r.cmd).device = false
  links : (s.upLinks (remoteWord r.cmd).device).isEmpty = false
  out : o = s.haulDesc (e / 4) r.ctx (remoteDesc (haulDescOf r.cmd))
    ((remoteDesc (haulDescOf r.cmd)).keyed r.defGrain r.defOther) true none
  code : o.code = 0
  room : s.unanswered (remoteWord r.cmd).device + max 1 (remoteMessages o.out).length ≤ 4096

/-- The messages `l` of remote haul `r` leave: the state, and the messages as they were sent (R282). -/
def State.remoteSend (s : State) (r : Run) (l : Sink) : State × List (FabHdr × List Byte) :=
  s.sendCommand (remoteWord r.cmd).device (if l.isEmpty then 0x03 else 0x01) (s.haulMessages (remoteWord r.cmd) r l)

/-- Remote haul `r` once `n` messages of it, `out`, have left over the rafters, the first of them under number `first`: it awaits their
acknowledgement from the stamp on (R291). -/
def Run.awaitAck (r : Run) (first n : Nat) (out : List (FabHdr × List Byte)) (stamp : Nat) : Run :=
  let w := remoteWord r.cmd
  { r with out := out, purlin := false, waitFrom := stamp, await := .ack w.device w.roleEpoch w.ctx w.ctxEpoch first n stamp 0 }

/-- Such a haul sends its messages and awaits their acknowledgement on its engine. -/
theorem exec_remoteHaul_sends {dt e : Nat} {s : State} {r : Run} {o : HaulOut} (h : (s.elapse dt).RemoteRuns e r o) :
    let l := remoteMessages o.out
    let a := o.state.remoteSend r l
    let first := Assoc.get 0 o.state.fab.txSeq (remoteWord r.cmd).device
    exec (.remoteHaul dt e none) s = .next (a.1.setEngine e { a.1.engine e with
      running := some (r.awaitAck first (max 1 l.length) a.2 a.1.stamp), progress := a.1.stamp }) := by
  have hp : (r.cmd.opcode == 0x30 && isRemote e r.cmd) = true := by simp [h.opcode, h.remote]
  have hpath : ¬ (((s.elapse dt).upLinks (remoteWord r.cmd).device).isEmpty && (s.elapse dt).upPorts.isEmpty) = true := by simp [h.links]
  have hok : ¬ (o.code != 0 && o.code != 0x0208) = true := by simp [h.code]
  obtain ⟨_, _, _, _, hfailed⟩ := h.runs
  refine congrArg Host.Outcome.next ((State.onRun_runs h.runs hp _).trans ?_)
  dsimp only
  rw [← h.out, if_neg (State.not_waits h.turn), if_neg (by simp [h.peer]), if_neg hpath, if_neg hok, if_neg h.room.not_gt,
    if_pos h.code, h.links, ← hfailed]
  rfl

/-! ### O12 -/

/-- Settles O12: a local haul is its descriptor and the end of its run, a remote one the sending of its messages. -/
theorem haulsComplete : Obligations.HaulsComplete := by
  refine ⟨?_, ?_⟩
  · rintro dt e diag s _ r o rfl hcode
    have hends (op : Nat) (h : (s.elapse dt).haulRuns e op diag r o) :
        (.next ((s.elapse dt).localHaul e op diag) : Host.Outcome State Fault Refusal) = .next (o.state.endWith e r 0) := by
      rw [State.localHaul_runs h, hcode]
    exact ⟨hends 0, hends 1, hends 2, hends 3, hends 4, hends 5⟩
  · rintro dt e s _ r _ _ o _ rfl hruns hopcode hremote hturn rfl rfl hpeer hlinks hout hcode rfl hroom
    have h : (s.elapse dt).RemoteRuns e r o := ⟨hruns, hopcode, hremote, hturn, hpeer, hlinks, hout, hcode, hroom⟩
    exact ⟨_, exec_remoteHaul_sends h, rfl, rfl, congrArg Engine.running (State.setEngine_engine_self _ _ _)⟩

end Sys2Proof.Machine
end

section
/-! PROOFS. The tensor engine (R95 to R108, R116 to R124): a product leaves its words in its slots and nothing in memory, and an epilogue
writes its emission and its record. -/

namespace Sys2Proof.Machine

/-! ### Memory and the runs of the engines -/

/-- Memory and the engines' runs: what counting, signalling and serving a read leave as they are. -/
def State.work (s : State) : List Host.Cell × Sparse Engine := (s.mem, s.engines)

theorem State.mem_of_work {s t : State} (h : t.work = s.work) : t.mem = s.mem := congrArg Prod.fst h

theorem State.engine_of_work {s t : State} (h : t.work = s.work) (e : Nat) : t.engine e = s.engine e :=
  congrArg (fun w : List Host.Cell × Sparse Engine => Assoc.get Engine.idle w.2 e) h

/-- What every step of a fold leaves, the fold leaves. -/
theorem State.foldl_work {α : Type} {f : State → α → State} (hf : ∀ s x, (f s x).work = s.work) (l : List α) (s : State) :
    (l.foldl f s).work = s.work :=
  List.foldlRecOn l f (motive := fun t => t.work = s.work) rfl fun t ht x _ => (hf t x).trans ht

/-! ### Signals and counters -/

theorem State.SignalsTo.work {s t : State} (h : s.SignalsTo t) : t.work = s.work := by
  unfold State.SignalsTo at h
  rw [h]
  rfl

@[simp] theorem State.startWake_work (s : State) : s.startWake.work = s.work := by
  unfold State.startWake
  split
  · rfl
  · split
    · rfl
    · rfl

/-- A signal leaves them in every power state, also where it starts a warm reset (R441, R533). -/
@[simp] theorem State.signal_work (s : State) (n : Nat) (c : Option Nat) : (s.signal n c).work = s.work := by
  have hsend (t : State) (n : Nat) (c : Option Nat) : ((t.latchSignal n c).forwardSignal n c).1.work = t.work :=
    ((t.signalFrame_latchSignal n c).trans (State.signalFrame_forwardSignal _ n c)).signalsTo.work
  unfold State.signal
  simp only [apply_ite State.work, State.startWake_work, hsend, ite_self]

@[simp] theorem State.addCounter_work (s : State) (u k n : Nat) : (s.addCounter u k n).work = s.work := by
  unfold State.addCounter
  generalize 2 = f
  induction f generalizing s k n with
  | zero => rfl
  | succ f ih =>
    have hset (v : Nat) : (s.setPerfValue u k v).work = s.work := rfl
    unfold State.addCounterBy
    dsimp only
    split
    · exact hset _
    · split
      · exact (ih _ _ _).trans (hset _)
      · split
        · exact State.signal_work _ _ _
        · rfl

@[simp] theorem State.countEvent_work (s : State) (u ev n : Nat) (c : Option Nat) : (s.countEvent u ev n c).work = s.work := by
  unfold State.countEvent State.countEventBy
  split
  · rfl
  · refine State.foldl_work (fun t k => ?_) _ s
    split
    · exact t.addCounter_work u k n
    · rfl

/-! ### Reads (R177, R183 to R186) -/

@[simp] theorem State.loftRead_work (s : State) (u : LoftUse) (a n : Nat) : (s.loftRead u a n).work = s.work := by
  unfold State.loftRead
  refine State.foldl_work (fun _ _ => ?_) _ s
  rfl

@[simp] theorem State.countLoft_work (s : State) (g : Agent) (c a n : Nat) : (s.countLoft g c a n).work = s.work := by
  unfold State.countLoft
  split
  · simp only [State.countEvent_work]
  · rfl

@[simp] theorem State.loftServe_work (s : State) (g : Agent) (c a n : Nat) : (s.loftServe g c a n).work = s.work := by
  unfold State.loftServe
  dsimp only
  split
  · rfl
  · split
    · simp only [State.loftRead_work, State.countLoft_work]
    · split
      · simp only [State.loftRead_work, State.countLoft_work]
      · exact State.countEvent_work _ _ _ _ _

/-- A promotion queues a copy, in place of a colder one or not, or is refused: no byte is copied yet (R185, R186). -/
@[simp] theorem State.promote_work (s : State) (g : Agent) (p : Nat) : (s.promote g p).work = s.work := by
  have hstart (t : State) (q : Nat) : (t.startCopy p q).work = t.work := rfl
  have hrefuse : (s.refusePromotion p).work = s.work := rfl
  unfold State.promote
  split
  · exact hrefuse
  · split
    · exact hstart s _
    · split
      · split
        · exact hstart _ _
        · exact hrefuse
      · exact hrefuse

@[simp] theorem State.heatPage_work (s : State) (g : Agent) (p n : Nat) : (s.heatPage g p n).work = s.work := by
  unfold State.heatPage
  dsimp only
  split
  · rfl
  · split
    · exact State.promote_work _ _ _
    · rfl

@[simp] theorem State.heatRead_work (s : State) (g : Agent) (c a n : Nat) : (s.heatRead g c a n).work = s.work := by
  unfold State.heatRead
  split
  · rfl
  · refine State.foldl_work (fun t x => ?_) _ s
    dsimp only
    split
    · exact (State.heatPage_work _ _ _ _).trans (t.loftServe_work g c x.1 x.2)
    · exact t.loftServe_work g c x.1 x.2

@[simp] theorem State.heatAll_work (s : State) (g : Agent) (c : Nat) (l : List (Nat × Nat)) : (s.heatAll g c l).work = s.work := by
  unfold State.heatAll
  exact State.foldl_work (fun t x => t.heatRead_work g c x.1 x.2) l s

/-! ### The contraction -/

@[simp] theorem State.countTile_work (s : State) (b c : Nat) (t : TensorCmd) : (s.countTile b c t).work = s.work := by
  unfold State.countTile
  simp only [State.countEvent_work]

/-- Command `t` of context `c` contracted on bay `b`: its operands read, its stationary tiles and its renormalisations counted. -/
def State.contracted (s : State) (b c : Nat) (t : TensorCmd) : State :=
  ((s.heatAll (.bay b) c t.reads).countTile b c t).bumpBy 0x2121 6 (s.computeTile c t).renorms

/-- A contraction writes nothing. -/
theorem State.contracted_work (s : State) (b c : Nat) (t : TensorCmd) : (s.contracted b c t).work = s.work :=
  ((s.heatAll (.bay b) c t.reads).countTile_work b c t).trans (s.heatAll_work (.bay b) c t.reads)

/-- Run `r` with its tile in slots `k`. -/
def Run.holding (r : Run) (tile : Tile) (k : Nat) : Run := { r with tile := some tile, slots := k }

/-- The engine after the contraction of run `r` into slots `k`: slots that it takes now alternate (R105). -/
def Engine.contracted (g : Engine) (r : Run) (tile : Tile) (k stamp : Nat) : Engine :=
  { g.took (if r.slots = 0 then k else 0) with running := some (r.holding tile k), progress := stamp }

/-- The slots of run `r`'s tile, where the engine has them: those that it holds, else free ones for its rows (R105). -/
def Engine.slotsOf (g : Engine) (r : Run) : Option Nat :=
  if r.slots != 0 then some r.slots else g.slotsFor (if (decodeTensor r.cmd.body).1.rows ≤ 768 then 1 else 2) r

/-- An engine that runs a command runs no ballast (R450). -/
theorem State.ballastOn_of_runs {s : State} {e : Nat} {r : Run} (h : s.runs e r) : s.ballastOn e = false := by
  obtain ⟨_, hrun, _⟩ := h
  simp [State.ballastOn, hrun]

/-- A product without error that has its slots contracts into them and passes its tile on where it can (R122). -/
theorem exec_tensorProduct_contracts {dt e k : Nat} {s : State} {r : Run} (h : (s.elapse dt).runs e r) (hop : r.cmd.opcode = 0x10)
    (hnew : r.tile = none) (hcode : (s.elapse dt).tensorCode (e / 4) r.ctx (decodeTensor r.cmd.body).1 = 0)
    (hslots : ((s.elapse dt).engine e).slotsOf r = some k) :
    let t := (decodeTensor r.cmd.body).1
    let v := (s.elapse dt).contracted (e / 4) r.ctx t
    exec (.tensorProduct dt e none) s
      = .next (v.setEngine e ((v.engine e).contracted r ((s.elapse dt).computeTile r.ctx t) k v.stamp).passOn) := by
  have hidle : ¬ (s.elapse dt).ballastOn e = true := by simp [State.ballastOn_of_runs h]
  have hp : (r.cmd.opcode == 0x10) = true := by simp [hop]
  refine congrArg Host.Outcome.next ((if_neg hidle).trans ((State.onRun_runs h hp _).trans ?_))
  rw [if_neg (by simp [hnew])]
  dsimp only
  rw [Engine.slotsOf] at hslots
  rw [hcode, hslots]
  rfl

/-! ### Passing the tile on (R105, R128) -/

theorem Engine.passOn_moves {g : Engine} {r : Run} (hrun : g.running = some r) (htile : r.tile.isSome = true)
    (hrows : (decodeTensor r.cmd.body).1.rows ≤ 768) (hfree : g.epilogue = none) :
    g.passOn = { g with running := none, epilogue := some r } := by
  unfold Engine.passOn
  rw [hrun]
  exact if_pos (by simp [htile, hrows, hfree])

theorem Engine.passOn_stays {g : Engine} {r : Run} (hrun : g.running = some r)
    (h : ¬ ((decodeTensor r.cmd.body).1.rows ≤ 768 ∧ g.epilogue = none)) : g.passOn = g := by
  unfold Engine.passOn
  rw [hrun]
  refine if_neg fun hmoves => h ?_
  simp only [Bool.and_eq_true, Option.isNone_iff_eq_none, decide_eq_true_eq] at hmoves
  obtain ⟨⟨_, hfree⟩, hrows⟩ := hmoves
  exact ⟨hrows, hfree⟩

/-- The contracted tile is in the epilogue where it has one slot's rows and no tile is there, else on the running command. -/
theorem Engine.contracted_passOn (g : Engine) (r : Run) (tile : Tile) (k stamp : Nat) :
    let v := (g.contracted r tile k stamp).passOn
    if (decodeTensor r.cmd.body).1.rows ≤ 768 ∧ g.epilogue = none then v.running = none ∧ v.epilogue = some (r.holding tile k)
    else v.running = some (r.holding tile k) ∧ v.epilogue = g.epilogue := by
  have hrun : (g.contracted r tile k stamp).running = some (r.holding tile k) := rfl
  dsimp only
  split
  case isTrue hmoves =>
    obtain ⟨hrows, hfree⟩ := hmoves
    rw [Engine.passOn_moves hrun rfl hrows hfree]
    exact ⟨rfl, rfl⟩
  case isFalse hstays =>
    rw [Engine.passOn_stays hrun hstays]
    exact ⟨rfl, rfl⟩

/-! ### O10 -/

/-- Settles O10: the contraction leaves memory and the engines, and its tile goes where Engine.passOn puts it. -/
theorem tensorProductCompletes : Obligations.TensorProductCompletes := by
  rintro dt e k s _ r _ rfl hruns hop hnew rfl hcode hslots
  have hwork := (s.elapse dt).contracted_work (e / 4) r.ctx (decodeTensor r.cmd.body).1
  refine ⟨_, exec_tensorProduct_contracts hruns hop hnew hcode hslots, ?_, ?_⟩
  · rw [State.setEngine_engine_self, State.engine_of_work hwork]
    exact Engine.contracted_passOn _ r _ k _
  · exact (State.setEngine_mem _ _ _).trans (State.mem_of_work hwork)

/-! ### The epilogue -/

@[simp] theorem State.bumpBy_sharedBlock (s : State) (i k n c : Nat) (t : TensorCmd) :
    (s.bumpBy i k n).sharedBlock c t = s.sharedBlock c t := rfl

@[simp] theorem State.countPlaner_sharedBlock (s : State) (p : PCount) (c : Nat) (t : TensorCmd) :
    (s.countPlaner p).sharedBlock c t = s.sharedBlock c t := by
  unfold State.countPlaner
  simp only [apply_ite (State.sharedBlock · c t), State.bumpBy_sharedBlock, ite_self]

/-! ### O11 -/

/-- Settles O11: without a predicted scale there is one emission, and without a shared block its bytes are the ones written. -/
theorem tileEpilogueCompletes : Obligations.TileEpilogueCompletes := by
  rintro dt e s _ r tile _ keyed o rfl hup hlive hrun htile rfl hpred hshared hfault rfl rfl
  refine congrArg Host.Outcome.next ((State.whenUp_up _ hup).trans ?_)
  simp only [hrun, htile, hlive, Bool.not_true, Bool.false_eq_true, if_false]
  -- one emission, and no recomputation (R120, R121)
  simp only [hpred, Bool.false_eq_true, if_false, Option.isSome_none, Bool.false_and]
  -- its outputs may still be written (R123)
  simp only [hfault, bne_self_eq_false, Bool.false_eq_true, if_false]
  -- the counts of the emission leave the tensors that decide on shared blocks (R118)
  simp only [State.countPlaner_sharedBlock, State.bumpBy_sharedBlock, hshared, Bool.or_false, Bool.false_eq_true, if_false]

end Sys2Proof.Machine
end

section
/-! PROOFS. The sticker stack (R144, R147): where a push and a pop leave the segment that they act on. -/

namespace Sys2Proof.Machine

/-! ### Segments -/

@[simp] theorem Ctx.setSegment_segment_self (x : Ctx) (lane bay : Nat) (y : Segment) : (x.setSegment lane bay y).segment lane bay = y :=
  Assoc.get_set_self _ _ _ _

@[simp] theorem State.bump_ctx (s : State) (i k c : Nat) : (s.bump i k).ctx c = s.ctx c := rfl

@[simp] theorem State.setCnt_ctx (s : State) (i k n c : Nat) : (s.setCnt i k n).ctx c = s.ctx c := rfl

@[simp] theorem State.modCtx_ctx_self (s : State) (c : Nat) (f : Ctx → Ctx) : (s.modCtx c f).ctx c = f (s.ctx c) :=
  s.setCtx_ctx_self c _

/-- The top is settled under the cursor that the segment has. -/
@[simp] theorem State.settle_cursor (s : State) (c lane bay : Nat) :
    (((s.settle c lane bay).ctx c).segment lane bay).cursor = ((s.ctx c).segment lane bay).cursor := by
  unfold State.settle
  rw [State.setCtx_ctx_self, Ctx.setSegment_segment_self]

/-! ### What succeeds -/

/-- The place that a push gives its stick: at the segment's top, under a new top. -/
def State.pushedSegment (s : State) (b c : Nat) (d : Desc) (w : StickWord) : Segment :=
  let top := ((s.ctx c).segment w.lane b).top
  { cursor := some top, top := top + stickNeed (d.stickLen d.conv.dst) }

/-- A push that succeeds has passed its checks and moved its payload: what is left is to set the segment and to count. -/
theorem State.stickPush_ctx {s : State} {b c : Nat} {d : Desc} {w : StickWord} {keyed : Bool} {diag : Option Diag}
    (h : (s.stickPush b c d w keyed diag).2 = 0) :
    ∃ x : Ctx, (s.stickPush b c d w keyed diag).1.ctx c = x.setSegment w.lane b (s.pushedSegment b c d w) := by
  unfold State.stickPush at h ⊢
  dsimp only at h ⊢
  split at h
  case isTrue => exact absurd h (Nat.succ_ne_zero _)
  next hfits =>
  rw [if_neg hfits]
  split at h
  case isTrue hcode => exact absurd h (bne_iff_ne.mp hcode)
  next hpayload =>
  rw [if_neg hpayload]
  split at h
  case isTrue hcode => exact absurd h (bne_iff_ne.mp hcode)
  next hheader =>
  rw [if_neg hheader]
  split at h
  case isTrue hcode => exact absurd h (bne_iff_ne.mp hcode)
  next hmoved =>
  rw [if_neg hmoved]
  dsimp only
  rw [apply_ite (State.ctx · c), State.setCnt_ctx, ite_self, State.bump_ctx, State.modCtx_ctx_self]
  exact ⟨_, rfl⟩

/-- A pop that succeeds has passed its checks and moved its payload, and holds its stick or not: what is left is to move the cursor, to
settle the top and to count. -/
theorem State.stickPop_state {s : State} {b c k : Nat} {d : Desc} {w : StickWord} {hold keyed remote : Bool} {diag : Option Diag}
    (hk : ((s.ctx c).segment w.lane b).cursor = some k) (h : (s.stickPop b c d w hold keyed remote diag).code = 0) :
    let back := (s.stickHdr c w.lane b k).back
    ∃ v : State, (s.stickPop b c d w hold keyed remote diag).state
      = ((v.modCtx c (fun x => x.setSegment w.lane b
          { cursor := if back = 0 then none else some (k - back * 256), top := ((s.ctx c).segment w.lane b).top })).settle c w.lane b).bump
            0x2201 2 := by
  unfold State.stickPop at h ⊢
  dsimp only at h ⊢
  rw [hk] at h ⊢
  dsimp only at h ⊢
  split at h
  case isTrue => exact absurd h (Nat.succ_ne_zero _)
  next hroom =>
  rw [if_neg hroom]
  split at h
  case isTrue hcode => exact absurd h (bne_iff_ne.mp hcode)
  next hchecks =>
  rw [if_neg hchecks]
  split at h
  case isTrue hcode => exact absurd h (bne_iff_ne.mp hcode)
  next hmoved =>
  rw [if_neg hmoved]
  exact ⟨_, rfl⟩

/-! ### O13 -/

/-- Settles O13: nothing after the segment is set touches its cursor, and after a push nothing touches its top. -/
theorem stickOperationsMoveTheCursor : Obligations.StickOperationsMoveTheCursor := by
  refine ⟨fun s t b c d w keyed diag h => ?_, fun s b c k d w hold keyed remote diag hk h => ?_⟩
  · obtain ⟨x, hx⟩ := State.stickPush_ctx (congrArg Prod.snd h)
    rw [h] at hx
    rw [hx, Ctx.setSegment_segment_self]
    rfl
  · obtain ⟨v, hv⟩ := State.stickPop_state hk h
    rw [hv, State.bump_ctx, State.settle_cursor, State.modCtx_ctx_self, Ctx.setSegment_segment_self]

end Sys2Proof.Machine
end

section
/-! PROOFS. The vector engine (R137 to R142): row commands and the FP32 add, without a checker's finding. -/

namespace Sys2Proof.Machine

/-- A row command whose accesses are allowed and whose checkers find nothing is done. -/
theorem State.rowCommand_done {s : State} {e op : Nat} {r : Run} (h : s.runs e r) (hop : r.cmd.opcode = op)
    (hfault : let t := decodeRow r.cmd.body
      s.firstFault (.bay (e / 4)) r.ctx ((t.reads op).map rd ++ (t.writes op).map wr) = 0) :
    let t := decodeRow r.cmd.body
    s.rowCommand e op none = s.rowsDone e op r t ((if t.rounding = 2 then r.defOther else t.rounding) == 1) := by
  have hp : isOp op r.cmd = true := by simp [isOp, hop]
  refine (State.onRun_runs h hp _).trans ?_
  dsimp only at hfault ⊢
  rw [hfault]
  rfl

/-- An FP32 add whose accesses are allowed and whose checkers find nothing is done. -/
theorem exec_fp32Add_done {dt e src dst n : Nat} {s : State} {r : Run} (h : (s.elapse dt).runs e r) (hop : r.cmd.opcode = 0x28)
    (hfields : addFields r.cmd.body = (src, dst, n))
    (hfault : (s.elapse dt).firstFault (.bay (e / 4)) r.ctx [rd (src, 4 * n), rd (dst, 4 * n), wr (dst, 4 * n)] = 0) :
    exec (.fp32Add dt e none) s = .next ((s.elapse dt).addDone e r src dst n) := by
  have hp : isOp 0x28 r.cmd = true := by simp [isOp, hop]
  refine congrArg Host.Outcome.next ((State.onRun_runs h hp _).trans ?_)
  rw [hfields]
  dsimp only
  rw [if_neg fun hne => bne_iff_ne.mp hne hfault]
  rfl

/-! ### O9 -/

/-- Settles O9: the six row commands are one meaning under six opcodes. -/
theorem rowCommandsComplete : Obligations.RowCommandsComplete := by
  refine ⟨?_, ?_⟩
  · rintro dt e s _ r _ _ rfl hruns rfl hfault rfl
    have hdone (op : Nat) (hop : r.cmd.opcode = op) :
        (.next ((s.elapse dt).rowCommand e op none) : Host.Outcome State Fault Refusal)
          = .next ((s.elapse dt).rowsDone e op r (decodeRow r.cmd.body) _) :=
      congrArg Host.Outcome.next (State.rowCommand_done hruns hop (hop ▸ hfault))
    exact ⟨hdone 0x20, hdone 0x21, hdone 0x22, hdone 0x23, hdone 0x24, hdone 0x25⟩
  · rintro dt e src dst n s _ r rfl hruns hop hfields hfault
    exact exec_fp32Add_done hruns hop hfields hfault

end Sys2Proof.Machine
end

section
/-! PROOFS. The update engine (R154 to R161): an update whose seal stands, unclipped and without a checker's finding, writes or skips. -/

namespace Sys2Proof.Machine

/-- Update `r` may run on engine `e` (R154, R321): its block may be read and is aligned, its tensors `t` are in the table, and the seal of
its step stands. -/
structure State.UpdateRuns (s : State) (e : Nat) (r : Run) (t : Tensor × Tensor × Option Tensor × Option Tensor) : Prop where
  runs : s.runs e r
  opcode : r.cmd.opcode = 0x40
  access : s.accessCode (engineAgent e) r.ctx (recipeAddr r.cmd) 64 false = 0
  aligned : recipeAddr r.cmd % 64 = 0
  tensors : (s.ctx r.ctx).updTensors (recipeOf r.block) = some t
  sealed : (s.ctx r.ctx).sealed = true
  sealCode : (s.ctx r.ctx).sealCode = 0

/-- Such an update goes by its recipe. -/
theorem exec_update_runs {dt e : Nat} {s : State} {r : Run} {t : Tensor × Tensor × Option Tensor × Option Tensor} {diag : Option Diag}
    (h : (s.elapse dt).UpdateRuns e r t) :
    exec (.update dt e diag) s = .next ((s.elapse dt).runUpdate e r (recipeOf r.block) t diag) := by
  have hp : isOp 0x40 r.cmd = true := by simp [isOp, h.opcode]
  refine congrArg Host.Outcome.next ((State.onRun_runs h.runs hp _).trans ?_)
  have hreads : ¬ ((s.elapse dt).accessCode (engineAgent e) r.ctx (recipeAddr r.cmd) 64 false != 0) = true := by simp [h.access]
  have haligned : ¬ (recipeAddr r.cmd % 64 != 0) = true := by simp [h.aligned]
  have hstands : ¬ (((s.elapse dt).ctx r.ctx).sealCode != 0) = true := by simp [h.sealCode]
  dsimp only
  rw [if_neg hreads, if_neg haligned, h.tensors]
  dsimp only
  rw [if_pos h.sealed, if_neg hstands]

/-- In a step with non-finite elements, where object 0x2202.01 is 1, an update writes its note alone (R159). -/
theorem State.runUpdate_skips {s : State} {e : Nat} {r : Run} {q : Recipe} {t : Tensor × Tensor × Option Tensor × Option Tensor}
    (hclip : flt (clipFactor q.clipNorm (s.ctx r.ctx).gn) f32One = false) (hnonfinite : (s.ctx r.ctx).nonfinite ≠ 0)
    (hskip : s.num 0x2202 1 = 1) (hcounted : (s.ctx r.ctx).skipCounted = true) :
    s.runUpdate e r q t none = (s.updNote e r.ctx (recipeAddr r.cmd) q 0 0 false true).endUpdate e r 0 := by
  have hskips : ((s.ctx r.ctx).nonfinite != 0 && s.num 0x2202 1 == 1) = true := by simp [hnonfinite, hskip]
  unfold State.runUpdate
  dsimp only
  rw [if_pos hskips, if_pos hcounted, hclip]

/-- The effect of an update of tensors `t` that is not clipped: plan, recipe block, counts and note (R157, R160). -/
def State.updated (s : State) (e : Nat) (r : Run) (q : Recipe) (t : Tensor × Tensor × Option Tensor × Option Tensor) (cf : Nat) : State :=
  let p := s.updPlan r.ctx (e - 256) q t.1 t.2.1 t.2.2.1 t.2.2.2 cf
  let n := p.counts.add q.advanced.2
  let a := s.heatAll (.update (e - 256)) r.ctx (s.updRanges r.ctx (e - 256) q t.1 t.2.1 t.2.2.1 t.2.2.2).1
  let x := (a.writeAll r.ctx p.writes).putBytes r.ctx (recipeAddr r.cmd + 52) q.advanced.1
  let y := (x.bumpBy 0x2203 4 n.flush).bumpBy 0x2203 5 n.sat
  let z := if n.nan = 0 then y else y.bumpBy 0x2111 2 n.nan
  (z.countEvent (64 + (e - 256)) 0x0104 (z.elemsIn r.ctx t.1 (e - 256)).length (some r.ctx)).updNote e r.ctx (recipeAddr r.cmd) q p.su p.sw
    false false

/-- In a step without non-finite elements, an update whose accesses are allowed takes its effect and completes. -/
theorem State.runUpdate_writes {s : State} {e : Nat} {r : Run} {q : Recipe} {t : Tensor × Tensor × Option Tensor × Option Tensor}
    (hclip : flt (clipFactor q.clipNorm (s.ctx r.ctx).gn) f32One = false) (hfinite : (s.ctx r.ctx).nonfinite = 0)
    (hfault : let l := s.updRanges r.ctx (e - 256) q t.1 t.2.1 t.2.2.1 t.2.2.2
      s.firstFault (.update (e - 256)) r.ctx (l.1.map rd ++ l.2.map wr ++ [wr (recipeAddr r.cmd, 64)]) = 0) :
    s.runUpdate e r q t none = (s.updated e r q t (clipFactor q.clipNorm (s.ctx r.ctx).gn)).endUpdate e r 0 := by
  have hgoes : ¬ ((s.ctx r.ctx).nonfinite != 0 && s.num 0x2202 1 == 1) = true := by simp [hfinite]
  unfold State.runUpdate
  dsimp only at hfault ⊢
  rw [if_neg hgoes, if_neg fun hne => bne_iff_ne.mp hne hfault, hclip]
  simp only [Bool.false_and, Bool.false_eq_true, if_false]
  rfl

/-! ### O14 -/

/-- Settles O14: the checks passed, the update goes by its recipe, which writes or skips as the step's gradients were finite. -/
theorem updateCompletes : Obligations.UpdateCompletes := by
  rintro dt e s _ r _ w g m v _ rfl hruns hop haccess haligned rfl htensors hsealed hcode rfl hclip
  have h : (s.elapse dt).UpdateRuns e r (w, g, m, v) := ⟨hruns, hop, haccess, haligned, htensors, hsealed, hcode⟩
  refine ⟨fun hfinite hfault => ?_, fun hnonfinite hskip hcounted => ?_⟩
  · exact (exec_update_runs h).trans (congrArg Host.Outcome.next (State.runUpdate_writes hclip hfinite hfault))
  · exact (exec_update_runs h).trans (congrArg Host.Outcome.next (State.runUpdate_skips hclip hnonfinite hskip hcounted))

end Sys2Proof.Machine
end

section
/-! PROOFS. Heat and the copy pools (R183 to R187, R199, R201): what dropping copies leaves, the halving of heat, the bound of a pool, and
the switch of transparent copies. -/

namespace Sys2Proof.Machine

/-! ### Dropping copies (R187) -/

/-- What no step of a fold changes, the fold does not change. -/
theorem State.foldl_keeps {α β : Type} (π : State → β) {f : State → α → State} (hf : ∀ s x, π (f s x) = π s) (l : List α) (s : State) :
    π (l.foldl f s) = π s :=
  List.foldlRecOn l f (motive := fun t => π t = π s) rfl fun t ht x _ => (hf t x).trans ht

/-- One drop of a rule, counted as a demotion or not. -/
def State.dropOne (counted : Bool) (s : State) (x : Copy) : State :=
  if counted then (s.dropCopy x.sill).bump 0x3010 0x0A else s.dropCopy x.sill

theorem State.dropCopies_eq (s : State) (p : Copy → Bool) (counted : Bool) :
    s.dropCopies p counted = (s.copies.filter p).foldl (State.dropOne counted) s := rfl

theorem State.dropOne_copies (counted : Bool) (s : State) (x : Copy) :
    (s.dropOne counted x).copies = s.copies.filter (fun y => y.sill != x.sill) := by
  cases counted <;> rfl

/-- A copy that stands after drops stood before them, and none of the drops was of its sill page. -/
theorem State.mem_copies_of_drops {counted : Bool} {l : List Copy} {s : State} {x : Copy}
    (h : x ∈ (l.foldl (State.dropOne counted) s).copies) : x ∈ s.copies ∧ ∀ y ∈ l, x.sill ≠ y.sill := by
  induction l generalizing s with
  | nil => exact ⟨h, by simp⟩
  | cons y l ih =>
    obtain ⟨hx, hl⟩ := ih h
    rw [State.dropOne_copies, List.mem_filter, bne_iff_ne] at hx
    exact ⟨hx.1, List.forall_mem_cons.mpr ⟨hx.2, hl⟩⟩

/-- No copy that the rule picks stands after it. -/
theorem State.mem_copies_of_dropCopies {s : State} {p : Copy → Bool} {counted : Bool} {x : Copy}
    (h : x ∈ (s.dropCopies p counted).copies) : x ∈ s.copies ∧ p x = false := by
  obtain ⟨hx, hdropped⟩ := State.mem_copies_of_drops h
  refine ⟨hx, Bool.eq_false_iff.mpr fun hp => ?_⟩
  exact hdropped x (List.mem_filter.mpr ⟨hx, hp⟩) rfl

/-- A rule that drops copies leaves memory and the sill pages. -/
theorem State.dropCopies_mem_sill (s : State) (p : Copy → Bool) (counted : Bool) :
    ((s.dropCopies p counted).mem, (s.dropCopies p counted).sill) = (s.mem, s.sill) :=
  State.foldl_keeps (fun t => (t.mem, t.sill)) (fun _ _ => by cases counted <;> rfl) _ s

/-- Drops that are not counted leave every object. -/
theorem State.dropCopies_objs (s : State) (p : Copy → Bool) : (s.dropCopies p false).objs = s.objs :=
  State.foldl_keeps (f := State.dropOne false) State.objs (fun _ _ => rfl) _ s

theorem State.num_of_objs {s t : State} (h : t.objs = s.objs) (i k : Nat) : t.num i k = s.num i k := by
  rw [State.num, State.num, State.obj, State.obj, h]

/-! ### The halving of heat (R183, R187) -/

/-- Every sill page with its heat halved. -/
def State.halved (s : State) : State :=
  { s with sill := Assoc.mapVals SillPage.free (fun _ p => p.halve (s.num 0x3003 2)) s.sill }

/-- A copy falls below the demotion threshold. -/
def State.demotes (s : State) (x : Copy) : Bool := x.done && decide ((s.sillPage x.sill).heat < s.num 0x3003 3)

theorem exec_heatHalving {dt : Nat} {s : State} (h : (s.elapse dt).up = true) (hms : (s.elapse dt).stamp % ms = 0) :
    exec (.heatHalving dt) s = .next ((s.elapse dt).halved.dropCopies (s.elapse dt).halved.demotes true) := by
  refine congrArg Host.Outcome.next ((State.whenUp_up _ h).trans ?_)
  rw [if_neg (by simp [hms])]
  rfl

/-! ### The pools (R184, R185, R201) -/

/-- Of some copies, one is the coldest. -/
theorem State.coldestCopy_of_ne_nil (s : State) {l : List Copy} (h : l ≠ []) : ∃ x ∈ l, s.coldestCopy l = some x := by
  obtain ⟨y, l, rfl⟩ := List.exists_cons_of_ne_nil h
  unfold State.coldestCopy
  rw [List.foldl_cons]
  refine List.foldlRecOn (motive := fun b => ∃ x ∈ y :: l, b = some x) l _ ⟨y, List.mem_cons_self, rfl⟩ fun b hb z hz => ?_
  obtain ⟨x, hx, rfl⟩ := hb
  dsimp only
  split
  · exact ⟨z, List.mem_cons_of_mem y hz, rfl⟩
  · exact ⟨x, hx, rfl⟩

/-- A drop of a copy in a stack's pool makes room there. -/
theorem State.poolUsed_dropCopy_lt {s : State} {k : Nat} {x : Copy} (h : x ∈ s.copies.filter (fun y => pageStack y.page == k)) :
    (s.dropCopy x.sill).poolUsed k < s.poolUsed k := by
  unfold State.poolUsed State.dropCopy
  dsimp only
  rw [List.filter_comm]
  exact List.length_filter_lt_length_iff_exists.mpr ⟨x, h, by simp⟩

/-- Fuel for each copy above the bound brings the pool to it. -/
theorem State.poolUsed_shrinkPool_le {f k n : Nat} {s : State} (h : s.poolUsed k ≤ n + f) : (State.shrinkPool f s k n).poolUsed k ≤ n := by
  induction f generalizing s with
  | zero => exact h
  | succ f ih =>
    unfold State.shrinkPool
    split
    · assumption
    · next hfull =>
      have hne : s.copies.filter (fun y => pageStack y.page == k) ≠ [] := by
        intro hnil
        simp [State.poolUsed, hnil] at hfull
      obtain ⟨x, hx, hcold⟩ := s.coldestCopy_of_ne_nil hne
      rw [hcold]
      have hlt := State.poolUsed_dropCopy_lt hx
      exact ih (by omega)

/-- Shrinking a pool leaves the objects and memory. -/
theorem State.shrinkPool_objs_mem (f : Nat) (s : State) (k n : Nat) :
    ((State.shrinkPool f s k n).objs, (State.shrinkPool f s k n).mem) = (s.objs, s.mem) := by
  induction f generalizing s with
  | zero => rfl
  | succ f ih =>
    unfold State.shrinkPool
    split
    · rfl
    · split
      · exact ih _
      · rfl

/-- A number in the range of its row is taken as it is. -/
theorem State.clampNum_near {s : State} {i k v : Nat} {r : ORow} (h : rowFor i k = some r) (hv : numNear r v = v) :
    s.clampNum i k v = (s, v) := by
  unfold State.clampNum
  rw [h]
  exact if_pos hv

/-- The row of the sizes of the copy pools. -/
def copyPoolRow : ORow := ⟨0x3002, 1, 16, .u16, .rwp, .num 256, .spans [(0, 1024)]⟩

theorem rowFor_copyPool : ∀ stack < 16, rowFor 0x3002 (stack + 1) = some copyPoolRow := by decide +kernel

theorem numNear_copyPool {v : Nat} (h : v ≤ 1024) : numNear copyPoolRow v = v := by
  have hlow : ¬ (v : Int) < 0 := by omega
  have hhigh : ¬ (1024 : Int) < v := by omega
  change (spanNear (v : Int) (0, 1024)).toNat = v
  rw [spanNear, if_neg hlow, if_neg hhigh, Int.toNat_natCast]

theorem exec_copyPoolWrite {dt stack v : Nat} {s : State} (h : (s.elapse dt).up = true) (hstack : stack < 16) (hv : v ≤ 1024) :
    exec (.copyPoolWrite dt stack v) s
      = .next (State.shrinkPool 1024 ((s.elapse dt).setRwp 0x3002 (stack + 1) (.num v)) stack v) := by
  refine congrArg Host.Outcome.next ((State.whenUp_up _ h).trans ?_)
  rw [if_pos hstack, State.actCopyPool, State.clampNum_near (rowFor_copyPool stack hstack) (numNear_copyPool hv)]

/-! ### The switch of transparent copies (R199) -/

/-- The row of the switch. -/
def copySwitchRow : ORow := ⟨0x3003, 1, 1, .u8, .rw, .num 1, .enum [0, 1]⟩

theorem rowFor_copySwitch : rowFor 0x3003 1 = some copySwitchRow := by decide +kernel

theorem exec_transparentCopiesWrite {dt v : Nat} {s : State} (h : (s.elapse dt).up = true) (hv : v ∈ [0, 1]) :
    let u := (s.elapse dt).setObj 0x3003 1 (.num v)
    exec (.transparentCopiesWrite dt v) s = .next (if v = 0 then u.dropCopies (fun _ => true) false else u) := by
  have hnear : numNear copySwitchRow v = v := if_pos (List.contains_iff_mem.mpr hv)
  refine congrArg Host.Outcome.next ((State.whenUp_up _ h).trans ?_)
  rw [State.actCopies, State.clampNum_near rowFor_copySwitch hnear]

/-! ### O16 -/

/-- Settles O16: a rule leaves none of the copies that it picks, and the pool's fuel covers every copy. -/
theorem heatAndCopyPool : Obligations.HeatAndCopyPool := by
  refine ⟨?_, ?_, ?_, ?_⟩
  · rintro dt s _ rfl hup hms
    have hkeeps := State.dropCopies_mem_sill (s.elapse dt).halved (s.elapse dt).halved.demotes true
    obtain ⟨hmem, hsill⟩ := Prod.mk.inj hkeeps
    refine ⟨_, exec_heatHalving hup hms, hmem, hsill, fun x hx hdone => ?_⟩
    obtain ⟨_, hwarm⟩ := State.mem_copies_of_dropCopies hx
    rw [State.demotes, hdone, Bool.true_and, decide_eq_false_iff_not, not_lt] at hwarm
    rwa [State.sillPage, hsill]
  · rintro dt stack v s _ rfl hup hstack hv hcopies
    obtain ⟨hobjs, hmem⟩ := Prod.mk.inj (State.shrinkPool_objs_mem 1024 ((s.elapse dt).setRwp 0x3002 (stack + 1) (.num v)) stack v)
    refine ⟨_, exec_copyPoolWrite hup hstack hv, ?_, ?_, hmem⟩
    · rw [State.num_of_objs hobjs]
      exact congrArg ObjVal.toNat (State.setObj_obj_self _ _ _ _)
    · have hused := (List.length_filter_le (fun x => pageStack x.page == stack) (s.elapse dt).copies).trans hcopies
      exact State.poolUsed_shrinkPool_le (hused.trans (Nat.le_add_left 1024 v))
  · rintro dt s _ rfl hup
    refine ⟨_, exec_transparentCopiesWrite hup (by simp), ?_, ?_⟩
    · refine List.eq_nil_iff_forall_not_mem.mpr fun x hx => ?_
      exact Bool.noConfusion (State.mem_copies_of_dropCopies hx).2
    · rw [if_pos rfl, State.num_of_objs (State.dropCopies_objs _ _)]
      exact congrArg ObjVal.toNat (State.setObj_obj_self _ _ _ _)
  · rintro dt s _ rfl hup
    exact ⟨_, exec_transparentCopiesWrite hup (by simp), rfl, congrArg ObjVal.toNat (State.setObj_obj_self _ _ _ _)⟩

end Sys2Proof.Machine
end

section
/-! PROOFS. The end of a copy (R186): the bytes of a range, saved and loaded elsewhere. -/

namespace Sys2Proof.Machine

/-! ### Sparse arrays by their keys -/

/-- The keys of a list in canonical form rise. -/
theorem Assoc.keys_rise {α : Type} [DecidableEq α] {d : α} {l : List (Nat × α)} (h : Assoc.wf d l = true) :
    l.Pairwise (fun a b => a.1 < b.1) := by
  have hrise : ∀ l lo, Assoc.wfFrom d lo l = true → (∀ a, lo = some a → ∀ e ∈ l, a < e.1) ∧ l.Pairwise (fun a b => a.1 < b.1) := by
    intro l
    induction l with
    | nil => exact fun _ _ => ⟨by simp, .nil⟩
    | cons e l ih =>
      intro lo w
      simp only [Assoc.wfFrom, Bool.and_eq_true] at w
      obtain ⟨⟨hlo, _⟩, hl⟩ := w
      obtain ⟨habove, hpairs⟩ := ih _ hl
      refine ⟨?_, List.pairwise_cons.mpr ⟨habove e.1 rfl, hpairs⟩⟩
      rintro a rfl
      have ha : a < e.1 := of_decide_eq_true hlo
      exact List.forall_mem_cons.mpr ⟨ha, fun x hx => ha.trans (habove e.1 rfl x hx)⟩
  exact (hrise l none h).2

/-- A key that is not listed reads as the default. -/
theorem Assoc.get_of_forall_ne {α : Type} (d : α) {l : List (Nat × α)} {k : Nat} (h : ∀ e ∈ l, k ≠ e.1) : Assoc.get d l k = d := by
  induction l with
  | nil => rfl
  | cons e l ih =>
    obtain ⟨hne, hl⟩ := List.forall_mem_cons.mp h
    exact (if_neg hne).trans (ih hl)

/-! ### Saved ranges (R212) -/

theorem State.saveRange_keys_rise {s : State} (h : Memory.wf s.mem = true) (lo hi : Nat) :
    (s.saveRange lo hi).Pairwise (fun a b => a.1 < b.1) := by
  rw [State.saveRange, List.pairwise_map, List.pairwise_filter]
  refine (Assoc.keys_rise h).imp fun hlt ha hb => ?_
  simp only [Bool.and_eq_true, decide_eq_true_eq] at ha hb
  exact Nat.sub_lt_sub_right ha.1 hlt

theorem byte_ofNat_toNat (b : Byte) : BitVec.ofNat 8 b.toNat = b := (BitVec.ofNat_toNat 8 b).trans (BitVec.setWidth_eq b)

/-- Bytes listed from `lo` on, at their offsets from it. -/
theorem get_offsets {l : List Host.Cell} {lo : Nat} (h : ∀ e ∈ l, lo ≤ e.1) (i : Nat) :
    Assoc.get 0 (l.map (fun c => (c.1 - lo, c.2.toNat))) i = (Assoc.get memDefault l (lo + i)).toNat := by
  induction l with
  | nil => rfl
  | cons e l ih =>
    obtain ⟨hle, hl⟩ := List.forall_mem_cons.mp h
    have hkey : i = e.1 - lo ↔ lo + i = e.1 := by omega
    simp only [List.map_cons, Assoc.get, hkey, ih hl, apply_ite BitVec.toNat]

theorem State.saveRange_get (s : State) {lo hi i : Nat} (h : lo + i < hi) :
    Assoc.get 0 (s.saveRange lo hi) i = (s.byte (lo + i)).toNat := by
  have hlisted : ∀ e ∈ s.mem.filter (fun c => decide (lo ≤ c.1) && decide (c.1 < hi)), lo ≤ e.1 := by
    intro e he
    have hin := (List.mem_filter.mp he).2
    simp only [Bool.and_eq_true, decide_eq_true_eq] at hin
    exact hin.1
  rw [State.saveRange, get_offsets hlisted, State.byte,
    Assoc.get_filter_key memDefault s.mem (fun k => decide (lo ≤ k) && decide (k < hi)) (lo + i), if_pos (by simp [h])]

/-! ### Loaded ranges -/

/-- A load leaves the copies and their queues. -/
theorem State.loadRange_copies (s : State) (lo : Nat) (l : Sparse Nat) :
    ((s.loadRange lo l).copies, (s.loadRange lo l).copyQueue) = (s.copies, s.copyQueue) := by
  unfold State.loadRange
  refine State.foldl_keeps (fun t => (t.copies, t.copyQueue)) (fun _ _ => ?_) l s
  rfl

/-- Under rising offsets a byte is loaded once: one that is listed as it is listed, any other stands. -/
theorem State.loadRange_byte {l : Sparse Nat} (h : l.Pairwise (fun a b => a.1 < b.1)) (s : State) (lo i : Nat) :
    (s.loadRange lo l).byte (lo + i) = BitVec.ofNat 8 (Assoc.get (s.byte (lo + i)).toNat l i) := by
  induction l generalizing s with
  | nil => exact (byte_ofNat_toNat _).symm
  | cons c l ih =>
    obtain ⟨habove, hl⟩ := List.pairwise_cons.mp h
    have hstep := ih hl (s.setByte (lo + c.1) (BitVec.ofNat 8 c.2))
    refine hstep.trans ?_
    by_cases hi : i = c.1
    · subst hi
      rw [State.setByte_byte_self, Assoc.get_of_forall_ne _ (fun e he => (habove e he).ne), Assoc.get, if_pos rfl,
        byte_ofNat_toNat]
    · rw [State.setByte_byte_ne _ _ (by omega), Assoc.get, if_neg hi]

/-! ### The copy (R186) -/

/-- A range that is saved from sound memory and loaded over zeros reads as it did where it was saved. -/
theorem State.movedRange_byte {s : State} (h : Memory.wf s.mem = true) {a b n i : Nat} (hi : i < n) :
    ((s.zeroRange b (b + n)).loadRange b (s.saveRange a (a + n))).byte (b + i) = s.byte (a + i) := by
  have hzero : (s.zeroRange b (b + n)).byte (b + i) = 0 := by
    rw [State.zeroRange_byte, if_pos (by omega)]
  rw [State.loadRange_byte (State.saveRange_keys_rise h _ _), hzero]
  exact (congrArg (BitVec.ofNat 8) (s.saveRange_get (by omega))).trans (byte_ofNat_toNat _)

/-- The front of a package's copy queue is taken. -/
def State.popCopy (s : State) (pkg : Nat) (rest : List Nat) : State :=
  { s with copyQueue := Assoc.set [] s.copyQueue pkg rest }

/-- The directory marks the entry of the sill page complete; the queues stand. -/
theorem State.installCopy_copies (s : State) (x : Copy) :
    (s.installCopy x).copies = s.copies.map (fun y => if y.sill = x.sill then { y with done := true } else y)
      ∧ (s.installCopy x).copyQueue = s.copyQueue := by
  have hload := (s.zeroRange (hbmPageAddr x.page) (hbmPageAddr x.page + pageBytes)).loadRange_copies (hbmPageAddr x.page)
    (s.saveRange (sillPageAddr x.sill) (sillPageAddr x.sill + pageBytes))
  obtain ⟨hcopies, hqueue⟩ := Prod.mk.inj hload
  exact ⟨congrArg _ hcopies, hqueue⟩

theorem exec_copyComplete {dt pkg p : Nat} {rest : List Nat} {x : Copy} {s : State} (h : (s.elapse dt).up = true)
    (hqueue : Assoc.get [] (s.elapse dt).copyQueue pkg = p :: rest) (hcopy : (s.elapse dt).copies.find? (fun y => y.sill == p) = some x) :
    exec (.copyComplete dt pkg false) s
      = .next (State.installCopy ((s.elapse dt).popCopy pkg rest) x) := by
  refine congrArg Host.Outcome.next ((State.whenUp_up _ h).trans ?_)
  rw [hqueue]
  dsimp only
  rw [hcopy]
  rfl

/-! ### O17 -/

/-- Settles O17: the pool page takes the bytes that were saved from sill, and its entry is the one marked complete. -/
theorem copyCompletes : Obligations.CopyCompletes := by
  rintro dt pkg p rest x s _ rfl ⟨hwf, _⟩ hup hqueue hcopy
  obtain ⟨hcopies, hqueues⟩ := ((s.elapse dt).popCopy pkg rest).installCopy_copies x
  refine ⟨_, exec_copyComplete hup hqueue hcopy, ?_, ?_, fun i hi => ?_⟩
  · rw [hqueues]
    exact Assoc.get_set_self _ _ _ _
  · rw [hcopies]
    exact List.mem_map.mpr ⟨x, List.mem_of_find?_eq_some hcopy, if_pos rfl⟩
  · exact State.movedRange_byte (s := (s.elapse dt).popCopy pkg rest) hwf hi

end Sys2Proof.Machine
end

section
/-! PROOFS. Prefetch entries (R189 to R191, R534): what reads for an entry leave, and what firing and completing it do to its context's step
on the bay. -/

namespace Sys2Proof.Machine

/-! ### What reads leave (R177, R183 to R186) -/

/-- A view of the state that no read of a context changes: it sees neither signals, objects and counters, nor the lofts, the heat of sill
pages and the copies. -/
structure State.ReadBlind {β : Type} (π : State → β) : Prop where
  signal : ∀ s n c, π (s.signal n c) = π s
  objs : ∀ s o, π { s with objs := o } = π s
  perf : ∀ s p, π { s with perf := p } = π s
  loft : ∀ s l, π { s with loft := l } = π s
  sill : ∀ s l, π { s with sill := l } = π s
  copies : ∀ s l q, π { s with copies := l, copyQueue := q } = π s

namespace State.ReadBlind

variable {β : Type} {π : State → β}

theorem bump (h : ReadBlind π) (s : State) (i k : Nat) : π (s.bump i k) = π s := h.objs s _

theorem addCounter (h : ReadBlind π) (s : State) (u k n : Nat) : π (s.addCounter u k n) = π s := by
  unfold State.addCounter
  generalize 2 = f
  induction f generalizing s k n with
  | zero => rfl
  | succ f ih =>
    have hset (v : Nat) : π (s.setPerfValue u k v) = π s := h.perf s _
    unfold State.addCounterBy
    dsimp only
    split
    · exact hset _
    · split
      · exact (ih _ _ _).trans (hset _)
      · split
        · exact (h.signal _ _ _).trans ((h.perf _ _).trans (hset _))
        · exact (h.perf _ _).trans (hset _)

theorem countEvent (h : ReadBlind π) (s : State) (u ev n : Nat) (c : Option Nat) : π (s.countEvent u ev n c) = π s := by
  unfold State.countEvent State.countEventBy
  split
  · rfl
  · refine State.foldl_keeps π (fun t k => ?_) _ s
    split
    · exact h.addCounter t u k n
    · rfl

theorem loftRead (h : ReadBlind π) (s : State) (u : LoftUse) (a n : Nat) : π (s.loftRead u a n) = π s := by
  unfold State.loftRead
  exact State.foldl_keeps π (fun t _ => h.loft t _) _ s

theorem countLoft (h : ReadBlind π) (s : State) (g : Agent) (c a n : Nat) : π (s.countLoft g c a n) = π s := by
  unfold State.countLoft
  split
  · exact (h.countEvent _ _ _ _ _).trans (h.countEvent _ _ _ _ _)
  · rfl

theorem loftServe (h : ReadBlind π) (s : State) (g : Agent) (c a n : Nat) : π (s.loftServe g c a n) = π s := by
  have hserved (u : LoftUse) (p : Nat) : π ((s.countLoft g c p n).loftRead u p n) = π s :=
    (h.loftRead _ _ _ _).trans (h.countLoft s g c p n)
  unfold State.loftServe
  dsimp only
  split
  · rfl
  · split
    · exact hserved _ _
    · split
      · exact hserved _ _
      · exact h.countEvent s _ _ _ _

theorem promote (h : ReadBlind π) (s : State) (g : Agent) (p : Nat) : π (s.promote g p) = π s := by
  have hstart (t : State) (q : Nat) : π (t.startCopy p q) = π t := (h.bump _ _ _).trans (h.copies t _ _)
  have hdrop (q : Nat) : π (s.dropCopy q) = π s := h.copies s _ _
  have hrefuse : π (s.refusePromotion p) = π s := (h.bump _ _ _).trans (h.sill s _)
  unfold State.promote
  split
  · exact hrefuse
  · split
    · exact hstart s _
    · split
      · split
        · exact (hstart _ _).trans (hdrop _)
        · exact hrefuse
      · exact hrefuse

theorem heatPage (h : ReadBlind π) (s : State) (g : Agent) (p n : Nat) : π (s.heatPage g p n) = π s := by
  unfold State.heatPage
  dsimp only
  split
  · rfl
  · split
    · exact (h.promote _ _ _).trans (h.sill s _)
    · exact h.sill s _

theorem heatRead (h : ReadBlind π) (s : State) (g : Agent) (c a n : Nat) : π (s.heatRead g c a n) = π s := by
  unfold State.heatRead
  split
  · rfl
  · refine State.foldl_keeps π (fun t x => ?_) _ s
    dsimp only
    split
    · exact (h.heatPage _ _ _ _).trans (h.loftServe t g c x.1 x.2)
    · exact h.loftServe t g c x.1 x.2

theorem reportAccess (h : ReadBlind π) (s : State) (e c code : Nat) : π (s.reportAccess e c code) = π s := by
  unfold State.reportAccess
  dsimp only
  split
  · split
    · exact (h.signal _ _ _).trans (h.bump s _ _)
    · exact h.bump s _ _
  · rfl

/-- The descriptor of an entry is read, its clamps are counted, and a failed access is reported (R75, R76, R170). -/
theorem readPref (h : ReadBlind π) (s : State) (c b i a : Nat) : π (s.readPref c b i a).1 = π s := by
  unfold State.readPref
  simp only [apply_ite Prod.fst, apply_ite π, h.reportAccess, h.bump, h.heatRead, ite_self]

theorem warm (h : ReadBlind π) (s : State) (c b a n : Nat) : π (s.warm c b a n) = π s := by
  unfold State.warm
  split
  · rfl
  · refine State.foldl_keeps π (fun t x => ?_) _ s
    dsimp only
    split
    · exact h.reportAccess t _ _ _
    · split
      · exact h.loftServe t _ _ _ _
      · split
        · exact (h.heatPage _ _ _ _).trans (h.loftServe t _ _ _ _)
        · rfl

end State.ReadBlind

/-- Memory, the contexts and the bays. -/
def State.tenancy (s : State) : List Host.Cell × Sparse Ctx × Sparse Bay := (s.mem, s.ctxs, s.bays)

theorem State.SignalsTo.tenancy {s t : State} (h : s.SignalsTo t) : t.tenancy = s.tenancy := by
  unfold State.SignalsTo at h
  rw [h]
  rfl

theorem State.startWake_tenancy (s : State) : s.startWake.tenancy = s.tenancy := by
  unfold State.startWake
  split
  · rfl
  · split
    · rfl
    · rfl

theorem State.signal_tenancy (s : State) (n : Nat) (c : Option Nat) : (s.signal n c).tenancy = s.tenancy := by
  have hsend (t : State) (n : Nat) (c : Option Nat) : ((t.latchSignal n c).forwardSignal n c).1.tenancy = t.tenancy :=
    ((t.signalFrame_latchSignal n c).trans (State.signalFrame_forwardSignal _ n c)).signalsTo.tenancy
  unfold State.signal
  simp only [apply_ite State.tenancy, State.startWake_tenancy, hsend, ite_self]

theorem State.readBlind_tenancy : State.ReadBlind State.tenancy where
  signal := State.signal_tenancy
  objs _ _ := rfl
  perf _ _ := rfl
  loft _ _ := rfl
  sill _ _ := rfl
  copies _ _ _ := rfl

/-! ### The steps of contexts on bays -/

@[simp] theorem Ctx.setBayStep_bayStep_self (x : Ctx) (b : Nat) (y : BayStep) : (x.setBayStep b y).bayStep b = y :=
  Assoc.get_set_self _ _ _ _

/-- The steps of context `c` on the bays. -/
def State.baySteps (s : State) (c : Nat) : Sparse BayStep := (s.ctx c).baySteps

theorem State.bayStep_of_baySteps {s t : State} {c : Nat} (h : t.baySteps c = s.baySteps c) (b : Nat) :
    (t.ctx c).bayStep b = (s.ctx c).bayStep b := congrArg (fun l : Sparse BayStep => Assoc.get BayStep.zero l b) h

/-- A change of a context that leaves its steps leaves those of every context. -/
theorem State.setCtx_baySteps {s : State} {c : Nat} {x : Ctx} (h : x.baySteps = s.baySteps c) (d : Nat) :
    (s.setCtx c x).baySteps d = s.baySteps d := by
  unfold State.baySteps
  by_cases hd : d = c
  · subst hd
    rw [State.setCtx_ctx_self]
    exact h
  · rw [State.setCtx_ctx_ne s x hd]

theorem State.modCtx_baySteps {s : State} {c : Nat} {f : Ctx → Ctx} (h : (f (s.ctx c)).baySteps = s.baySteps c) (d : Nat) :
    (s.modCtx c f).baySteps d = s.baySteps d := State.setCtx_baySteps h d

theorem State.bump_baySteps (s : State) (i k d : Nat) : (s.bump i k).baySteps d = s.baySteps d := rfl

theorem Ctx.admitAt_baySteps (x : Ctx) (now : Nat) : (x.admitAt now).baySteps = x.baySteps := by
  unfold Ctx.admitAt
  dsimp only
  split
  · rfl
  · rfl

theorem State.admitList_baySteps (s : State) (l : List Nat) (stopped : Bool) (d : Nat) :
    (s.admitList l stopped).baySteps d = s.baySteps d := by
  induction l generalizing s stopped with
  | nil => rfl
  | cons c l ih =>
    unfold State.admitList
    dsimp only
    split
    · exact (ih _ _).trans (State.setCtx_baySteps (Ctx.admitAt_baySteps _ _) d)
    · refine (ih _ _).trans ?_
      split
      · rfl
      · exact (State.bump_baySteps _ _ _ d).trans (State.setCtx_baySteps (by rfl) d)

/-- What is kept of blocked, idle and waiting contexts is no part of their steps (R243, R257). -/
theorem State.track_baySteps (s : State) (c d : Nat) : (s.track c).baySteps d = s.baySteps d := by
  have harrive : (s.arriveOpen c).baySteps d = s.baySteps d := by
    unfold State.arriveOpen
    dsimp only
    split
    · exact (State.admitList_baySteps _ _ _ d).trans (State.setCtx_baySteps (by rfl) d)
    · rfl
  unfold State.track
  dsimp only
  split
  · exact (State.setCtx_baySteps (by rfl) d).trans harrive
  · split
    · exact (State.setCtx_baySteps (by rfl) d).trans harrive
    · exact harrive

/-! ### Records of failed descriptors (R191) -/

theorem State.writeBytes_ctxs (s : State) (a : Nat) (l : List Byte) : (s.writeBytes a l).ctxs = s.ctxs := by
  induction l generalizing s a with
  | nil => rfl
  | cons b l ih => exact ih _ _

theorem State.storeAt_ctxs (s : State) (u : LoftUse) (a : Nat) (l : List Byte) : (s.storeAt u a l).ctxs = s.ctxs := by
  have hloft : (s.loftWrite u a l).ctxs = s.ctxs := by
    unfold State.loftWrite
    refine State.foldl_keeps State.ctxs (fun t i => ?_) _ s
    rfl
  unfold State.storeAt
  rw [State.writeBytes_ctxs]
  split
  · exact hloft
  · rfl

theorem State.storeBytes_ctxs (s : State) (c a : Nat) (l : List Byte) : (s.storeBytes c a l).ctxs = s.ctxs := by
  unfold State.storeBytes
  refine List.foldlRecOn (motive := fun st : State × List Byte => st.1.ctxs = s.ctxs) _ _ rfl fun st hst x _ => ?_
  exact (State.storeAt_ctxs _ _ _ _).trans hst

theorem State.putBytes_baySteps (s : State) (c a : Nat) (l : List Byte) (d : Nat) : (s.putBytes c a l).baySteps d = s.baySteps d := by
  have hstore : (s.storeBytes c a l).baySteps d = s.baySteps d := by
    rw [State.baySteps, State.ctx, State.storeBytes_ctxs]
    rfl
  unfold State.putBytes State.copyOnWrite
  split
  · exact hstore
  · dsimp only
    split
    · exact (State.bump_baySteps _ _ _ d).trans ((State.modCtx_baySteps (by rfl) d).trans hstore)
    · exact hstore

theorem State.prefRecord_baySteps (s : State) (c b code d : Nat) : (s.prefRecord c b code).baySteps d = s.baySteps d := by
  unfold State.prefRecord
  dsimp only
  split
  · rfl
  · exact (State.putBytes_baySteps _ _ _ _ d).trans (State.setCtx_baySteps (by rfl) d)

/-! ### The end of an entry (R191, R534) -/

/-- One more entry of the step has fired and is complete. -/
def BayStep.counted (y : BayStep) : BayStep := { y with done := y.done + 1 }

theorem State.prefDone_bayStep (s : State) (c b : Nat) : ((s.prefDone c b).ctx c).bayStep b = ((s.ctx c).bayStep b).counted := by
  unfold State.prefDone
  rw [State.bayStep_of_baySteps (State.track_baySteps _ c c), State.bump_ctx, State.modCtx_ctx_self, Ctx.setBayStep_bayStep_self]
  rfl

theorem State.endPref_bayStep (s : State) (c b code : Nat) (f : Flight) :
    ((s.endPref c b code f).ctx c).bayStep b = ((s.ctx c).bayStep b).counted := by
  unfold State.endPref
  rw [State.prefDone_bayStep]
  split
  · rw [State.bayStep_of_baySteps (s.prefRecord_baySteps c b code c)]
  · rfl

/-! ### Firing (R189, R190) -/

theorem State.fly_out {s : State} {b : Nat} (h : (s.bay b).out = true) (c : Nat) (f : Flight) :
    ((s.fly c b f).ctx c).bayStep b = ((s.ctx c).bayStep b).counted := by
  rw [State.fly, if_pos h]
  exact s.endPref_bayStep c b 0x020A f

theorem State.fly_inService {s : State} {b : Nat} (h : (s.bay b).out = false) (c : Nat) (f : Flight) :
    s.fly c b f = s.modCtx c (fun x => x.setBayStep b { x.bayStep b with inFlight := (x.bayStep b).inFlight ++ [f] }) :=
  if_neg (by simp [h])

/-- `f` is the flight of what fires: a stopped descriptor as it started, or one of the schedule's entry. -/
def isFlightOf : Flight ⊕ Nat → Flight → Prop
  | .inl g, f => f = g
  | .inr i, f => f.entry = i

theorem State.readPref_entry (s : State) (c b i a : Nat) : (s.readPref c b i a).2.entry = i := by
  unfold State.readPref
  simp only [apply_ite Prod.snd, apply_ite Flight.entry, ite_self]

/-- From s to v the bookkeeping of what fires: memory and the bays stand, and the step of context `c` on bay `b` has in flight and has
complete what it had. -/
structure State.Readies (s v : State) (c b : Nat) : Prop where
  mem : v.mem = s.mem
  bay : v.bay b = s.bay b
  done : ((v.ctx c).bayStep b).done = ((s.ctx c).bayStep b).done
  inFlight : ((v.ctx c).bayStep b).inFlight = ((s.ctx c).bayStep b).inFlight

/-- A change of the step of context `c` on bay `b` beside what is in flight and what is complete. -/
theorem State.readies_modCtx (s : State) {c b : Nat} {f : BayStep → BayStep} (hdone : ∀ y, (f y).done = y.done)
    (hflight : ∀ y, (f y).inFlight = y.inFlight) : s.Readies (s.modCtx c (fun x => x.setBayStep b (f (x.bayStep b)))) c b where
  mem := rfl
  bay := rfl
  done := by rw [State.modCtx_ctx_self, Ctx.setBayStep_bayStep_self, hdone]
  inFlight := by rw [State.modCtx_ctx_self, Ctx.setBayStep_bayStep_self, hflight]

theorem State.Readies.trans {s v w : State} {c b : Nat} (h : s.Readies v c b) (g : v.Readies w c b) : s.Readies w c b :=
  ⟨g.mem.trans h.mem, g.bay.trans h.bay, g.done.trans h.done, g.inFlight.trans h.inFlight⟩

theorem State.Readies.of_tenancy {s v : State} (h : v.tenancy = s.tenancy) (c b : Nat) : s.Readies v c b := by
  obtain ⟨hmem, htables⟩ := Prod.mk.inj h
  obtain ⟨hctxs, hbays⟩ := Prod.mk.inj htables
  have hctx : v.ctx c = s.ctx c := congrArg (fun l : Sparse Ctx => Assoc.get Ctx.undefined l c) hctxs
  exact ⟨hmem, congrArg (fun l : Sparse Bay => Assoc.get Bay.inService l b) hbays, by rw [hctx], by rw [hctx]⟩

/-- The schedule of context `c` on bay `b` has passed entry `i`, and its clamps are counted. -/
def State.passed (s : State) (c b i : Nat) : State :=
  (if (s.prefEntry c b i).2 then s.bump 0x3010 0x10 else s).modCtx c
    (fun x => x.setBayStep b { x.bayStep b with pos := (x.bayStep b).pos + 1 })

theorem State.readies_passed (s : State) (c b i : Nat) : s.Readies (s.passed c b i) c b := by
  have hcount : s.Readies (if (s.prefEntry c b i).2 then s.bump 0x3010 0x10 else s) c b := by
    refine .of_tenancy ?_ c b
    split
    · rfl
    · rfl
  exact hcount.trans (State.readies_modCtx _ (f := fun y => { y with pos := y.pos + 1 }) (fun _ => rfl) (fun _ => rfl))

/-- A new entry takes off with its descriptor, where it has one and its bay is in service. -/
theorem State.firePref_entry (s : State) (c b i : Nat) :
    let v := s.passed c b i
    let e := (s.prefEntry c b i).1
    let r := if e.target = 0 && !(v.bay b).out then v.readPref c b i e.addr
      else (v, { entry := i, code := 0, desc := 0, defGrain := 0, defOther := 0 })
    s.firePref c b (.inr i) = r.1.fly c b r.2 := rfl

/-- What fires takes off after its bookkeeping. -/
theorem State.firePref_flies (s : State) (c b : Nat) (x : Flight ⊕ Nat) :
    ∃ v f, s.firePref c b x = v.fly c b f ∧ s.Readies v c b ∧ isFlightOf x f := by
  rcases x with f | i
  · exact ⟨_, f, rfl, s.readies_modCtx (f := fun y => { y with stopped := y.stopped.erase f }) (fun _ => rfl) (fun _ => rfl), rfl⟩
  · have hpassed := s.readies_passed c b i
    rw [State.firePref_entry]
    split
    · exact ⟨_, _, rfl, hpassed.trans (.of_tenancy (State.readBlind_tenancy.readPref _ _ _ _ _) c b), State.readPref_entry _ _ _ _ _⟩
    · exact ⟨_, _, rfl, hpassed, rfl⟩

theorem exec_prefetchFire {dt b : Nat} {s : State} {k : Nat × Ctx} {x : Flight ⊕ Nat} (h : (s.elapse dt).up = true)
    (hctx : (s.elapse dt).ctxs.find? (fun e => ((s.elapse dt).nextPref e.1 b).isSome) = some k)
    (hnext : (s.elapse dt).nextPref k.1 b = some x) :
    exec (.prefetchFire dt b) s = .next ((s.elapse dt).firePref k.1 b x) := by
  refine congrArg Host.Outcome.next ((State.whenUp_up _ h).trans ?_)
  rw [hctx]
  dsimp only
  rw [hnext]

/-! ### The end of a warm (R190, R191) -/

/-- A flight of context `c` on bay `b` is taken out. -/
def State.landed (s : State) (c b : Nat) (f : Flight) : State :=
  s.modCtx c (fun x => x.setBayStep b { x.bayStep b with inFlight := (x.bayStep b).inFlight.erase f })

theorem State.landed_bayStep (s : State) (c b : Nat) (f : Flight) :
    ((s.landed c b f).ctx c).bayStep b = { (s.ctx c).bayStep b with inFlight := ((s.ctx c).bayStep b).inFlight.erase f } := by
  rw [State.landed, State.modCtx_ctx_self, Ctx.setBayStep_bayStep_self]

/-- The step of context `c` on bay `b` once a warm of `n` bytes from `a` has read them and counts as done. -/
theorem State.warmDone_bayStep (s : State) (c b a n : Nat) :
    ((((s.warm c b a n).prefDone c b).ctx c).bayStep b) = ((s.ctx c).bayStep b).counted := by
  have hwarm : (s.warm c b a n).ctx c = s.ctx c :=
    congrArg (fun t : List Host.Cell × Sparse Ctx × Sparse Bay => Assoc.get Ctx.undefined t.2.1 c)
      (State.readBlind_tenancy.warm s c b a n)
  rw [State.prefDone_bayStep, hwarm]

theorem exec_prefetchComplete_warm {dt b entry : Nat} {s : State} {k : Nat × Ctx} {f : Flight} (h : (s.elapse dt).up = true)
    (hctx : (s.elapse dt).ctxs.find? (fun e => (e.2.bayStep b).inFlight.any (fun y => y.entry == entry)) = some k)
    (hflight : (k.2.bayStep b).inFlight.find? (fun y => y.entry == entry) = some f)
    (htarget : ((s.elapse dt).prefEntry k.1 b entry).1.target = 1) :
    let p := ((s.elapse dt).prefEntry k.1 b entry).1
    exec (.prefetchComplete dt b entry none) s
      = .next ((((s.elapse dt).landed k.1 b f).warm k.1 b p.addr p.length).prefDone k.1 b) := by
  refine congrArg Host.Outcome.next ((State.whenUp_up _ h).trans ?_)
  rw [hctx]
  dsimp only
  rw [hflight]
  dsimp only
  rw [if_pos htarget]
  rfl

/-! ### O18 -/

/-- Settles O18: after its bookkeeping an entry takes off, into flight or, out of service, to its end; a warm leaves its context's step. -/
theorem prefetchEntriesFireAndComplete : Obligations.PrefetchEntriesFireAndComplete := by
  refine ⟨?_, ?_⟩
  · rintro dt b s _ k x rfl hup hctx hnext
    obtain ⟨v, f, hfire, hv, hf⟩ := (s.elapse dt).firePref_flies k.1 b x
    have hexec := exec_prefetchFire hup hctx hnext
    rw [hfire] at hexec
    refine ⟨fun hout => ⟨_, hexec, ?_, ?_⟩, fun hin => ⟨_, hexec, ?_⟩⟩
    · rw [State.fly_out (hv.bay ▸ hout)]
      exact congrArg (· + 1) hv.done
    · rw [State.fly_out (hv.bay ▸ hout)]
      exact hv.inFlight
    · have hflies : f ∈ (((v.fly k.1 b f).ctx k.1).bayStep b).inFlight := by
        rw [State.fly_inService (hv.bay ▸ hin), State.modCtx_ctx_self, Ctx.setBayStep_bayStep_self]
        exact List.mem_append_right _ List.mem_cons_self
      refine ⟨by rw [State.fly_inService (hv.bay ▸ hin)]; exact hv.mem, ?_⟩
      rcases x with g | i
      · exact hf ▸ hflies
      · exact ⟨f, hflies, hf⟩
  · rintro dt b entry s _ k f rfl hup hctx hflight htarget
    have hstep (a n : Nat) := ((s.elapse dt).landed k.1 b f).warmDone_bayStep k.1 b a n
    simp only [State.landed_bayStep] at hstep
    exact ⟨_, exec_prefetchComplete_warm hup hctx hflight htarget, congrArg BayStep.done (hstep _ _),
      congrArg BayStep.inFlight (hstep _ _)⟩

end Sys2Proof.Machine
end

section
/-! PROOFS. Contexts under their bookkeeping (R219, R227, R228, R243, R257): what no signal, message or timer changes, what is kept of a
context through the tracking of its waits and stamps, and what a completion leaves. -/

namespace Sys2Proof.Machine

/-! ### What signals, counts and messages leave -/

/-- The stamp, memory, the contexts and the engines: no signal, count, message, log entry or timer changes them. -/
def State.standing (s : State) : Nat × List Host.Cell × Sparse Ctx × Sparse Engine := (s.stamp, s.mem, s.ctxs, s.engines)

theorem State.SignalsTo.standing {s t : State} (h : s.SignalsTo t) : t.standing = s.standing := by
  unfold State.SignalsTo at h
  rw [h]
  rfl

@[simp] theorem State.startWake_standing (s : State) : s.startWake.standing = s.standing := by
  unfold State.startWake
  split
  · rfl
  · split
    · rfl
    · rfl

@[simp] theorem State.signal_standing (s : State) (n : Nat) (c : Option Nat) : (s.signal n c).standing = s.standing := by
  have hsend (t : State) (n : Nat) (c : Option Nat) : ((t.latchSignal n c).forwardSignal n c).1.standing = t.standing :=
    ((t.signalFrame_latchSignal n c).trans (State.signalFrame_forwardSignal _ n c)).signalsTo.standing
  unfold State.signal
  simp only [apply_ite State.standing, State.startWake_standing, hsend, ite_self]

theorem State.readBlind_standing : State.ReadBlind State.standing where
  signal := State.signal_standing
  objs _ _ := rfl
  perf _ _ := rfl
  loft _ _ := rfl
  sill _ _ := rfl
  copies _ _ _ := rfl

@[simp] theorem State.setCnt_standing (s : State) (i k n : Nat) : (s.setCnt i k n).standing = s.standing := rfl

@[simp] theorem State.bumpBy_standing (s : State) (i k n : Nat) : (s.bumpBy i k n).standing = s.standing := rfl

@[simp] theorem State.bump_standing (s : State) (i k : Nat) : (s.bump i k).standing = s.standing := rfl

@[simp] theorem State.countEvent_standing (s : State) (u ev n : Nat) (c : Option Nat) : (s.countEvent u ev n c).standing = s.standing :=
  State.readBlind_standing.countEvent s u ev n c

theorem State.mem_of_standing {s t : State} (h : t.standing = s.standing) : t.mem = s.mem :=
  congrArg (fun x : Nat × List Host.Cell × Sparse Ctx × Sparse Engine => x.2.1) h

theorem State.ctx_of_standing {s t : State} (h : t.standing = s.standing) (c : Nat) : t.ctx c = s.ctx c :=
  congrArg (fun x : Nat × List Host.Cell × Sparse Ctx × Sparse Engine => Assoc.get Ctx.undefined x.2.2.1 c) h

/-- A count that no signal moves, in whatever power state: not one of R411 to R421, and not the cause and stamp of a wake from P3. -/
theorem State.signal_cnt (s : State) (n : Nat) (c : Option Nat) {i k : Nat} (h : objKey i k ∉ signalCounters)
    (hcause : objKey i k ≠ objKey 0x7101 2) (hstamp : objKey i k ≠ objKey 0x7101 3) : (s.signal n c).cnt i k = s.cnt i k := by
  have hsend (t : State) (n : Nat) (c : Option Nat) : ((t.latchSignal n c).forwardSignal n c).1.cnt i k = t.cnt i k :=
    ((t.signalFrame_latchSignal n c).trans (State.signalFrame_forwardSignal _ n c)).cnt h
  have hwake (t : State) : t.startWake.cnt i k = t.cnt i k := by
    unfold State.startWake
    split
    · exact (State.setCnt_cnt_ne _ _ hstamp).trans (State.setCnt_cnt_ne _ _ hcause)
    · split
      · rfl
      · rfl
  unfold State.signal
  simp only [apply_ite (State.cnt · i k), hwake, hsend, ite_self]

/-- The events of a completion go out as signals do; what a full session drops raises source 215 (R374). -/
theorem State.completionEvent_signals (s : State) (c : Nat) (d : Done) (seq : Nat) :
    ∃ t, s.SignalFrame t ∧ (s.completionEvent c d seq = t ∨ s.completionEvent c d seq = t.signal 215 none) := by
  unfold State.completionEvent
  dsimp only
  generalize s.sessionsOf _ = l
  generalize ({ count := seq, ctxEpoch := s.epoch c, ctx := c, .. } : EventRec) = r
  have hframe := State.SignalFrame.foldl Prod.fst
    (f := fun (a : State × Bool) n => ((a.1.eventTo n r s.stamp).1, a.2 || (a.1.eventTo n r s.stamp).2))
    (fun a n => State.signalFrame_eventTo a.1 n r s.stamp) l (s, false)
  refine ⟨_, hframe, ?_⟩
  split
  · exact .inr rfl
  · exact .inl rfl

@[simp] theorem State.completionEvent_standing (s : State) (c : Nat) (d : Done) (seq : Nat) :
    (s.completionEvent c d seq).standing = s.standing := by
  obtain ⟨t, hframe, h | h⟩ := s.completionEvent_signals c d seq
  · rw [h]
    exact hframe.signalsTo.standing
  · rw [h, State.signal_standing]
    exact hframe.signalsTo.standing

/-- The counters of contexts and commands (Table 6-20) are none of those that signals move. -/
theorem State.completionEvent_cnt (s : State) (c : Nat) (d : Done) (seq : Nat) : (s.completionEvent c d seq).cnt 0x3110 1 = s.cnt 0x3110 1 := by
  obtain ⟨t, hframe, h | h⟩ := s.completionEvent_signals c d seq
  · rw [h]
    exact hframe.cnt (by decide)
  · rw [h, State.signal_cnt _ _ _ (by decide) (by decide) (by decide)]
    exact hframe.cnt (by decide)

/-! ### The tracking of waits and stamps (R242, R243, R255, R257) -/

/-- A context without what its tracking and the sending of its image write: admission, waits, stamps, energy and image. -/
def Ctx.settled (x : Ctx) : Ctx :=
  { x with
    admitted := false, nextStamp := 0, nextVersion := 0, waitSince := none, waitRaised := false, waitCounted := false, admitStamp := 0,
    version := 0, stats := { x.stats with stepEnergy := 0 }, blockStamp := none, runnableStamp := none, image := none }

/-- The stamp, the engines, and every context but for its bookkeeping. -/
def State.settled (s : State) : Nat × Sparse Engine × (Nat → Ctx) := (s.stamp, s.engines, fun c => (s.ctx c).settled)

theorem State.settled_of_standing {s t : State} (h : t.standing = s.standing) : t.settled = s.settled :=
  congrArg (fun x : Nat × List Host.Cell × Sparse Ctx × Sparse Engine =>
    (x.1, x.2.2.2, fun c => (Assoc.get Ctx.undefined x.2.2.1 c).settled)) h

theorem State.ctx_settled {s t : State} (h : t.settled = s.settled) (c : Nat) : (t.ctx c).settled = (s.ctx c).settled :=
  congrArg (fun x : Nat × Sparse Engine × (Nat → Ctx) => x.2.2 c) h

theorem State.engine_of_settled {s t : State} (h : t.settled = s.settled) (e : Nat) : t.engine e = s.engine e :=
  congrArg (fun x : Nat × Sparse Engine × (Nat → Ctx) => Assoc.get Engine.idle x.2.1 e) h

/-- What a context's bookkeeping does not write reads the same. -/
theorem Ctx.of_settled {α : Type} {x y : Ctx} (f : Ctx → α) (h : x.settled = y.settled) (hf : ∀ z : Ctx, f z.settled = f z := by exact fun _ => rfl) :
    f x = f y := by
  rw [← hf x, h, hf y]

/-- A change of a context's bookkeeping. -/
theorem State.setCtx_settled {s : State} {c : Nat} {x : Ctx} (h : x.settled = (s.ctx c).settled) : (s.setCtx c x).settled = s.settled := by
  have hctx : ∀ d, ((s.setCtx c x).ctx d).settled = (s.ctx d).settled := by
    intro d
    by_cases hd : d = c
    · subst hd
      rw [State.setCtx_ctx_self, h]
    · rw [State.setCtx_ctx_ne s x hd]
  exact Prod.ext rfl (Prod.ext rfl (funext hctx))

theorem Ctx.admitAt_settled (x : Ctx) (now : Nat) : (x.admitAt now).settled = x.settled := by
  unfold Ctx.admitAt
  dsimp only
  split
  · rfl
  · rfl

/-- Everything that tracking leaves: memory, and all that is not bookkeeping. -/
def State.tracked (s : State) : List Host.Cell × Nat × Sparse Engine × (Nat → Ctx) := (s.mem, s.settled)

theorem State.setCtx_tracked {s : State} {c : Nat} {x : Ctx} (h : x.settled = (s.ctx c).settled) : (s.setCtx c x).tracked = s.tracked :=
  Prod.ext rfl (State.setCtx_settled h)

theorem State.bump_tracked (s : State) (i k : Nat) : (s.bump i k).tracked = s.tracked := rfl

theorem State.admitList_tracked (s : State) (l : List Nat) (stopped : Bool) : (s.admitList l stopped).tracked = s.tracked := by
  induction l generalizing s stopped with
  | nil => rfl
  | cons c l ih =>
    unfold State.admitList
    dsimp only
    split
    · exact (ih _ _).trans (State.setCtx_tracked (Ctx.admitAt_settled _ _))
    · refine (ih _ _).trans ?_
      split
      · rfl
      · exact (State.bump_tracked _ _ _).trans (State.setCtx_tracked (by rfl))

theorem State.arriveOpen_tracked (s : State) (c : Nat) : (s.arriveOpen c).tracked = s.tracked := by
  unfold State.arriveOpen
  dsimp only
  split
  · exact (State.admitList_tracked _ _ _).trans (State.setCtx_tracked (by rfl))
  · rfl

theorem State.track_tracked (s : State) (c : Nat) : (s.track c).tracked = s.tracked := by
  unfold State.track
  dsimp only
  split
  · exact (State.setCtx_tracked (by rfl)).trans (s.arriveOpen_tracked c)
  · split
    · exact (State.setCtx_tracked (by rfl)).trans (s.arriveOpen_tracked c)
    · exact s.arriveOpen_tracked c

@[simp] theorem State.track_settled (s : State) (c : Nat) : (s.track c).settled = s.settled := congrArg Prod.snd (s.track_tracked c)

theorem State.track_ctx (s : State) (c d : Nat) : ((s.track c).ctx d).settled = (s.ctx d).settled := State.ctx_settled (s.track_settled c) d

@[simp] theorem State.track_mem (s : State) (c : Nat) : (s.track c).mem = s.mem := congrArg Prod.fst (s.track_tracked c)

@[simp] theorem State.admitTest_settled (s : State) : s.admitTest.settled = s.settled := congrArg Prod.snd (s.admitList_tracked _ _)

theorem State.admitList_cnt (s : State) (l : List Nat) (stopped : Bool) {i k : Nat} (h : objKey i k ≠ objKey 0x3210 8) :
    (s.admitList l stopped).cnt i k = s.cnt i k := by
  induction l generalizing s stopped with
  | nil => rfl
  | cons c l ih =>
    unfold State.admitList
    dsimp only
    split
    · exact ih _ _
    · refine (ih _ _).trans ?_
      split
      · rfl
      · exact State.bump_cnt_ne _ h

/-- The tracking counts step opens that wait on, and nothing else (R243). -/
theorem State.track_cnt (s : State) (c : Nat) {i k : Nat} (h : objKey i k ≠ objKey 0x3210 8) : (s.track c).cnt i k = s.cnt i k := by
  have harrive : (s.arriveOpen c).cnt i k = s.cnt i k := by
    unfold State.arriveOpen
    dsimp only
    split
    · exact State.admitList_cnt _ _ _ h
    · rfl
  unfold State.track
  dsimp only
  split
  · exact harrive
  · split
    · exact harrive
    · exact harrive

end Sys2Proof.Machine
end

section
/-! PROOFS. Completions (R219, R227, R228): the bytes that a record stores, the count, the ring and the reservation that a completion leaves. -/

namespace Sys2Proof.Machine

/-! ### Stored bytes -/

/-- A view of the state that sees neither memory nor the lofts. -/
structure State.StoreBlind {β : Type} (π : State → β) : Prop where
  mem : ∀ s m, π { s with mem := m } = π s
  loft : ∀ s l, π { s with loft := l } = π s

theorem State.StoreBlind.writeBytes {β : Type} {π : State → β} (h : StoreBlind π) (s : State) (a : Nat) (l : List Byte) :
    π (s.writeBytes a l) = π s := by
  induction l generalizing s a with
  | nil => rfl
  | cons b l ih => exact (ih _ _).trans (h.mem s _)

theorem State.StoreBlind.storeAt {β : Type} {π : State → β} (h : StoreBlind π) (s : State) (u : LoftUse) (a : Nat) (l : List Byte) :
    π (s.storeAt u a l) = π s := by
  have hloft : π (s.loftWrite u a l) = π s := by
    unfold State.loftWrite
    exact State.foldl_keeps π (fun t _ => h.loft t _) _ s
  unfold State.storeAt
  rw [h.writeBytes]
  split
  · exact hloft
  · rfl

theorem State.StoreBlind.storeBytes {β : Type} {π : State → β} (h : StoreBlind π) (s : State) (c a : Nat) (l : List Byte) :
    π (s.storeBytes c a l) = π s := by
  unfold State.storeBytes
  refine List.foldlRecOn (motive := fun st : State × List Byte => π st.1 = π s) _ _ rfl fun st hst x _ => ?_
  exact (h.storeAt _ _ _ _).trans hst

theorem State.storeBlind_settled : State.StoreBlind State.settled := ⟨fun _ _ => rfl, fun _ _ => rfl⟩

/-- A write settles its pages' copies for an image that is being sent, and counts (R352). -/
theorem State.copyOnWrite_settled (s : State) (c a n : Nat) : (s.copyOnWrite c a n).settled = s.settled := by
  unfold State.copyOnWrite
  split
  · rfl
  · dsimp only
    split
    · exact (State.settled_of_standing (State.bump_standing _ _ _)).trans (State.setCtx_settled (by rfl))
    · rfl

theorem State.copyOnWrite_mem (s : State) (c a n : Nat) : (s.copyOnWrite c a n).mem = s.mem := by
  unfold State.copyOnWrite
  split
  · rfl
  · dsimp only
    split
    · rfl
    · rfl

theorem State.copyOnWrite_cnt (s : State) (c a n : Nat) {i k : Nat} (h : objKey i k ≠ objKey 0x4310 0x0A) :
    (s.copyOnWrite c a n).cnt i k = s.cnt i k := by
  unfold State.copyOnWrite
  split
  · rfl
  · dsimp only
    split
    · exact State.bump_cnt_ne _ h
    · rfl

@[simp] theorem State.putBytes_settled (s : State) (c a : Nat) (l : List Byte) : (s.putBytes c a l).settled = s.settled :=
  (State.copyOnWrite_settled _ _ _ _).trans (State.storeBlind_settled.storeBytes s c a l)

theorem State.putBytes_cnt (s : State) (c a : Nat) (l : List Byte) {i k : Nat} (h : objKey i k ≠ objKey 0x4310 0x0A) :
    (s.putBytes c a l).cnt i k = s.cnt i k :=
  (State.copyOnWrite_cnt _ _ _ _ h).trans
    (State.StoreBlind.storeBytes (π := fun s => s.cnt i k) ⟨fun _ _ => rfl, fun _ _ => rfl⟩ s c a l)

theorem State.putBytes_mem (s : State) (c a : Nat) (l : List Byte) : (s.putBytes c a l).mem = (s.storeBytes c a l).mem :=
  State.copyOnWrite_mem _ _ _ _

theorem State.writeBytes_mem_congr {s t : State} (h : s.mem = t.mem) (a : Nat) (l : List Byte) :
    (s.writeBytes a l).mem = (t.writeBytes a l).mem := by
  induction l generalizing s t a with
  | nil => exact h
  | cons b l ih => exact ih (congrArg (Assoc.set memDefault · a b) h) _

/-- What memory holds after a write follows from what it held and from the translation. -/
theorem State.storeBytes_mem_congr {s t : State} {c : Nat} (hmem : s.mem = t.mem) (hphys : ∀ a, s.phys c a = t.phys c a) (a : Nat)
    (l : List Byte) : (s.storeBytes c a l).mem = (t.storeBytes c a l).mem := by
  unfold State.storeBytes
  have hfold : ∀ x y : State × List Byte, x.1.mem = y.1.mem ∧ x.2 = y.2 → x.1.mem = y.1.mem := fun _ _ h => h.1
  refine hfold _ _ (List.foldl_rel (r := fun x y : State × List Byte => x.1.mem = y.1.mem ∧ x.2 = y.2) ⟨hmem, rfl⟩ ?_)
  rintro x _ ⟨u, p⟩ ⟨v, q⟩ ⟨huv, rfl⟩
  refine ⟨?_, rfl⟩
  rw [State.storeAt_mem, State.storeAt_mem, hphys]
  exact State.writeBytes_mem_congr huv _ _

theorem State.setCtx_phys {s : State} {c : Nat} {x : Ctx} (h : x.dirBase = (s.ctx c).dirBase) (d a : Nat) :
    (s.setCtx c x).phys d a = s.phys d a := by
  have hdir : ((s.setCtx c x).ctx d).dirBase = (s.ctx d).dirBase := by
    by_cases hd : d = c
    · subst hd
      rw [State.setCtx_ctx_self, h]
    · rw [State.setCtx_ctx_ne s x hd]
  have hpte : (s.setCtx c x).pteUsed d a false = s.pteUsed d a false := by
    unfold State.pteUsed
    rw [hdir]
    rfl
  unfold State.phys State.translate
  rw [hpte]
  rfl

/-! ### Completion (R227, R228) -/

/-- The context once command `d` of it has completed: the count of its queue, the barriers behind it, its place and its reservation in the
completion ring. -/
def Ctx.finished (x : Ctx) (d : Done) : Ctx :=
  let y := x.queue d.queue
  let seq := (y.completed + 1) % m32
  { x.setQueue d.queue { y with
      completed := seq, marks := y.marks.filter (fun m => m.1 != seq && decide (sub32 m.1 seq < 2 ^ 31)) } with
    ringReserved := x.ringReserved - 1, ringTail := if d.record then (x.ringTail + 1) % m32 else x.ringTail }

/-- The record of completion `d`, where it has one, is written at the old tail. -/
def State.recordDone (s : State) (c : Nat) (d : Done) : State :=
  let x := s.ctx c
  let v := s.setCtx c (x.finished d)
  if d.record then v.putBytes c (x.ringBase + (x.ringTail % 2 ^ x.ringLog2) * 32)
    (s.completionBytes c d (((x.queue d.queue).completed + 1) % m32) x.ringTail) else v

/-- Completions count, and aborted ones count as such too. -/
def State.countDone (s : State) (d : Done) : State := if d.aborted then (s.bump 0x3110 1).bump 0x3110 4 else s.bump 0x3110 1

theorem State.finish_eq (s : State) (c : Nat) (d : Done) :
    let v := (s.recordDone c d).countDone d
    s.finish c d
      = (if d.cmd.irq then v.completionEvent c d ((((s.ctx c).queue d.queue).completed + 1) % m32) else v).track c := rfl

theorem Ctx.finished_completed (x : Ctx) (d : Done) :
    ((x.finished d).queue d.queue).completed = ((x.queue d.queue).completed + 1) % 2 ^ 32 :=
  congrArg Queue.completed (Assoc.get_set_self _ _ _ _)

theorem Ctx.finished_dirBase (x : Ctx) (d : Done) : (x.finished d).dirBase = x.dirBase := rfl

theorem State.recordDone_settled (s : State) (c : Nat) (d : Done) :
    (s.recordDone c d).settled = (s.setCtx c ((s.ctx c).finished d)).settled := by
  unfold State.recordDone
  dsimp only
  split
  · exact State.putBytes_settled _ _ _ _
  · rfl

theorem State.recordDone_cnt (s : State) (c : Nat) (d : Done) : (s.recordDone c d).cnt 0x3110 1 = s.cnt 0x3110 1 := by
  unfold State.recordDone
  dsimp only
  split
  · exact State.putBytes_cnt _ _ _ _ (by decide)
  · rfl

theorem State.countDone_standing (s : State) (d : Done) : (s.countDone d).standing = s.standing := by
  unfold State.countDone
  split
  · rfl
  · rfl

theorem State.countDone_cnt (s : State) (d : Done) : (s.countDone d).cnt 0x3110 1 = min (s.cnt 0x3110 1 + 1) (2 ^ 64 - 1) := by
  unfold State.countDone
  split
  · exact (State.bump_cnt_ne _ (by decide)).trans (State.bump_cnt_self _ _ _)
  · exact State.bump_cnt_self _ _ _

/-- A completion changes its context, and beside it only bookkeeping. -/
theorem State.finish_settled (s : State) (c : Nat) (d : Done) :
    (s.finish c d).settled = (s.setCtx c ((s.ctx c).finished d)).settled := by
  have hcount := (State.settled_of_standing ((s.recordDone c d).countDone_standing d)).trans (s.recordDone_settled c d)
  rw [State.finish_eq, State.track_settled]
  split
  · exact (State.settled_of_standing (State.completionEvent_standing _ _ _ _)).trans hcount
  · exact hcount

theorem State.finish_cnt (s : State) (c : Nat) (d : Done) : (s.finish c d).cnt 0x3110 1 = min (s.cnt 0x3110 1 + 1) (2 ^ 64 - 1) := by
  have hcount : ((s.recordDone c d).countDone d).cnt 0x3110 1 = min (s.cnt 0x3110 1 + 1) (2 ^ 64 - 1) := by
    rw [State.countDone_cnt, State.recordDone_cnt]
  rw [State.finish_eq, State.track_cnt _ _ (by decide)]
  split
  · exact (State.completionEvent_cnt _ _ _ _).trans hcount
  · exact hcount

/-- A completion writes its record, and nothing else, whatever it sends. -/
theorem State.finish_mem (s : State) (c : Nat) (d : Done) : (s.finish c d).mem = (s.recordDone c d).mem := by
  have hcount := State.mem_of_standing ((s.recordDone c d).countDone_standing d)
  rw [State.finish_eq, State.track_mem]
  split
  · exact (State.mem_of_standing (State.completionEvent_standing _ _ _ _)).trans hcount
  · exact hcount

theorem State.recordDone_mem (s : State) (c : Nat) (d : Done) :
    let x := s.ctx c
    (s.recordDone c d).mem = if d.record then (s.storeBytes c (x.ringBase + (x.ringTail % 2 ^ x.ringLog2) * 32)
      (s.completionBytes c d (((x.queue d.queue).completed + 1) % m32) x.ringTail)).mem else s.mem := by
  have hphys (a : Nat) : (s.setCtx c ((s.ctx c).finished d)).phys c a = s.phys c a :=
    State.setCtx_phys (Ctx.finished_dirBase _ d) c a
  unfold State.recordDone
  dsimp only
  split
  · rw [State.putBytes_mem]
    exact State.storeBytes_mem_congr (State.setCtx_mem _ _ _) hphys _ _
  · rfl

/-- The context after a completion, but for its bookkeeping. -/
theorem State.finish_ctx (s : State) (c : Nat) (d : Done) : ((s.finish c d).ctx c).settled = ((s.ctx c).finished d).settled := by
  rw [State.ctx_settled (s.finish_settled c d), State.setCtx_ctx_self]

/-- How run `r` is done with a code. -/
def Run.done (r : Run) (code : Nat) : Done :=
  { queue := r.queue, cmd := r.cmd, clamped := r.clamped, start := r.start, code := code, aborted := false }

/-- Engine `e` has nothing running any more. -/
def State.freed (s : State) (e : Nat) : State := s.setEngine e { s.engine e with running := none, progress := s.stamp }

/-- A run that ends with a code that abandons nothing frees its engine and completes. -/
theorem State.endWith_finish (s : State) (e : Nat) (r : Run) {code : Nat} (h : abandonCode code = false) :
    s.endWith e r code = (s.freed e).finish r.ctx (r.done code) :=
  if_neg (by simp [h])

theorem State.endWith_running (s : State) (e : Nat) (r : Run) {code : Nat} (h : abandonCode code = false) :
    ((s.endWith e r code).engine e).running = none := by
  rw [s.endWith_finish e r h, State.engine_of_settled (State.finish_settled _ _ _) e]
  exact congrArg Engine.running (State.setEngine_engine_self s e _)

theorem State.endWith_ctx (s : State) (e : Nat) (r : Run) {code : Nat} (h : abandonCode code = false) :
    ((s.endWith e r code).ctx r.ctx).settled = ((s.ctx r.ctx).finished (r.done code)).settled := by
  rw [s.endWith_finish e r h]
  exact (s.freed e).finish_ctx r.ctx (r.done code)

/-! ### O15 -/

/-- Settles O15: the count, the ring and the record are what `Ctx.finished` and `State.recordDone` say, and what follows is bookkeeping. -/
theorem completionsAreRecorded : Obligations.CompletionsAreRecorded := by
  refine ⟨fun s e code r h => ⟨s.endWith_running e r h, ?_, ?_⟩, fun s c d _ => ?_⟩
  · exact (Ctx.of_settled (fun x => (x.queue r.queue).completed) (s.endWith_ctx e r h)).trans (Ctx.finished_completed _ (r.done code))
  · rw [s.endWith_finish e r h]
    exact (s.freed e).finish_cnt r.ctx (r.done code)
  · have hmem := (s.finish_mem c d).trans (s.recordDone_mem c d)
    have htail := Ctx.of_settled Ctx.ringTail (s.finish_ctx c d)
    refine ⟨Ctx.of_settled Ctx.ringReserved (s.finish_ctx c d), fun h => ?_, fun h => ?_⟩
    · exact ⟨htail.trans (if_pos h), hmem.trans (if_pos h)⟩
    · exact ⟨htail.trans (if_neg (by simp [h])), hmem.trans (if_neg (by simp [h]))⟩

end Sys2Proof.Machine
end

section
/-! PROOFS. Doorbells (R217, R218): the window of a tail and of a head, and what a write to it leaves. -/

namespace Sys2Proof.Machine

/-! ### The window -/

theorem sub32_self (a : Nat) : sub32 a a = 0 := by
  simp only [sub32, m32]
  omega

theorem sub32_mod (a b : Nat) : sub32 (a % m32) b = sub32 a b := by
  simp only [sub32, m32]
  omega

theorem clamp32_inside {lo hi v : Nat} (h : sub32 v lo ≤ sub32 hi lo) : clamp32 lo hi v = v % m32 := if_pos h

theorem clamp32_nearHigh {lo hi v : Nat} (h : sub32 hi lo < sub32 v lo) (hnear : sub32 v hi < sub32 lo v) :
    clamp32 lo hi v = hi % m32 := (if_neg h.not_ge).trans (if_pos hnear)

theorem clamp32_nearLow {lo hi v : Nat} (h : sub32 hi lo < sub32 v lo) (hnear : sub32 lo v ≤ sub32 v hi) :
    clamp32 lo hi v = lo % m32 := (if_neg h.not_ge).trans (if_neg hnear.not_gt)

/-- The clamp ends in the window: at the value, or at one of its ends. -/
theorem clamp32_mem (lo hi v : Nat) : sub32 (clamp32 lo hi v) lo ≤ sub32 hi lo := by
  rcases le_or_gt (sub32 v lo) (sub32 hi lo) with h | h
  · rwa [clamp32_inside h, sub32_mod]
  · rcases lt_or_ge (sub32 v hi) (sub32 lo v) with hnear | hnear
    · rw [clamp32_nearHigh h hnear, sub32_mod]
    · rw [clamp32_nearLow h hnear, sub32_mod, sub32_self]
      exact Nat.zero_le _

/-! ### Clamped writes -/

/-- A doorbell write that took `t` in place of `v` counts as clamped. -/
def State.countDoor (s : State) (t v : Nat) : State := if t = v then s else s.bump 0x3110 2

theorem State.countDoor_cnt (s : State) (t v : Nat) :
    (s.countDoor t v).cnt 0x3110 2 = if t = v then s.cnt 0x3110 2 else min (s.cnt 0x3110 2 + 1) (2 ^ 64 - 1) := by
  unfold State.countDoor
  rw [apply_ite (State.cnt · 0x3110 2), State.bump_cnt_self]

theorem State.countDoor_standing (s : State) (t v : Nat) : (s.countDoor t v).standing = s.standing := by
  unfold State.countDoor
  rw [apply_ite State.standing, State.bump_standing, ite_self]

theorem Queue.touch_tail (q : Queue) (now : Nat) : (q.touch now).tail = q.tail := by
  unfold Queue.touch
  rw [apply_ite Queue.tail, ite_self]

@[simp] theorem State.setCtx_cnt (s : State) (c : Nat) (x : Ctx) (i k : Nat) : (s.setCtx c x).cnt i k = s.cnt i k := rfl

/-- The context whose queue `q` has tail `t` from `now` on, under the next arrival number (R221). -/
def Ctx.tailed (x : Ctx) (q t now : Nat) : Ctx :=
  { x.setQueue q (({ x.queue q with tail := t, marks := (x.queue q).marks ++ [(t, x.arrivals)] } : Queue).touch now) with
    arrivals := x.arrivals + 1 }

theorem Ctx.tailed_tail (x : Ctx) (q t now : Nat) : ((x.tailed q t now).queue q).tail = t :=
  (congrArg Queue.tail (Assoc.get_set_self _ _ _ _)).trans (Queue.touch_tail _ _)

theorem State.setTail_eq (s : State) (c q v : Nat) :
    let t := clamp32 ((s.ctx c).queue q).tail (((s.ctx c).queue q).completed + 2 ^ (s.ctx c).queueLog2) v
    let u := s.countDoor t (v % m32)
    s.setTail c q v = if t = ((s.ctx c).queue q).tail then u else (u.setCtx c ((s.ctx c).tailed q t u.stamp)).track c := rfl

/-- A tail write leaves memory; the queue has the clamped tail, and a clamp is counted. -/
theorem State.setTail_spec (s : State) (c q v : Nat) :
    let t := clamp32 ((s.ctx c).queue q).tail (((s.ctx c).queue q).completed + 2 ^ (s.ctx c).queueLog2) v
    (s.setTail c q v).mem = s.mem ∧ (((s.setTail c q v).ctx c).queue q).tail = t
      ∧ (s.setTail c q v).cnt 0x3110 2 = (s.countDoor t (v % m32)).cnt 0x3110 2 := by
  rw [State.setTail_eq]
  dsimp only
  generalize clamp32 _ _ v = t
  have hcount := s.countDoor_standing t (v % m32)
  have hmem := State.mem_of_standing hcount
  split
  case isTrue hsame => exact ⟨hmem, by rw [State.ctx_of_standing hcount, hsame], rfl⟩
  case isFalse =>
    refine ⟨by rw [State.track_mem, State.setCtx_mem, hmem], ?_, by rw [State.track_cnt _ _ (by decide), State.setCtx_cnt]⟩
    rw [Ctx.of_settled (fun x => (x.queue q).tail) (State.track_ctx _ c c), State.setCtx_ctx_self, Ctx.tailed_tail]

theorem State.setRingHead_eq (s : State) (c v : Nat) :
    let h := clamp32 (s.ctx c).ringHead (s.ctx c).ringTail v
    s.setRingHead c v = ((s.countDoor h (v % m32)).setCtx c { s.ctx c with ringHead := h }).track c := rfl

/-- A head write leaves memory; the ring has the clamped head, and a clamp is counted. -/
theorem State.setRingHead_spec (s : State) (c v : Nat) :
    let h := clamp32 (s.ctx c).ringHead (s.ctx c).ringTail v
    (s.setRingHead c v).mem = s.mem ∧ ((s.setRingHead c v).ctx c).ringHead = h
      ∧ (s.setRingHead c v).cnt 0x3110 2 = (s.countDoor h (v % m32)).cnt 0x3110 2 := by
  rw [State.setRingHead_eq]
  dsimp only
  generalize clamp32 _ _ v = h
  have hmem := State.mem_of_standing (s.countDoor_standing h (v % m32))
  refine ⟨by rw [State.track_mem, State.setCtx_mem, hmem], ?_, by rw [State.track_cnt _ _ (by decide), State.setCtx_cnt]⟩
  rw [Ctx.of_settled Ctx.ringHead (State.track_ctx _ c c), State.setCtx_ctx_self]

/-! ### The doorbell page -/

theorem exec_doorbellTailWrite {dt c q v : Nat} {s : State} (h : (s.elapse dt).up = true)
    (hstate : ((s.elapse dt).ctx c).state = 2 ∨ ((s.elapse dt).ctx c).state = 3) (hdrain : ((s.elapse dt).ctx c).draining = false)
    (hq : q ≤ 273) : exec (.doorbellTailWrite dt c q v) s = .next ((s.elapse dt).setTail c q (v % m32)) := by
  have hopen : ¬ (((s.elapse dt).ctx c).state != 2 && ((s.elapse dt).ctx c).state != 3 && ((s.elapse dt).ctx c).state != 4) = true := by
    rcases hstate with e | e <;> simp [e]
  have hoff : 8 * q < 0x1000 := by omega
  have hplace : 8 * q % 8 = 0 ∧ 8 * q / 8 ≤ 273 ∧ ((s.elapse dt).ctx c).draining = false := ⟨by omega, by omega, hdrain⟩
  have hindex : 8 * q / 8 = q := by omega
  refine congrArg Host.Outcome.next ((State.whenUp_up _ h).trans ?_)
  rw [if_pos hq, State.doorWrite, if_neg hopen, if_pos hoff, if_pos hplace, hindex]

theorem exec_completionHeadWrite {dt c v : Nat} {s : State} (h : (s.elapse dt).up = true)
    (hstate : ((s.elapse dt).ctx c).state = 2 ∨ ((s.elapse dt).ctx c).state = 3 ∨ ((s.elapse dt).ctx c).state = 4) :
    exec (.completionHeadWrite dt c v) s = .next ((s.elapse dt).setRingHead c (v % m32)) := by
  have hopen : ¬ (((s.elapse dt).ctx c).state != 2 && ((s.elapse dt).ctx c).state != 3 && ((s.elapse dt).ctx c).state != 4) = true := by
    rcases hstate with e | e | e <;> simp [e]
  refine congrArg Host.Outcome.next ((State.whenUp_up _ h).trans ?_)
  rw [State.doorWrite, if_neg hopen, if_neg (by decide), if_pos rfl]

/-! ### O22 -/

/-- Settles O22: the page leads to the clamp, and the tracking of the context moves neither window nor memory. -/
theorem doorbellWritesClamp : Obligations.DoorbellWritesClamp := by
  refine ⟨?_, ?_, fun lo hi v => ⟨clamp32_mem lo hi v, clamp32_inside, fun h => ⟨clamp32_nearHigh h, clamp32_nearLow h⟩⟩⟩
  · rintro dt c q v s _ rfl hup hstate hdrain hq
    obtain ⟨hmem, htail, hcnt⟩ := (s.elapse dt).setTail_spec c q (v % m32)
    rw [State.countDoor_cnt, Nat.mod_mod] at hcnt
    exact ⟨_, exec_doorbellTailWrite hup hstate hdrain hq, hmem, htail, hcnt⟩
  · rintro dt c v s _ rfl hup hstate
    obtain ⟨hmem, hhead, hcnt⟩ := (s.elapse dt).setRingHead_spec c (v % m32)
    rw [State.countDoor_cnt, Nat.mod_mod] at hcnt
    exact ⟨_, exec_completionHeadWrite hup hstate, hmem, hhead, hcnt⟩

end Sys2Proof.Machine
end

section
/-! PROOFS. The start of a command (R219, R220, R226, R239): the head command of the choice leaves its queue and runs. -/

namespace Sys2Proof.Machine

/-! ### Counts at the start (R75, R99, R142, R146, R154) -/

theorem State.countFieldClamps_standing (s : State) (c : Nat) (m : Cmd) (block : List Byte) :
    (s.countFieldClamps c m block).standing = s.standing := by
  unfold State.countFieldClamps
  dsimp only
  split <;> simp only [apply_ite State.standing, State.bump_standing, State.bumpBy_standing, ite_self]

theorem State.countPreempt_standing (s : State) (e : Nat) (c : Option Nat) : (s.countPreempt e c).standing = s.standing := by
  unfold State.countPreempt
  simp only [apply_ite State.standing, State.countEvent_standing, State.bump_standing, ite_self]

theorem State.setBay_standing (s : State) (b : Nat) (x : Bay) : (s.setBay b x).standing = s.standing := rfl

theorem State.touchBay_standing (s : State) (e : Nat) : (s.touchBay e).standing = s.standing := by
  unfold State.touchBay
  split
  · simp only [apply_ite State.standing, State.setBay_standing, State.countPreempt_standing, ite_self]
  · rfl

/-! ### The run -/

theorem State.place_running (s : State) (e : Nat) (r : Run) : ((s.place e r).engine e).running = some r :=
  congrArg Engine.running (State.setEngine_engine_self _ _ _)

theorem State.setEngine_ctx (s : State) (e : Nat) (g : Engine) (c : Nat) : (s.setEngine e g).ctx c = s.ctx c := rfl

theorem State.place_ctx (s : State) (e : Nat) (r : Run) (c : Nat) : (s.place e r).ctx c = s.ctx c :=
  (State.setEngine_ctx _ _ _ c).trans (State.ctx_of_standing (s.touchBay_standing e) c)

theorem Queue.touch_head (q : Queue) (now : Nat) : (q.touch now).head = q.head := by
  unfold Queue.touch
  rw [apply_ite Queue.head, ite_self]

/-- The queue whose head has started. -/
def Queue.started (y : Queue) (now : Nat) : Queue :=
  ({ y with head := (y.head + 1) % m32, headStamp := none, timedOut := false } : Queue).touch now

theorem Ctx.takeHead_queue (x : Ctx) (q : Nat) (m : Cmd) (now : Nat) : (x.takeHead q m now).queue q = (x.queue q).started now := by
  have hqueues : (x.takeHead q m now).queues = (x.setQueue q ((x.queue q).started now)).queues := by
    unfold Ctx.takeHead
    dsimp only
    split
    · rfl
    · rfl
  rw [Ctx.queue, hqueues]
  exact Assoc.get_set_self _ _ _ _

theorem Queue.started_head (y : Queue) (now : Nat) : (y.started now).head = (y.head + 1) % 2 ^ 32 := Queue.touch_head _ now

/-- The head command of context `c` on engine `e` as it runs from its start on (R219, R226). -/
def State.headRun (s : State) (e c rank : Nat) : Run :=
  let y := (s.ctx c).queue e
  let h := s.headCmd c e
  let d := s.roundingDefaults h.1
  { ctx := c, queue := e, slot := y.head, cmd := h.1, clamped := s.headClamped c e h, start := s.stamp, issued := y.arrivalOf y.head,
    level := min 4 rank, defGrain := d.1, defOther := d.2, block := s.blockOf e c h.1, tile := none, slots := 0, await := .none,
    waitFrom := s.stamp, failed := none, woken := false, out := [], purlin := false }

/-- Before its run is placed, the head has left the queue, its clamps are counted, and the engine notes the start (R239). -/
def State.headTaken (s : State) (e c : Nat) : State :=
  let h := s.headCmd c e
  let u := s.setCtx c ((s.ctx c).takeHead e h.1 s.stamp)
  let v := (if s.headClamped c e h then u.bump 0x3110 2 else u).countFieldClamps c h.1 (s.blockOf e c h.1)
  v.setEngine e { v.engine e with lastStart := Assoc.set 0 (v.engine e).lastStart c v.stamp }

theorem State.headTaken_ctx (s : State) (e c : Nat) :
    (s.headTaken e c).ctx c = (s.ctx c).takeHead e (s.headCmd c e).1 s.stamp := by
  unfold State.headTaken
  dsimp only
  rw [State.setEngine_ctx, State.ctx_of_standing (State.countFieldClamps_standing _ _ _ _), apply_ite (State.ctx · c), State.bump_ctx, ite_self,
    State.setCtx_ctx_self]

theorem State.startHead_eq (s : State) (e c rank : Nat) :
    s.startHead e c rank = ((s.headTaken e c).place e (s.headRun e c rank)).track c := rfl

theorem State.startHead_running (s : State) (e c rank : Nat) : ((s.startHead e c rank).engine e).running = some (s.headRun e c rank) := by
  rw [State.startHead_eq, State.engine_of_settled (State.track_settled _ _), State.place_running]

theorem State.startHead_queue (s : State) (e c rank : Nat) :
    ((s.startHead e c rank).ctx c).queue e = ((s.ctx c).queue e).started s.stamp := by
  rw [State.startHead_eq, Ctx.of_settled (fun x => x.queue e) (State.track_ctx _ c c), State.place_ctx, State.headTaken_ctx,
    Ctx.takeHead_queue]

/-! ### The choice (R239) -/

/-- On a ready engine with nothing running, a choice of a queue's head that does not complete at once starts it. -/
theorem exec_commandStart_head {dt e : Nat} {s : State} {k : Choice} (h : (s.elapse dt).up = true) (he : e ≤ 273)
    (hready : (s.elapse dt).expireWaits.engineReady e = true) (hidle : ((s.elapse dt).expireWaits.engine e).running = none)
    (hchoice : (s.elapse dt).expireWaits.choose e false = some k) (hpick : k.pick = .head)
    (hstarts : (s.elapse dt).expireWaits.instantCode k.ctx e ((s.elapse dt).expireWaits.headCmd k.ctx e).1 = none) :
    exec (.commandStart dt e false) s = .next ((s.elapse dt).expireWaits.startHead e k.ctx k.rank) := by
  refine congrArg Host.Outcome.next ((State.whenUp_up _ h).trans ?_)
  generalize (s.elapse dt).expireWaits = w at *
  have hgoes : ¬ (decide (273 < e) || !w.engineReady e) = true := by simp [he, hready]
  dsimp only
  rw [if_neg hgoes, hidle]
  dsimp only
  rw [hchoice]
  dsimp only [Option.elim]
  rw [State.take, hpick]
  dsimp only
  rw [if_neg Bool.false_ne_true, hstarts]

/-! ### O23 -/

/-- Settles O23: the choice is the head, which starts, and its run and its queue are those of `State.startHead`. -/
theorem commandStartStarts : Obligations.CommandStartStarts := by
  rintro dt e s _ k hup rfl he hready hidle hchoice hpick hstarts
  refine ⟨_, _, exec_commandStart_head hup he hready hidle hchoice hpick hstarts, State.startHead_running _ e k.ctx k.rank,
    rfl, rfl, rfl, rfl, rfl, ?_⟩
  rw [State.startHead_queue, Queue.started_head]

end Sys2Proof.Machine
end

section
/-! PROOFS. Creation (R213, R214): what a create block that the placer accepts defines and reports. -/

namespace Sys2Proof.Machine

/-- A creation without a code has entered its context. -/
theorem State.create_enters {s : State} {c : Create} {place : Placement} (h : (s.create c place).2 = 0) :
    ∃ v : State, (s.create c place).1 = v.enterContext c.id := by
  unfold State.create at h ⊢
  dsimp only at h ⊢
  generalize s.containerAt c.cutList = b at h ⊢
  generalize containerCode b = code at h ⊢
  generalize s.placeContext b c place = r at h ⊢
  split_ifs at h ⊢ with _ _ _ hcode hplaced
  -- the codes that stand before the checks of the container are not 0
  · exact absurd h (bne_iff_ne.mp hcode)
  · exact absurd h (bne_iff_ne.mp hplaced)
  · exact ⟨r.1, rfl⟩

/-- A context that is entered is swapped out (step 5 of R213). -/
theorem State.enterContext_state (s : State) (c : Nat) : ((s.enterContext c).ctx c).state = 3 :=
  congrArg Ctx.state (State.modCtx_ctx_self { s with epochs := Assoc.set 0 s.epochs c ((s.epoch c + 1) % 65536) } c
    (fun x => { x with state := 3 }))

/-- A whole block in range that the placer accepts: code 0, the epoch and the creation are counted in objects 0x3103 and 0x3110. -/
theorem exec_contextCreate_accepts {dt : Nat} {block : List Byte} {place : Placement} {s : State} {c : Create} (h : (s.elapse dt).up = true)
    (hlen : block.length = 64) (hblock : c = Create.raw (leNat block)) (hrange : c.clamp = c)
    (haccepts : ((s.elapse dt).create c place).2 = 0) :
    let v := ((s.elapse dt).create c place).1
    exec (.contextCreate dt block place) s
      = .next (((v.setCnt 0x3103 2 0).setCnt 0x3103 3 (v.epoch c.id)).bump 0x3110 5) := by
  have hfit : fitBytes 64 block = block := hlen ▸ fitBytes_self block
  have hwhole : ¬ (c.clamp != c || block.length != 64) = true := by simp [hrange, hlen]
  refine congrArg Host.Outcome.next ((State.whenUp_up _ h).trans ?_)
  unfold State.actCreate
  dsimp only
  rw [hfit, ← hblock, if_neg hwhole, hrange, if_pos haccepts, haccepts]
  rfl

/-! ### O20 -/

/-- Settles O20: the creation enters its context, and what it reports after that touches no context. -/
theorem contextCreateCompletes : Obligations.ContextCreateCompletes := by
  rintro dt block place s _ c rfl hup hlen hblock hrange haccepts
  obtain ⟨v, hv⟩ := State.create_enters haccepts
  refine ⟨_, exec_contextCreate_accepts hup hlen hblock hrange haccepts, ?_, ?_, ?_⟩
  · rw [State.bump_ctx, State.setCnt_ctx, State.setCnt_ctx, hv, State.enterContext_state]
  · rw [State.bump_cnt_ne _ (by decide), State.setCnt_cnt_ne _ _ (by decide), State.setCnt_cnt_self]
  · rw [State.bump_cnt_ne _ (by decide), State.setCnt_cnt_self]
    rfl

end Sys2Proof.Machine
end

section
/-! PROOFS. What messages, log entries, timers and freed pages leave (R49 to R58, R267 to R282, R476, R480): the stamp, memory, the contexts
and the engines. -/

namespace Sys2Proof.Machine

/-! ### Messages on the fabric (R267 to R282) -/

theorem State.foldl_standing {α : Type} {f : State → α → State} (hf : ∀ s x, (f s x).standing = s.standing) (l : List α) (s : State) :
    (l.foldl f s).standing = s.standing := State.foldl_keeps State.standing hf l s

theorem State.push_standing (s : State) (m : Sent) : (s.push m).standing = s.standing := rfl

theorem State.setLink_standing (s : State) (n : Nat) (l : Link) : (s.setLink n l).standing = s.standing := rfl

theorem State.sendCodewords_standing (s : State) (n : Nat) (l : List (List Nat)) : (s.sendCodewords n l).standing = s.standing := by
  induction l generalizing s with
  | nil => rfl
  | cons c l ih => exact (ih _).trans ((State.push_standing _ _).trans (s.setLink_standing n _))

theorem State.onLink_standing (s : State) (n ty : Nat) (h : FabHdr) (p : List Byte) : (s.onLink n ty h p).standing = s.standing := by
  unfold State.onLink State.startOnLink
  dsimp only
  split
  · rw [State.sendCodewords_standing, State.countEvent_standing, State.push_standing, State.setLink_standing]
  · exact s.setLink_standing n _

theorem State.onPort_standing (s : State) (p d ty : Nat) (h : FabHdr) (l : List Byte) : (s.onPort p d ty h l).standing = s.standing := by
  unfold State.onPort
  rw [State.countEvent_standing, State.push_standing]

theorem State.setFab_standing (s : State) (f : Fabric) : ({ s with fab := f } : State).standing = s.standing := rfl

theorem State.route_standing (s : State) (d ty : Nat) (h : FabHdr) (p : List Byte) : (s.route d ty h p).1.standing = s.standing := by
  unfold State.route
  dsimp only
  split
  · exact (State.onLink_standing _ _ _ _ _).trans (s.setFab_standing _)
  · split
    · rfl
    · exact (State.onPort_standing _ _ _ _ _ _).trans (s.setFab_standing _)

theorem State.fabSend_standing (s : State) (d ty : Nat) (h : FabHdr) (p : List Byte) : (s.fabSend d ty h p).1.standing = s.standing := by
  unfold State.fabSend
  dsimp only
  split
  · rfl
  · dsimp only
    rw [State.bump_standing, State.route_standing]
    rfl

theorem State.routeAll_standing (s : State) (d ty : Nat) (l : List (FabHdr × List Byte)) : (s.routeAll d ty l).standing = s.standing := by
  unfold State.routeAll
  refine State.foldl_standing (fun t m => ?_) l s
  rw [State.bump_standing, State.route_standing]

theorem State.sendCommand_standing (s : State) (d ty : Nat) (l : List (FabHdr × List Byte)) :
    (s.sendCommand d ty l).1.standing = s.standing := by
  unfold State.sendCommand
  dsimp only
  split
  · rfl
  · exact (State.routeAll_standing _ _ _ _).trans (s.setFab_standing _)

theorem State.sendPage_standing (s : State) (c d queue slot : Nat) (p : PagePre) (data : List Byte) :
    (s.sendPage c d queue slot p data).1.standing = s.standing := by
  unfold State.sendPage
  dsimp only
  split
  · rfl
  · exact (State.setFab_standing _ _).trans (State.sendCommand_standing _ _ _ _)

theorem State.sendContribution_standing (s : State) (c d slot : Nat) (p : Preamble) (data : List Byte) :
    (s.sendContribution c d slot p data).standing = s.standing := by
  unfold State.sendContribution
  exact State.fabSend_standing _ _ _ _ _

/-! ### Log entries and shared resources (R49 to R58, R476, R477) -/

theorem State.setFault_standing (s : State) (f : FaultSt) : ({ s with fault := f } : State).standing = s.standing := rfl

theorem State.logEntry_standing (s : State) (a : LogArgs) : (s.logEntry a).standing = s.standing := by
  unfold State.logEntry
  dsimp only
  rw [State.signal_standing]
  exact s.setFault_standing _

theorem State.countRefusal_standing (s : State) (u winner loser code : Nat) : (s.countRefusal u winner loser code).standing = s.standing := by
  unfold State.countRefusal
  dsimp only
  rw [State.setCnt_standing, State.setCnt_standing, State.setCnt_standing, State.setCnt_standing, State.setCnt_standing,
    State.setCnt_standing]

theorem State.grantUnit_standing (s : State) (u : Nat) (a : Asker) (level : Nat) : (s.grantUnit u a level).standing = s.standing := rfl

theorem State.startPolling_standing (s : State) : s.startPolling.standing = s.standing := by
  unfold State.startPolling
  rw [State.signal_standing, State.bump_standing]
  rfl

theorem State.setSamplingRun_standing (s : State) (n : Nat) (r : Sampling) : (s.setSamplingRun n r).standing = s.standing := by
  unfold State.setSamplingRun
  split
  · rfl
  · rfl

theorem State.loseHooks_standing (s : State) (a : Asker) : (s.loseHooks a).standing = s.standing := by
  cases a
  case sampling n => exact (State.signal_standing _ _ _).trans ((State.bump_standing _ _ _).trans (s.setSamplingRun_standing n _))
  case windows =>
    unfold State.loseHooks
    dsimp only
    rw [State.logEntry_standing, State.signal_standing, State.bump_standing]
    rfl
  case remoteWait => exact (State.logEntry_standing _ _).trans s.startPolling_standing
  case jobSignal => exact s.setCnt_standing _ _ _
  all_goals exact s.logEntry_standing _

theorem State.refuseHooks_standing (s : State) (a : Asker) : (s.refuseHooks a).standing = s.standing := by
  cases a
  case sampling n => exact s.setSamplingRun_standing n _
  case windows => rfl
  case remoteWait => exact s.startPolling_standing
  case jobSignal => exact s.setCnt_standing _ _ _
  all_goals exact s.logEntry_standing _

theorem State.setResUnit_standing (s : State) (u : Nat) (x : ResUnit) : (s.setResUnit u x).standing = s.standing := rfl

theorem State.requestUnit_standing (s : State) (u : Nat) (a : Asker) (level : Nat) : (s.requestUnit u a level).1.standing = s.standing := by
  unfold State.requestUnit
  split
  · exact s.grantUnit_standing u a level
  · dsimp only
    split
    · rfl
    · split
      · rw [State.refuseHooks_standing, State.grantUnit_standing, State.setResUnit_standing, State.countRefusal_standing]
      · split
        · rw [State.loseHooks_standing, State.grantUnit_standing, State.setResUnit_standing, State.countRefusal_standing]
        · exact s.countRefusal_standing _ _ _ _

theorem State.requestTimer_standing (s : State) (a : Asker) (level : Nat) : (s.requestTimer a level).1.standing = s.standing := by
  unfold State.requestTimer
  split
  · exact s.grantUnit_standing _ a level
  · split
    · exact s.requestUnit_standing _ a level
    · exact s.countRefusal_standing _ _ _ _

theorem State.releaseUnit_standing (s : State) (u : Nat) (a : Asker) : (s.releaseUnit u a).standing = s.standing := by
  unfold State.releaseUnit
  dsimp only
  split
  · split
    · rfl
    · rfl
  · rfl

theorem State.armTimer_standing (s : State) : s.armTimer.standing = s.standing := by
  unfold State.armTimer
  split
  · split
    · exact (State.releaseUnit_standing _ _ _).trans rfl
    · rfl
  · split
    · rfl
    · dsimp only
      split
      · exact s.requestTimer_standing _ _
      · exact (State.startPolling_standing _).trans (s.requestTimer_standing _ _)

theorem State.recoveryOn_standing (s : State) : s.recoveryOn.standing = s.standing := by
  unfold State.recoveryOn
  split
  · split
    · rfl
    · exact s.requestUnit_standing _ _ _
  · exact s.requestUnit_standing _ _ _

theorem State.recoveryOff_standing (s : State) : s.recoveryOff.standing = s.standing := by
  unfold State.recoveryOff
  dsimp only
  split
  · rfl
  · exact s.releaseUnit_standing _ _

theorem State.log_standing (s : State) (a : LogArgs) : (s.log a).standing = s.standing := by
  have hfatal : ({ s.logEntry a with fault := { (s.logEntry a).fault with fatalUnacked := true } } : State).standing = s.standing :=
    (State.setFault_standing _ _).trans (s.logEntry_standing a)
  unfold State.log
  dsimp only
  split
  · split
    · split
      · exact hfatal
      · exact (State.requestUnit_standing _ _ _ _).trans hfatal
    · exact (State.requestUnit_standing _ _ _ _).trans hfatal
  · exact s.logEntry_standing a

/-! ### The health score (R480, R481) -/

theorem State.healthChanged_standing (s : State) (before : Nat) : (s.healthChanged before).standing = s.standing := by
  unfold State.healthChanged
  rw [apply_ite State.standing, State.signal_standing, ite_self]

theorem State.deduct_standing (s : State) (points : Nat) : (s.deduct points).standing = s.standing := by
  unfold State.deduct
  dsimp only
  split
  · exact (State.bump_standing _ _ _).trans (s.setFault_standing _)
  · rw [State.healthChanged_standing]
    rfl

theorem State.deductPermanent_standing (s : State) (key points : Nat) : (s.deductPermanent key points).standing = s.standing := by
  unfold State.deductPermanent
  dsimp only
  rw [State.healthChanged_standing]
  rfl

/-! ### Pages and objects that are freed (R182, R187, R197) -/

theorem State.zeroHbm_standing (s : State) (p : Nat) : (s.zeroHbm p).standing = s.standing := rfl

theorem State.zeroSill_standing (s : State) (p : Nat) : (s.zeroSill p).standing = s.standing := rfl

theorem State.freeObject_standing (s : State) (id : Nat) : (s.freeObject id).standing = s.standing := by
  have hpages (o : Obj) : (s.freePages o).standing = s.standing := by
    unfold State.freePages
    split
    · exact State.foldl_standing State.zeroHbm_standing _ s
    · exact State.foldl_standing State.zeroSill_standing _ s
  exact hpages (s.object id)

theorem State.setObject_standing (s : State) (id : Nat) (o : Obj) : (s.setObject id o).standing = s.standing := rfl

theorem State.setSillPage_standing (s : State) (p : Nat) (x : SillPage) : (s.setSillPage p x).standing = s.standing := rfl

theorem State.countMaps_standing (s : State) (id : Nat) (up : Bool) : (s.countMaps id up).standing = s.standing := by
  unfold State.countMaps
  dsimp only
  split
  · rfl
  · exact State.foldl_standing (fun t p => t.setSillPage_standing p _) _ s

theorem State.releaseIds_standing (s : State) (ids : List Nat) : (s.releaseIds ids).standing = s.standing := by
  unfold State.releaseIds
  refine State.foldl_standing (fun t id => ?_) ids s
  dsimp only
  split
  · exact t.freeObject_standing id
  · exact t.setObject_standing id _

end Sys2Proof.Machine
end

section
/-! PROOFS. Teardown (R230, R464): quarantine that ends with a close, the drain, the invalidation and the zeroing. -/

namespace Sys2Proof.Machine

/-! ### The stage of a context -/

/-- What of a context neither completions, nor images, nor a bay out of service change: its state, its step, its stack, and whether a step
of it has closed. -/
def Ctx.stage (x : Ctx) : Nat × Bool × Sparse Segment × List Held × Bool := (x.state, x.stepOpen, x.segments, x.held, x.stats.closed)

/-- The stamp, and the stage of context `c`. -/
def State.stage (s : State) (c : Nat) : Nat × Nat × Bool × Sparse Segment × List Held × Bool := (s.stamp, (s.ctx c).stage)

theorem State.stage_of_settled {s t : State} (h : t.settled = s.settled) (c : Nat) : t.stage c = s.stage c :=
  congrArg (fun x : Nat × Sparse Engine × (Nat → Ctx) => (x.1, (x.2.2 c).stage)) h

theorem State.stage_of_standing {s t : State} (h : t.standing = s.standing) (c : Nat) : t.stage c = s.stage c :=
  State.stage_of_settled (State.settled_of_standing h) c

/-- A change of a context that leaves its stage leaves every stage. -/
theorem State.setCtx_stage {s : State} {c : Nat} {x : Ctx} (h : x.stage = (s.ctx c).stage) (d : Nat) :
    (s.setCtx c x).stage d = s.stage d := by
  unfold State.stage
  by_cases hd : d = c
  · subst hd
    rw [State.setCtx_ctx_self, h]
    rfl
  · rw [State.setCtx_ctx_ne s x hd]
    rfl

theorem State.modCtx_stage {s : State} {c : Nat} {f : Ctx → Ctx} (h : (f (s.ctx c)).stage = (s.ctx c).stage) (d : Nat) :
    (s.modCtx c f).stage d = s.stage d := State.setCtx_stage h d

/-- What every step of a fold leaves of a stage, the fold leaves. -/
theorem State.foldl_stage {α : Type} {f : State → α → State} (c : Nat) (hf : ∀ s x, (f s x).stage c = s.stage c) (l : List α) (s : State) :
    (l.foldl f s).stage c = s.stage c := State.foldl_keeps (State.stage · c) hf l s

theorem State.finish_stage (s : State) (c : Nat) (d : Done) (b : Nat) : (s.finish c d).stage b = s.stage b :=
  (State.stage_of_settled (s.finish_settled c d) b).trans (State.setCtx_stage (by rfl) b)

/-! ### Bays out of service (R33, R191, R534) -/

theorem State.prefRecord_stage (s : State) (c b code d : Nat) : (s.prefRecord c b code).stage d = s.stage d := by
  unfold State.prefRecord
  dsimp only
  split
  · rfl
  · exact (State.stage_of_settled (State.putBytes_settled _ _ _ _) d).trans (State.setCtx_stage (by rfl) d)

theorem State.endPref_stage (s : State) (c b code : Nat) (f : Flight) (d : Nat) : (s.endPref c b code f).stage d = s.stage d := by
  have hdone (t : State) : (t.prefDone c b).stage d = t.stage d :=
    (State.stage_of_settled (State.track_settled _ c) d).trans
      ((State.stage_of_standing (State.bump_standing _ _ _) d).trans (State.modCtx_stage (by rfl) d))
  unfold State.endPref
  rw [hdone]
  split
  · exact s.prefRecord_stage c b code d
  · rfl

theorem State.endFlights_stage (s : State) (b code d : Nat) : (s.endFlights b code).stage d = s.stage d := by
  unfold State.endFlights
  refine State.foldl_stage d (fun t e => ?_) _ s
  refine (State.foldl_stage d (fun v f => v.endPref_stage e.1 b code f d) _ _).trans ?_
  split
  · rfl
  · exact State.modCtx_stage (by rfl) d

/-- A view of an entry that differs from the default's and that the change of every entry leaves: the entry is not dropped. -/
theorem Assoc.view_get_mapVals {α γ : Type} [DecidableEq α] (d : α) {f : Nat → α → α} (g : α → γ) (hf : ∀ k v, g (f k v) = g v)
    {l : List (Nat × α)} {k : Nat} (h : g (Assoc.get d l k) ≠ g d) : g (Assoc.get d (Assoc.mapVals d f l) k) = g (Assoc.get d l k) := by
  induction l with
  | nil => rfl
  | cons e l ih =>
    obtain ⟨j, v⟩ := e
    have hcons : Assoc.mapVals d f ((j, v) :: l)
        = if f j v ≠ d then (j, f j v) :: Assoc.mapVals d f l else Assoc.mapVals d f l := by
      simp only [Assoc.mapVals, List.map_cons, List.filter_cons, decide_eq_true_eq]
    rw [hcons]
    by_cases hk : k = j
    · subst hk
      rw [Assoc.get, if_pos rfl] at h ⊢
      have hstays : f k v ≠ d := fun hd => h (by rw [← hf k v, hd])
      rw [if_pos hstays, Assoc.get, if_pos rfl, hf]
    · rw [Assoc.get, if_neg hk] at h ⊢
      split
      · rw [Assoc.get, if_neg hk, ih h]
      · exact ih h

/-- A bay that leaves service withdraws its grants, and the contexts that stand in some stage stay in it. -/
theorem State.bayOut_stage {s : State} {c : Nat} (h : (s.ctx c).stage ≠ Ctx.undefined.stage) (b : Nat) : (s.bayOut b).stage c = s.stage c := by
  unfold State.bayOut
  split
  · rfl
  · dsimp only
    have hflights := s.endFlights_stage b 0x020A c
    generalize s.endFlights b 0x020A = t at hflights ⊢
    rw [State.stage_of_standing (State.log_standing _ _), State.stage_of_standing (State.deductPermanent_standing _ _ _), ← hflights]
    have hctx : (t.ctx c).stage ≠ Ctx.undefined.stage := by rwa [show (t.ctx c).stage = (s.ctx c).stage from congrArg Prod.snd hflights]
    exact congrArg (Prod.mk t.stamp) (Assoc.view_get_mapVals Ctx.undefined (f := fun _ x => x.withdraw b) Ctx.stage (fun _ _ => rfl) hctx)

/-! ### Quarantine (R464 to R466) -/

theorem State.nextSuspect_stage {s : State} {c : Nat} (h : (s.ctx c).stage ≠ Ctx.undefined.stage) (b : Nat) :
    (s.nextSuspect b).stage c = s.stage c := by
  unfold State.nextSuspect
  dsimp only
  split
  · rfl
  · split
    · rw [State.stage_of_standing (State.recoveryOn_standing _), State.stage_of_standing (State.log_standing _ _),
        State.stage_of_standing (State.bump_standing _ _ _), State.stage_of_standing (State.setBay_standing _ _ _)]
    · split
      · exact State.stage_of_standing (State.setBay_standing _ _ _) c
      · have hdeduct (x : Bay) : ((s.setBay b x).deduct 40).standing = s.standing := (State.deduct_standing _ _).trans (s.setBay_standing b x)
        split
        · have hctx (x : Bay) : (((s.setBay b x).deduct 40).ctx c).stage ≠ Ctx.undefined.stage := by
            rwa [State.ctx_of_standing (hdeduct x)]
          exact (State.bayOut_stage (hctx _) b).trans (State.stage_of_standing (hdeduct _) c)
        · exact State.stage_of_standing (hdeduct _) c

theorem State.endQuarantine_stage {s : State} {c : Nat} (h : (s.ctx c).stage ≠ Ctx.undefined.stage) (b : Nat) :
    (s.endQuarantine b).stage c = s.stage c := by
  have hnext (x : Bay) : ((s.setBay b x).nextSuspect b).stage c = s.stage c := State.nextSuspect_stage (s := s.setBay b x) h b
  unfold State.endQuarantine
  dsimp only
  split
  · rfl
  · exact (State.stage_of_standing (State.recoveryOff_standing _) c).trans (hnext _)

theorem State.leaveQuarantine_stage {s : State} {c : Nat} (h : (s.ctx c).stage ≠ Ctx.undefined.stage) (d : Nat) :
    (s.leaveQuarantine d).stage c = s.stage c := by
  unfold State.leaveQuarantine
  refine List.foldlRecOn (motive := fun t : State => t.stage c = s.stage c) _ _ rfl fun t ht e _ => ?_
  have hctx : (t.ctx c).stage ≠ Ctx.undefined.stage := by rwa [show (t.ctx c).stage = (s.ctx c).stage from congrArg Prod.snd ht]
  split
  · exact (State.endQuarantine_stage hctx e.1).trans ht
  · exact ht

/-! ### The close -/

/-- The row of the object that closes a context. -/
def closeRow : ORow := ⟨0x3104, 1, 1, .u16, .cmd, .num 0, .spans [(0, 4095)]⟩

theorem rowFor_close : rowFor 0x3104 1 = some closeRow := by decide +kernel

theorem numNear_close {c : Nat} (h : c < 4096) : numNear closeRow c = c := by
  have hlow : ¬ (c : Int) < 0 := by omega
  have hhigh : ¬ (4095 : Int) < c := by omega
  change (spanNear (c : Int) (0, 4095)).toNat = c
  rw [spanNear, if_neg hlow, if_neg hhigh, Int.toNat_natCast]

/-- The close of a context that is resident and in no swap. -/
theorem exec_contextClose_resident {dt c : Nat} {s : State} (h : (s.elapse dt).up = true) (hc : c < 4096)
    (hstate : ((s.elapse dt).ctx c).state = 2) (hin : (s.elapse dt).sched.swapping ≠ some c)
    (hout : (s.elapse dt).sched.outgoing.contains c = false) :
    exec (.contextClose dt c) s = .next (((s.elapse dt).leaveQuarantine c).beginClose c) := by
  have hdefined : ¬ (!((s.elapse dt).ctx c).defined) = true := by simp [Ctx.defined, hstate]
  have hopen : ¬ ((s.elapse dt).ctx c).state = 4 := by simp [hstate]
  have hswap : ¬ ((s.elapse dt).sched.swapping = some c ∨ (s.elapse dt).sched.outgoing.contains c = true) := by
    rintro (e | e)
    · exact hin e
    · exact Bool.false_ne_true (hout.symm.trans e)
  refine congrArg Host.Outcome.next ((State.whenUp_up _ h).trans ?_)
  unfold State.actClose
  rw [State.clampNum_near rowFor_close (numNear_close hc)]
  dsimp only
  rw [if_neg hdefined, if_neg hopen, if_neg hswap]

theorem State.noteResident_stage (s : State) (c : Nat) : s.noteResident.stage c = s.stage c := by
  unfold State.noteResident
  split
  · rfl
  · rfl

/-- A close that finds its context resident leaves the drain to the rest of its work. -/
theorem State.beginClose_ctx {s : State} {c : Nat} (h : (s.ctx c).state = 2) :
    (s.beginClose c).ctx c = { s.ctx c with
      state := 4, closeStamp := s.noteResident.stamp, closePhase := 1, closePending := false, waitSince := none } := by
  unfold State.beginClose
  dsimp only
  rw [if_neg (by simp [h]), State.setCtx_ctx_self]

/-! ### The drain -/

theorem State.closeNotices_mem (s : State) (c : Nat) : (s.closeNotices c).mem = s.mem := by
  unfold State.closeNotices
  exact State.mem_of_standing (State.foldl_standing (fun t d => t.fabSend_standing d 0x30 _ []) _ s)

theorem State.endDrain_closePhase (s : State) (c : Nat) : ((s.endDrain c).ctx c).closePhase = 2 :=
  congrArg Ctx.closePhase (State.modCtx_ctx_self (s.closeNotices c) c (fun x => { x with closePhase := 2 }))

theorem State.endDrain_mem (s : State) (c : Nat) : (s.endDrain c).mem = s.mem := s.closeNotices_mem c

theorem exec_teardownDrainEnd_drained {dt c : Nat} {s : State} (h : (s.elapse dt).up = true)
    (hphase : ((s.elapse dt).ctx c).closePhase = 1) (hdrained : (s.elapse dt).drained c = true) :
    exec (.teardownDrainEnd dt c) s = .next ((s.elapse dt).endDrain c) := by
  refine congrArg Host.Outcome.next ((State.whenUp_up _ h).trans ?_)
  rw [if_neg (by simp [hdrained]), if_pos hphase]

theorem exec_teardownDrainLimit_passed {dt c : Nat} {s : State} (h : (s.elapse dt).up = true)
    (hphase : ((s.elapse dt).ctx c).closePhase = 1) (hdrains : (s.elapse dt).drained c = false)
    (hlimit : ((s.elapse dt).ctx c).closeStamp + 200 * us ≤ (s.elapse dt).stamp) :
    exec (.teardownDrainLimit dt c) s = .next ((((s.elapse dt).abortAll c).bump 0x3110 7).endDrain c) := by
  refine congrArg Host.Outcome.next ((State.whenUp_up _ h).trans ?_)
  dsimp only
  rw [if_neg (by simp [hdrains]), if_pos hphase, if_pos hlimit]

/-! ### The invalidation -/

theorem State.releaseVersions_mem (s : State) (c : Nat) : (s.releaseVersions c).mem = s.mem := by
  have hsignals (t : State) (l : List Version) :
      (l.foldl (fun (s : State) _ => (s.bump 0x4310 0x0C).signal 246 (some c)) t).standing = t.standing :=
    State.foldl_standing (fun v _ => (State.signal_standing _ _ _).trans (v.bump_standing _ _)) l t
  unfold State.releaseVersions
  dsimp only
  rw [State.mem_of_standing (State.releaseIds_standing _ _)]
  refine (State.mem_of_standing (hsignals _ _)).trans ?_
  split
  · exact State.mem_of_standing (State.foldl_standing (fun t id => t.countMaps_standing id false) _ s)
  · rfl

/-- The closing context once its pages and banks are on their way to zeroing. -/
def Ctx.zeroed (x : Ctx) (pages : List Nat) : Ctx :=
  { x with closePhase := 3, grant := [], saved := [], held := [], segments := [], parked := [], pages := pages }

/-- Zeroing is asked for, and no byte is zeroed yet: the context lets go of everything, and the timer follows its waits. -/
theorem State.zeroContext_eq (s : State) (c : Nat) :
    ∃ (v : State) (pages : List Nat), s.zeroContext c = (v.modCtx c (fun x => x.zeroed pages)).armTimer ∧ v.mem = s.mem := by
  refine ⟨_, _, rfl, ?_⟩
  have hbays (t : State) (l : Sparse Nat) : (l.foldl (fun (s : State) g =>
      s.setBay g.1 { s.bay g.1 with dirty := (s.bay g.1).dirty ||| g.2, zeroing := true }) t).standing = t.standing :=
    State.foldl_standing (fun v g => v.setBay_standing g.1 _) l t
  refine (State.mem_of_standing (hbays _ _)).trans ((State.releaseVersions_mem _ c).trans ?_)
  exact State.mem_of_standing (State.foldl_standing State.zeroHbm_standing _ s)

theorem State.zeroUnnamed_standing (s : State) : s.zeroUnnamed.standing = s.standing := rfl

/-- No agent uses an entry of context `c` as it was any more. -/
def State.unstale (s : State) (c : Nat) : State := { s with stale := s.stale.filter (fun e => e.ctx != c) }

theorem exec_invalidationComplete_closing {dt c : Nat} {s : State} (h : (s.elapse dt).up = true)
    (hphase : ((s.elapse dt).ctx c).closePhase = 2) :
    exec (.invalidationComplete dt c) s = .next (((s.elapse dt).unstale c).zeroContext c).zeroUnnamed := by
  exact congrArg Host.Outcome.next ((State.whenUp_up _ h).trans (congrArg State.zeroUnnamed (if_pos hphase)))

/-! ### The end -/

theorem exec_teardownComplete_zeroed {dt c : Nat} {s : State} (h : (s.elapse dt).up = true)
    (hphase : ((s.elapse dt).ctx c).closePhase = 3) (hpages : ((s.elapse dt).ctx c).pages = [])
    (hbays : ∀ b, ((s.elapse dt).bay b).zeroing = false) :
    exec (.teardownComplete dt c) s = .next ((s.elapse dt).undefine c) := by
  refine congrArg Host.Outcome.next ((State.whenUp_up _ h).trans (if_pos ?_))
  simp [hphase, hpages, hbays]

theorem State.recoveryOff_cnt (s : State) (i k : Nat) : s.recoveryOff.cnt i k = s.cnt i k := by
  unfold State.recoveryOff State.releaseUnit
  dsimp only
  split
  · rfl
  · split
    · split
      · rfl
      · rfl
    · rfl

/-- The last step undefines the ID, and what follows is counts. -/
theorem State.undefine_eq (s : State) (c : Nat) :
    ∃ v : State, s.undefine c = ((v.setCnt 0x3104 2 0).bump 0x3110 6).recoveryOff ∧ v.ctx c = Ctx.undefined :=
  ⟨_, rfl, State.setCtx_ctx_self _ c Ctx.undefined⟩

/-! ### O21 -/

/-- Settles O21: each command makes the one step of its phase, and what goes with it touches neither the phase nor memory. -/
theorem teardownAdvances : Obligations.TeardownAdvances := by
  rintro dt c s _ rfl hup hc
  refine ⟨fun hstate hin hout => ?_, fun hphase hdrained => ?_, fun hphase hdrains hlimit => ?_, fun hphase => ?_,
    fun hphase hpages hbays => ?_⟩
  · have hstage : ((s.elapse dt).ctx c).stage ≠ Ctx.undefined.stage := by
      intro e
      have hzero : ((s.elapse dt).ctx c).state = 0 := congrArg Prod.fst e
      omega
    obtain ⟨hstamp, hctx⟩ := Prod.mk.inj (State.leaveQuarantine_stage hstage c)
    have hresident : (((s.elapse dt).leaveQuarantine c).ctx c).state = 2 := (congrArg Prod.fst hctx).trans hstate
    have hnow := congrArg Prod.fst (((s.elapse dt).leaveQuarantine c).noteResident_stage c)
    refine ⟨_, exec_contextClose_resident hup hc hstate hin hout, ?_⟩
    rw [State.beginClose_ctx hresident]
    exact ⟨rfl, rfl, hnow.trans hstamp⟩
  · exact ⟨_, exec_teardownDrainEnd_drained hup hphase hdrained, State.endDrain_closePhase _ c, State.endDrain_mem _ c⟩
  · exact ⟨_, exec_teardownDrainLimit_passed hup hphase hdrains hlimit, State.endDrain_closePhase _ c⟩
  · obtain ⟨v, pages, heq, hmem⟩ := ((s.elapse dt).unstale c).zeroContext_eq c
    have hend := (State.zeroUnnamed_standing _).trans (State.armTimer_standing (v.modCtx c (fun x => x.zeroed pages)))
    refine ⟨_, exec_invalidationComplete_closing hup hphase, ?_⟩
    rw [heq, State.ctx_of_standing hend, State.modCtx_ctx_self]
    exact ⟨rfl, rfl, rfl, (State.mem_of_standing hend).trans hmem⟩
  · obtain ⟨v, heq, hv⟩ := (s.elapse dt).undefine_eq c
    refine ⟨_, exec_teardownComplete_zeroed hup hphase hpages hbays, ?_, ?_⟩
    · rw [heq, State.ctx_of_standing (State.recoveryOff_standing _), State.bump_ctx, State.setCnt_ctx, hv]
    · rw [heq, State.recoveryOff_cnt, State.bump_cnt_ne _ (by decide), State.setCnt_cnt_self]

end Sys2Proof.Machine
end

section
/-! PROOFS. Markers and steps (R151, R221, R248, R347 to R352, R469): the commands of the control queue, and what a step's close leaves of
its context's stage. -/

namespace Sys2Proof.Machine

/-! ### No-op and layer marker -/

theorem State.onRun_op {dt e op : Nat} {s : State} {r : Run} (h : (s.elapse dt).runs e r) (hop : r.cmd.opcode = op)
    (f : State → Run → State) : (s.elapse dt).onRun e (isOp op) f = f (s.elapse dt) r :=
  State.onRun_runs h (by simp [isOp, hop]) f

theorem exec_noOp_ends {dt e : Nat} {s : State} {r : Run} (h : (s.elapse dt).runs e r) (hop : r.cmd.opcode = 0)
    (hmay : (s.elapse dt).mayEnd e r = true) : exec (.noOp dt e) s = .next ((s.elapse dt).endWith e r 0) :=
  congrArg Host.Outcome.next ((State.onRun_op h hop _).trans (if_pos hmay))

/-- A context passes layer marker `r` on bay `b` (R190, R257). -/
def Ctx.marked (x : Ctx) (b : Nat) (r : Run) : Ctx :=
  x.setBayStep b { x.bayStep b with marker := ((x.bayStep b).marker + 1) % 65536, swapFlag := r.cmd.body.testBit 895 }

theorem exec_layerMarker_ends {dt e : Nat} {s : State} {r : Run} (h : (s.elapse dt).runs e r) (hop : r.cmd.opcode = 1)
    (hmay : (s.elapse dt).mayEnd e r = true) :
    exec (.layerMarker dt e) s = .next (((s.elapse dt).modCtx r.ctx (fun x => x.marked (e / 4) r)).endWith e r 0) :=
  congrArg Host.Outcome.next ((State.onRun_op h hop _).trans (if_pos hmay))

/-! ### Step open -/

/-- The state that a step open leaves its context in: its version mapped, the step open. -/
def State.opened (s : State) (r : Run) : State :=
  ((s.mapVersion r.ctx (s.ctx r.ctx).nextVersion).modCtx r.ctx (fun x => x.opened (bits r.cmd.body 895 864))).clearWaits r.ctx

theorem exec_stepOpen_opens {dt : Nat} {s : State} {r : Run} (h : (s.elapse dt).runs 273 r) (hop : r.cmd.opcode = 2) :
    exec (.stepOpen dt) s = .next (((s.elapse dt).opened r).endWith 273 r 0) :=
  congrArg Host.Outcome.next (State.onRun_op h hop _)

theorem State.clearWaits_ctx (s : State) (c d : Nat) : (s.clearWaits c).ctx d = s.ctx d := rfl

theorem State.opened_ctx (s : State) (r : Run) : ∃ x : Ctx, (s.opened r).ctx r.ctx = x.opened (bits r.cmd.body 895 864) := by
  unfold State.opened
  rw [State.clearWaits_ctx, State.modCtx_ctx_self]
  exact ⟨_, rfl⟩

/-! ### Runs that end, and abandoned steps (R468, R469) -/

theorem State.setEngine_stage (s : State) (e : Nat) (g : Engine) (c : Nat) : (s.setEngine e g).stage c = s.stage c := rfl

theorem Ctx.takeHead_stage (x : Ctx) (q : Nat) (m : Cmd) (now : Nat) : (x.takeHead q m now).stage = x.stage := by
  unfold Ctx.takeHead
  dsimp only
  split
  · dsimp only [Ctx.stage, Ctx.setSlot, Ctx.setParked, Ctx.setQueue]
  · dsimp only [Ctx.stage, Ctx.setParked, Ctx.setQueue]

theorem State.clearEngine_stage (s : State) (e : Nat) (p : Run → Bool) (d : Nat) : (s.clearEngine e p).stage d = s.stage d :=
  s.setEngine_stage e _ d

theorem State.finishRun_stage (s : State) (r : Run) (code : Nat) (aborted : Bool) (d : Nat) :
    (s.finishRun r code aborted).stage d = s.stage d := s.finish_stage r.ctx _ d

theorem State.endRuns_stage (s : State) (c code : Nat) (aborted : Bool) (d : Nat) : (s.endRuns c code aborted).stage d = s.stage d := by
  unfold State.endRuns
  refine State.foldl_stage d (fun t e => ?_) _ s
  rw [State.finishRun_stage, State.clearEngine_stage]

theorem State.endParked_stage (s : State) (c code : Nat) (aborted : Bool) (d : Nat) : (s.endParked c code aborted).stage d = s.stage d := by
  unfold State.endParked
  dsimp only
  refine (State.foldl_stage d (fun t p => ?_) _ _).trans (State.setCtx_stage (by rfl) d)
  split
  · exact State.finishRun_stage _ _ _ _ d
  · split
    · exact (State.finish_stage _ _ _ d).trans (State.setCtx_stage (Ctx.takeHead_stage _ _ _ _) d)
    · rfl

theorem State.sendAborts_stage (s : State) (c slot kind opcode lost srcSlot d : Nat) :
    (s.sendAborts c slot kind opcode lost srcSlot).stage d = s.stage d := by
  unfold State.sendAborts
  dsimp only
  split
  · rfl
  · refine (State.stage_of_standing (State.foldl_standing (fun t v => t.sendContribution_standing c v srcSlot _ []) _ _) d).trans ?_
    exact State.setCtx_stage (by rfl) d

theorem State.abandon_stage (s : State) (c cause d : Nat) : (s.abandon c cause).stage d = s.stage d := by
  unfold State.abandon State.abandonAs
  dsimp only
  split
  · exact State.stage_of_standing (State.log_standing _ _) d
  · refine (State.stage_of_standing ((State.log_standing _ _).trans (State.bump_standing _ _ _)) d).trans ?_
    refine (State.foldl_stage d (fun t m => t.sendAborts_stage _ _ _ _ _ _ d) _ _).trans ?_
    refine (State.endParked_stage _ _ _ _ d).trans ((State.endRuns_stage _ _ _ _ d).trans ?_)
    exact State.setCtx_stage (by rfl) d

theorem State.endWith_stage (s : State) (e : Nat) (r : Run) (code d : Nat) : (s.endWith e r code).stage d = s.stage d := by
  have hdone : (s.complete e r code).stage d = s.stage d :=
    (State.finishRun_stage _ r code false d).trans (s.setEngine_stage e _ d)
  unfold State.endWith
  dsimp only
  split
  · exact (State.abandon_stage _ _ _ d).trans hdone
  · exact hdone

/-! ### Versions (R347, R348) -/

theorem State.coreWriteNat_settled (s : State) (a n v : Nat) : (s.coreWriteNat a n v).settled = s.settled :=
  State.storeBlind_settled.storeAt s _ _ _

theorem State.changePte_stage (s : State) (c a : Nat) (f : Nat → Nat) (d : Nat) : (s.changePte c a f).stage d = s.stage d := by
  have hstale : (s.noteStale c a).stage d = s.stage d := by
    unfold State.noteStale
    split
    · rfl
    · rfl
  unfold State.changePte
  dsimp only
  split
  · rfl
  · exact (State.stage_of_settled (State.coreWriteNat_settled _ _ _ _) d).trans hstale

theorem State.remap_stage (s : State) (c : Nat) (t : Tensor) (id d : Nat) : (s.remap c t id).stage d = s.stage d := by
  unfold State.remap
  exact State.foldl_stage d (fun v p => v.changePte_stage c _ _ d) _ s

theorem State.mapVersion_stage (s : State) (c v d : Nat) : (s.mapVersion c v).stage d = s.stage d := by
  have hmaps (up : Bool) (l : List Nat) (t : State) : (l.foldl (fun (s : State) id => s.countMaps id up) t).stage d = t.stage d :=
    State.foldl_stage d (fun w id => State.stage_of_standing (w.countMaps_standing id up) d) l t
  unfold State.mapVersion
  dsimp only
  split
  · rfl
  · split
    · rfl
    · refine (State.modCtx_stage (by rfl) d).trans ((hmaps true _ _).trans ((hmaps false _ _).trans ?_))
      refine State.foldl_stage d (fun t o => ?_) _ s
      split
      · exact t.remap_stage c _ _ d
      · rfl

theorem State.dropVersion_stage (s : State) (c v d : Nat) : (s.dropVersion c v).stage d = s.stage d := by
  unfold State.dropVersion
  dsimp only
  split
  · rfl
  · split
    · rfl
    · refine (State.stage_of_standing (State.signal_standing _ _ _) d).trans ?_
      refine (State.stage_of_standing (State.bump_standing _ _ _) d).trans ?_
      refine (State.stage_of_standing (State.releaseIds_standing _ _) d).trans ((State.modCtx_stage (by rfl) d).trans ?_)
      split
      · exact s.mapVersion_stage c _ d
      · rfl

/-! ### Images (R350 to R355) -/

theorem State.failImage_stage (s : State) (c d : Nat) : (s.failImage c).stage d = s.stage d := by
  have hcopy (o : Option Nat) : (o.elim s (fun id => s.freeObject id)).stage d = s.stage d := by
    cases o
    case none => rfl
    case some id => exact State.stage_of_standing (s.freeObject_standing id) d
  have hpages (t : State) : (t.dropPages c scarfQueue (fun _ => true)).stage d = t.stage d := rfl
  unfold State.failImage
  dsimp only
  split
  · rfl
  · refine (State.stage_of_standing (State.signal_standing _ _ _) d).trans ?_
    refine (State.stage_of_standing (State.bump_standing _ _ _) d).trans ((State.modCtx_stage (by rfl) d).trans ?_)
    exact (hpages _).trans (hcopy _)

theorem State.pumpImage_stage (f : Nat) (s : State) (c d : Nat) : (State.pumpImage f s c).stage d = s.stage d := by
  induction f generalizing s with
  | zero => rfl
  | succ f ih =>
    unfold State.pumpImage
    split
    · rfl
    · split
      · rfl
      · split
        · rfl
        · have hsend (v q i : Nat) (p : PagePre) (l : List Byte) : (s.sendPage c v q i p l).1.stage d = s.stage d :=
            State.stage_of_standing (s.sendPage_standing c v q i p l) d
          dsimp only
          split
          · exact (State.failImage_stage _ c d).trans (hsend _ _ _ _ _)
          · exact (ih _).trans ((State.modCtx_stage (by rfl) d).trans (hsend _ _ _ _ _))

theorem State.takeSill_standing (n : Nat) {s t : State} {obj : Nat} {l : List Nat} (h : State.takeSill s obj n = some (t, l)) :
    t.standing = s.standing := by
  induction n generalizing s t l with
  | zero =>
    obtain ⟨rfl, _⟩ := Prod.mk.inj (Option.some.inj h)
    rfl
  | succ n ih =>
    unfold State.takeSill at h
    split at h
    · exact absurd h (by simp)
    · split at h
      · exact absurd h (by simp)
      · next a ha =>
        obtain ⟨rfl, _⟩ := Prod.mk.inj (Option.some.inj h)
        exact (ih ha).trans (s.setSillPage_standing _ _)

theorem State.allocSill_standing {s : State} {obj n : Nat} {own : Option Nat} {r : State × List Nat} (h : s.allocSill obj own n = some r) :
    r.1.standing = s.standing := by
  unfold State.allocSill at h
  split at h
  · exact absurd h (by simp)
  · exact State.takeSill_standing _ h

theorem State.fillSill_stage (s : State) (pages : List Nat) (b : List Byte) (d : Nat) : (s.fillSill pages b).stage d = s.stage d := by
  unfold State.fillSill
  exact State.foldl_stage d (fun t x => State.stage_of_settled (State.storeBlind_settled.writeBytes t _ _) d) _ s

theorem State.setNextObj_standing (s : State) (n : Nat) : ({ s with nextObj := n } : State).standing = s.standing := rfl

theorem State.localCopy_stage (s : State) (c : Nat) (o : Obj) (pages : List (List Byte)) (d : Nat) :
    (s.localCopy c o pages).1.stage d = s.stage d := by
  have hcopies (x : Option Nat) : (match x with | some id => s.freeObject id | none => s).stage d = s.stage d := by
    split
    · exact State.stage_of_standing (s.freeObject_standing _) d
    · rfl
  unfold State.localCopy
  dsimp only
  split
  · exact hcopies _
  · next r hr =>
    refine (State.fillSill_stage _ _ _ d).trans ((State.stage_of_standing (State.setObject_standing _ _ _) d).trans ?_)
    refine (State.stage_of_standing (State.setNextObj_standing _ _) d).trans ?_
    exact (State.stage_of_standing (State.allocSill_standing hr) d).trans (hcopies _)

theorem State.startImage_stage (s : State) (c gen d : Nat) : (s.startImage c gen).stage d = s.stage d := by
  have hcopy (b : Bool) (o : Obj) (l : List (List Byte)) : (if b then s.localCopy c o l else (s, none)).1.stage d = s.stage d := by
    split
    · exact s.localCopy_stage c o l d
    · rfl
  have hsend (t : State) (b : Bool) : (if b then t.failImage c else t.pumpImage 32 c).stage d = t.stage d := by
    split
    · exact t.failImage_stage c d
    · exact State.pumpImage_stage 32 t c d
  unfold State.startImage
  exact (hsend _ _).trans ((State.modCtx_stage (by rfl) d).trans (hcopy _ _ _))

/-- An image that cannot start is deferred, counted once (R351). -/
theorem State.deferImage_stage (s : State) (c d : Nat) :
    (if (s.ctx c).imageDeferred then s else (s.setCtx c { s.ctx c with imageDeferred := true }).bump 0x4310 9).stage d = s.stage d := by
  split
  · rfl
  · exact (State.stage_of_standing (State.bump_standing _ _ _) d).trans (State.setCtx_stage (by rfl) d)

theorem State.closeImage_stage (s : State) (c d : Nat) : (s.closeImage c).stage d = s.stage d := by
  unfold State.closeImage
  dsimp only
  split
  · rfl
  · split
    · exact s.startImage_stage c _ d
    · exact s.deferImage_stage c d

theorem State.startReshard_stage (s : State) (c d : Nat) : (s.startReshard c).stage d = s.stage d := by
  unfold State.startReshard
  dsimp only
  split
  · rfl
  · split
    · exact (State.startImage_stage _ c _ d).trans (State.modCtx_stage (by rfl) d)
    · exact s.deferImage_stage c d

/-! ### Step close (R151, R247, R248, R351, R464) -/

/-- The stack of a context is empty after R151. -/
theorem State.emptyStack_ctx (s : State) (c : Nat) : ((s.emptyStack c).1.ctx c).segments = [] ∧ ((s.emptyStack c).1.ctx c).held = [] := by
  unfold State.emptyStack
  dsimp only
  rw [State.ctx_of_standing (State.bumpBy_standing _ _ _ _), State.modCtx_ctx_self]
  exact ⟨rfl, rfl⟩

/-- The measures of a closing step change its context's statistics alone: a step of it has closed (R247). -/
theorem State.measureStep_ctx (s : State) (c : Nat) (l : List (Nat × Nat)) :
    ∃ stats : StepStats, (s.measureStep c l).ctx c = { s.ctx c with stats := stats } ∧ stats.closed = true := by
  have hreport (t : State) (p : Prop) [Decidable p] (v1 v2 v3 v4 v5 : ObjVal) : (if p then ((((t.setObj 0x3220 1 v1).setObj 0x3220 2 v2).setObj
      0x3220 3 v3).setObj 0x3220 4 v4).setObj 0x3220 5 v5 else t).ctx c = t.ctx c := by
    split
    · rfl
    · rfl
  have hworst (t : State) (p : Prop) [Decidable p] (k : Sched) : (if p then { t with sched := k } else t).ctx c = t.ctx c := by
    split
    · rfl
    · rfl
  unfold State.measureStep
  dsimp only
  rw [State.modCtx_ctx_self, hworst, hreport, State.clearWaits_ctx]
  exact ⟨_, rfl, rfl⟩

/-- The step of context `c` is over: its stack is empty, its measures are taken, and nothing of it is open or abandoned. -/
def State.stepEnded (s : State) (c : Nat) (l : List (Nat × Nat)) : State :=
  ((s.emptyStack c).1.measureStep c l).modCtx c (fun x => { x with stepOpen := false, abandoned := none })

theorem State.stepEnded_ctx (s : State) (c : Nat) (l : List (Nat × Nat)) :
    ((s.stepEnded c l).ctx c).stage = (((s.emptyStack c).1.ctx c).state, false, [], [], true) := by
  obtain ⟨hsegments, hheld⟩ := s.emptyStack_ctx c
  obtain ⟨stats, hctx, hclosed⟩ := (s.emptyStack c).1.measureStep_ctx c l
  unfold State.stepEnded
  rw [State.modCtx_ctx_self, hctx]
  dsimp only [Ctx.stage]
  rw [hsegments, hheld, hclosed]

/-- What follows the end of a step of context `c`, which was `x`: its quarantine ends, its version may go, and its image or re-shard begins. -/
def State.afterStep (s : State) (c : Nat) (x : Ctx) : State :=
  let v := (s.leaveQuarantine c).dropVersion c x.version
  if x.abandoned.isSome then v else if (v.ctx c).reshardDue then v.startReshard c else v.closeImage c

theorem State.afterStep_stage {s : State} {c : Nat} (h : (s.ctx c).stage ≠ Ctx.undefined.stage) (x : Ctx) :
    (s.afterStep c x).stage c = s.stage c := by
  have hdrop := ((s.leaveQuarantine c).dropVersion_stage c x.version c).trans (State.leaveQuarantine_stage h c)
  unfold State.afterStep
  dsimp only
  split
  · exact hdrop
  · split
    · exact (State.startReshard_stage _ c c).trans hdrop
    · exact (State.closeImage_stage _ c c).trans hdrop

/-- A step close ends the step and what hangs on it, and completes with the code of the abandonment, or with that of unpopped sticks. -/
theorem exec_stepClose_closes {dt : Nat} {s : State} {r : Run} (h : (s.elapse dt).runs 273 r) (hop : r.cmd.opcode = 3)
    (l : List (Nat × Nat)) :
    let a := (s.elapse dt).emptyStack r.ctx
    let x := (a.1.measureStep r.ctx l).ctx r.ctx
    exec (.stepClose dt l) s = .next (((((s.elapse dt).stepEnded r.ctx l).afterStep r.ctx x).endWith 273 r
      (x.abandoned.getD (if a.2 = 0 then 0 else 0x0228))).admitTest) :=
  congrArg Host.Outcome.next (State.onRun_op h hop _)

/-- What follows the end of a step leaves it closed and the stack of its context empty. -/
theorem State.stepEnded_stays (s : State) (r : Run) (l : List (Nat × Nat)) (code : Nat) (x : Ctx) :
    let y := ((((s.stepEnded r.ctx l).afterStep r.ctx x).endWith 273 r code).admitTest).ctx r.ctx
    y.stepOpen = false ∧ y.segments = [] ∧ y.held = [] := by
  intro y
  have hended := s.stepEnded_ctx r.ctx l
  have hclosed : ((s.stepEnded r.ctx l).ctx r.ctx).stage ≠ Ctx.undefined.stage := by
    rw [hended]
    simp [Ctx.stage, Ctx.undefined, StepStats.zero]
  have hstage := (State.stage_of_settled (State.admitTest_settled _) r.ctx).trans
    ((State.endWith_stage _ 273 r code r.ctx).trans (State.afterStep_stage hclosed x))
  have hy : y.stage = _ := (congrArg Prod.snd hstage).trans hended
  simp only [Ctx.stage, Prod.mk.injEq] at hy
  obtain ⟨-, hopen, hsegments, hheld, -⟩ := hy
  exact ⟨hopen, hsegments, hheld⟩

/-! ### O24 -/

/-- Settles O24: each command changes its context as `Ctx.marked`, `Ctx.opened` and `State.stepEnded` say; its end leaves that. -/
theorem markersAndStepsComplete : Obligations.MarkersAndStepsComplete := by
  rintro dt e s _ r rfl hruns
  refine ⟨exec_noOp_ends hruns, fun hop hmay => ?_, ?_, ?_⟩
  · refine ⟨_, exec_layerMarker_ends hruns hop hmay, ?_, State.endWith_running _ e r (by decide)⟩
    have hctx := State.endWith_ctx ((s.elapse dt).modCtx r.ctx (fun x => x.marked (e / 4) r)) e r (code := 0) (by decide)
    rw [State.modCtx_ctx_self] at hctx
    refine (Ctx.of_settled (fun x => (x.bayStep (e / 4)).marker) hctx).trans ?_
    exact congrArg BayStep.marker (Ctx.setBayStep_bayStep_self _ (e / 4) _)
  · rintro rfl hop
    obtain ⟨x, hx⟩ := (s.elapse dt).opened_ctx r
    have hctx := ((s.elapse dt).opened r).endWith_ctx 273 r (code := 0) (by decide)
    rw [hx] at hctx
    refine ⟨_, exec_stepOpen_opens hruns hop, ?_, ?_, ?_, State.endWith_running _ 273 r (by decide)⟩
    · exact Ctx.of_settled Ctx.stepOpen hctx
    · exact Ctx.of_settled Ctx.step hctx
    · exact Ctx.of_settled Ctx.sealed hctx
  · rintro rfl hop l
    obtain ⟨hopen, hsegments, hheld⟩ := (s.elapse dt).stepEnded_stays r l _ _
    exact ⟨_, exec_stepClose_closes hruns hop l, hopen, hsegments, hheld⟩

end Sys2Proof.Machine
end

section
/-! PROOFS. What the tracking of contexts, signals and the deadline timer leave of the rest (R50 to R58, R242, R243, R255, R257, R412). -/

namespace Sys2Proof.Machine

/-! ### Tables and folds -/

/-- What is read of a table is listed there, or it is the default. -/
theorem Assoc.get_mem_or_default {α : Type} (d : α) (l : List (Nat × α)) (k : Nat) : (k, Assoc.get d l k) ∈ l ∨ Assoc.get d l k = d := by
  induction l with
  | nil => exact .inr rfl
  | cons e l ih =>
    obtain ⟨j, v⟩ := e
    by_cases hk : k = j
    · subst hk
      simp [Assoc.get]
    · rw [Assoc.get, if_neg hk]
      exact ih.imp_left (List.mem_cons_of_mem _)

/-- A fold reaches Q at the element that turns I into Q, where every step keeps I and every step keeps Q. -/
theorem State.foldl_reaches {α : Type} {f : State → α → State} {I Q : State → Prop} {y : α} {l : List α} (hy : y ∈ l)
    (hI : ∀ s x, I s → I (f s x)) (hQ : ∀ s x, Q s → Q (f s x)) (hturn : ∀ s, I s → Q (f s y)) {s : State} (h : I s) :
    Q (l.foldl f s) := by
  obtain ⟨l₁, l₂, rfl⟩ := List.append_of_mem hy
  rw [List.foldl_append, List.foldl_cons]
  have hbefore : I (l₁.foldl f s) := List.foldlRecOn l₁ f (motive := I) h fun t ht x _ => hI t x ht
  exact List.foldlRecOn l₂ f (motive := Q) (hturn _ hbefore) fun t ht x _ => hQ t x ht

/-! ### Tracking (R242, R243, R257) -/

/-- From s to t nothing changed but contexts and counts. -/
def State.TracksTo (s t : State) : Prop := t = { s with ctxs := t.ctxs, objs := t.objs }

theorem State.TracksTo.trans {s t v : State} (h : s.TracksTo t) (g : t.TracksTo v) : s.TracksTo v := by
  unfold State.TracksTo at h g ⊢
  rw [g, h]

/-- A view that sees neither contexts nor objects. -/
theorem State.TracksTo.view {s t : State} (h : s.TracksTo t) {β : Type} (π : State → β)
    (hπ : ∀ (v : State) x o, π { v with ctxs := x, objs := o } = π v := by exact fun _ _ _ => rfl) : π t = π s := by
  unfold State.TracksTo at h
  rw [h, hπ]

theorem State.tracksTo_admitList (s : State) (l : List Nat) (stopped : Bool) : s.TracksTo (s.admitList l stopped) := by
  induction l generalizing s stopped with
  | nil => rfl
  | cons c l ih =>
    have hset (x : Ctx) : s.TracksTo (s.setCtx c x) := rfl
    unfold State.admitList
    dsimp only
    split
    · exact (hset _).trans (ih _ _)
    · refine State.TracksTo.trans ?_ (ih _ _)
      split
      · rfl
      · rfl

theorem State.tracksTo_admitTest (s : State) : s.TracksTo s.admitTest := s.tracksTo_admitList _ _

theorem State.tracksTo_track (s : State) (c : Nat) : s.TracksTo (s.track c) := by
  have harrive : s.TracksTo (s.arriveOpen c) := by
    unfold State.arriveOpen
    dsimp only
    split
    · exact State.TracksTo.trans (t := s.setCtx c _) rfl (State.tracksTo_admitList _ _ _)
    · rfl
  have hset (x : Ctx) : s.TracksTo ((s.arriveOpen c).setCtx c x) := harrive.trans rfl
  unfold State.track
  dsimp only
  split
  · exact hset _
  · split
    · exact hset _
    · exact harrive

/-! ### Sources that pend (R412) -/

/-- Every source that pends in s pends in t. -/
structure State.KeepsPending (s t : State) : Prop where
  pend : ∀ n, (s.sourceOf n).pend = true → (t.sourceOf n).pend = true

theorem State.KeepsPending.of_intr {s t : State} (h : t.intr = s.intr) : s.KeepsPending t :=
  ⟨fun n hn => by rwa [State.sourceOf, h]⟩

theorem State.KeepsPending.refl (s : State) : s.KeepsPending s := .of_intr rfl

theorem State.KeepsPending.trans {s t v : State} (h : s.KeepsPending t) (g : t.KeepsPending v) : s.KeepsPending v :=
  ⟨fun n hn => g.pend n (h.pend n hn)⟩

theorem State.KeepsPending.foldl {α β : Type} (p : β → State) {f : β → α → β} (hf : ∀ b x, (p b).KeepsPending (p (f b x))) (l : List α)
    (b : β) : (p b).KeepsPending (p (l.foldl f b)) :=
  List.foldlRecOn l f (motive := fun a => (p b).KeepsPending (p a)) (.refl _) fun a ha x _ => ha.trans (hf a x)

theorem State.bump_keepsPending (s : State) (i k : Nat) : s.KeepsPending (s.bump i k) := .of_intr rfl

/-- The controller's step for a signal of source n: it pends, whatever it did before. -/
theorem State.latchSignal_pend (s : State) (n : Nat) (c : Option Nat) : ((s.latchSignal n c).sourceOf n).pend = true :=
  congrArg Source.pend (State.setSourceOf_sourceOf_self _ n _)

theorem State.latchSignal_keepsPending (s : State) (n : Nat) (c : Option Nat) : s.KeepsPending (s.latchSignal n c) := by
  refine ⟨fun m hm => ?_⟩
  by_cases h : m = n
  · subst h
    exact s.latchSignal_pend m c
  · have hother : (s.latchSignal n c).sourceOf m = s.sourceOf m := by
      unfold State.latchSignal
      refine (State.setSourceOf_sourceOf_ne _ _ h).trans ?_
      split
      · rfl
      · rfl
    rwa [hother]

theorem State.addCounterBy_keepsPending {sig : State → Nat → State} (hsig : ∀ (s : State) n, s.KeepsPending (sig s n)) (f : Nat) (s : State)
    (u k n : Nat) : s.KeepsPending (State.addCounterBy sig f s u k n) := by
  induction f generalizing s k n with
  | zero => exact .refl s
  | succ f ih =>
    have hset (v : Nat) : s.KeepsPending (s.setPerfValue u k v) := .of_intr rfl
    unfold State.addCounterBy
    dsimp only
    split
    · exact hset _
    · split
      · exact (hset _).trans (ih _ _ _)
      · split
        · refine State.KeepsPending.trans ?_ (hsig _ _)
          exact .of_intr rfl
        · exact .of_intr rfl

theorem State.countEventBy_keepsPending {sig : State → Nat → State} (hsig : ∀ (s : State) n, s.KeepsPending (sig s n)) (s : State)
    (u ev n : Nat) (c : Option Nat) : s.KeepsPending (State.countEventBy sig s u ev n c) := by
  unfold State.countEventBy
  split
  · exact .refl s
  · refine State.KeepsPending.foldl id (fun t k => ?_) _ s
    dsimp only [id]
    split
    · exact State.addCounterBy_keepsPending hsig _ _ _ _ _
    · exact .refl t

theorem State.eventTo_keepsPending (s : State) (n : Nat) (r : EventRec) (stamp : Nat) : s.KeepsPending (s.eventTo n r stamp).1 := by
  unfold State.eventTo
  dsimp only
  split
  · exact .of_intr rfl
  · dsimp only
    refine State.KeepsPending.trans ?_ (State.countEventBy_keepsPending (fun t m => t.latchSignal_keepsPending m none) _ _ _ _ _)
    exact .of_intr rfl

theorem State.routeEvents_keepsPending (s : State) (l : List Nat) (r : EventRec) : s.KeepsPending (s.routeEvents l r).1 :=
  State.KeepsPending.foldl Prod.fst
    (fun a m => (State.eventTo_keepsPending a.1 m r s.stamp).trans (State.bump_keepsPending _ 0x5010 3)) l (s, false)

theorem State.forwardSignal_keepsPending (s : State) (n : Nat) (c : Option Nat) : s.KeepsPending (s.forwardSignal n c).1 := by
  unfold State.forwardSignal
  dsimp only
  generalize (_ ++ _ : List Nat) = l
  have hroute := s.routeEvents_keepsPending l (s.signalRec n c)
  split
  · refine hroute.trans ?_
    exact .of_intr rfl
  · exact hroute

theorem State.startWake_keepsPending (s : State) : s.KeepsPending s.startWake := by
  unfold State.startWake
  split
  · exact ⟨fun _ hn => hn⟩
  · split
    · exact .of_intr rfl
    · exact .refl s

/-- What follows the controller's step for a signal only latches more. -/
theorem State.signal_keepsPending_latched (s : State) {n : Nat} (c : Option Nat) (h : sourceDefined n = true) :
    (s.latchSignal n c).KeepsPending (s.signal n c) := by
  have hwake (t : State) (ht : (s.latchSignal n c).KeepsPending t) :
      (s.latchSignal n c).KeepsPending (if (t.config n).testBit 8 then t.startWake else t) := by
    split
    · exact ht.trans t.startWake_keepsPending
    · exact ht
  have hsent := State.forwardSignal_keepsPending (s.latchSignal n c) n c
  unfold State.signal
  rw [h, Bool.not_true, if_neg Bool.false_ne_true]
  refine hwake _ ?_
  split
  · exact hsent.trans ((State.latchSignal_keepsPending _ 215 none).trans (State.forwardSignal_keepsPending _ 215 none))
  · exact hsent

/-- A source that Table 13-5 names pends once it is signalled. -/
theorem State.signal_pend (s : State) {n : Nat} (c : Option Nat) (h : sourceDefined n = true) : ((s.signal n c).sourceOf n).pend = true :=
  (s.signal_keepsPending_latched c h).pend n (s.latchSignal_pend n c)

theorem State.signal_keepsPending (s : State) (n : Nat) (c : Option Nat) : s.KeepsPending (s.signal n c) := by
  cases h : sourceDefined n with
  | true => exact (s.latchSignal_keepsPending n c).trans (s.signal_keepsPending_latched c h)
  | false =>
    unfold State.signal
    rw [h]
    exact .refl s

/-! ### The deadline timer (R50 to R58, R255) -/

/-- A view of the state that no request for a shared resource changes: it sees neither signals, objects and counters, nor the fault log,
who holds what, and whether deadlines are checked at slot boundaries. -/
structure State.TimerBlind {β : Type} (π : State → β) : Prop where
  signal : ∀ s n c, π (s.signal n c) = π s
  objs : ∀ s o, π { s with objs := o } = π s
  perf : ∀ s p, π { s with perf := p } = π s
  fault : ∀ s f, π { s with fault := f } = π s
  res : ∀ s r o, π { s with res := r, resOrder := o } = π s
  polling : ∀ s p, π { s with sched := { s.sched with polling := p } } = π s

namespace State.TimerBlind

variable {β : Type} {π : State → β}

theorem setCnt (h : TimerBlind π) (s : State) (i k n : Nat) : π (s.setCnt i k n) = π s := h.objs s _

theorem logEntry (h : TimerBlind π) (s : State) (a : LogArgs) : π (s.logEntry a) = π s := (h.signal _ _ _).trans (h.fault s _)

theorem setResUnit (h : TimerBlind π) (s : State) (u : Nat) (x : ResUnit) : π (s.setResUnit u x) = π s := h.res s _ _

theorem grantUnit (h : TimerBlind π) (s : State) (u : Nat) (a : Asker) (level : Nat) : π (s.grantUnit u a level) = π s := h.res s _ _

theorem countRefusal (h : TimerBlind π) (s : State) (u winner loser code : Nat) : π (s.countRefusal u winner loser code) = π s := by
  unfold State.countRefusal
  dsimp only
  rw [h.setCnt, h.setCnt, h.setCnt, h.setCnt, h.setCnt, h.setCnt]

theorem startPolling (h : TimerBlind π) (s : State) : π s.startPolling = π s :=
  (h.signal _ _ _).trans ((h.setCnt _ _ _ _).trans (h.polling s true))

theorem setSamplingRun (h : TimerBlind π) (s : State) (n : Nat) (r : Sampling) : π (s.setSamplingRun n r) = π s := by
  unfold State.setSamplingRun
  split
  · exact h.perf s _
  · exact h.perf s _

theorem loseHooks (h : TimerBlind π) (s : State) (a : Asker) : π (s.loseHooks a) = π s := by
  cases a
  case sampling n => exact (h.signal _ _ _).trans ((h.setCnt _ _ _ _).trans (h.setSamplingRun s n _))
  case windows => exact (h.logEntry _ _).trans ((h.signal _ _ _).trans ((h.setCnt _ _ _ _).trans (h.perf s _)))
  case remoteWait => exact (h.logEntry _ _).trans (h.startPolling s)
  case jobSignal => exact h.setCnt s _ _ _
  all_goals exact h.logEntry s _

theorem refuseHooks (h : TimerBlind π) (s : State) (a : Asker) : π (s.refuseHooks a) = π s := by
  cases a
  case sampling n => exact h.setSamplingRun s n _
  case windows => exact h.perf s _
  case remoteWait => exact h.startPolling s
  case jobSignal => exact h.setCnt s _ _ _
  all_goals exact h.logEntry s _

theorem requestUnit (h : TimerBlind π) (s : State) (u : Nat) (a : Asker) (level : Nat) : π (s.requestUnit u a level).1 = π s := by
  unfold State.requestUnit
  split
  · exact h.grantUnit s u a level
  · dsimp only
    split
    · rfl
    · split
      · rw [h.refuseHooks, h.grantUnit, h.setResUnit, h.countRefusal]
      · split
        · rw [h.loseHooks, h.grantUnit, h.setResUnit, h.countRefusal]
        · exact h.countRefusal s _ _ _ _

theorem requestTimer (h : TimerBlind π) (s : State) (a : Asker) (level : Nat) : π (s.requestTimer a level).1 = π s := by
  unfold State.requestTimer
  split
  · exact h.grantUnit s _ a level
  · split
    · exact h.requestUnit s _ a level
    · exact h.countRefusal s _ _ _ _

theorem releaseUnit (h : TimerBlind π) (s : State) (u : Nat) (a : Asker) : π (s.releaseUnit u a) = π s := by
  unfold State.releaseUnit
  dsimp only
  split
  · split
    · exact h.setResUnit s _ _
    · rfl
  · rfl

theorem armTimer (h : TimerBlind π) (s : State) : π s.armTimer = π s := by
  unfold State.armTimer
  split
  · split
    · exact (h.releaseUnit _ _ _).trans (h.polling s false)
    · exact h.polling s false
  · split
    · rfl
    · dsimp only
      split
      · exact h.requestTimer s _ _
      · exact (h.startPolling _).trans (h.requestTimer s _ _)

theorem retryTimer (h : TimerBlind π) (s : State) : π s.retryTimer = π s := by
  unfold State.retryTimer
  split
  · rfl
  · dsimp only
    split
    · exact (h.polling _ false).trans (h.requestTimer s _ _)
    · exact h.requestTimer s _ _

end State.TimerBlind

theorem State.timerBlind_tenancy : State.TimerBlind State.tenancy where
  signal := State.signal_tenancy
  objs _ _ := rfl
  perf _ _ := rfl
  fault _ _ := rfl
  res _ _ _ := rfl
  polling _ _ := rfl

end Sys2Proof.Machine
end

section
/-! PROOFS. Deadlines that pass (R253 to R256): what times out, and what stands beside it. -/

namespace Sys2Proof.Machine

/-! ### Views -/

/-- The stamp, the engines, the bays, and of every context its state and its parked-wait records. -/
def State.stance (s : State) : Nat × Sparse Engine × Sparse Bay × (Nat → Nat × List Parked) :=
  (s.stamp, s.engines, s.bays, fun c => ((s.ctx c).state, (s.ctx c).parked))

/-- The same with memory. -/
def State.posture (s : State) : List Host.Cell × Nat × Sparse Engine × Sparse Bay × (Nat → Nat × List Parked) := (s.mem, s.stance)

theorem State.mem_of_posture {s t : State} (h : t.posture = s.posture) : t.mem = s.mem := congrArg Prod.fst h

theorem State.stance_of_posture {s t : State} (h : t.posture = s.posture) : t.stance = s.stance := congrArg Prod.snd h

theorem State.stamp_of_stance {s t : State} (h : t.stance = s.stance) : t.stamp = s.stamp := congrArg Prod.fst h

theorem State.engine_of_stance {s t : State} (h : t.stance = s.stance) (e : Nat) : t.engine e = s.engine e :=
  congrArg (fun x : Nat × Sparse Engine × Sparse Bay × (Nat → Nat × List Parked) => Assoc.get Engine.idle x.2.1 e) h

theorem State.bays_of_stance {s t : State} (h : t.stance = s.stance) : t.bays = s.bays :=
  congrArg (fun x : Nat × Sparse Engine × Sparse Bay × (Nat → Nat × List Parked) => x.2.2.1) h

theorem State.parked_of_stance {s t : State} (h : t.stance = s.stance) (c : Nat) : (t.ctx c).parked = (s.ctx c).parked :=
  congrArg (fun x : Nat × Sparse Engine × Sparse Bay × (Nat → Nat × List Parked) => (x.2.2.2 c).2) h

theorem State.state_of_stance {s t : State} (h : t.stance = s.stance) (c : Nat) : (t.ctx c).state = (s.ctx c).state :=
  congrArg (fun x : Nat × Sparse Engine × Sparse Bay × (Nat → Nat × List Parked) => (x.2.2.2 c).1) h

/-- What leaves contexts and engines, and what leaves the bays. -/
theorem State.posture_of_standing {s t : State} (h : t.standing = s.standing) (hbays : t.tenancy = s.tenancy) : t.posture = s.posture := by
  simp only [State.standing, State.tenancy, Prod.mk.injEq] at h hbays
  obtain ⟨hstamp, hmem, hctxs, hengines⟩ := h
  obtain ⟨-, -, hbays⟩ := hbays
  simp only [State.posture, State.stance, State.ctx, hstamp, hmem, hctxs, hengines, hbays]

theorem State.signal_posture (s : State) (n : Nat) (c : Option Nat) : (s.signal n c).posture = s.posture :=
  State.posture_of_standing (s.signal_standing n c) (s.signal_tenancy n c)

theorem State.armTimer_posture (s : State) : s.armTimer.posture = s.posture :=
  State.posture_of_standing s.armTimer_standing (State.timerBlind_tenancy.armTimer s)

theorem State.bumpBy_posture (s : State) (i k n : Nat) : (s.bumpBy i k n).posture = s.posture := rfl

theorem State.bump_posture (s : State) (i k : Nat) : (s.bump i k).posture = s.posture := rfl

theorem State.track_posture (s : State) (c : Nat) : (s.track c).posture = s.posture := by
  have h := s.track_tracked c
  simp only [State.tracked, State.settled, Prod.mk.injEq] at h
  obtain ⟨hmem, hstamp, hengines, -⟩ := h
  have hctx (d : Nat) : (((s.track c).ctx d).state, ((s.track c).ctx d).parked) = ((s.ctx d).state, (s.ctx d).parked) :=
    Ctx.of_settled (fun x => (x.state, x.parked)) (s.track_ctx c d)
  simp only [State.posture, State.stance, hmem, hstamp, hengines, (s.tracksTo_track c).view State.bays, hctx]

/-- A change of a context that leaves its state and its records. -/
theorem State.modCtx_posture {s : State} {c : Nat} {f : Ctx → Ctx} (hstate : (f (s.ctx c)).state = (s.ctx c).state)
    (hparked : (f (s.ctx c)).parked = (s.ctx c).parked) : (s.modCtx c f).posture = s.posture := by
  have hctx (d : Nat) : (((s.modCtx c f).ctx d).state, ((s.modCtx c f).ctx d).parked) = ((s.ctx d).state, (s.ctx d).parked) := by
    by_cases hd : d = c
    · subst hd
      rw [State.modCtx_ctx_self, hstate, hparked]
    · rw [State.modCtx, State.setCtx_ctx_ne s _ hd]
  simp only [State.posture, State.stance, hctx]
  rfl

/-! ### Records in save areas (R212, R254) -/

theorem State.StoreBlind.putSave {β : Type} {π : State → β} (h : StoreBlind π) (s : State) (x : Ctx) (o : Nat) (l : List Byte) :
    π (s.putSave x o l) = π s := by
  refine State.foldl_keeps π (fun t e => ?_) _ s
  split
  · rfl
  · exact h.mem t _

theorem State.StoreBlind.saveParked {β : Type} {π : State → β} (h : StoreBlind π) (s : State) (c : Nat) : π (s.saveParked c) = π s := by
  unfold State.saveParked
  dsimp only
  split
  · exact (State.foldl_keeps π (fun t e => h.putSave t _ _ _) _ _).trans (h.mem s _)
  · rfl

theorem State.saveParked_stance (s : State) (c : Nat) : (s.saveParked c).stance = s.stance :=
  State.StoreBlind.saveParked (π := State.stance) ⟨fun _ _ => rfl, fun _ _ => rfl⟩ s c

/-- The records of a context that is not swapped out stand in no save area. -/
theorem State.saveParked_of_not_out {s : State} {c : Nat} (h : (s.ctx c).state ≠ 3) : s.saveParked c = s := if_neg h

/-- Where no context listed is swapped out, none is. -/
theorem State.not_out {s : State} (h : ∀ e ∈ s.ctxs, e.2.state ≠ 3) (c : Nat) : (s.ctx c).state ≠ 3 := by
  obtain hmem | hdefault := Assoc.get_mem_or_default Ctx.undefined s.ctxs c
  · exact h _ hmem
  · rw [State.ctx, hdefault]
    decide

/-! ### Waits at queue heads (R253) -/

theorem State.expireHeads_posture (s : State) : s.expireHeads.posture = s.posture := by
  unfold State.expireHeads
  refine State.foldl_keeps State.posture (fun t e => ?_) _ s
  dsimp only
  split
  · rfl
  · rw [State.track_posture, State.signal_posture, State.bumpBy_posture]
    exact State.foldl_keeps State.posture (fun v q => State.modCtx_posture (by rfl) (by rfl)) _ t

/-! ### Records (R256) -/

/-- A record waits, and its deadline has passed. -/
def Parked.due (now : Nat) (p : Parked) : Bool := p.state == 0 && decide (p.deadline < now)

/-- Every record of a context that is due has timed out. -/
def Ctx.timeOut (now : Nat) (x : Ctx) : Ctx := { x with parked := x.parked.map (fun p => if p.due now then { p with state := 2 } else p) }

/-- The due records of context `e`, as it was listed, time out: counted and signalled. -/
def State.timeOutOf (now : Nat) (s : State) (e : Nat × Ctx) : State :=
  let n := (e.2.parked.filter (Parked.due now)).length
  if n = 0 then s
  else ((((s.modCtx e.1 (Ctx.timeOut now)).bumpBy 0x3210 4 n).signal 236 (some e.1)).saveParked e.1).track e.1

theorem State.expireWaits_eq (s : State) :
    s.expireWaits = s.expireHeads.ctxs.foldl (State.timeOutOf s.expireHeads.stamp) s.expireHeads := rfl

/-- The bays, and the state of every context: no time-out changes them. -/
def State.lodging (s : State) : Sparse Bay × (Nat → Nat) := (s.bays, fun c => (s.ctx c).state)

theorem State.lodging_of_stance {s t : State} (h : t.stance = s.stance) : t.lodging = s.lodging :=
  congrArg (fun x : Nat × Sparse Engine × Sparse Bay × (Nat → Nat × List Parked) => (x.2.2.1, fun c => (x.2.2.2 c).1)) h

theorem State.timeOutOf_stance {now : Nat} (s : State) {e : Nat × Ctx} (h : (e.2.parked.filter (Parked.due now)).length ≠ 0) :
    (State.timeOutOf now s e).stance = (s.modCtx e.1 (Ctx.timeOut now)).stance := by
  unfold State.timeOutOf
  dsimp only
  rw [if_neg h, State.stance_of_posture (State.track_posture _ _), State.saveParked_stance,
    State.stance_of_posture (State.signal_posture _ _ _), State.stance_of_posture (State.bumpBy_posture _ _ _ _)]

theorem State.modCtx_lodging {s : State} {c : Nat} {f : Ctx → Ctx} (h : (f (s.ctx c)).state = (s.ctx c).state) :
    (s.modCtx c f).lodging = s.lodging := by
  refine Prod.ext rfl (funext fun d => ?_)
  by_cases hd : d = c
  · subst hd
    exact (congrArg Ctx.state (State.modCtx_ctx_self s d f)).trans h
  · exact congrArg Ctx.state (State.setCtx_ctx_ne s _ hd)

theorem State.timeOutOf_lodging (now : Nat) (s : State) (e : Nat × Ctx) : (State.timeOutOf now s e).lodging = s.lodging := by
  by_cases h : (e.2.parked.filter (Parked.due now)).length = 0
  · exact congrArg State.lodging (if_pos h)
  · exact (State.lodging_of_stance (s.timeOutOf_stance h)).trans (State.modCtx_lodging rfl)

theorem State.timeOutOf_mem {now : Nat} {s : State} {e : Nat × Ctx} (h : (s.ctx e.1).state ≠ 3) : (State.timeOutOf now s e).mem = s.mem := by
  unfold State.timeOutOf
  dsimp only
  split
  · rfl
  · generalize hv : State.signal (State.bumpBy _ _ _ _) 236 (some e.1) = v
    have hposture : v.posture = (s.modCtx e.1 (Ctx.timeOut now)).posture := by
      rw [← hv, State.signal_posture, State.bumpBy_posture]
    have hstate : (v.ctx e.1).state ≠ 3 := by
      rw [State.state_of_stance (State.stance_of_posture hposture), State.modCtx_ctx_self]
      exact h
    rw [State.mem_of_posture (State.track_posture _ _), State.saveParked_of_not_out hstate, State.mem_of_posture hposture]
    rfl

/-! ### The check of all deadlines -/

theorem State.expireWaits_bays (s : State) : s.expireWaits.bays = s.bays := by
  have hwaits := State.foldl_keeps State.lodging (State.timeOutOf_lodging s.expireHeads.stamp) s.expireHeads.ctxs s.expireHeads
  rw [← State.expireWaits_eq] at hwaits
  exact (congrArg Prod.fst hwaits).trans (State.bays_of_stance (State.stance_of_posture s.expireHeads_posture))

/-- Memory stands but for the records of contexts that are swapped out. -/
theorem State.expireWaits_mem {s : State} (h : ∀ e ∈ s.ctxs, e.2.state ≠ 3) : s.expireWaits.mem = s.mem := by
  have hheads := s.expireHeads_posture
  have hin (c : Nat) : (s.expireHeads.ctx c).state ≠ 3 := by
    rw [State.state_of_stance (State.stance_of_posture hheads)]
    exact State.not_out h c
  rw [State.expireWaits_eq, ← State.mem_of_posture hheads]
  generalize s.expireHeads = v at hin ⊢
  generalize v.stamp = now
  have hfold : (v.ctxs.foldl (State.timeOutOf now) v).mem = v.mem ∧ (v.ctxs.foldl (State.timeOutOf now) v).lodging = v.lodging := by
    refine List.foldlRecOn v.ctxs _ (motive := fun t : State => t.mem = v.mem ∧ t.lodging = v.lodging) ⟨rfl, rfl⟩ fun t ht e _ => ?_
    obtain ⟨hmem, hlodging⟩ := ht
    have hstate : (t.ctx e.1).state = (v.ctx e.1).state := congrArg (fun x : Sparse Bay × (Nat → Nat) => x.2 e.1) hlodging
    exact ⟨(State.timeOutOf_mem (hstate ▸ hin e.1)).trans hmem, (State.timeOutOf_lodging now t e).trans hlodging⟩
  exact hfold.1

/-- The check of a context with due records times out its own records, and those of no other. -/
theorem State.timeOutOf_parked (now : Nat) (s : State) (e : Nat × Ctx) (c : Nat) :
    ((State.timeOutOf now s e).ctx c).parked
      = if e.1 = c ∧ (e.2.parked.filter (Parked.due now)).length ≠ 0 then (Ctx.timeOut now (s.ctx c)).parked else (s.ctx c).parked := by
  by_cases h : (e.2.parked.filter (Parked.due now)).length = 0
  · rw [if_neg (by simp [h])]
    exact congrArg (fun t : State => (t.ctx c).parked) (if_pos h)
  · rw [State.parked_of_stance (s.timeOutOf_stance h)]
    by_cases hc : e.1 = c
    · subst hc
      rw [if_pos ⟨rfl, h⟩, State.modCtx_ctx_self]
    · rw [if_neg (fun hand => hc hand.1), State.modCtx, State.setCtx_ctx_ne s _ (Ne.symm hc)]

theorem Ctx.timeOut_of_due {now : Nat} {x : Ctx} {p : Parked} (hp : p ∈ x.parked) (hdue : p.due now = true) :
    { p with state := 2 } ∈ (x.timeOut now).parked := List.mem_map.mpr ⟨p, hp, if_pos hdue⟩

/-- What has timed out is due no more. -/
theorem Ctx.timeOut_of_timedOut {now : Nat} {x : Ctx} {p : Parked} (hp : { p with state := 2 } ∈ x.parked) :
    { p with state := 2 } ∈ (x.timeOut now).parked := List.mem_map.mpr ⟨_, hp, if_neg (by simp [Parked.due])⟩

/-- Every waiting record whose deadline has passed has timed out. -/
theorem State.expireWaits_parked {s : State} {c : Nat} {p : Parked} (hp : p ∈ (s.ctx c).parked) (hwaits : p.state = 0)
    (hpast : p.deadline < s.stamp) : { p with state := 2 } ∈ (s.expireWaits.ctx c).parked := by
  have hheads := State.stance_of_posture s.expireHeads_posture
  rw [← State.parked_of_stance hheads] at hp
  rw [← State.stamp_of_stance hheads] at hpast
  rw [State.expireWaits_eq]
  generalize s.expireHeads = v at hp hpast ⊢
  generalize v.stamp = now at hpast ⊢
  have hdue : p.due now = true := by simp [Parked.due, hwaits, hpast]
  have hlisted : (c, v.ctx c) ∈ v.ctxs := by
    refine (Assoc.get_mem_or_default Ctx.undefined v.ctxs c).resolve_right fun hdefault => ?_
    rw [State.ctx, hdefault] at hp
    exact List.not_mem_nil hp
  have hsome : ((v.ctx c).parked.filter (Parked.due now)).length ≠ 0 :=
    (List.length_pos_of_mem (List.mem_filter.mpr ⟨hp, hdue⟩)).ne'
  -- the record waits until its context is checked, and has timed out from then on
  refine State.foldl_reaches (I := fun t => p ∈ (t.ctx c).parked ∨ { p with state := 2 } ∈ (t.ctx c).parked)
    (Q := fun t => { p with state := 2 } ∈ (t.ctx c).parked) hlisted (fun t e ht => ?_) (fun t e ht => ?_) (fun t ht => ?_) (.inl hp)
  · rw [State.timeOutOf_parked]
    split
    · exact .inr (ht.elim (Ctx.timeOut_of_due · hdue) Ctx.timeOut_of_timedOut)
    · exact ht
  · rw [State.timeOutOf_parked]
    split
    · exact Ctx.timeOut_of_timedOut ht
    · exact ht
  · rw [State.timeOutOf_parked, if_pos ⟨rfl, hsome⟩]
    exact ht.elim (Ctx.timeOut_of_due · hdue) Ctx.timeOut_of_timedOut

end Sys2Proof.Machine
end

section
/-! PROOFS. The schedule table (R235 to R238, R241, R243): stored, activated and in force; slot boundaries with the deadlines that they
check; long admission waits. -/

namespace Sys2Proof.Machine

/-! ### The stored table (R237, R238) -/

theorem State.blob_of_obj {s : State} {i k : Nat} {b : List Byte} (h : s.obj i k = .blob b) : s.blob i k = b := by
  rw [State.blob, h]

theorem State.blob_congr {s t : State} {i k : Nat} (h : t.obj i k = s.obj i k) : t.blob i k = s.blob i k := by
  rw [State.blob, State.blob, h]

theorem State.objectsOnly_setRwp (s : State) (i k : Nat) (v : ObjVal) : s.ObjectsOnly (s.setRwp i k v) := rfl

theorem State.objectsOnly_bumpBy (s : State) (i k n : Nat) : s.ObjectsOnly (s.bumpBy i k n) := rfl

theorem State.objectsOnly_actSchedule (s : State) (val : List Byte) : s.ObjectsOnly (s.actSchedule val) := by
  unfold State.actSchedule
  dsimp only
  split
  · exact s.objectsOnly_setRwp _ _ _
  · exact (s.objectsOnly_bumpBy _ _ _).trans (State.objectsOnly_setRwp _ _ _ _)

/-- A write of the right length is neither filled nor cut. -/
theorem State.actSchedule_blob (s : State) {val : List Byte} (h : val.length = 8192) :
    (s.actSchedule val).blob 0x3201 1 = ((words 8 val).map clampEntry).flatMap (leBytes 8) := by
  have hfit : fitBytes 8192 val = val := h ▸ fitBytes_self val
  unfold State.actSchedule
  rw [hfit]
  exact State.blob_of_obj (State.setObj_obj_self _ 0x3201 1 _)

/-- The stored table as it stands at the activation is the one that is pending. -/
theorem State.actActivate_eq (s : State) (n : Nat) :
    ∃ o, s.actActivate n = { s with
      objs := o, sched := { s.sched with pending := some (max n (s.cycleNo + 1), words 8 (s.blob 0x3201 1)) } } := by
  have hstored : (s.countClamp 0x3201).blob 0x3201 1 = s.blob 0x3201 1 :=
    State.blob_congr (s.countClamp_get_ne rfl _ (by decide))
  unfold State.actActivate
  dsimp only
  split
  · exact ⟨_, rfl⟩
  · rw [hstored]
    exact ⟨_, rfl⟩

theorem State.SignalsTo.sched {s t : State} (h : s.SignalsTo t) : t.sched = s.sched := by
  unfold State.SignalsTo at h
  rw [h]

/-! ### The start of a cycle (R238, R248, R456) -/

/-- A pending table whose cycle has come is the active one. -/
def Sched.activated (x : Sched) (p : Nat × List Nat) : Sched := { x with active := p.2, activeFrom := p.1, pending := none }

theorem State.activateTable_due {s : State} {p : Nat × List Nat} (hp : s.sched.pending = some p) (hdue : p.1 ≤ s.cycleNo) :
    s.activateTable = ({ s with sched := s.sched.activated p } : State).signal 235 none := by
  unfold State.activateTable
  rw [hp]
  exact if_pos hdue

/-- The tables as they are used: the active one, its first cycle and the one that is pending. -/
def Sched.tables (x : Sched) : List Nat × Nat × Option (Nat × List Nat) := (x.active, x.activeFrom, x.pending)

/-- A value that is set changes the dictionary alone. -/
theorem State.setObj_frame (s : State) (i k : Nat) (v : ObjVal) : ∃ o, s.setObj i k v = { s with objs := o } := ⟨_, rfl⟩

theorem State.reportSigma_eq (s : State) :
    ∃ o, s.reportSigma = { s with objs := o, sched := { s.sched with worstSigma := 0, worstCtx := 0 } } := by
  obtain ⟨o, ho⟩ := s.setObj_frame 0x3221 1 (.num (max 0x0100 s.sched.worstSigma))
  obtain ⟨q, hq⟩ := ({ s with objs := o } : State).setObj_frame 0x3221 2 (.num s.sched.worstCtx)
  refine ⟨q, ?_⟩
  unfold State.reportSigma
  dsimp only
  rw [ho, hq]

theorem State.cycleReport_cases (s : State) : ∃ o p, s.cycleReport = { s with objs := o, power := p }
    ∨ s.cycleReport = ({ s with objs := o, power := p } : State).signal 440 none := by
  obtain ⟨o, ho⟩ := s.setObj_frame 0x6022 1 (.blob (s.cycleRecord (s.cycleNo - 1)))
  unfold State.cycleReport
  rw [ho]
  dsimp only
  split
  · exact ⟨o, _, .inr rfl⟩
  · exact ⟨o, _, .inl rfl⟩

/-- The power report leaves memory and the schedule, and no source stops pending. -/
theorem State.cycleReport_keeps {s : State} (h : s.up = true) :
    s.cycleReport.mem = s.mem ∧ s.cycleReport.sched = s.sched ∧ s.KeepsPending s.cycleReport := by
  obtain ⟨o, p, hr | hr⟩ := s.cycleReport_cases
  · rw [hr]
    exact ⟨rfl, rfl, .of_intr rfl⟩
  · have hsignals := (State.signalFrame_signal (s := { s with objs := o, power := p }) h 440 none).signalsTo
    have hpend : s.KeepsPending { s with objs := o, power := p } := .of_intr rfl
    rw [hr]
    exact ⟨hsignals.mem, hsignals.sched, hpend.trans (State.signal_keepsPending _ 440 none)⟩

/-- The busiest bay of the cycle that begins stands for it, and the count of the next one starts anew (R430). -/
def State.turnBusiest (s : State) : State := { s with perf := { s.perf with busiest := s.perf.nextBusiest, nextBusiest := [] } }

/-- What follows at the start of a cycle once its table is active: the reports of the last one, and the admission test. -/
def State.cycleBegun (s : State) : State := s.reportSigma.cycleReport.turnBusiest.admitTest

theorem State.turnBusiest_admitTest_keeps (s : State) :
    s.turnBusiest.admitTest.mem = s.mem ∧ s.turnBusiest.admitTest.sched = s.sched ∧ s.KeepsPending s.turnBusiest.admitTest := by
  have hadmit := State.tracksTo_admitTest s.turnBusiest
  exact ⟨hadmit.view State.mem, hadmit.view State.sched, .of_intr (hadmit.view State.intr)⟩

theorem State.cycleBegun_keeps {s : State} (h : s.up = true) :
    s.cycleBegun.mem = s.mem ∧ s.cycleBegun.sched.tables = s.sched.tables ∧ s.KeepsPending s.cycleBegun := by
  obtain ⟨o, ho⟩ := s.reportSigma_eq
  have hup : s.reportSigma.up = true := by
    rw [ho]
    exact h
  have hpend : s.KeepsPending s.reportSigma := .of_intr (by rw [ho])
  obtain ⟨hmem', hsched', hpend'⟩ := State.cycleReport_keeps hup
  obtain ⟨hmem'', hsched'', hpend''⟩ := s.reportSigma.cycleReport.turnBusiest_admitTest_keeps
  unfold State.cycleBegun
  refine ⟨?_, ?_, hpend.trans (hpend'.trans hpend'')⟩
  · rw [hmem'', hmem', ho]
  · rw [hsched'', hsched', ho]
    rfl

theorem exec_cycleStart_begins {dt : Nat} {s : State} (h : (s.elapse dt).up = true) (hcycle : (s.elapse dt).stamp % cycleUnits = 0) :
    exec (.cycleStart dt) s = .next (s.elapse dt).activateTable.cycleBegun := by
  have hstart : ¬ ((s.elapse dt).stamp % cycleUnits != 0) = true := by simp [hcycle]
  refine congrArg Host.Outcome.next ((State.whenUp_up _ h).trans ?_)
  dsimp only
  rw [if_neg hstart]
  rfl

/-! ### Slot boundaries (R241, R255) -/

/-- A bay in P2 starts to wake, unless it is out of service. -/
def State.wakeBay (s : State) (b : Nat) : State :=
  let x := s.bay b
  if x.power = 2 ∧ !x.waking ∧ !x.out then s.setBay b { x with waking := true } else s

theorem State.wakeGuarded_eq (s : State) :
    s.wakeGuarded = ((List.range 4).flatMap (fun k => guardedBays (s.entryAhead k))).foldl State.wakeBay s := rfl

theorem State.wakeBay_keeps (s : State) (b d : Nat) : ((s.wakeBay b).bay d).power = (s.bay d).power ∧ ((s.wakeBay b).bay d).out = (s.bay d).out
    ∧ ((s.bay d).waking = true → ((s.wakeBay b).bay d).waking = true) := by
  unfold State.wakeBay
  dsimp only
  split
  · by_cases hd : d = b
    · subst hd
      rw [State.setBay_bay_self]
      exact ⟨rfl, rfl, fun _ => rfl⟩
    · rw [State.setBay_bay_ne s _ hd]
      exact ⟨rfl, rfl, id⟩
  · exact ⟨rfl, rfl, id⟩

theorem State.wakeBay_wakes {s : State} {b : Nat} (hasleep : (s.bay b).power = 2) (hserves : (s.bay b).out = false) :
    ((s.wakeBay b).bay b).waking = true := by
  unfold State.wakeBay
  dsimp only
  split
  · exact congrArg Bay.waking (State.setBay_bay_self s b _)
  · next h => simpa [hasleep, hserves] using h

/-- A bay asleep that the slot in force guarantees wakes. -/
theorem State.wakeGuarded_wakes {s : State} {b : Nat} (hb : b ∈ guardedBays (s.entry s.slotNo)) (hasleep : (s.bay b).power = 2)
    (hserves : (s.bay b).out = false) : (s.wakeGuarded.bay b).waking = true := by
  have hslot : s.slotNo < 1024 := by
    unfold State.slotNo cycleUnits slotUnits
    omega
  have hnow : s.entryAhead 0 = s.entry s.slotNo := if_pos hslot
  have hlisted : b ∈ (List.range 4).flatMap (fun k => guardedBays (s.entryAhead k)) :=
    List.mem_flatMap.mpr ⟨0, by decide, hnow ▸ hb⟩
  rw [State.wakeGuarded_eq]
  refine State.foldl_reaches (I := fun t => (t.bay b).power = 2 ∧ (t.bay b).out = false) (Q := fun t => (t.bay b).waking = true) hlisted
    (fun t x ht => ?_) (fun t x ht => (t.wakeBay_keeps x b).2.2 ht) (fun t ht => State.wakeBay_wakes ht.1 ht.2) ⟨hasleep, hserves⟩
  obtain ⟨hpower, hout, -⟩ := t.wakeBay_keeps x b
  rwa [hpower, hout]

theorem State.wakeGuarded_mem_ctxs (s : State) : (s.wakeGuarded.mem, s.wakeGuarded.ctxs) = (s.mem, s.ctxs) := by
  refine State.foldl_keeps (f := State.wakeBay) (fun t => (t.mem, t.ctxs)) (fun t b => ?_) _ s
  unfold State.wakeBay
  dsimp only
  split
  · rfl
  · rfl

theorem exec_slotBoundary_awake {dt : Nat} {s : State} (h : (s.elapse dt).up = true) (hslot : (s.elapse dt).stamp % slotUnits = 0)
    (hawake : (s.elapse dt).power.device = 0) :
    exec (.slotBoundary dt) s = .next ((s.elapse dt).wakeGuarded.expireWaits.retryTimer).armTimer := by
  have hstart : ¬ ((s.elapse dt).stamp % slotUnits != 0) = true := by simp [hslot]
  refine congrArg Host.Outcome.next ((State.whenUp_up _ h).trans ?_)
  dsimp only
  rw [if_neg hstart, if_pos hawake]

/-! ### Long admission waits (R243) -/

theorem exec_admissionWaitTimeout_long {dt c n : Nat} {s : State} (h : (s.elapse dt).up = true)
    (hwaits : ((s.elapse dt).ctx c).waitSince = some n) (hfirst : ((s.elapse dt).ctx c).waitRaised = false)
    (hlong : n + (s.elapse dt).num 0x3202 4 * ms < (s.elapse dt).stamp) :
    exec (.admissionWaitTimeout dt c) s
      = .next (((s.elapse dt).setCtx c { (s.elapse dt).ctx c with waitRaised := true }).signal 232 (some c)) := by
  refine congrArg Host.Outcome.next ((State.whenUp_up _ h).trans ?_)
  dsimp only
  rw [hwaits]
  dsimp only
  rw [if_pos (by simp [hfirst, hlong])]

/-! ### O25 -/

/-- Settles O25: what follows the storing, the activation and the wakes touches neither tables nor bays, and signalled sources pend. -/
theorem scheduleTakesEffect : Obligations.ScheduleTakesEffect := by
  rintro dt s _ rfl hup
  refine ⟨fun val hlen => ?_, fun n => ?_, fun p hcycle hp hdue => ?_, fun b hb hslot hawake hasleep hserves => ?_,
    fun c n hwaits hfirst hlong => ?_⟩
  · exact ⟨_, congrArg Host.Outcome.next (State.whenUp_up _ hup), State.actSchedule_blob _ hlen, State.objectsOnly_actSchedule _ val⟩
  · obtain ⟨o, ho⟩ := (s.elapse dt).actActivate_eq n
    exact ⟨_, congrArg Host.Outcome.next ((State.whenUp_up _ hup).trans ho), rfl, rfl⟩
  · have hactive := State.activateTable_due hp hdue
    have hsignals := (State.signalFrame_signal (s := { s.elapse dt with sched := (s.elapse dt).sched.activated p }) hup 235 none).signalsTo
    rw [← hactive] at hsignals
    obtain ⟨hmem, htables, hpend⟩ := State.cycleBegun_keeps (hsignals.up.trans hup)
    rw [hsignals.sched] at htables
    simp only [Sched.tables, Sched.activated, Prod.mk.injEq] at htables
    obtain ⟨htable, hfrom, hnone⟩ := htables
    refine ⟨_, exec_cycleStart_begins hup hcycle, htable, hfrom, hnone, hpend.pend 235 ?_, hmem.trans hsignals.mem⟩
    rw [hactive]
    exact State.signal_pend _ none (by decide)
  · have htenancy (v : State) : v.retryTimer.armTimer.tenancy = v.tenancy :=
      (State.timerBlind_tenancy.armTimer _).trans (State.timerBlind_tenancy.retryTimer v)
    have hbays (v : State) : v.retryTimer.armTimer.bays = v.bays := congrArg (fun x => x.2.2) (htenancy v)
    have hwoken := (s.elapse dt).wakeGuarded_mem_ctxs
    refine ⟨_, exec_slotBoundary_awake hup hslot hawake, ?_, fun hin => ?_⟩
    · rw [State.bay, hbays, State.expireWaits_bays]
      exact State.wakeGuarded_wakes hb hasleep hserves
    · have hin' : ∀ e ∈ (s.elapse dt).wakeGuarded.ctxs, e.2.state ≠ 3 := by
        rwa [show (s.elapse dt).wakeGuarded.ctxs = _ from congrArg Prod.snd hwoken]
      exact (congrArg Prod.fst (htenancy _)).trans ((State.expireWaits_mem hin').trans (congrArg Prod.fst hwoken))
  · refine ⟨_, exec_admissionWaitTimeout_long hup hwaits hfirst hlong, ?_, State.signal_pend _ _ (by decide), ?_⟩
    · rw [State.ctx_of_standing (State.signal_standing _ _ _), State.setCtx_ctx_self]
    · rw [State.ctx_of_standing (State.signal_standing _ _ _), State.setCtx_ctx_self]
      exact (State.signalFrame_signal (s := (s.elapse dt).setCtx c _) hup 232 (some c)).signalsTo

end Sys2Proof.Machine
end

section
/-! PROOFS. Parked waits, deadlines and swaps (R252 to R260): a record for a wait, the deadline timer, and a context that comes in. -/

namespace Sys2Proof.Machine

/-! ### Parking (R252, R253) -/

/-- The record that fills the table raises source 234, once a full period. -/
def State.noteFull (s : State) (c : Nat) : State :=
  if decide (640 ≤ (s.ctx c).parked.length) && !(s.ctx c).parkFull
  then (s.modCtx c (fun x => { x with parkFull := true })).signal 234 (some c) else s

theorem State.noteFull_posture (s : State) (c : Nat) : (s.noteFull c).posture = s.posture := by
  unfold State.noteFull
  split
  · exact (State.signal_posture _ _ _).trans (State.modCtx_posture rfl rfl)
  · rfl

/-- A context with one more record. -/
def Ctx.parking (x : Ctx) (p : Parked) : Ctx := { x with parked := x.parked ++ [p] }

theorem State.addRecord_eq (s : State) (c : Nat) (p : Parked) :
    s.addRecord c p = (((((s.modCtx c (Ctx.parking · p)).bump 0x3210 2).noteFull c).saveParked c).armTimer).track c := rfl

/-- What follows once a record has joined those of its context leaves the engines and the records. -/
theorem State.addRecord_stance (s : State) (c : Nat) (p : Parked) : (s.addRecord c p).stance = (s.modCtx c (Ctx.parking · p)).stance := by
  rw [State.addRecord_eq, State.stance_of_posture (State.track_posture _ _), State.stance_of_posture (State.armTimer_posture _),
    State.saveParked_stance, State.stance_of_posture (State.noteFull_posture _ _), State.stance_of_posture (State.bump_posture _ _ _)]

theorem State.addRecord_mem {s : State} {c : Nat} {p : Parked} (h : (s.ctx c).state ≠ 3) : (s.addRecord c p).mem = s.mem := by
  have hposture : (((s.modCtx c (Ctx.parking · p)).bump 0x3210 2).noteFull c).posture = (s.modCtx c (Ctx.parking · p)).posture :=
    (State.noteFull_posture _ _).trans (State.bump_posture _ _ _)
  have hin : ((((s.modCtx c (Ctx.parking · p)).bump 0x3210 2).noteFull c).ctx c).state ≠ 3 := by
    rw [State.state_of_stance (State.stance_of_posture hposture), State.modCtx_ctx_self]
    exact h
  rw [State.addRecord_eq, State.mem_of_posture (State.track_posture _ _), State.mem_of_posture (State.armTimer_posture _),
    State.saveParked_of_not_out hin, State.mem_of_posture hposture]
  rfl

/-- The record of a started command that awaits kind and slot `w` (Table 7-4). -/
def State.recordOf (s : State) (r : Run) (w : Nat × Nat) : Parked :=
  { parkStamp := s.stamp, deadline := s.deadlineFrom r.waitFrom, fillStamp := 0, tag := r.cmd.tag, progress := 0,
    ctxEpoch := s.epoch r.ctx, mortise := w.2, slotIndex := r.slot, queue := r.queue, kind := w.1, state := 0, code := 0,
    fired := false, run := some r }

theorem State.parkRun_eq {s : State} {e : Nat} {r : Run} {w : Nat × Nat} (hawaits : r.remoteWait = some w)
    (hfree : (s.ctx r.ctx).recordsFree = true) : s.parkRun e r = (s.freed e).addRecord r.ctx (s.recordOf r w) := by
  unfold State.parkRun
  rw [hawaits]
  dsimp only
  rw [if_neg (by simp [hfree])]
  rfl

/-- The engine is free, and the record stands; memory stands where the context is not swapped out. -/
theorem State.parkRun_spec {s : State} {e : Nat} {r : Run} {w : Nat × Nat} (hawaits : r.remoteWait = some w)
    (hfree : (s.ctx r.ctx).recordsFree = true) :
    ((s.parkRun e r).engine e).running = none ∧ s.recordOf r w ∈ ((s.parkRun e r).ctx r.ctx).parked
      ∧ ((s.ctx r.ctx).state ≠ 3 → (s.parkRun e r).mem = s.mem) := by
  have hstance := (s.freed e).addRecord_stance r.ctx (s.recordOf r w)
  rw [State.parkRun_eq hawaits hfree]
  refine ⟨?_, ?_, State.addRecord_mem (s := s.freed e) (p := _)⟩
  · rw [State.engine_of_stance hstance]
    exact congrArg Engine.running (State.setEngine_engine_self s e _)
  · rw [State.parked_of_stance hstance, State.modCtx_ctx_self]
    exact List.mem_append_right _ (List.mem_singleton_self _)

/-- A command that awaits a remote event is no command that awaits nothing. -/
theorem Run.await_of_remoteWait {r : Run} {w : Nat × Nat} (h : r.remoteWait = some w) : r.await ≠ .none := by
  intro hnone
  rw [Run.remoteWait, hnone] at h
  exact absurd h (Option.some_ne_none w).symm

theorem exec_park_started {dt q : Nat} {s : State} {r : Run} {w : Nat × Nat} (h : (s.elapse dt).up = true)
    (hruns : ((s.elapse dt).engine q).running = some r) (hawaits : r.remoteWait = some w)
    (hlong : ((s.elapse dt).engine q).progress + (s.elapse dt).num 0x3202 6 * us ≤ (s.elapse dt).stamp) :
    exec (.park dt r.ctx q) s = .next ((s.elapse dt).parkRun q r) := by
  have hpicked : ((s.elapse dt).engine q).running.filter (fun x => x.ctx == r.ctx && x.await != .none) = some r := by
    rw [hruns]
    simp [Option.filter, Run.await_of_remoteWait hawaits]
  refine congrArg Host.Outcome.next ((State.whenUp_up _ h).trans ?_)
  rw [hpicked]
  exact if_pos hlong

/-! ### The deadline timer (R256) -/

theorem exec_remoteWaitDeadline_fires {dt : Nat} {s : State} (h : (s.elapse dt).up = true)
    (hheld : ((s.elapse dt).timerOf .remoteWait).isSome = true) :
    exec (.remoteWaitDeadline dt) s = .next (s.elapse dt).expireWaits.markFired.armTimer := by
  refine congrArg Host.Outcome.next ((State.whenUp_up _ h).trans ?_)
  rw [if_neg (by simp [Option.isSome_iff_ne_none.mp hheld])]

/-- The timer fires for a record whose deadline is now. -/
def Parked.fireAt (now : Nat) (p : Parked) : Parked := if p.state = 0 ∧ p.deadline = now then { p with fired := true } else p

def Ctx.fireAt (now : Nat) (x : Ctx) : Ctx := { x with parked := x.parked.map (Parked.fireAt now) }

/-- The records of a context that wait no more. -/
def Ctx.wokenRecords (x : Ctx) : List Parked := x.parked.filter (fun p => p.state != 0)

theorem Ctx.fireAt_wokenRecords (now : Nat) (x : Ctx) : (x.fireAt now).wokenRecords = x.wokenRecords := by
  unfold Ctx.wokenRecords Ctx.fireAt
  dsimp only
  induction x.parked with
  | nil => rfl
  | cons p l ih =>
    rw [List.map_cons, List.filter_cons, List.filter_cons, ih]
    by_cases hp : p.state = 0 ∧ p.deadline = now
    · simp [Parked.fireAt, hp]
    · simp [Parked.fireAt, hp]

theorem State.markFired_wokenRecords {s : State} {c : Nat} (h : (s.ctx c).wokenRecords ≠ []) :
    (s.markFired.ctx c).wokenRecords = (s.ctx c).wokenRecords :=
  Assoc.view_get_mapVals Ctx.undefined (f := fun _ x => x.fireAt s.stamp) Ctx.wokenRecords (fun _ x => x.fireAt_wokenRecords s.stamp) h

/-! ### Swaps (R259, R260) -/

/-- One entry of the bench plan of incoming context `c`: its banks wait for their zeroing, and its bay wakes. -/
def State.claimBay (c : Nat) (s : State) (p : Nat × Nat) : State :=
  let y := s.bay p.1
  s.setBay p.1 { y with grantWaits := if y.zeroing then y.grantWaits ++ [(c, p.2)] else y.grantWaits, waking := y.waking || y.power == 2 }

theorem State.swapIn_eq (s : State) (c : Nat) :
    s.swapIn c = ({ (s.ctx c).plan.foldl (State.claimBay c) s with
      sched := { ((s.ctx c).plan.foldl (State.claimBay c) s).sched with swapping := some c } } : State).bump 0x3210 6 := rfl

theorem State.claimBay_keeps (c : Nat) (s : State) (p : Nat × Nat) (d : Nat) : ((s.claimBay c p).bay d).power = (s.bay d).power
    ∧ ((s.bay d).waking = true → ((s.claimBay c p).bay d).waking = true) := by
  unfold State.claimBay
  dsimp only
  by_cases hd : d = p.1
  · subst hd
    rw [State.setBay_bay_self]
    exact ⟨rfl, fun hw => by simp [hw]⟩
  · rw [State.setBay_bay_ne s _ hd]
    exact ⟨rfl, id⟩

theorem State.claimBay_wakes (c : Nat) {s : State} {p : Nat × Nat} (h : (s.bay p.1).power = 2) :
    ((s.claimBay c p).bay p.1).waking = true := by
  unfold State.claimBay
  rw [State.setBay_bay_self]
  simp [h]

/-- The bays of the plan that sleep wake (R440). -/
theorem State.swapIn_wakes {s : State} {c : Nat} {p : Nat × Nat} (hp : p ∈ (s.ctx c).plan) (hasleep : (s.bay p.1).power = 2) :
    ((s.swapIn c).bay p.1).waking = true := by
  have hwoken : (((s.ctx c).plan.foldl (State.claimBay c) s).bay p.1).waking = true :=
    State.foldl_reaches (I := fun t => (t.bay p.1).power = 2) (Q := fun t => (t.bay p.1).waking = true) hp
      (fun t x ht => (t.claimBay_keeps c x p.1).1.trans ht) (fun t x ht => (t.claimBay_keeps c x p.1).2 ht)
      (fun _ ht => State.claimBay_wakes c ht) hasleep
  exact hwoken

/-- A swap in leaves memory, and it is counted. -/
theorem State.swapIn_spec (s : State) (c : Nat) : (s.swapIn c).sched.swapping = some c ∧ (s.swapIn c).mem = s.mem
    ∧ (s.swapIn c).cnt 0x3210 6 = min (s.cnt 0x3210 6 + 1) (2 ^ 64 - 1) := by
  have hclaimed : ∀ v : State, v = (s.ctx c).plan.foldl (State.claimBay c) s → v.mem = s.mem ∧ v.objs = s.objs := by
    rintro v rfl
    have h := State.foldl_keeps (fun t : State => (t.mem, t.objs)) (f := State.claimBay c) (fun _ _ => rfl) (s.ctx c).plan s
    exact ⟨congrArg Prod.fst h, congrArg Prod.snd h⟩
  rw [State.swapIn_eq]
  generalize hv : (s.ctx c).plan.foldl (State.claimBay c) s = v
  obtain ⟨hmem, hobjs⟩ := hclaimed v hv.symm
  refine ⟨rfl, hmem, (State.bump_cnt_self _ _ _).trans ?_⟩
  rw [State.cnt, State.cnt, hobjs]

/-- The first runnable context comes in where its plan is met and a resident record is free. -/
theorem State.bringFirst_free {s : State} {c : Nat} (l : List Nat) (hroom : s.residents.length < 64) (hplan : s.meetsPlan (s.ctx c) = true) :
    s.bringFirst (c :: l) = s.swapIn c := by
  have henters : s.bringIn c = s.swapIn c := if_pos (by simp [hroom, hplan])
  unfold State.bringFirst
  dsimp only
  rw [henters, if_pos (by rw [(s.swapIn_spec c).1]; rfl)]

theorem exec_swap_free {dt c : Nat} {l : List Nat} {s v : State} (h : (s.elapse dt).up = true)
    (hv : v = (s.elapse dt).expireWaits.ctxs.foldl (fun a e => a.track e.1) (s.elapse dt).expireWaits) (hnone : v.sched.swapping = none)
    (hopen : (v.entry v.slotNo).testBit 13 = false) (hawake : v.power.device = 0) (hfirst : v.runnable = c :: l)
    (hroom : v.residents.length < 64) (hplan : v.meetsPlan (v.ctx c) = true) : exec (.swap dt) s = .next (v.swapIn c) := by
  have hgoes : ¬ (v.sched.swapping.isSome || (v.entry v.slotNo).testBit 13 || v.power.device != 0) = true := by
    simp [hnone, hopen, hawake]
  refine congrArg Host.Outcome.next ((State.whenUp_up _ h).trans ?_)
  dsimp only
  rw [← hv, if_neg hgoes, hfirst, State.bringFirst_free l hroom hplan]

/-! ### The end of a swap (R260, R261) -/

theorem State.StoreBlind.loadKept {β : Type} {π : State → β} (h : StoreBlind π) (s : State) (x : Ctx) (l : List Nat) :
    π (s.loadKept x l) = π s := by
  refine State.foldl_keeps π (fun t e => ?_) _ s
  split
  · rfl
  · dsimp only
    split
    · rfl
    · exact h.mem t _

/-- A context that is resident again: its plan is granted, and nothing of it is saved. -/
def Ctx.entered (x : Ctx) : Ctx := { x with state := 2, grant := x.plan, saved := [], runnableStamp := none, declined := false }

/-- Before its tracking, the context that enters. -/
def State.entering (s : State) (c : Nat) : State :=
  let t := (s.loadKept (s.ctx c) (s.ctx c).saved).setCtx c (s.ctx c).entered
  { t with sched := { t.sched with swapping := none, outgoing := [] } }

theorem State.enter_eq (s : State) (c : Nat) : s.enter c = (s.entering c).track c := rfl

theorem State.enter_sched (s : State) (c : Nat) : (s.enter c).sched.swapping = none := by
  rw [State.enter_eq, (State.tracksTo_track _ c).view State.sched]
  rfl

theorem State.entering_ctx_self (s : State) (c : Nat) : (s.entering c).ctx c = (s.ctx c).entered :=
  State.setCtx_ctx_self (s.loadKept (s.ctx c) (s.ctx c).saved) c (s.ctx c).entered

theorem State.entering_ctx_ne (s : State) {c d : Nat} (h : d ≠ c) : (s.entering c).ctx d = s.ctx d :=
  (State.setCtx_ctx_ne (s.loadKept (s.ctx c) (s.ctx c).saved) (s.ctx c).entered h).trans
    (State.StoreBlind.loadKept (π := fun t => t.ctx d) ⟨fun _ _ => rfl, fun _ _ => rfl⟩ s _ _)

theorem State.enter_closePending (s : State) (c d : Nat) : ((s.enter c).ctx d).closePending = (s.ctx d).closePending := by
  rw [State.enter_eq, Ctx.of_settled Ctx.closePending (State.track_ctx _ c d)]
  by_cases hd : d = c
  · subst hd
    rw [State.entering_ctx_self]
    rfl
  · rw [State.entering_ctx_ne s hd]

/-- No close came meanwhile. -/
theorem exec_swapComplete_enters {dt c : Nat} {s : State} (h : (s.elapse dt).up = true) (hswap : (s.elapse dt).sched.swapping = some c)
    (hin : ((s.elapse dt).ctx c).closePending = false) (hout : ∀ d ∈ (s.elapse dt).sched.outgoing, ((s.elapse dt).ctx d).closePending = false)
    (hzeroed : (s.elapse dt).bays.any (fun b => b.2.grantWaits.any (fun w => w.1 == c)) = false) :
    exec (.swapComplete dt c) s = .next ((s.elapse dt).enter c) := by
  have hstays : ∀ d ∈ c :: (s.elapse dt).sched.outgoing, (((s.elapse dt).enter c).ctx d).closePending = false := by
    intro d hd
    rw [State.enter_closePending]
    exact (List.mem_cons.mp hd).elim (fun hc => hc ▸ hin) (hout d)
  refine congrArg Host.Outcome.next ((State.whenUp_up _ h).trans ?_)
  rw [if_pos ⟨hswap, by rw [hzeroed]; rfl⟩]
  refine List.foldlRecOn (motive := fun t => t = (s.elapse dt).enter c) _ _ rfl fun t ht d hd => ?_
  rw [ht, hstays d hd]
  exact if_neg Bool.false_ne_true

/-! ### O26 -/

/-- Settles O26: a park adds its record and the timer's check times out the due ones; a swap claims the bays of the plan, and its end enters. -/
theorem waitsSwapsAndDeadlines : Obligations.WaitsSwapsAndDeadlines := by
  refine ⟨⟨?_, ?_⟩, ?_, ?_⟩
  · rintro dt _ q s _ r w rfl hup hruns rfl hawaits hlong hfree
    obtain ⟨hidle, hrecord, hmem⟩ := State.parkRun_spec (e := q) hawaits hfree
    exact ⟨_, _, exec_park_started hup hruns hawaits hlong, hidle, hrecord, rfl, rfl, rfl, rfl, hmem⟩
  · rintro dt c s _ p rfl hup hheld hp hwaits hpast
    have htimed : { p with state := 2 } ∈ ((s.elapse dt).expireWaits.ctx c).wokenRecords :=
      List.mem_filter.mpr ⟨State.expireWaits_parked hp hwaits hpast, rfl⟩
    rw [← State.markFired_wokenRecords (List.ne_nil_of_mem htimed)] at htimed
    refine ⟨_, exec_remoteWaitDeadline_fires hup hheld, ?_, fun hin => ?_⟩
    · rw [State.parked_of_stance (State.stance_of_posture (State.armTimer_posture _))]
      exact List.mem_of_mem_filter htimed
    · exact (State.mem_of_posture (State.armTimer_posture _)).trans (State.expireWaits_mem hin)
  · rintro dt c l s _ _ v rfl hup rfl hv hnone hopen hawake hfirst hroom hplan
    obtain ⟨hswapping, hmem, hcount⟩ := v.swapIn_spec c
    exact ⟨_, exec_swap_free hup hv hnone hopen hawake hfirst hroom hplan, hswapping, hmem, hcount, fun p hp => State.swapIn_wakes hp⟩
  · rintro dt c s _ rfl hup hswap hin hout hzeroed
    have henter {α : Type} (f : Ctx → α) (hf : ∀ z : Ctx, f z.settled = f z) :
        f (((s.elapse dt).enter c).ctx c) = f ((s.elapse dt).ctx c).entered := by
      rw [State.enter_eq, Ctx.of_settled f (State.track_ctx _ c c) hf, State.entering_ctx_self]
    exact ⟨_, exec_swapComplete_enters hup hswap hin hout hzeroed, henter Ctx.state fun _ => rfl, henter Ctx.grant fun _ => rfl,
      henter Ctx.saved fun _ => rfl, State.enter_sched _ c⟩

end Sys2Proof.Machine
end

section
/-! PROOFS. What signals, counts, arrivals and sends leave of the network's state (R267 to R285, R411 to R420): links, ports, the transport
and the clock. -/

namespace Sys2Proof.Machine

/-! ### Signals and counts -/

/-- Links, ports, the transport's state, the clock and the own device ID: no signal, count, stored byte or timer changes them. -/
def State.network (s : State) : Sparse Link × Sparse Nat × Sparse Nat × Fabric × Clock × Nat :=
  (s.links, s.ports, s.hostPorts, s.fab, s.clock, s.deviceId)

theorem State.link_of_network {s t : State} (h : t.network = s.network) (n : Nat) : t.link n = s.link n :=
  congrArg (fun x : Sparse Link × Sparse Nat × Sparse Nat × Fabric × Clock × Nat => Assoc.get Link.down x.1 n) h

theorem State.ports_of_network {s t : State} (h : t.network = s.network) : t.ports = s.ports :=
  congrArg (fun x : Sparse Link × Sparse Nat × Sparse Nat × Fabric × Clock × Nat => x.2.1) h

theorem State.hostPorts_of_network {s t : State} (h : t.network = s.network) : t.hostPorts = s.hostPorts :=
  congrArg (fun x : Sparse Link × Sparse Nat × Sparse Nat × Fabric × Clock × Nat => x.2.2.1) h

theorem State.fab_of_network {s t : State} (h : t.network = s.network) : t.fab = s.fab :=
  congrArg (fun x : Sparse Link × Sparse Nat × Sparse Nat × Fabric × Clock × Nat => x.2.2.2.1) h

theorem State.clock_of_network {s t : State} (h : t.network = s.network) : t.clock = s.clock :=
  congrArg (fun x : Sparse Link × Sparse Nat × Sparse Nat × Fabric × Clock × Nat => x.2.2.2.2.1) h

theorem State.SignalsTo.network {s t : State} (h : s.SignalsTo t) : t.network = s.network := by
  unfold State.SignalsTo at h
  rw [h]
  rfl

theorem State.startWake_network (s : State) : s.startWake.network = s.network := by
  unfold State.startWake
  split
  · rfl
  · split
    · rfl
    · rfl

theorem State.signal_network (s : State) (n : Nat) (c : Option Nat) : (s.signal n c).network = s.network := by
  have hsend (t : State) (n : Nat) (c : Option Nat) : ((t.latchSignal n c).forwardSignal n c).1.network = t.network :=
    ((t.signalFrame_latchSignal n c).trans (State.signalFrame_forwardSignal _ n c)).signalsTo.network
  unfold State.signal
  simp only [apply_ite State.network, State.startWake_network, hsend, ite_self]

theorem State.readBlind_network : State.ReadBlind State.network where
  signal := State.signal_network
  objs _ _ := rfl
  perf _ _ := rfl
  loft _ _ := rfl
  sill _ _ := rfl
  copies _ _ _ := rfl

theorem State.timerBlind_network : State.TimerBlind State.network where
  signal := State.signal_network
  objs _ _ := rfl
  perf _ _ := rfl
  fault _ _ := rfl
  res _ _ _ := rfl
  polling _ _ := rfl

theorem State.storeBlind_network : State.StoreBlind State.network := ⟨fun _ _ => rfl, fun _ _ => rfl⟩

theorem State.countEvent_network (s : State) (u ev n : Nat) (c : Option Nat) : (s.countEvent u ev n c).network = s.network :=
  State.readBlind_network.countEvent s u ev n c

theorem State.bump_network (s : State) (i k : Nat) : (s.bump i k).network = s.network := rfl

theorem State.countEvent_fab (s : State) (u ev n : Nat) (c : Option Nat) : (s.countEvent u ev n c).fab = s.fab :=
  State.fab_of_network (s.countEvent_network u ev n c)

theorem State.healthChanged_network (s : State) (before : Nat) : (s.healthChanged before).network = s.network := by
  unfold State.healthChanged
  rw [apply_ite State.network, State.signal_network, ite_self]

theorem State.deduct_network (s : State) (points : Nat) : (s.deduct points).network = s.network := by
  unfold State.deduct
  dsimp only
  split
  · rfl
  · exact State.healthChanged_network _ _

/-! ### Arrivals (R271, R441) -/

/-- A view that sees neither reads' traces nor links, sent messages and the wake of the device is untouched by an arrival. -/
theorem State.ReadBlind.arrive {β : Type} {π : State → β} (h : ReadBlind π) (hlinks : ∀ s l, π { s with links := l } = π s)
    (hsent : ∀ s l, π { s with sent := l } = π s) (hwake : ∀ s, π s.startWake = π s) (s : State) (via : Via) (ty : Nat) (m : FabMsg) :
    π (s.arrive via ty m) = π s := by
  have hfree (n len : Nat) : π (s.freeFlits n ty len) = π s := by
    unfold State.freeFlits
    dsimp only
    split
    · exact (hsent _ _).trans ((hlinks _ _).trans (hlinks s _))
    · exact hlinks s _
  unfold State.arrive
  cases via with
  | rafter n => simp only [apply_ite π, hwake, hfree, ite_self]
  | purlin p => simp only [apply_ite π, hwake, h.countEvent, ite_self]

theorem State.arrive_standing (s : State) (via : Via) (ty : Nat) (m : FabMsg) : (s.arrive via ty m).standing = s.standing :=
  State.readBlind_standing.arrive (fun _ _ => rfl) (fun _ _ => rfl) State.startWake_standing s via ty m

/-- The transport's state and the own device ID. -/
def State.transport (s : State) : Fabric × Nat := (s.fab, s.deviceId)

theorem State.transport_of_network {s t : State} (h : t.network = s.network) : t.transport = s.transport :=
  congrArg (fun x : Sparse Link × Sparse Nat × Sparse Nat × Fabric × Clock × Nat => (x.2.2.2.1, x.2.2.2.2.2)) h

theorem State.readBlind_transport : State.ReadBlind State.transport where
  signal s n c := State.transport_of_network (s.signal_network n c)
  objs _ _ := rfl
  perf _ _ := rfl
  loft _ _ := rfl
  sill _ _ := rfl
  copies _ _ _ := rfl

theorem State.arrive_transport (s : State) (via : Via) (ty : Nat) (m : FabMsg) : (s.arrive via ty m).transport = s.transport :=
  State.readBlind_transport.arrive (fun _ _ => rfl) (fun _ _ => rfl) (fun s => State.transport_of_network s.startWake_network) s via ty m

theorem State.arrive_fab (s : State) (via : Via) (ty : Nat) (m : FabMsg) : (s.arrive via ty m).fab = s.fab :=
  congrArg Prod.fst (s.arrive_transport via ty m)

theorem State.arrive_deviceId (s : State) (via : Via) (ty : Nat) (m : FabMsg) : (s.arrive via ty m).deviceId = s.deviceId :=
  congrArg Prod.snd (s.arrive_transport via ty m)

/-! ### Messages that are accepted (R285) -/

/-- A message that passes checks 1 to 7 is acted on as it stands after its arrival. -/
theorem State.receive_accepted {s : State} {ty : Nat} {via : Via} {m : FabMsg} (h : s.accepts ty via m) (hty : ty ≠ 0x31) (act : Lander) :
    s.receive ty via m act = act (s.arrive via ty m) m.hdr m.payload := by
  obtain ⟨hup, hvia, hwire, hform, hpeer, hseen, hbeyond, hctx, hrole⟩ := h
  have hknown : ¬ (ty < 0x20 && m.hdr.roleEpoch != ((s.arrive via ty m).ctx m.hdr.dstCtx).roleEpoch) = true := by
    rw [Bool.and_eq_true, decide_eq_true_eq, bne_iff_ne]
    exact fun ⟨hlow, hne⟩ => hne (hrole hlow)
  rw [State.receive, State.whenUp_up _ hup]
  dsimp only
  rw [if_neg (by simp [hvia]), if_neg (by simp [hwire]), if_neg (by simp [hform]), if_neg hty, if_neg (by simp [hpeer]),
    if_neg (by simp [hseen]), if_neg (by simp [hbeyond]), if_neg (by simp [hctx]), if_neg hknown]

/-- A peer reset that passes checks 1 to 4 is marked and acted on. -/
theorem State.receive_peerReset {s : State} {via : Via} {m : FabMsg} (hup : s.up = true) (hvia : s.viaUp via = true)
    (hwire : wireOk via 0x31 m = true) (hform : (s.arrive via 0x31 m).formCode 0x31 m = 0) (act : Lander) :
    s.receive 0x31 via m act = act ((s.arrive via 0x31 m).markSeq m.hdr) m.hdr [] := by
  rw [State.receive, State.whenUp_up _ hup]
  dsimp only
  rw [if_neg (by simp [hvia]), if_neg (by simp [hwire]), if_neg (by simp [hform]), if_pos rfl]

/-! ### Sends (R281, R282) -/

theorem State.sendCodewords_fab (s : State) (n : Nat) (l : List (List Nat)) : (s.sendCodewords n l).fab = s.fab := by
  induction l generalizing s with
  | nil => rfl
  | cons c l ih => exact ih _

theorem State.onLink_fab (s : State) (n ty : Nat) (h : FabHdr) (p : List Byte) : (s.onLink n ty h p).fab = s.fab := by
  unfold State.onLink State.startOnLink
  dsimp only
  split
  · exact (State.sendCodewords_fab _ _ _).trans (State.countEvent_fab _ _ _ _ _)
  · rfl

theorem State.onPort_fab (s : State) (p d ty : Nat) (h : FabHdr) (l : List Byte) : (s.onPort p d ty h l).fab = s.fab :=
  State.countEvent_fab _ _ _ _ _

/-- The choice of a path takes the turn of a link or of a port, and nothing else of the transport. -/
theorem State.route_fab (s : State) (d ty : Nat) (h : FabHdr) (p : List Byte) :
    ∃ i j, (s.route d ty h p).1.fab = { s.fab with rrLink := i, rrPort := j } := by
  unfold State.route
  dsimp only
  split
  · exact ⟨_, _, State.onLink_fab _ _ _ _ _⟩
  · split
    · exact ⟨_, _, rfl⟩
    · exact ⟨_, _, State.onPort_fab _ _ _ _ _ _⟩

end Sys2Proof.Machine
end

section
/-! PROOFS. Control flits and time on the bent (R267 to R273, R277): what each kind of flit does on a link with nothing held back, and what a
follower does with and without a link to its leader. -/

namespace Sys2Proof.Machine

/-! ### A control flit that is heard (R267, R271) -/

/-- The state once link `n` has taken the acknowledgement and the credits of flit `f`. -/
def State.took (s : State) (n f : Nat) : State := s.setLink n ((s.link n).take f)

theorem State.took_link (s : State) (n f : Nat) : (s.took n f).link n = (s.link n).take f := s.setLink_link_self n _

/-- With no message held, a flit of the kind does what its kind says once its acknowledgement and credits are taken. -/
theorem State.onFlit_hears {s : State} {n f kind : Nat} (h : s.hears n f kind) (hheld : (s.link n).held = []) (g : State → State) :
    s.onFlit n f kind g = g (s.took n f) := by
  obtain ⟨hup, hcarries, hkind⟩ := h
  have hnone : ((s.took n f).link n).held = [] := by
    rw [State.took_link]
    exact hheld
  rw [State.onFlit, State.whenUp_up _ hup, if_pos (by simp [hcarries, hkind])]
  change g ((s.took n f).drainHeld ((s.took n f).link n).held.length n []) = g (s.took n f)
  rw [hnone]
  rfl

theorem State.sendFlit_sent (s : State) (n kind a b c : Nat) :
    (s.sendFlit n kind a b c).sent = s.sent ++ [.flit n (controlFlit kind (s.link n) a b c)] := rfl

/-! ### Retry requests (R269) -/

/-- What resends push stays sent. -/
theorem State.mem_sent_of_resends {n : Nat} {m : Sent} (l : List (Nat × List Nat × Nat)) {s : State}
    (h : m ∈ s.sent ∨ ∃ u ∈ l, m = .resend n u.1) :
    m ∈ (l.foldl (fun (s : State) u => (s.push (.resend n u.1)).push (.codeword n u.1 (crc10 u.2.1) u.2.1 (s.lanesOf n))) s).sent := by
  induction l generalizing s with
  | nil => simpa using h
  | cons u l ih =>
    refine ih ?_
    obtain hsent | ⟨v, hv, rfl⟩ := h
    · exact .inl (by simp [State.push, hsent])
    · obtain rfl | hv := List.mem_cons.mp hv
      · exact .inl (by simp [State.push])
      · exact .inr ⟨v, hv, rfl⟩

/-- The codeword that a link finds by its seq goes again, where no lane swap stops the link. -/
theorem State.resendFrom_sent {s : State} {n q : Nat} {x : Nat × List Nat × Nat} (hswap : (s.link n).swapping = false)
    (hfind : (s.link n).unacked.find? (fun y => y.1 == q) = some x) : .resend n x.1 ∈ (s.resendFrom n q).sent := by
  obtain ⟨hq, i, hi, hx, hfirst⟩ := List.find?_eq_some_iff_getElem.mp hfind
  have hindex : (s.link n).unacked.findIdx? (fun y => y.1 == q) = some i :=
    List.findIdx?_eq_some_iff_getElem.mpr ⟨hi, hx ▸ hq, fun j hj => by simpa using hfirst j hj⟩
  have hagain : x ∈ (s.link n).unacked.drop i := List.mem_drop_iff_getElem.mpr ⟨0, by omega, hx⟩
  unfold State.resendFrom
  rw [if_neg (by simp [hswap]), hindex]
  exact State.mem_sent_of_resends _ (.inr ⟨x, hagain, rfl⟩)

theorem exec_retryRequest_resends {dt n f : Nat} {s : State} {x : Nat × List Nat × Nat} (h : (s.elapse dt).hears n f 9)
    (hheld : ((s.elapse dt).link n).held = [])
    (hfind : (((s.elapse dt).link n).take f).unacked.find? (fun y => y.1 == bits f 9 0) = some x)
    (hfew : x.2.2 < (s.elapse dt).num 0x4003 2) :
    exec (.retryRequest dt n f) s
      = .next (((((s.elapse dt).took n f).bump 0x4010 4).countEvent (linkUnit n) 0x0308 1 none).resendFrom n (bits f 9 0)) := by
  have hknown : (((s.elapse dt).took n f).link n).unacked.find? (fun y => y.1 == bits f 9 0) = some x := by
    rw [State.took_link]
    exact hfind
  have hmore : ¬ ((s.elapse dt).took n f).num 0x4003 2 ≤ x.2.2 := Nat.not_le.mpr hfew
  refine congrArg Host.Outcome.next ((State.onFlit_hears h hheld _).trans ?_)
  dsimp only
  rw [hknown]
  exact if_neg hmore

/-! ### The time leader (R272) -/

theorem exec_syncRequest_answers {dt n f : Nat} {s : State} (h : (s.elapse dt).hears n f 0xA) (hheld : ((s.elapse dt).link n).held = [])
    (hleads : (s.elapse dt).leads = true) :
    exec (.syncRequest dt n f) s
      = .next (((s.elapse dt).took n f).sendFlit n 0xB (bits f 191 128) (s.elapse dt).stamp (s.elapse dt).stamp) :=
  congrArg Host.Outcome.next ((State.onFlit_hears h hheld _).trans (if_pos hleads))

/-- A change of the clock's state keeps its exchange and its offset. -/
theorem State.setClockState_exchange (s : State) (n : Nat) :
    ((s.setClockState n).clock.syncSent, (s.setClockState n).fab.offset) = (s.clock.syncSent, s.fab.offset) := by
  have hsignal (t : State) (k : Nat) :
      ((t.signal k none).clock.syncSent, (t.signal k none).fab.offset) = (t.clock.syncSent, t.fab.offset) := by
    rw [State.clock_of_network (t.signal_network k none), State.fab_of_network (t.signal_network k none)]
  unfold State.setClockState
  split
  · rfl
  · dsimp only
    split
    · exact (hsignal _ _).trans (hsignal _ _)
    · exact hsignal _ _

/-- A correction of the clock keeps the exchange that it came from. -/
theorem State.follow_exchange (s : State) (d : Int) (n : Nat) :
    ((s.follow d n).clock.syncSent, (s.follow d n).fab.offset) = (s.clock.syncSent, s.fab.offset) := by
  unfold State.follow
  refine (State.setClockState_exchange _ n).trans ?_
  split
  · rfl
  · rfl

/-- The exchange ends with the offset that it gives. -/
theorem exec_syncReply_follows {dt n f : Nat} {s : State} (h : (s.elapse dt).hears n f 0xB) (hheld : ((s.elapse dt).link n).held = [])
    (hsent : (s.elapse dt).clock.syncSent = some (bits f 191 128)) :
    let u := (s.elapse dt).took n f
    let off := syncOffset (bits f 191 128) (bits f 127 64) (bits f 63 0) (s.elapse dt).stamp
    exec (.syncReply dt n f) s
      = .next (({ u with clock := { u.clock with syncSent := none }, fab := { u.fab with offset := off } } : State).follow off 1) :=
  congrArg Host.Outcome.next ((State.onFlit_hears h hheld _).trans (if_pos hsent))

theorem exec_syncInterval_asks {dt n : Nat} {l : List Nat} {s : State} (hup : (s.elapse dt).up = true) (hleads : (s.elapse dt).leads = false)
    (hlinks : (s.elapse dt).leaderLinks = n :: l) :
    let u := s.elapse dt
    exec (.syncInterval dt) s
      = .next (({ u with clock := { u.clock with syncSent := some u.stamp } } : State).sendFlit n 0xA u.stamp 0 0) := by
  refine congrArg Host.Outcome.next ((State.whenUp_up _ hup).trans ?_)
  rw [if_neg (by simp [hleads]), hlinks]

theorem exec_leaderLossTimeout_falls {dt : Nat} {s : State} (hup : (s.elapse dt).up = true) (hleads : (s.elapse dt).leads = false)
    (hlinks : (s.elapse dt).leaderLinks = []) :
    exec (.leaderLossTimeout dt) s = .next { s.elapse dt with fab := { (s.elapse dt).fab with fallback := true } } := by
  refine congrArg Host.Outcome.next ((State.whenUp_up _ hup).trans ?_)
  rw [if_neg (by simp [hleads, hlinks])]

/-! ### Lane maps (R277) -/

/-- What waits on a link: the codewords that are not acknowledged, and the messages held back. -/
def Link.backlog (x : Link) : List (Nat × List Nat × Nat) × List (Nat × FabHdr × List Byte) := (x.unacked, x.held)

/-- A change of a link that leaves what waits on it. -/
theorem State.setLink_backlog {s : State} {m : Nat} {x : Link} (h : x.backlog = (s.link m).backlog) (n : Nat) :
    ((s.setLink m x).link n).backlog = (s.link n).backlog := by
  by_cases hn : n = m
  · subst hn
    rw [State.setLink_link_self, h]
  · rw [State.setLink_link_ne s x hn]

theorem State.backlog_of_network {s t : State} (h : t.network = s.network) (n : Nat) : (t.link n).backlog = (s.link n).backlog :=
  congrArg Link.backlog (State.link_of_network h n)

theorem State.sendFlit_backlog (s : State) (m kind a b c n : Nat) : ((s.sendFlit m kind a b c).link n).backlog = (s.link n).backlog :=
  State.setLink_backlog (by rfl) n

theorem State.setLinkState_backlog {s : State} {m : Nat} {l : Link} (h : l.backlog = (s.link m).backlog) (st n : Nat) :
    ((s.setLinkState m l st).link n).backlog = (s.link n).backlog := by
  have hset : ((s.setLink m { l with state := st }).link n).backlog = (s.link n).backlog :=
    State.setLink_backlog (x := { l with state := st }) h n
  unfold State.setLinkState
  dsimp only
  split
  · exact hset
  · exact (State.backlog_of_network (State.signal_network _ _ _) n).trans hset

theorem State.beginSwap_backlog (s : State) (m n : Nat) : ((s.beginSwap m).link n).backlog = (s.link n).backlog := by
  unfold State.beginSwap
  refine (State.backlog_of_network (State.deduct_network _ _) n).trans ((State.sendFlit_backlog _ _ _ _ _ _ n).trans ?_)
  exact State.setLink_backlog (by rfl) n

theorem State.takeWhole_backlog (s : State) (m k n : Nat) : ((s.takeWhole m k).link n).backlog = (s.link n).backlog := by
  unfold State.takeWhole
  refine (State.beginSwap_backlog _ m n).trans ((State.backlog_of_network (State.bump_network _ _ _) n).trans ?_)
  exact (State.setLinkState_backlog (by rfl) 5 n).trans (State.setLink_backlog (by rfl) n)

theorem State.takeLane_backlog (s : State) (m k lane n : Nat) : ((s.takeLane m k lane).link n).backlog = (s.link n).backlog := by
  have hlent (l : List (Nat × Nat)) (j : Nat) : ((s.setLink k { s.link k with lent := l }).link j).backlog = (s.link j).backlog :=
    State.setLink_backlog (by rfl) j
  unfold State.takeLane
  refine (State.beginSwap_backlog _ m n).trans ((State.backlog_of_network (State.bump_network _ _ _) n).trans ?_)
  refine Eq.trans (State.setLink_backlog ?_ n) (hlent _ n)
  exact (hlent _ m).symm

/-- The answer to a swap that the far end has begun leaves what waits on the link. -/
theorem State.joinSwap_backlog (s : State) (m flit n : Nat) : ((s.joinSwap m flit).link n).backlog = (s.link n).backlog := by
  have hmap : ((s.sendFlit m 0xD (s.laneMapFlit m) 0 0).link n).backlog = (s.link n).backlog := s.sendFlit_backlog m _ _ _ _ n
  unfold State.joinSwap
  dsimp only
  split
  · exact hmap
  · split
    · exact hmap
    · split
      · exact s.takeWhole_backlog m _ n
      · split
        · exact hmap
        · exact s.takeLane_backlog m _ _ n

/-- Link `n` swaps lanes, begun here or answered to flit `f`; and the swap is over. -/
def State.swapped (s : State) (n f : Nat) : State := if (s.link n).swapping then s else s.joinSwap n f
def State.swapEnded (s : State) (n : Nat) : State := s.setLink n { s.link n with swapping := false }

theorem State.swapEnded_link (s : State) (n : Nat) : (s.swapEnded n).link n = { s.link n with swapping := false } := s.setLink_link_self n _

theorem State.swapped_backlog (s : State) (n f : Nat) : ((s.swapped n f).link n).backlog = (s.link n).backlog := by
  unfold State.swapped
  split
  · rfl
  · exact s.joinSwap_backlog n f n

/-- With nothing unacknowledged and nothing held back, the end of the swap sends nothing. -/
theorem exec_laneMap_ends {dt n f : Nat} {s : State} (h : (s.elapse dt).hears n f 0xD) (hheld : ((s.elapse dt).link n).held = [])
    (hnone : (((s.elapse dt).link n).take f).unacked = []) :
    exec (.laneMap dt n f) s = .next ((((s.elapse dt).took n f).swapped n f).swapEnded n) := by
  have htook : (((s.elapse dt).took n f).link n).backlog = ([], []) := by
    rw [State.took_link]
    exact Prod.ext hnone hheld
  have hidle : (((((s.elapse dt).took n f).swapped n f).swapEnded n).link n).backlog = ([], []) := by
    rw [State.swapEnded_link, ← htook, ← State.swapped_backlog _ n f]
    rfl
  obtain ⟨hunacked, hempty⟩ := Prod.mk.inj hidle
  refine congrArg Host.Outcome.next ((State.onFlit_hears h hheld _).trans ?_)
  unfold State.swapEnded State.swapped at hunacked hempty ⊢
  dsimp only at hunacked hempty ⊢
  rw [hunacked]
  dsimp only
  rw [hempty]
  rfl

/-! ### O28 -/

/-- Settles O28: a flit is what its kind says of the link that took its acknowledgement and credits, and time follows the leader's links. -/
theorem controlFlitsAct : Obligations.ControlFlitsAct := by
  refine ⟨?_, ?_⟩
  · rintro dt n f s _ rfl hheld
    refine ⟨fun h => ?_, fun x h hswap hfind hfew => ?_, fun h hleads => ?_, fun h hsent => ?_, fun h hnone => ?_⟩
    · refine ⟨_, congrArg Host.Outcome.next (State.onFlit_hears h hheld _), ?_, ?_, rfl⟩
      · rw [State.took_link]
      · rw [State.took_link]
    · have hlink : (((((s.elapse dt).took n f).bump 0x4010 4).countEvent (linkUnit n) 0x0308 1 none).link n) = ((s.elapse dt).link n).take f :=
        (State.link_of_network (State.countEvent_network _ _ _ _ _) n).trans (State.took_link _ n f)
      refine ⟨_, exec_retryRequest_resends h hheld hfind hfew, State.resendFrom_sent ?_ ?_⟩
      · rw [hlink]
        exact hswap
      · rw [hlink]
        exact hfind
    · refine ⟨_, exec_syncRequest_answers h hheld hleads, ?_⟩
      rw [State.sendFlit_sent, State.took_link]
      rfl
    · obtain ⟨hclock, hoffset⟩ := Prod.mk.inj (State.follow_exchange
        ({ (s.elapse dt).took n f with
            clock := { ((s.elapse dt).took n f).clock with syncSent := none },
            fab := { ((s.elapse dt).took n f).fab with
              offset := syncOffset (bits f 191 128) (bits f 127 64) (bits f 63 0) (s.elapse dt).stamp } } : State) _ 1)
      exact ⟨_, exec_syncReply_follows h hheld hsent, hclock, hoffset⟩
    · refine ⟨_, exec_laneMap_ends h hheld hnone, ?_⟩
      rw [State.swapEnded_link]
  · rintro dt s _ rfl hup hleads
    exact ⟨fun n l hlinks => ⟨_, exec_syncInterval_asks hup hleads hlinks, rfl, rfl⟩, exec_leaderLossTimeout_falls hup hleads⟩

end Sys2Proof.Machine
end

section
/-! PROOFS. Ports (R278, R279, R281, R363, R365): a change of state, and the answers to address resolution. -/

namespace Sys2Proof.Machine

/-! ### Changes of state (R281, R365) -/

/-- A signal leaves the state of every port. -/
theorem State.signal_ports (s : State) (n : Nat) (c : Option Nat) : (s.signal n c).ports = s.ports :=
  State.ports_of_network (s.signal_network n c)

theorem State.signal_hostPorts (s : State) (n : Nat) (c : Option Nat) : (s.signal n c).hostPorts = s.hostPorts :=
  State.hostPorts_of_network (s.signal_network n c)

/-- Every port has a source that Table 13-5 names. -/
theorem sourceDefined_port {p : Nat} (h : p < 16) : sourceDefined (192 + p) = true := by
  interval_cases p <;> rfl

theorem sourceDefined_hostPort {p : Nat} (h : p < 2) : sourceDefined (208 + p) = true := by
  interval_cases p <;> rfl

/-- A purlin port that takes another state than Training has it, and its source pends. -/
theorem State.setPort_spec {s : State} {p st : Nat} (hp : p < 16) (htrain : st ≠ 1) (hnew : Assoc.get 0 s.ports p ≠ st) :
    Assoc.get 0 (s.setPort p st).ports p = st ∧ ((s.setPort p st).sourceOf (192 + p)).pend = true := by
  have hst : (if st = 1 ∧ (s.num 0x4104 6).testBit p = true then 3 else st) = st := if_neg fun h => htrain h.1
  unfold State.setPort
  dsimp only
  rw [hst, if_neg htrain, if_neg hnew, State.signal_ports]
  exact ⟨Assoc.get_set_self 0 _ p st, State.signal_pend _ none (sourceDefined_port hp)⟩

/-- The same for a host port. -/
theorem State.setHostPort_spec {s : State} {p st : Nat} (hp : p < 2) (htrain : st ≠ 1) (hnew : Assoc.get 0 s.hostPorts p ≠ st) :
    Assoc.get 0 (s.setHostPort p st).hostPorts p = st ∧ ((s.setHostPort p st).sourceOf (208 + p)).pend = true := by
  have hst : (if st = 1 ∧ (s.num 0x4802 9).testBit p = true then 3 else st) = st := if_neg fun h => htrain h.1
  unfold State.setHostPort
  dsimp only
  rw [hst, if_neg htrain, if_neg hnew, State.signal_hostPorts]
  exact ⟨Assoc.get_set_self 0 _ p st, State.signal_pend _ none (sourceDefined_hostPort hp)⟩

theorem exec_portStateChange_sets {dt p st : Nat} {s : State} (h : (s.elapse dt).up = true) (hp : p < 16) (hst : st ≤ 3) :
    exec (.portStateChange dt p st) s = .next ((s.elapse dt).setPort p st) :=
  congrArg Host.Outcome.next ((State.whenUp_up _ h).trans (if_pos ⟨hp, hst⟩))

theorem exec_hostPortStateChange_sets {dt p st : Nat} {s : State} (h : (s.elapse dt).up = true) (hp : p < 2) (hst : st ≤ 3) :
    exec (.hostPortStateChange dt p st) s = .next ((s.elapse dt).setHostPort p st) :=
  congrArg Host.Outcome.next ((State.whenUp_up _ h).trans (if_pos ⟨hp, hst⟩))

/-! ### Address resolution (R278, R279, R363) -/

theorem exec_arpRequest_answers {dt p mac : Nat} {s : State} (h : (s.elapse dt).up = true) (hport : (s.elapse dt).portUp p = true)
    (hfamily : (s.elapse dt).portFamily p = 1) :
    exec (.arpRequest dt p ((s.elapse dt).portAddr p) mac) s
      = .next ((s.elapse dt).push (.arp p ((s.elapse dt).portGateway p) mac ((s.elapse dt).portMac p))) :=
  congrArg Host.Outcome.next ((State.whenUp_up _ h).trans (if_pos (by simp [hport, hfamily])))

theorem exec_neighborSolicitation_answers {dt p mac : Nat} {s : State} (h : (s.elapse dt).up = true)
    (hport : (s.elapse dt).portUp p = true) (hfamily : (s.elapse dt).portFamily p = 0) :
    exec (.neighborSolicitation dt p ((s.elapse dt).portAddr p) mac) s
      = .next ((s.elapse dt).push (.neighbor p ((s.elapse dt).portGateway p) mac ((s.elapse dt).portMac p))) :=
  congrArg Host.Outcome.next ((State.whenUp_up _ h).trans (if_pos (by simp [hport, hfamily])))

/-! ### O30 -/

/-- Settles O30: Down and Up are no states that a port trains into, so the change is the port's new state and its signal. -/
theorem portsChangeAndAnswer : Obligations.PortsChangeAndAnswer := by
  refine ⟨?_, ?_⟩
  · rintro dt p st s _ rfl hup hst
    have hlegal : st ≤ 3 := by omega
    have htrain : st ≠ 1 := by omega
    exact ⟨fun hp hnew => ⟨_, exec_portStateChange_sets hup hp hlegal, State.setPort_spec hp htrain hnew⟩,
      fun hp hnew => ⟨_, exec_hostPortStateChange_sets hup hp hlegal, State.setHostPort_spec hp htrain hnew⟩⟩
  · rintro dt p mac s _ rfl hup hport
    exact ⟨exec_arpRequest_answers hup hport, exec_neighborSolicitation_answers hup hport⟩

end Sys2Proof.Machine
end

section
/-! PROOFS. Messages that land (R230, R285 to R291, R339): what a fill, the end of a command and a doorbell leave, and the landing itself. -/

namespace Sys2Proof.Machine

/-! ### What a fill leaves of contexts (R252 to R256, R290) -/

/-- Of a context its state, its mortise slots and the tails of its queues. -/
def Ctx.inbox (x : Ctx) : Nat × Sparse Mortise × (Nat → Nat) := (x.state, x.mortise, fun q => (x.queue q).tail)

/-- The stamp, and the inbox of every context. -/
def State.inbox (s : State) : Nat × (Nat → Nat × Sparse Mortise × (Nat → Nat)) := (s.stamp, fun c => (s.ctx c).inbox)

theorem State.ctx_inbox {s t : State} (h : t.inbox = s.inbox) (c : Nat) : (t.ctx c).inbox = (s.ctx c).inbox :=
  congrArg (fun x : Nat × (Nat → Nat × Sparse Mortise × (Nat → Nat)) => x.2 c) h

theorem State.state_of_inbox {s t : State} (h : t.inbox = s.inbox) (c : Nat) : (t.ctx c).state = (s.ctx c).state :=
  congrArg Prod.fst (State.ctx_inbox h c)

theorem State.slot_of_inbox {s t : State} (h : t.inbox = s.inbox) (c m : Nat) : (t.ctx c).slot m = (s.ctx c).slot m :=
  congrArg (fun x : Nat × Sparse Mortise × (Nat → Nat) => Assoc.get Mortise.zero x.2.1 m) (State.ctx_inbox h c)

theorem State.tail_of_inbox {s t : State} (h : t.inbox = s.inbox) (c q : Nat) : ((t.ctx c).queue q).tail = ((s.ctx c).queue q).tail :=
  congrArg (fun x : Nat × Sparse Mortise × (Nat → Nat) => x.2.2 q) (State.ctx_inbox h c)

theorem State.stamp_of_inbox {s t : State} (h : t.inbox = s.inbox) : t.stamp = s.stamp := congrArg Prod.fst h

theorem State.inbox_of_settled {s t : State} (h : t.settled = s.settled) : t.inbox = s.inbox :=
  Prod.ext (congrArg (fun x : Nat × Sparse Engine × (Nat → Ctx) => x.1) h) (funext fun c => Ctx.of_settled Ctx.inbox (State.ctx_settled h c))

theorem State.inbox_of_standing {s t : State} (h : t.standing = s.standing) : t.inbox = s.inbox :=
  State.inbox_of_settled (State.settled_of_standing h)

theorem State.track_inbox (s : State) (c : Nat) : (s.track c).inbox = s.inbox := State.inbox_of_settled (s.track_settled c)

/-- A change of a context that leaves its inbox. -/
theorem State.setCtx_inbox {s : State} {c : Nat} {x : Ctx} (h : x.inbox = (s.ctx c).inbox) : (s.setCtx c x).inbox = s.inbox := by
  refine Prod.ext rfl (funext fun d => ?_)
  by_cases hd : d = c
  · subst hd
    exact (congrArg Ctx.inbox (State.setCtx_ctx_self s d x)).trans h
  · exact congrArg Ctx.inbox (State.setCtx_ctx_ne s x hd)

/-- A change of a queue that leaves its tail. -/
theorem Ctx.setQueue_inbox {x : Ctx} {q : Nat} {y : Queue} (h : y.tail = (x.queue q).tail) : (x.setQueue q y).inbox = x.inbox := by
  refine Prod.ext rfl (Prod.ext rfl (funext fun p => ?_))
  by_cases hp : p = q
  · subst hp
    exact (congrArg Queue.tail (Assoc.get_set_self Queue.empty _ p y)).trans h
  · exact congrArg Queue.tail (Assoc.get_set_ne Queue.empty _ y hp)

/-- Waits at the heads of queues that time out leave every inbox. -/
theorem State.expireHeads_inbox (s : State) : s.expireHeads.inbox = s.inbox := by
  unfold State.expireHeads
  refine State.foldl_keeps State.inbox (fun t e => ?_) _ s
  dsimp only
  split
  · rfl
  · rw [State.track_inbox, State.inbox_of_standing (State.signal_standing _ _ _), State.inbox_of_standing (State.bumpBy_standing _ _ _ _)]
    exact State.foldl_keeps State.inbox (fun v q => State.setCtx_inbox (Ctx.setQueue_inbox (by rfl))) _ t

theorem State.expireHeads_mem (s : State) : s.expireHeads.mem = s.mem := State.mem_of_posture s.expireHeads_posture

/-- A context whose waiting records that `sel` picks are filled. -/
def Ctx.woken (x : Ctx) (sel : Parked → Bool) (stamp code : Nat) : Ctx :=
  { x with parked := x.parked.map (fun p => if sel p && p.state == 0 then p.fillAt stamp code else p) }

/-- Before its records are saved and its waits are tracked, a woken context is counted and signalled. -/
theorem State.wakeParked_eq (s : State) (c : Nat) (sel : Parked → Bool) (stamp code : Nat) :
    ∃ v : State, s.wakeParked c sel stamp code = ((v.saveParked c).track c).armTimer
      ∧ v.standing = (s.setCtx c ((s.ctx c).woken sel stamp code)).standing := by
  refine ⟨_, rfl, ?_⟩
  rw [apply_ite State.standing, State.signal_standing, ite_self, State.bumpBy_standing, State.bumpBy_standing, State.bumpBy_standing,
    State.bumpBy_standing, Ctx.woken]

theorem State.saveParked_inbox (s : State) (c : Nat) : (s.saveParked c).inbox = s.inbox :=
  State.StoreBlind.saveParked (π := State.inbox) ⟨fun _ _ => rfl, fun _ _ => rfl⟩ s c

theorem State.wakeParked_inbox (s : State) (c : Nat) (sel : Parked → Bool) (stamp code : Nat) :
    (s.wakeParked c sel stamp code).inbox = s.inbox := by
  obtain ⟨v, heq, hv⟩ := s.wakeParked_eq c sel stamp code
  rw [heq, State.inbox_of_standing (State.armTimer_standing _), State.track_inbox, State.saveParked_inbox, State.inbox_of_standing hv]
  exact State.setCtx_inbox (by rfl)

/-- The records of a context that is not swapped out are in no save area, so memory stands. -/
theorem State.wakeParked_mem {s : State} {c : Nat} (h : (s.ctx c).state ≠ 3) (sel : Parked → Bool) (stamp code : Nat) :
    (s.wakeParked c sel stamp code).mem = s.mem := by
  obtain ⟨v, heq, hv⟩ := s.wakeParked_eq c sel stamp code
  have hin : (v.ctx c).state ≠ 3 := by
    rw [State.ctx_of_standing hv, State.setCtx_ctx_self]
    exact h
  rw [heq, State.mem_of_standing (State.armTimer_standing _), State.track_mem, State.saveParked_of_not_out hin, State.mem_of_standing hv]
  rfl

/-- Slot `m` takes fill `z`; a wait of it that timed out is no longer awaited. -/
def Ctx.filled (x : Ctx) (m : Nat) (z : Mortise) : Ctx :=
  { x.setSlot m z with
    lateWaits := (x.lateWaits.find? (fun w => w.1 == 0 && w.2.1 == m)).elim x.lateWaits (fun w => x.lateWaits.erase w) }

theorem Ctx.filled_slot (x : Ctx) (m : Nat) (z : Mortise) : (x.filled m z).slot m = z := Assoc.get_set_self Mortise.zero _ m z

/-- A fill of a slot whose count is at its end is counted as such (R291). -/
def State.countFull (s : State) (c m : Nat) : State := if ((s.ctx c).slot m).count = 0xFFFF then s.bump 0x4110 0x0C else s

theorem State.countFull_standing (s : State) (c m : Nat) : (s.countFull c m).standing = s.standing := by
  unfold State.countFull
  rw [apply_ite State.standing, State.bump_standing, ite_self]

/-- A fill, once the waits at queue heads are checked: the slot takes it, it is counted, and the waits on it wake. -/
theorem State.fillSlot_eq (s : State) (c m : Nat) (a : FillArgs) :
    let x := s.expireHeads.ctx c
    let u := s.expireHeads.countFull c m
    let z := (x.slot m).fill a u.stamp
    ∃ v : State, s.fillSlot c m a = v.wakeParked c (fun p => p.kind == 0 && p.mortise == m) z.firstStamp a.code
      ∧ v.standing = (u.setCtx c (x.filled m z)).standing := by
  unfold State.fillSlot State.countFull
  dsimp only
  refine ⟨_, rfl, ?_⟩
  rw [apply_ite State.standing, State.bump_standing, ite_self, Ctx.filled]

theorem State.countFull_inbox (s : State) (c m : Nat) : (s.expireHeads.countFull c m).inbox = s.inbox :=
  (State.inbox_of_standing (State.countFull_standing _ c m)).trans s.expireHeads_inbox

/-- A fill leaves the tail of every queue. -/
theorem State.fillSlot_tail (s : State) (c m : Nat) (a : FillArgs) (d q : Nat) :
    (((s.fillSlot c m a).ctx d).queue q).tail = ((s.ctx d).queue q).tail := by
  obtain ⟨v, heq, hv⟩ := s.fillSlot_eq c m a
  rw [heq, State.tail_of_inbox (State.wakeParked_inbox _ _ _ _ _), State.ctx_of_standing hv]
  by_cases hd : d = c
  · subst hd
    rw [State.setCtx_ctx_self]
    exact State.tail_of_inbox s.expireHeads_inbox d q
  · rw [State.setCtx_ctx_ne _ _ hd]
    exact State.tail_of_inbox (s.countFull_inbox c m) d q

/-- The slot has the fill (Table 8-10). -/
theorem State.fillSlot_slot (s : State) (c m : Nat) (a : FillArgs) :
    ((s.fillSlot c m a).ctx c).slot m = ((s.ctx c).slot m).fill a s.stamp := by
  obtain ⟨v, heq, hv⟩ := s.fillSlot_eq c m a
  rw [heq, State.slot_of_inbox (State.wakeParked_inbox _ _ _ _ _), State.ctx_of_standing hv, State.setCtx_ctx_self, Ctx.filled_slot,
    State.slot_of_inbox s.expireHeads_inbox, State.stamp_of_inbox (s.countFull_inbox c m)]

/-- A fill of a context that is not swapped out leaves memory. -/
theorem State.fillSlot_mem {s : State} {c : Nat} (h : (s.ctx c).state ≠ 3) (m : Nat) (a : FillArgs) : (s.fillSlot c m a).mem = s.mem := by
  obtain ⟨v, heq, hv⟩ := s.fillSlot_eq c m a
  have hin : (v.ctx c).state ≠ 3 := by
    rw [State.ctx_of_standing hv, State.setCtx_ctx_self]
    exact State.state_of_inbox s.expireHeads_inbox c ▸ h
  rw [heq, State.wakeParked_mem hin, State.mem_of_standing hv, State.setCtx_mem, State.mem_of_standing (State.countFull_standing _ c m),
    State.expireHeads_mem]

/-! ### The end of a command at its receiver (R286) -/

theorem State.respond_standing (s : State) (ty code : Nat) (h : FabHdr) : (s.respond ty code h).standing = s.standing := by
  unfold State.respond
  dsimp only
  rw [State.fabSend_standing, apply_ite State.standing, State.bump_standing, ite_self]

theorem State.setRx_standing (s : State) (d : Nat) (x : RxState) : (s.setRx d x).standing = s.standing := rfl

theorem State.markSeq_standing (s : State) (h : FabHdr) : (s.markSeq h).standing = s.standing := s.setRx_standing _ _

/-- The fill that ends command `h`. -/
def State.endFill (s : State) (h : FabHdr) : State :=
  if h.mortise = 0xFFFF then s
  else s.fillSlot h.dstCtx h.mortise { value := h.value, code := 0, device := h.srcDevice, ctx := h.srcCtx, slot := h.srcSlot }

/-- Beside the fill, the end of a command is an interrupt and an acknowledgement. -/
theorem State.endCommand_standing (s : State) (h l : FabHdr) : (s.endCommand h l).standing = (s.endFill h).standing := by
  unfold State.endCommand
  dsimp only
  rw [apply_ite State.standing, State.respond_standing, ite_self, apply_ite State.standing, State.signal_standing, ite_self]
  rfl

theorem State.endFill_tail (s : State) (h : FabHdr) (d q : Nat) : (((s.endFill h).ctx d).queue q).tail = ((s.ctx d).queue q).tail := by
  unfold State.endFill
  split
  · rfl
  · exact s.fillSlot_tail _ _ _ d q

theorem State.endFill_mem {s : State} {h : FabHdr} (hin : (s.ctx h.dstCtx).state ≠ 3) : (s.endFill h).mem = s.mem := by
  unfold State.endFill
  split
  · rfl
  · exact State.fillSlot_mem hin _ _

theorem State.noteLanded_standing (s : State) (h : FabHdr) : (s.noteLanded h).1.standing = s.standing := by
  have hset (d : Nat) (x : RxState) : ((s.bump 0x4110 2).setRx d x).standing = s.standing :=
    (State.setRx_standing _ d x).trans (s.bump_standing 0x4110 2)
  unfold State.noteLanded
  extract_lets x k k' u
  split
  · split
    · exact hset _ _
    · exact hset _ _
  · exact hset _ _

/-- Message `h` has landed: it is noted, and its command ends where that was the last of it. -/
def State.noted (s : State) (h : FabHdr) : State := (s.noteLanded h).2.elim (s.noteLanded h).1 (fun l => (s.noteLanded h).1.endCommand h l)

theorem State.noted_cases (s : State) (h : FabHdr) :
    (s.noted h).standing = s.standing ∨ (s.noted h).standing = ((s.noteLanded h).1.endFill h).standing := by
  unfold State.noted
  cases (s.noteLanded h).2 with
  | none => exact .inl (s.noteLanded_standing h)
  | some l => exact .inr (State.endCommand_standing _ h l)

theorem State.noted_tail (s : State) (h : FabHdr) (d q : Nat) : (((s.noted h).ctx d).queue q).tail = ((s.ctx d).queue q).tail := by
  obtain hnone | hend := s.noted_cases h
  · rw [State.ctx_of_standing hnone]
  · rw [State.ctx_of_standing hend, State.endFill_tail, State.ctx_of_standing (s.noteLanded_standing h)]

/-- The end of a command of a context that is not swapped out leaves memory. -/
theorem State.noted_mem {s : State} {h : FabHdr} (hin : (s.ctx h.dstCtx).state ≠ 3) : (s.noted h).mem = s.mem := by
  obtain hnone | hend := s.noted_cases h
  · rw [State.mem_of_standing hnone]
  · have hnoted := s.noteLanded_standing h
    rw [State.mem_of_standing hend, State.endFill_mem (State.ctx_of_standing hnoted _ ▸ hin), State.mem_of_standing hnoted]

/-- The last message of a command fills the slot that its header names. -/
theorem State.noted_slot {s : State} {h l : FabHdr} (hslot : h.mortise ≠ 0xFFFF) (hlast : (s.noteLanded h).2 = some l) :
    ((s.noted h).ctx h.dstCtx).slot h.mortise
      = ((s.ctx h.dstCtx).slot h.mortise).fill
          { value := h.value, code := 0, device := h.srcDevice, ctx := h.srcCtx, slot := h.srcSlot } s.stamp := by
  have hnoted := State.inbox_of_standing (s.noteLanded_standing h)
  have hend : (s.noted h).standing = ((s.noteLanded h).1.endFill h).standing := by
    rw [State.noted, hlast]
    exact State.endCommand_standing _ h l
  rw [State.ctx_of_standing hend, State.endFill, if_neg hslot, State.fillSlot_slot, State.slot_of_inbox hnoted, State.stamp_of_inbox hnoted]

/-! ### Landing (R285, R286) -/

/-- A message whose destination is in order lands, and is noted. -/
theorem State.landData_lands {s : State} {ty : Nat} {h : FabHdr} (hcode : s.landCode ty h = 0) (put : Lander) (p : List Byte) :
    s.landData ty put h p = (put s h p).noted h := by
  unfold State.landData State.noted
  rw [hcode]
  dsimp only
  cases ((put s h p).noteLanded h).2 with
  | none => rfl
  | some l => rfl

/-- The receiver of a message that is no response is resident or swapped out. -/
theorem State.accepts_state {s : State} {ty : Nat} {via : Via} {m : FabMsg} (h : s.accepts ty via m) (hty : ty < 0x20) :
    (s.ctx m.hdr.dstCtx).state = 2 ∨ (s.ctx m.hdr.dstCtx).state = 3 := by
  obtain ⟨-, -, -, -, -, -, -, hctx, -⟩ := h
  have hnot : (ty == 0x20 || ty == 0x21) = false := by
    rw [Bool.or_eq_false_iff, beq_eq_false_iff_ne, beq_eq_false_iff_ne]
    omega
  rw [State.receives, State.ctx_of_standing (s.arrive_standing via ty m), hnot] at hctx
  simpa using (Bool.and_eq_true_iff.mp hctx).1

/-! ### Doorbells and stored payloads (R217, R286) -/

theorem State.setTail_state (s : State) (c q v d : Nat) : ((s.setTail c q v).ctx d).state = (s.ctx d).state := by
  rw [State.setTail_eq]
  generalize clamp32 _ _ v = t
  have hcount := s.countDoor_standing t (v % m32)
  split
  · rw [State.ctx_of_standing hcount]
  · rw [State.state_of_inbox (State.track_inbox _ c)]
    by_cases hd : d = c
    · subst hd
      rw [State.setCtx_ctx_self]
      rfl
    · rw [State.setCtx_ctx_ne _ _ hd, State.ctx_of_standing hcount]

theorem State.setRingHead_state (s : State) (c v d : Nat) : ((s.setRingHead c v).ctx d).state = (s.ctx d).state := by
  rw [State.setRingHead_eq]
  dsimp only
  generalize clamp32 _ _ v = t
  have hcount := s.countDoor_standing t (v % m32)
  rw [State.state_of_inbox (State.track_inbox _ c)]
  by_cases hd : d = c
  · subst hd
    rw [State.setCtx_ctx_self]
  · rw [State.setCtx_ctx_ne _ _ hd, State.ctx_of_standing hcount]

/-- A write to a doorbell page leaves the state of every context. -/
theorem State.doorWrite_state (s : State) (c off v d : Nat) : ((s.doorWrite c off v).ctx d).state = (s.ctx d).state := by
  rw [State.doorWrite]
  simp only [apply_ite (fun t : State => (t.ctx d).state), State.setTail_state, State.setRingHead_state, ite_self]

/-- So does a write of an agent, to memory or to doorbells. -/
theorem State.engineWrite_state (s : State) (c a : Nat) (l : List Byte) (d : Nat) : ((s.engineWrite c a l).ctx d).state = (s.ctx d).state := by
  unfold State.engineWrite
  split
  · exact State.state_of_inbox (State.inbox_of_settled (s.putBytes_settled c a l)) d
  · exact State.foldl_keeps (fun t => (t.ctx d).state) (fun t i => t.doorWrite_state c _ _ d) _ s

/-- The first location of a doorbell page is the tail of queue 0. -/
theorem State.doorWrite_tail {s : State} {c v : Nat} (hstate : (s.ctx c).state = 2 ∨ (s.ctx c).state = 3)
    (hdrain : (s.ctx c).draining = false) : s.doorWrite c 0 v = s.setTail c 0 (v % m32) := by
  have hopen : ¬ ((s.ctx c).state != 2 && (s.ctx c).state != 3 && (s.ctx c).state != 4) = true := by
    rcases hstate with e | e <;> simp [e]
  rw [State.doorWrite, if_neg hopen, if_pos (by decide), if_pos ⟨rfl, by decide, hdrain⟩]

/-! ### The five commands -/

theorem exec_fabricWrite_lands {dt : Nat} {via : Via} {m : FabMsg} {s : State} (h : (s.elapse dt).accepts 0x01 via m)
    (hcode : ((s.elapse dt).arrive via 0x01 m).landCode 0x01 m.hdr = 0) :
    exec (.fabricWrite dt via m) s
      = .next ((((s.elapse dt).arrive via 0x01 m).engineWrite m.hdr.dstCtx m.hdr.dstAddr m.payload).noted m.hdr) :=
  congrArg Host.Outcome.next ((State.receive_accepted h (by decide) _).trans (State.landData_lands hcode _ _))

theorem exec_fabricDoorbell_lands {dt : Nat} {via : Via} {m : FabMsg} {s : State} (h : (s.elapse dt).accepts 0x02 via m)
    (hcode : ((s.elapse dt).arrive via 0x02 m).landCode 0x02 m.hdr = 0) :
    exec (.fabricDoorbell dt via m) s
      = .next ((((s.elapse dt).arrive via 0x02 m).doorWrite m.hdr.dstCtx (m.hdr.dstAddr % 65536) (leNat m.payload)).noted m.hdr) :=
  congrArg Host.Outcome.next ((State.receive_accepted h (by decide) _).trans (State.landData_lands hcode _ _))

theorem exec_fillOnly_lands {dt : Nat} {via : Via} {m : FabMsg} {s : State} (h : (s.elapse dt).accepts 0x03 via m)
    (hcode : ((s.elapse dt).arrive via 0x03 m).landCode 0x03 m.hdr = 0) :
    exec (.fillOnly dt via m) s = .next (((s.elapse dt).arrive via 0x03 m).noted m.hdr) :=
  congrArg Host.Outcome.next ((State.receive_accepted h (by decide) _).trans (State.landData_lands hcode _ _))

/-- The state that fills slot 0x0440: the notice is noted, and an image of its context that was not sealed is gone (R355). -/
def State.closeHeard (s : State) (h : FabHdr) : State := ((s.markSeq h).bump 0x4110 2).dropFilling h.srcDevice (· == h.srcCtx)

theorem State.closeHeard_standing (s : State) (h : FabHdr) : (s.closeHeard h).standing = s.standing := by
  unfold State.closeHeard State.dropFilling
  refine (State.foldl_standing (fun t (e : Nat × Obj) => t.freeObject_standing e.1) _ _).trans ?_
  rw [State.bump_standing, State.markSeq_standing]

theorem exec_closeNotice_fills {dt : Nat} {via : Via} {m : FabMsg} {s : State} (h : (s.elapse dt).accepts 0x30 via m) :
    exec (.closeNotice dt via m) s = .next ((((s.elapse dt).arrive via 0x30 m).closeHeard m.hdr).fillSlot m.hdr.dstCtx 0x0440
      { value := m.hdr.value, code := 0, device := m.hdr.srcDevice, ctx := m.hdr.srcCtx, slot := m.hdr.srcSlot }) :=
  congrArg Host.Outcome.next (State.receive_accepted h (by decide) _)

/-- The preamble of a page says where the page goes (R287). -/
theorem exec_pageTransfer_takes {dt : Nat} {via : Via} {m : FabMsg} {s : State} (h : (s.elapse dt).accepts 0x11 via m) :
    let u := (s.elapse dt).arrive via 0x11 m
    let p := PagePre.parse m.payload
    exec (.pageTransfer dt via m) s
      = .next (if p.image then u.fabImage m.hdr p (m.payload.drop 32) else u.fabShard m.hdr p (m.payload.drop 32)) :=
  congrArg Host.Outcome.next (State.receive_accepted h (by decide) _)

/-! ### O31 -/

/-- Settles O31: what lands is put on the state of its arrival; what is noted after it fills, signals and answers, and leaves memory and tails. -/
theorem messagesLand : Obligations.MessagesLand := by
  refine ⟨?_, ?_⟩
  · rintro dt via m s _ rfl
    have harrive (ty : Nat) := (s.elapse dt).arrive_standing via ty m
    have hctx (ty : Nat) := State.ctx_of_standing (harrive ty) m.hdr.dstCtx
    have hmem (ty : Nat) := State.mem_of_standing (harrive ty)
    refine ⟨fun h hcode => ?_, fun h hcode hpage hdrain => ?_, fun h hcode hslot hlast => ?_, fun h => ?_⟩
    · refine ⟨_, exec_fabricWrite_lands h hcode, fun hin => State.noted_mem ?_⟩
      rw [State.engineWrite_state, hctx, hin]
      decide
    · have hput : ((s.elapse dt).arrive via 0x02 m).doorWrite m.hdr.dstCtx (m.hdr.dstAddr % 65536) (leNat m.payload)
          = ((s.elapse dt).arrive via 0x02 m).setTail m.hdr.dstCtx 0 (leNat m.payload % m32) := by
        rw [hpage]
        exact State.doorWrite_tail (hctx 0x02 ▸ State.accepts_state h (by decide)) (hctx 0x02 ▸ hdrain)
      obtain ⟨htailMem, htail, -⟩ := ((s.elapse dt).arrive via 0x02 m).setTail_spec m.hdr.dstCtx 0 (leNat m.payload % m32)
      refine ⟨_, exec_fabricDoorbell_lands h hcode, fun hin => ?_, ?_⟩
      · rw [hput, State.noted_mem, htailMem, hmem]
        rw [State.setTail_state, hctx, hin]
        decide
      · rw [hput, State.noted_tail, htail, hctx]
    · refine ⟨_, exec_fillOnly_lands h hcode, fun hin => ?_, ?_, ?_⟩
      · rw [State.noted_mem, hmem]
        rw [hctx, hin]
        decide
      · rw [State.noted_slot hslot hlast]
        rfl
      · rw [State.noted_slot hslot hlast, hctx]
        rfl
    · have hheard := (State.closeHeard_standing _ m.hdr).trans (harrive 0x30)
      refine ⟨_, exec_closeNotice_fills h, fun hin => ?_, ?_, ?_⟩
      · rw [State.fillSlot_mem, State.mem_of_standing hheard]
        rw [State.ctx_of_standing hheard, hin]
        decide
      · rw [State.fillSlot_slot]
        rfl
      · rw [State.fillSlot_slot, State.ctx_of_standing hheard]
        rfl
  · rintro dt via m s _ rfl h
    exact ⟨fun himage => (exec_pageTransfer_takes h).trans (congrArg Host.Outcome.next (if_pos himage)),
      fun himage => (exec_pageTransfer_takes h).trans (congrArg Host.Outcome.next (if_neg (by simp [himage])))⟩

end Sys2Proof.Machine
end

section
/-! PROOFS. What completions, fills, freed objects and log entries leave of the network's state (R182, R219 to R228, R252 to R256, R476). -/

namespace Sys2Proof.Machine

/-! ### Completions (R219, R227, R228) -/

theorem State.setCtx_network (s : State) (c : Nat) (x : Ctx) : (s.setCtx c x).network = s.network := rfl

theorem State.bumpBy_network (s : State) (i k n : Nat) : (s.bumpBy i k n).network = s.network := rfl

theorem State.track_network (s : State) (c : Nat) : (s.track c).network = s.network := (s.tracksTo_track c).view State.network

theorem State.putBytes_network (s : State) (c a : Nat) (l : List Byte) : (s.putBytes c a l).network = s.network := by
  refine Eq.trans ?_ (State.storeBlind_network.storeBytes s c a l)
  unfold State.putBytes State.copyOnWrite
  split
  · rfl
  · dsimp only
    split
    · rfl
    · rfl

theorem State.completionEvent_network (s : State) (c : Nat) (d : Done) (seq : Nat) : (s.completionEvent c d seq).network = s.network := by
  obtain ⟨t, hframe, h | h⟩ := s.completionEvent_signals c d seq
  · rw [h, hframe.signalsTo.network]
  · rw [h, State.signal_network, hframe.signalsTo.network]

theorem State.finish_network (s : State) (c : Nat) (d : Done) : (s.finish c d).network = s.network := by
  have hrecord : (s.recordDone c d).network = s.network := by
    unfold State.recordDone
    dsimp only
    split
    · exact State.putBytes_network _ _ _ _
    · rfl
  have hcount : ((s.recordDone c d).countDone d).network = s.network := by
    unfold State.countDone
    rw [apply_ite State.network, State.bump_network, State.bump_network, ite_self, hrecord]
  rw [State.finish_eq, State.track_network]
  split
  · exact (State.completionEvent_network _ _ _ _).trans hcount
  · exact hcount

theorem State.finishRun_network (s : State) (r : Run) (code : Nat) (aborted : Bool) : (s.finishRun r code aborted).network = s.network :=
  s.finish_network r.ctx _

theorem State.setEngine_network (s : State) (e : Nat) (x : Engine) : (s.setEngine e x).network = s.network := rfl

/-- A run that leaves its engine and completes. -/
theorem State.clearedRun_network (s : State) (e : Nat) (p : Run → Bool) (r : Run) (code : Nat) (aborted : Bool) :
    ((s.clearEngine e p).finishRun r code aborted).network = s.network := by
  rw [State.finishRun_network]
  exact s.setEngine_network e _

theorem State.endRuns_network (s : State) (c code : Nat) (aborted : Bool) : (s.endRuns c code aborted).network = s.network := by
  unfold State.endRuns
  refine State.foldl_keeps State.network (fun t e => ?_) _ s
  exact t.clearedRun_network _ _ _ _ _

theorem State.endParked_network (s : State) (c code : Nat) (aborted : Bool) : (s.endParked c code aborted).network = s.network := by
  unfold State.endParked
  dsimp only
  refine (State.foldl_keeps State.network (fun t p => ?_) _ _).trans (s.setCtx_network c _)
  split
  · exact t.finishRun_network _ code aborted
  · split
    · exact (State.finish_network _ c _).trans (t.setCtx_network c _)
    · rfl

/-! ### Fills, freed objects and log entries (R182, R252 to R256, R290, R476) -/

theorem State.wakeParked_network (s : State) (c : Nat) (sel : Parked → Bool) (stamp code : Nat) :
    (s.wakeParked c sel stamp code).network = s.network := by
  unfold State.wakeParked
  dsimp only
  rw [State.timerBlind_network.armTimer, State.track_network, State.storeBlind_network.saveParked, apply_ite State.network,
    State.signal_network, ite_self, State.bumpBy_network, State.bumpBy_network, State.bumpBy_network, State.bumpBy_network,
    State.setCtx_network]

theorem State.expireHeads_network (s : State) : s.expireHeads.network = s.network := by
  unfold State.expireHeads
  refine State.foldl_keeps State.network (fun t e => ?_) _ s
  dsimp only
  split
  · rfl
  · rw [State.track_network, State.signal_network, State.bumpBy_network]
    exact State.foldl_keeps State.network (fun v q => v.setCtx_network e.1 _) _ t

theorem State.fillSlot_network (s : State) (c m : Nat) (a : FillArgs) : (s.fillSlot c m a).network = s.network := by
  unfold State.fillSlot
  dsimp only
  rw [State.wakeParked_network, apply_ite State.network, State.bump_network, ite_self, State.setCtx_network, apply_ite State.network,
    State.bump_network, ite_self, State.expireHeads_network]

theorem State.freeObject_network (s : State) (id : Nat) : (s.freeObject id).network = s.network := by
  have hhbm (t : State) (p : Nat) : (t.zeroHbm p).network = t.network := rfl
  have hsill (t : State) (p : Nat) : (t.zeroSill p).network = t.network := rfl
  have hpages (o : Obj) : (s.freePages o).network = s.network := by
    unfold State.freePages
    split
    · exact State.foldl_keeps State.network hhbm _ s
    · exact State.foldl_keeps State.network hsill _ s
  exact hpages (s.object id)

theorem State.log_network (s : State) (a : LogArgs) : (s.log a).network = s.network := by
  have hentry := State.timerBlind_network.logEntry s a
  have hpin (t : State) (h : t.network = s.network) : (t.requestUnit 200 .faultIndication 1).1.network = s.network :=
    (State.timerBlind_network.requestUnit t _ _ _).trans h
  unfold State.log
  dsimp only
  split
  · split
    · split
      · exact hentry
      · exact hpin _ hentry
    · exact hpin _ hentry
  · exact hentry

end Sys2Proof.Machine
end

section
/-! PROOFS. Responses and messages that are sent again (R286, R291, R296): what an answer says, and what goes out once more. -/

namespace Sys2Proof.Machine

/-! ### Responses (R286, R291, R296) -/

theorem exec_acknowledgement_answers {dt : Nat} {via : Via} {m : FabMsg} {s : State} (h : (s.elapse dt).accepts 0x20 via m) :
    exec (.acknowledgement dt via m) s
      = .next (((((s.elapse dt).arrive via 0x20 m).markSeq m.hdr).bump 0x4110 2).answered m.hdr 0) :=
  congrArg Host.Outcome.next (State.receive_accepted h (by decide) _)

/-- The state in which a negative acknowledgement is acted on: it is marked, and counted as such (Table 8-17). -/
def State.refusalHeard (s : State) (h : FabHdr) : State := ((s.markSeq h).bump 0x4110 2).bump 0x4110 5

theorem exec_negativeAcknowledgement_ends {dt : Nat} {via : Via} {m : FabMsg} {s : State} (h : (s.elapse dt).accepts 0x21 via m)
    (hcode : m.hdr.code ≠ 0x0308) :
    exec (.negativeAcknowledgement dt via m) s
      = .next ((((s.elapse dt).arrive via 0x21 m).refusalHeard m.hdr).answered m.hdr m.hdr.code) :=
  congrArg Host.Outcome.next ((State.receive_accepted h (by decide) _).trans (if_neg hcode))

/-- The messages that are out follow from the contexts, the engines and the page transfers that are out. -/
theorem State.outOf_congr {s t : State} (h : t.standing = s.standing) (hpages : t.fab.pageOut = s.fab.pageOut) (c q slot : Nat) :
    t.outOf c q slot = s.outOf c q slot := by
  simp only [State.standing, Prod.mk.injEq] at h
  obtain ⟨-, -, hctxs, hengines⟩ := h
  simp only [State.outOf, State.pageOutOf, State.allRuns, State.runsOf, State.ctx, hpages, hctxs, hengines]

theorem State.refusalHeard_standing (s : State) (h : FabHdr) : (s.refusalHeard h).standing = s.standing := by
  unfold State.refusalHeard
  rw [State.bump_standing, State.bump_standing, State.markSeq_standing]

theorem State.markSeq_fab (s : State) (h : FabHdr) : ∃ l, (s.markSeq h).fab = { s.fab with rx := l } := ⟨_, rfl⟩

/-- Nothing of the transport but the receive state of the sender changes. -/
theorem State.refusalHeard_fab (s : State) (h : FabHdr) : ∃ l, (s.refusalHeard h).fab = { s.fab with rx := l } := by
  unfold State.refusalHeard
  rw [State.bump_fab, State.bump_fab]
  exact s.markSeq_fab h

/-- A message refused for its place in the window is noted for 2 µs later, where its command is out. -/
theorem exec_negativeAcknowledgement_notes {dt : Nat} {via : Via} {m : FabMsg} {s : State} (h : (s.elapse dt).accepts 0x21 via m)
    (hcode : m.hdr.code = 0x0308) (hout : ((s.elapse dt).outOf m.hdr.dstCtx m.hdr.srcQueue m.hdr.srcSlot).isEmpty = false) :
    let v := ((s.elapse dt).arrive via 0x21 m).refusalHeard m.hdr
    exec (.negativeAcknowledgement dt via m) s = .next { v with fab := { v.fab with
      resend := v.fab.resend ++ [(m.hdr.dstCtx, m.hdr.srcQueue, m.hdr.srcSlot, m.hdr.srcDevice, m.hdr.msgIndex, v.stamp + 2 * us)] } } := by
  intro v
  have hpages : v.fab.pageOut = (s.elapse dt).fab.pageOut := by
    obtain ⟨l, hfab⟩ := ((s.elapse dt).arrive via 0x21 m).refusalHeard_fab m.hdr
    rw [hfab, State.arrive_fab]
  have hstanding : v.standing = (s.elapse dt).standing := (State.refusalHeard_standing _ _).trans (State.arrive_standing _ _ _ _)
  have hstill : ¬ (v.outOf m.hdr.dstCtx m.hdr.srcQueue m.hdr.srcSlot).isEmpty = true := by
    rw [State.outOf_congr hstanding hpages, hout]
    exact Bool.false_ne_true
  exact congrArg Host.Outcome.next ((State.receive_accepted h (by decide) _).trans ((if_pos hcode).trans (if_neg hstill)))

/-! ### Messages that are sent again (R296) -/

/-- A message that was refused for its place in the window goes again once its time has come. -/
theorem exec_seqWindowResend_resends {dt c q i : Nat} {x : Nat × Nat × Nat × Nat × Nat × Nat} {m : FabHdr × List Byte} {s : State}
    (hup : (s.elapse dt).up = true)
    (hdue : (s.elapse dt).fab.resend.find?
      (fun e => e.1 == c && e.2.1 == q && e.2.2.2.2.1 == i && decide (e.2.2.2.2.2 ≤ (s.elapse dt).stamp)) = some x)
    (hout : ((s.elapse dt).outOf c q x.2.2.1).find? (fun y => y.1.msgIndex == i && y.1.dstDevice == x.2.2.2.1) = some m) :
    exec (.seqWindowResend dt c q i) s
      = .next (({ s.elapse dt with fab := { (s.elapse dt).fab with resend := (s.elapse dt).fab.resend.erase x } } : State).resendOne q m) := by
  have hstill : (({ s.elapse dt with fab := { (s.elapse dt).fab with resend := (s.elapse dt).fab.resend.erase x } } : State).outOf c q
      x.2.2.1).find? (fun y => y.1.msgIndex == i && y.1.dstDevice == x.2.2.2.1) = some m :=
    (congrArg (List.find? _) (State.outOf_congr rfl rfl c q x.2.2.1)).trans hout
  refine congrArg Host.Outcome.next ((State.whenUp_up _ hup).trans ?_)
  dsimp only at hstill ⊢
  rw [hdue]
  dsimp only
  rw [hstill]

theorem State.route_pageOut (s : State) (d ty : Nat) (h : FabHdr) (p : List Byte) : (s.route d ty h p).1.fab.pageOut = s.fab.pageOut := by
  obtain ⟨i, j, hfab⟩ := s.route_fab d ty h p
  rw [hfab]

theorem State.resendOne_standing (s : State) (q : Nat) (m : FabHdr × List Byte) : (s.resendOne q m).standing = s.standing := by
  unfold State.resendOne
  dsimp only
  split
  · exact State.route_standing _ _ _ _ _
  · rfl

theorem State.resendOne_pageOut (s : State) (q : Nat) (m : FabHdr × List Byte) : (s.resendOne q m).fab.pageOut = s.fab.pageOut := by
  unfold State.resendOne
  dsimp only
  split
  · exact State.route_pageOut _ _ _ _ _
  · rfl

/-- Retransmission leaves the stamp and the page transfers that are out. -/
theorem State.resendAll_spec (s : State) (q : Nat) (l : List (FabHdr × List Byte)) :
    (s.resendAll q l).standing = s.standing ∧ (s.resendAll q l).fab.pageOut = s.fab.pageOut :=
  ⟨(State.bump_standing _ _ _).trans (State.foldl_standing (fun t m => t.resendOne_standing q m) l s),
    State.foldl_keeps (fun t => t.fab.pageOut) (fun t m => t.resendOne_pageOut q m) l s⟩

/-- A page transfer that was sent again, at a stamp. -/
def PageOut.sentAgain (o : PageOut) (now : Nat) : PageOut := { o with lastSend := now, resends := o.resends + 1 }

theorem exec_retransmitTimeout_resends {dt c q slot : Nat} {o : PageOut} {s : State} (hup : (s.elapse dt).up = true)
    (hout : (s.elapse dt).pageOutOf c q slot = some o) (hpurlin : o.purlin = true) (hdue : (s.elapse dt).resendDue o.lastSend = true)
    (hfew : o.resends < (s.elapse dt).num 0x4106 2) :
    let v := (s.elapse dt).resendAll q o.msgs
    exec (.retransmitTimeout dt c q slot) s
      = .next { v with fab := { v.fab with pageOut := v.fab.pageOut.map (fun p => if p = o then p.sentAgain v.stamp else p) } } := by
  refine congrArg Host.Outcome.next ((State.whenUp_up _ hup).trans ?_)
  rw [hout]
  exact (if_neg (by simp [hpurlin, hdue])).trans (if_neg (Nat.not_le.mpr hfew))

end Sys2Proof.Machine
end

section
/-! PROOFS. Peer-reset state (R284, R297 to R299): nothing that follows the entry of a device ends its hold, and the end of the hold forgets
the exchange with it. -/

namespace Sys2Proof.Machine

/-! ### Peer-reset holds (R284, R299) -/

/-- The devices in peer-reset state, with the end of their holds. -/
def State.holds (s : State) : Sparse Nat := s.fab.resetPeers

theorem State.inPeerReset_of_holds {s t : State} (h : t.holds = s.holds) (d : Nat) : t.inPeerReset d = s.inPeerReset d :=
  congrArg (fun l : Sparse Nat => l.any (fun e => e.1 == d)) h

theorem State.holds_of_network {s t : State} (h : t.network = s.network) : t.holds = s.holds :=
  congrArg Fabric.resetPeers (State.fab_of_network h)

theorem State.route_holds (s : State) (d ty : Nat) (h : FabHdr) (p : List Byte) : (s.route d ty h p).1.holds = s.holds := by
  obtain ⟨i, j, hfab⟩ := s.route_fab d ty h p
  rw [State.holds, hfab]
  rfl

theorem State.bump_holds (s : State) (i k : Nat) : (s.bump i k).holds = s.holds := rfl

theorem State.modCtx_holds (s : State) (c : Nat) (f : Ctx → Ctx) : (s.modCtx c f).holds = s.holds := rfl

theorem State.setObject_holds (s : State) (id : Nat) (o : Obj) : (s.setObject id o).holds = s.holds := rfl

theorem State.fabSend_holds (s : State) (d ty : Nat) (h : FabHdr) (p : List Byte) : (s.fabSend d ty h p).1.holds = s.holds := by
  unfold State.fabSend
  dsimp only
  split
  · rfl
  · exact (State.bump_holds _ _ _).trans (State.route_holds _ _ _ _ _)

theorem State.sendCommand_holds (s : State) (d ty : Nat) (l : List (FabHdr × List Byte)) : (s.sendCommand d ty l).1.holds = s.holds := by
  have hroute (t : State) (m : List (FabHdr × List Byte)) : (t.routeAll d ty m).holds = t.holds := by
    unfold State.routeAll
    refine State.foldl_keeps State.holds (fun v x => ?_) m t
    rw [State.bump_holds, State.route_holds]
  unfold State.sendCommand
  dsimp only
  split
  · rfl
  · exact hroute _ _

theorem State.sendPage_holds (s : State) (c d queue slot : Nat) (p : PagePre) (data : List Byte) :
    (s.sendPage c d queue slot p data).1.holds = s.holds := by
  unfold State.sendPage
  dsimp only
  split
  · rfl
  · exact s.sendCommand_holds d 0x11 _

theorem State.sendAborts_holds (s : State) (c slot kind opcode lost srcSlot : Nat) :
    (s.sendAborts c slot kind opcode lost srcSlot).holds = s.holds := by
  unfold State.sendAborts
  dsimp only
  split
  · rfl
  · refine (State.foldl_keeps State.holds (fun t v => ?_) _ _).trans rfl
    exact t.fabSend_holds v 0x10 _ _

theorem State.abandon_holds (s : State) (c cause : Nat) : (s.abandon c cause).holds = s.holds := by
  unfold State.abandon State.abandonAs
  dsimp only
  split
  · exact State.holds_of_network (State.log_network _ _)
  · refine (State.holds_of_network ((State.log_network _ _).trans (State.bump_network _ _ _))).trans ?_
    refine (State.foldl_keeps State.holds (fun t m => t.sendAborts_holds _ _ _ _ _ _) _ _).trans ?_
    exact State.holds_of_network ((State.endParked_network _ _ _ _).trans ((State.endRuns_network _ _ _ _).trans (s.setCtx_network c _)))

/-- A collective that loses a member ends, and its step is abandoned. -/
theorem State.memberLost_holds (s : State) (c slotNo : Nat) (m : Cmd) (lost : Nat) : (s.memberLost c slotNo m lost).holds = s.holds := by
  unfold State.memberLost
  refine (State.abandon_holds _ _ _).trans ((State.sendAborts_holds _ _ _ _ _ _ _).trans (State.holds_of_network ?_))
  refine (State.bump_network _ _ _).trans ((State.signal_network _ _ _).trans ((State.fillSlot_network _ _ _ _).trans ?_))
  split
  · exact s.clearedRun_network 272 _ _ _ _
  · split
    · dsimp only
      split
      · exact (State.finishRun_network _ _ _ _).trans (s.setCtx_network c _)
      · exact s.setCtx_network c _
    · rfl

theorem State.failImage_holds (s : State) (c : Nat) : (s.failImage c).holds = s.holds := by
  have hcopy (o : Option Nat) : (o.elim s (fun id => s.freeObject id)).holds = s.holds := by
    cases o
    case none => rfl
    case some id => exact State.holds_of_network (s.freeObject_network id)
  unfold State.failImage
  dsimp only
  split
  · rfl
  · exact (State.holds_of_network (State.signal_network _ _ _)).trans ((State.bump_holds _ _ _).trans (hcopy _))

theorem State.pumpForwards_holds (f : Nat) (s : State) (c : Nat) : (State.pumpForwards f s c).holds = s.holds := by
  induction f generalizing s with
  | zero => rfl
  | succ f ih =>
    have hsend (d q i : Nat) (p : PagePre) (l : List Byte) : (s.sendPage c d q i p l).1.holds = s.holds := s.sendPage_holds c d q i p l
    unfold State.pumpForwards
    dsimp only
    split
    · rfl
    · split
      · rfl
      · split
        · exact (ih _).trans (s.modCtx_holds c _)
        · split
          · rfl
          · split
            · exact (ih _).trans (s.modCtx_holds c _)
            · exact (ih _).trans ((State.modCtx_holds _ c _).trans ((State.bump_holds _ _ _).trans (hsend _ _ _ _ _)))

/-! ### Entry into peer-reset state and its end (R299) -/

theorem Assoc.mem_insert_self {α : Type} (k : Nat) (v : α) (l : List (Nat × α)) : (k, v) ∈ Assoc.insert k v l := by
  induction l with
  | nil => simp [Assoc.insert]
  | cons e l ih =>
    obtain ⟨j, w⟩ := e
    unfold Assoc.insert
    split
    · exact List.mem_cons_self
    · split
      · exact List.mem_cons_self
      · exact List.mem_cons_of_mem _ ih

/-- Device `d` takes its hold, and what was kept of the exchange with it is gone. -/
def State.held (s : State) (d : Nat) : State :=
  { s with fab := { s.fab with
      resetPeers := Assoc.insert d (s.stamp + s.num 0x4106 3 * ms) s.fab.resetPeers,
      txSeq := Assoc.erase d s.fab.txSeq, rx := Assoc.erase d s.fab.rx,
      pageOut := s.fab.pageOut.filter (fun o => o.device != d) } }

theorem State.held_inPeerReset (s : State) (d : Nat) : (s.held d).inPeerReset d = true :=
  List.any_eq_true.mpr ⟨_, Assoc.mem_insert_self d _ _, beq_self_eq_true d⟩

theorem State.findLeader_holds (s : State) : s.findLeader.holds = s.holds := by
  unfold State.findLeader
  split
  · rfl
  · rfl

/-- What the entry into peer-reset state ends and fills leaves the holds. -/
theorem State.enterPeerReset_holds {s : State} {d : Nat} (h : d ≠ s.deviceId) : (s.enterPeerReset d).holds = (s.held d).holds := by
  unfold State.enterPeerReset
  rw [if_neg h]
  dsimp only
  refine (State.foldl_keeps State.holds (fun t e => State.foldl_keeps State.holds (fun v m => ?_) _ t) _ _).trans ?_
  · split
    · exact v.memberLost_holds _ _ _ d
    · rfl
  refine (State.foldl_keeps State.holds (fun t e => ?_) _ _).trans ?_
  · split
    · exact State.holds_of_network (t.fillSlot_network _ _ _)
    · rfl
  refine (State.foldl_keeps State.holds (fun t e => State.holds_of_network (t.wakeParked_network _ _ _ _)) _ _).trans ?_
  refine (State.foldl_keeps State.holds (fun t e => State.holds_of_network (t.clearedRun_network _ _ _ _ _)) _ _).trans ?_
  exact (State.holds_of_network (State.signal_network _ _ _)).trans (State.findLeader_holds (s.held d))

/-- A device other than this one is in peer-reset state from then on. -/
theorem State.peerReset_inPeerReset {s : State} {d : Nat} (h : d ≠ s.deviceId) : (s.peerReset d).inPeerReset d = true := by
  rw [← s.held_inPeerReset d]
  refine State.inPeerReset_of_holds (Eq.trans ?_ (State.enterPeerReset_holds h)) d
  unfold State.peerReset
  dsimp only
  refine (State.foldl_keeps State.holds (fun t e => ?_) _ _).trans ?_
  · split
    · split
      · exact t.failImage_holds _
      · rfl
    · rfl
  unfold State.rechain State.refetch State.dropFilling
  refine (State.foldl_keeps State.holds (fun t e => ?_) _ _).trans ?_
  · split
    · exact State.pumpForwards_holds 32 _ _
    · rfl
  refine (State.foldl_keeps State.holds (fun t e => t.setObject_holds _ _) _ _).trans ?_
  exact State.foldl_keeps State.holds (fun t e => State.holds_of_network (t.freeObject_network _)) _ _

/-- What a peer-reset message does: it is counted, and the device that it names enters peer-reset state. -/
def enterNamed : Lander := fun s h _ =>
  let s := (s.bump 0x4110 2).bump 0x4110 9
  let d := h.value % 2 ^ 18
  if s.inPeerReset d then s else s.peerReset d

theorem enterNamed_inPeerReset {s : State} {h : FabHdr} (hother : h.value % 2 ^ 18 ≠ s.deviceId) (p : List Byte) :
    (enterNamed s h p).inPeerReset (h.value % 2 ^ 18) = true := by
  unfold enterNamed
  generalize h.value % 2 ^ 18 = d at hother ⊢
  dsimp only
  split
  · assumption
  · exact State.peerReset_inPeerReset hother

theorem exec_peerResetMessage_enters {dt : Nat} {via : Via} {m : FabMsg} {s : State} (hup : (s.elapse dt).up = true)
    (hvia : (s.elapse dt).viaUp via = true) (hwire : wireOk via 0x31 m = true)
    (hform : ((s.elapse dt).arrive via 0x31 m).formCode 0x31 m = 0) :
    exec (.peerResetMessage dt via m) s = .next (enterNamed (((s.elapse dt).arrive via 0x31 m).markSeq m.hdr) m.hdr []) :=
  congrArg Host.Outcome.next (State.receive_peerReset hup hvia hwire hform enterNamed)

theorem State.setRx_deviceId (s : State) (d : Nat) (x : RxState) : (s.setRx d x).deviceId = s.deviceId := rfl

theorem State.markSeq_deviceId (s : State) (h : FabHdr) : (s.markSeq h).deviceId = s.deviceId := s.setRx_deviceId _ _

theorem exec_peerResetHoldExpiry_ends {dt d : Nat} {s : State} (hup : (s.elapse dt).up = true) (hin : (s.elapse dt).inPeerReset d = true)
    (hpast : Assoc.get 0 (s.elapse dt).fab.resetPeers d ≤ (s.elapse dt).stamp) :
    exec (.peerResetHoldExpiry dt d) s = .next ((s.elapse dt).endPeerReset d) :=
  congrArg Host.Outcome.next ((State.whenUp_up _ hup).trans (if_pos (Bool.and_eq_true_iff.mpr ⟨hin, decide_eq_true hpast⟩)))

/-- The end of peer-reset state forgets the hold and both sequence states of the device, and leaves memory (R284). -/
theorem State.endPeerReset_spec (s : State) (d : Nat) :
    (s.endPeerReset d).inPeerReset d = false ∧ Assoc.get 0 (s.endPeerReset d).fab.txSeq d = 0
      ∧ (s.endPeerReset d).rxOf d = RxState.zero ∧ (s.endPeerReset d).mem = s.mem := by
  have hgone : (Assoc.erase d s.fab.resetPeers).any (fun e => e.1 == d) = false := by
    simp [Assoc.erase_eq_filter]
  have hlead (t : State) : ∃ b, t.findLeader = { t with fab := { t.fab with fallback := b } } := by
    unfold State.findLeader
    split
    · exact ⟨_, rfl⟩
    · exact ⟨_, rfl⟩
  obtain ⟨b, hend⟩ := hlead { s with fab := { s.fab with
    resetPeers := Assoc.erase d s.fab.resetPeers, txSeq := Assoc.erase d s.fab.txSeq, rx := Assoc.erase d s.fab.rx } }
  rw [State.endPeerReset, hend]
  exact ⟨hgone, Assoc.get_erase_self 0 d _, Assoc.get_erase_self RxState.zero d _, rfl⟩

/-! ### O32 -/

/-- Settles O32: responses are what their codes say, resends keep what is out, and only the end of a hold takes a device out of it. -/
theorem responsesAndPeerResets : Obligations.ResponsesAndPeerResets := by
  refine ⟨⟨?_, ?_, ?_⟩, ?_, ?_⟩
  · rintro dt via m s _ rfl
    refine ⟨exec_acknowledgement_answers, exec_negativeAcknowledgement_ends, fun h hcode hout => ?_⟩
    refine ⟨_, exec_negativeAcknowledgement_notes h hcode hout, ?_⟩
    obtain ⟨l, hfab⟩ := ((s.elapse dt).arrive via 0x21 m).refusalHeard_fab m.hdr
    have hstamp := State.stamp_of_inbox (State.inbox_of_standing
      ((State.refusalHeard_standing ((s.elapse dt).arrive via 0x21 m) m.hdr).trans (State.arrive_standing _ via 0x21 m)))
    rw [hfab, State.arrive_fab, hstamp]
  · rintro dt c q i x m s _ rfl hup hdue hout
    exact exec_seqWindowResend_resends hup hdue hout
  · rintro dt c q slot o s _ rfl hup hout hpurlin hdue hfew
    obtain ⟨hstanding, hpages⟩ := (s.elapse dt).resendAll_spec q o.msgs
    have hstamp := State.stamp_of_inbox (State.inbox_of_standing hstanding)
    refine ⟨_, exec_retransmitTimeout_resends hup hout hpurlin hdue hfew, ?_⟩
    rw [hpages, hstamp]
    exact List.mem_map.mpr ⟨o, List.mem_of_find?_eq_some hout, if_pos rfl⟩
  · rintro dt via m s _ rfl hup hvia hwire hform hother
    refine ⟨_, exec_peerResetMessage_enters hup hvia hwire hform, ?_⟩
    refine enterNamed_inPeerReset ?_ []
    rw [State.markSeq_deviceId, State.arrive_deviceId]
    exact hother
  · rintro dt d s _ rfl hup hin hpast
    exact ⟨_, exec_peerResetHoldExpiry_ends hup hin hpast, State.endPeerReset_spec _ d⟩

end Sys2Proof.Machine
end

section
/-! PROOFS. Collectives (R309 to R316, R326): the frame of the reduce engine's commands, and what the exchange of one that is in order
comes to. -/

namespace Sys2Proof.Machine

/-! ### A running collective -/

/-- With its plan, its contributions, its rights and its members in order, a collective comes to what its exchange gives. -/
theorem State.runColl_collEnds {s : State} {r : Run} {k : Coll} (hk : k = collOf (s.ctx r.ctx) r.cmd)
    (hplan : (s.ctx r.ctx).planOk k = true) (hagree : (s.ctx r.ctx).contribs.any (k.disagrees (s.ctx r.ctx)) = false)
    (hrights : s.worstFault .reduce r.ctx (k.accesses (s.ctx r.ctx)) = 0) (hmembers : s.lostMember r.ctx k = none) :
    (s.exchange r.ctx r k).collEnds (s.runColl r none) r.ctx k := by
  subst hk
  rw [State.runColl]
  dsimp only
  rw [if_neg (by simp [hplan, hagree]), if_neg (by simp [hrights]), hmembers]
  dsimp only
  generalize s.exchange r.ctx r (collOf (s.ctx r.ctx) r.cmd) = w
  refine ⟨fun q hdone hrun => ?_, fun hwaits => ?_⟩
  · rw [if_pos hdone, hrun]
  · rw [if_neg (by simp [hwaits])]
    exact ⟨rfl, rfl, congrArg Engine.running (State.setEngine_engine_self _ _ _)⟩

/-- The row of its opcode carries the command on engine 272 on. -/
theorem State.onColl_running {s : State} {r : Run} {op : Nat} (hup : s.up = true) (hrun : (s.engine 272).running = some r)
    (hop : r.cmd.opcode = op) (hfailed : r.failed = none) (diag : Option Diag) : s.onColl op diag = s.runColl r diag := by
  have hrow : isOp op r.cmd = true := by simp [isOp, hop]
  rw [State.onColl, State.whenUp_up _ hup, hrun]
  dsimp only
  rw [if_pos hrow, hfailed]

/-! ### O33 -/

/-- Settles O33: each row runs its collective on engine 272, and the run comes to what its exchange gives. -/
theorem collectivesExchange : Obligations.CollectivesExchange := by
  rintro dt s _ _ r k rfl hup hrun hfailed hk hplan hagree hrights hmembers rfl
  have hends (op : Nat) (hop : r.cmd.opcode = op) :
      ∃ t, Host.Outcome.next ((s.elapse dt).onColl op none) = (.next t : Host.Outcome State Fault Refusal)
        ∧ ((s.elapse dt).exchange r.ctx r k).collEnds t r.ctx k :=
    ⟨_, rfl, State.onColl_running hup hrun hop hfailed none ▸ State.runColl_collEnds hk hplan hagree hrights hmembers⟩
  exact ⟨hends 0x50, hends 0x51, hends 0x52, hends 0x53, hends 0x54, hends 0x55, hends 0x56, hends 0x57⟩

end Sys2Proof.Machine
end

section
/-! PROOFS. Contributions (R252, R290, R314 to R317): what a fill and the wake of the collective leave of a context, and the discards that
come before a byte is written. -/

namespace Sys2Proof.Machine

/-! ### What fills leave of contexts (R252 to R256, R290) -/

/-- A context without its bookkeeping and without what fills and their wakes write: queues, parked waits, mortise slots. -/
def Ctx.unfilled (x : Ctx) : Ctx := { x.settled with queues := [], parked := [], mortise := [], lateWaits := [] }

def State.unfilled (s : State) : Nat → Ctx := fun c => (s.ctx c).unfilled

theorem State.unfilled_of_settled {s t : State} (h : t.settled = s.settled) : t.unfilled = s.unfilled :=
  funext fun c => Ctx.of_settled Ctx.unfilled (State.ctx_settled h c)

theorem State.unfilled_of_standing {s t : State} (h : t.standing = s.standing) : t.unfilled = s.unfilled :=
  State.unfilled_of_settled (State.settled_of_standing h)

/-- What neither the bookkeeping nor a fill writes of a context reads the same. -/
theorem State.ctx_of_unfilled {α : Type} {s t : State} (f : Ctx → α) (h : t.unfilled = s.unfilled) (c : Nat)
    (hf : ∀ z : Ctx, f z.unfilled = f z := by exact fun _ => rfl) : f (t.ctx c) = f (s.ctx c) := by
  have hctx : (t.ctx c).unfilled = (s.ctx c).unfilled := congrFun h c
  rw [← hf (t.ctx c), hctx, hf]

theorem State.setCtx_unfilled {s : State} {c : Nat} {x : Ctx} (h : x.unfilled = (s.ctx c).unfilled) :
    (s.setCtx c x).unfilled = s.unfilled := by
  funext d
  by_cases hd : d = c
  · subst hd
    exact (congrArg Ctx.unfilled (State.setCtx_ctx_self s d x)).trans h
  · exact congrArg Ctx.unfilled (State.setCtx_ctx_ne s x hd)

theorem State.expireHeads_unfilled (s : State) : s.expireHeads.unfilled = s.unfilled := by
  unfold State.expireHeads
  refine State.foldl_keeps State.unfilled (fun t e => ?_) _ s
  dsimp only
  split
  · rfl
  · rw [State.unfilled_of_settled (State.track_settled _ _), State.unfilled_of_standing (State.signal_standing _ _ _),
      State.unfilled_of_standing (State.bumpBy_standing _ _ _ _)]
    exact State.foldl_keeps State.unfilled (fun v q => State.setCtx_unfilled (by rfl)) _ t

theorem State.wakeParked_unfilled (s : State) (c : Nat) (sel : Parked → Bool) (stamp code : Nat) :
    (s.wakeParked c sel stamp code).unfilled = s.unfilled := by
  obtain ⟨v, heq, hv⟩ := s.wakeParked_eq c sel stamp code
  have hsave : (v.saveParked c).unfilled = v.unfilled :=
    State.StoreBlind.saveParked (π := State.unfilled) ⟨fun _ _ => rfl, fun _ _ => rfl⟩ v c
  rw [heq, State.unfilled_of_standing (State.armTimer_standing _), State.unfilled_of_settled (State.track_settled _ c), hsave,
    State.unfilled_of_standing hv]
  exact State.setCtx_unfilled (by rfl)

theorem Ctx.withSlots_unfilled (x : Ctx) (l : Sparse Mortise) (w : List (Nat × Nat × Nat × Nat)) :
    ({ x with mortise := l, lateWaits := w } : Ctx).unfilled = x.unfilled := by
  rfl

theorem Ctx.filled_unfilled (x : Ctx) (m : Nat) (z : Mortise) : (x.filled m z).unfilled = x.unfilled :=
  x.withSlots_unfilled _ _

theorem State.fillSlot_unfilled (s : State) (c m : Nat) (a : FillArgs) : (s.fillSlot c m a).unfilled = s.unfilled := by
  obtain ⟨v, heq, hv⟩ := s.fillSlot_eq c m a
  have hcount := State.countFull_standing s.expireHeads c m
  have hset : ((s.expireHeads.countFull c m).setCtx c ((s.expireHeads.ctx c).filled m
      (((s.expireHeads.ctx c).slot m).fill a (s.expireHeads.countFull c m).stamp))).unfilled = (s.expireHeads.countFull c m).unfilled :=
    State.setCtx_unfilled (by rw [Ctx.filled_unfilled, State.ctx_of_standing hcount])
  rw [heq, State.wakeParked_unfilled, State.unfilled_of_standing hv, hset, State.unfilled_of_standing hcount, State.expireHeads_unfilled]

/-! ### The wake of a collective (R252, Table 8-9) -/

theorem State.wakeColl_unfilled (s : State) (c : Nat) (h : FabHdr) (p : Preamble) : (s.wakeColl c h p).unfilled = s.unfilled :=
  (State.wakeParked_unfilled _ _ _ _ _).trans (State.fillSlot_unfilled _ _ _ _)

/-- The waits of a context that is not swapped out are in no save area, so memory stands. -/
theorem State.wakeColl_mem {s : State} {c : Nat} (hin : (s.ctx c).state ≠ 3) (h : FabHdr) (p : Preamble) :
    (s.wakeColl c h p).mem = s.mem := by
  have hfilled (m : Nat) (a : FillArgs) : ((s.fillSlot c m a).ctx c).state ≠ 3 := by
    rwa [State.ctx_of_unfilled Ctx.state (s.fillSlot_unfilled c m a) c]
  exact (State.wakeParked_mem (hfilled _ _) _ _ _).trans (State.fillSlot_mem hin _ _)

/-! ### The discards, and what is kept (R316, R317) -/

/-- The state once a contribution that passed its checks is marked and counted. -/
def State.contribHeard (s : State) (h : FabHdr) : State := (s.markSeq h).bump 0x4110 2

theorem State.contribHeard_standing (s : State) (h : FabHdr) : (s.contribHeard h).standing = s.standing :=
  (State.bump_standing _ _ _).trans (s.markSeq_standing h)

theorem State.contribHeard_ctx (s : State) (h : FabHdr) (c : Nat) : (s.contribHeard h).ctx c = s.ctx c :=
  State.ctx_of_standing (s.contribHeard_standing h) c

/-- The state once contribution `q` is noted and its data has landed. -/
def State.contribLanded (s : State) (h : FabHdr) (q : Contrib) : State :=
  let x := s.ctx h.dstCtx
  (((s.contribHeard h).setCtx h.dstCtx { x with contribs := x.contribs ++ [q] }).putBytes h.dstCtx h.dstAddr q.data).countEvent
    80 0x0202 1 (some h.dstCtx)

/-- With its rights and its slot in order, a contribution is dropped with a count, is an abort, or is taken. -/
theorem State.takeContribution_checked {s : State} {h : FabHdr} {b : List Byte} (hslot : h.mortise = 0xFFFF ∨ h.mortise ≤ 0x03FF)
    (hrights : b.length ≤ 32 ∨ s.accessCode .remote h.dstCtx h.dstAddr (b.length - 32) true = 0) :
    s.takeContribution h b =
      if h.aux != (s.ctx h.dstCtx).layoutEpoch then (s.contribHeard h).bump 0x4210 3
      else if (Preamble.parse b).abort then (s.contribHeard h).onAbort h.dstCtx (Preamble.parse b)
      else if (s.ctx h.dstCtx).contribs.any (fun y => y.same (contribOf (Preamble.parse b) h.aux (b.drop 32))) then
        (s.contribHeard h).bump 0x4210 2
      else (s.contribLanded h (contribOf (Preamble.parse b) h.aux (b.drop 32))).wakeColl h.dstCtx h (Preamble.parse b) := by
  have hcode : (if b.length ≤ 32 then 0 else s.accessCode .remote h.dstCtx h.dstAddr (b.length - 32) true) = 0 := by
    split
    · rfl
    · exact hrights.resolve_left ‹_›
  have hknown : ¬ (h.mortise > 0x03FF ∧ h.mortise ≠ 0xFFFF) := by omega
  rw [State.takeContribution]
  dsimp only
  rw [hcode, if_neg (by decide), if_neg hknown, ← State.contribHeard, State.contribHeard_ctx]
  rfl

/-- Where its data lands changes no context but in its bookkeeping. -/
theorem State.contribLanded_unfilled (s : State) (h : FabHdr) (q : Contrib) :
    (s.contribLanded h q).unfilled = ((s.contribHeard h).setCtx h.dstCtx
      { s.ctx h.dstCtx with contribs := (s.ctx h.dstCtx).contribs ++ [q] }).unfilled := by
  rw [State.contribLanded, State.unfilled_of_standing (State.countEvent_standing _ _ _ _ _)]
  exact State.unfilled_of_settled (State.putBytes_settled _ _ _ _)

/-- A contribution that has landed is kept with its context. -/
theorem State.contribLanded_contribs (s : State) (h : FabHdr) (q : Contrib) :
    ((s.contribLanded h q).ctx h.dstCtx).contribs = (s.ctx h.dstCtx).contribs ++ [q] := by
  rw [State.ctx_of_unfilled Ctx.contribs (s.contribLanded_unfilled h q), State.setCtx_ctx_self]

theorem State.contribLanded_state (s : State) (h : FabHdr) (q : Contrib) :
    ((s.contribLanded h q).ctx h.dstCtx).state = (s.ctx h.dstCtx).state := by
  rw [State.ctx_of_unfilled Ctx.state (s.contribLanded_unfilled h q), State.setCtx_ctx_self]

theorem State.setRx_phys (s : State) (d : Nat) (x : RxState) (c a : Nat) : (s.setRx d x).phys c a = s.phys c a := rfl

theorem State.bump_phys (s : State) (i k c a : Nat) : (s.bump i k).phys c a = s.phys c a := rfl

theorem State.contribHeard_phys (s : State) (h : FabHdr) (c a : Nat) : (s.contribHeard h).phys c a = s.phys c a := by
  rw [State.contribHeard, State.bump_phys, State.markSeq, State.setRx_phys]

/-- Its data stands at its address: no mark, count or note of it moves what the address is translated to. -/
theorem State.contribLanded_mem (s : State) (h : FabHdr) (q : Contrib) :
    (s.contribLanded h q).mem = (s.putBytes h.dstCtx h.dstAddr q.data).mem := by
  have hheard : (s.contribHeard h).mem = s.mem := State.mem_of_standing (s.contribHeard_standing h)
  rw [State.contribLanded, State.mem_of_standing (State.countEvent_standing _ _ _ _ _), State.putBytes_mem, State.putBytes_mem]
  refine State.storeBytes_mem_congr ((State.setCtx_mem _ _ _).trans hheard) (fun a => ?_) _ _
  rw [State.setCtx_phys (by rw [State.contribHeard_ctx]), State.contribHeard_phys]

/-! ### O34 -/

/-- Settles O34: the layout epoch and the eight values of a contribution decide, in this order, before anything of it lands. -/
theorem contributionsAreTakenOnce : Obligations.ContributionsAreTakenOnce := by
  rintro dt via m s _ _ _ _ rfl haccepts rfl rfl rfl hdata hslot hrights
  generalize hw : (s.elapse dt).arrive via 0x10 m = w at *
  have hexec : exec (.contribution dt via m) s = .next (w.takeContribution m.hdr m.payload) :=
    congrArg Host.Outcome.next (hw ▸ State.receive_accepted haccepts (by decide) _)
  rw [hexec, State.takeContribution_checked hslot hrights]
  refine ⟨fun hepoch hnew => ?_, fun hepoch hold => ?_, fun hepoch => ?_⟩
  · rw [if_neg (by simp [hepoch]), if_neg (by simp [hdata]), if_neg (by simp [hnew])]
    refine ⟨_, rfl, ?_, fun hin => ?_⟩
    · rw [State.ctx_of_unfilled Ctx.contribs (State.wakeColl_unfilled _ _ _ _), State.contribLanded_contribs]
      exact List.mem_concat_self
    · rw [State.wakeColl_mem (by rw [State.contribLanded_state, hin]; decide), State.contribLanded_mem]
  · rw [if_neg (by simp [hepoch]), if_neg (by simp [hdata]), if_pos hold]
    rfl
  · rw [if_pos (by simp [hepoch])]
    rfl

end Sys2Proof.Machine
end

section
/-! PROOFS. Layouts (R324, R327, R328): the dovetail pair of the device, and a re-shard up to the start of its image. -/

namespace Sys2Proof.Machine

/-! ### Dovetail pairs (R324) -/

/-- What the default has and every change gives, every entry of a changed table has. -/
theorem Assoc.get_mapVals_of {α : Type} [DecidableEq α] {P : α → Prop} {d : α} {f : Nat → α → α} (hd : P d) (hf : ∀ k v, P (f k v))
    (l : List (Nat × α)) (k : Nat) : P (Assoc.get d (Assoc.mapVals d f l) k) := by
  obtain hlisted | hnone := Assoc.get_mem_or_default d (Assoc.mapVals d f l) k
  · obtain ⟨e, -, he⟩ := List.mem_map.mp (List.mem_filter.mp hlisted).1
    exact (Prod.mk.inj he).2 ▸ hf e.1 e.2
  · rwa [hnone]

theorem State.unpair_ctx (s : State) (c : Nat) : (s.unpair.ctx c).dovetail = none ∧ (s.unpair.ctx c).isGuest = false :=
  Assoc.get_mapVals_of (P := fun x : Ctx => x.dovetail = none ∧ x.isGuest = false) (d := Ctx.undefined)
    (f := fun _ x => { x with dovetail := none, isGuest := false }) ⟨rfl, rfl⟩ (fun _ _ => ⟨rfl, rfl⟩) s.ctxs c

theorem State.ne_of_pairs {s : State} {host guest : Nat} (h : s.pairRefused host guest = false) : host ≠ guest := by
  rintro rfl
  simp [State.pairRefused] at h

theorem State.actPair_refused {s : State} {host guest : Nat} (h : s.pairRefused host guest = true) :
    (s.actPair host guest).1 = s.setCnt 0x4203 3 0x0432 := by
  rw [State.actPair, if_pos h]

theorem State.actPair_pairs {s : State} {host guest : Nat} (h : s.pairRefused host guest = false) :
    let t := (s.actPair host guest).1
    (t.ctx host).dovetail = some guest ∧ (t.ctx guest).dovetail = some host ∧ (t.ctx guest).isGuest = true ∧ t.cnt 0x4203 3 = 0 := by
  rw [State.actPair, if_neg (by simp [h])]
  dsimp only
  refine ⟨?_, ?_, ?_, State.setCnt_cnt_self _ _ _ _⟩
  · rw [State.setCnt_ctx, State.modCtx, State.setCtx_ctx_ne _ _ (State.ne_of_pairs h), State.modCtx_ctx_self]
  · rw [State.setCnt_ctx, State.modCtx_ctx_self]
  · rw [State.setCnt_ctx, State.modCtx_ctx_self]

theorem exec_dovetailPair {dt host guest : Nat} {s : State} (h : (s.elapse dt).up = true) :
    exec (.dovetailPair dt host guest) s = .next ((s.elapse dt).actPair host guest).1 :=
  congrArg Host.Outcome.next (State.whenUp_up _ h)

theorem exec_dovetailUnpair {dt : Nat} {s : State} (h : (s.elapse dt).up = true) :
    exec (.dovetailUnpair dt) s = .next ((s.elapse dt).unpair.setCnt 0x4203 3 0) :=
  congrArg Host.Outcome.next (State.whenUp_up _ h)

/-! ### Re-shards (R327, R328) -/

/-- The state in which a re-shard block stands: its context keeps it, with the epoch that it names. -/
def State.reshardStands (s : State) (block : List Byte) (place : Placement) : State :=
  let k := reshardOf block
  s.setCtx k.ctx { s.ctx k.ctx with
    reshard := 1, reshardBlock := leBytes 32 (setBits (leNat block) 171 156 k.epoch), reshardPlace := place }

/-- A block in order stands as it came, and its image starts where nothing holds it back. -/
theorem State.actReshard_stands {s : State} {block : List Byte} {place : Placement} (hlength : block.length = 32)
    (hstate : (s.ctx (reshardOf block).ctx).state = 2 ∨ (s.ctx (reshardOf block).ctx).state = 3)
    (hnone : (s.ctx (reshardOf block).ctx).reshard = 0)
    (hepoch : (reshardOf block).epoch = ((s.ctx (reshardOf block).ctx).layoutEpoch + 1) % 65536) :
    s.actReshard block place = (s.reshardStands block place).startReshard (reshardOf block).ctx := by
  have hfits : fitBytes 32 block = block := hlength ▸ fitBytes_self block
  have hopen : ¬ ((s.ctx (reshardOf block).ctx).state != 2 && (s.ctx (reshardOf block).ctx).state != 3
      || (s.ctx (reshardOf block).ctx).reshard != 0) = true := by
    rcases hstate with e | e <;> simp [e, hnone]
  rw [State.actReshard]
  dsimp only
  rw [if_neg hopen, if_pos ⟨hepoch, hlength⟩, hfits, ← hepoch]
  rfl

theorem State.startReshard_waits {s : State} {c : Nat} (h : (s.ctx c).reshardDue = false) : s.startReshard c = s := by
  rw [State.startReshard]
  exact if_pos (by simp [h])

theorem State.startReshard_starts {s : State} {c g : Nat} (hdue : (s.ctx c).reshardDue = true) (himage : (s.ctx c).image = none)
    (hslot : newSlot (s.ctx c).imageSlots = some g) :
    s.startReshard c = (s.modCtx c (fun x => { x with reshard := 2 })).startImage c g := by
  rw [State.startReshard, if_neg (by simp [hdue]), himage, hslot]

theorem exec_reshard {dt : Nat} {block : List Byte} {place : Placement} {s : State} (h : (s.elapse dt).up = true) :
    exec (.reshard dt block place) s = .next ((s.elapse dt).actReshard block place) :=
  congrArg Host.Outcome.next (State.whenUp_up _ h)

/-! ### O35 -/

/-- Settles O35: a pair takes the place of any other, and a block that stands starts its image once its step has closed. -/
theorem layoutsChange : Obligations.LayoutsChange := by
  refine ⟨⟨?_, ?_, ?_⟩, ?_⟩
  · rintro dt host guest s _ rfl hup hpairs
    exact ⟨_, exec_dovetailPair hup, State.actPair_pairs hpairs⟩
  · rintro dt host guest s _ rfl hup hrefused
    exact (exec_dovetailPair hup).trans (congrArg Host.Outcome.next (State.actPair_refused hrefused))
  · rintro dt s _ rfl hup
    exact ⟨_, exec_dovetailUnpair hup, State.setCnt_cnt_self _ _ _ _, rfl, State.unpair_ctx _⟩
  · rintro dt block place s _ _ rfl hup hlength rfl hstate hnone hepoch
    have hexec := (exec_reshard hup).trans (congrArg Host.Outcome.next (State.actReshard_stands (place := place) hlength hstate hnone hepoch))
    exact ⟨fun hwaits => hexec.trans (congrArg Host.Outcome.next (State.startReshard_waits hwaits)),
      fun g hdue himage hslot => hexec.trans (congrArg Host.Outcome.next (State.startReshard_starts hdue himage hslot))⟩

end Sys2Proof.Machine
end

section
/-! PROOFS. A raise block whose checks pass starts its raise (O36): the checks (R336), the raises (R337, R345), and the two commands' blocks (Table 10-3). -/

namespace Sys2Proof.Machine

/-! ### A raise whose checks pass (R336, R337, R345) -/

/-- Past the checks, the mode selects the raise, and only a further weight set can still be refused. -/
theorem State.raise_checked {s : State} {k : RaiseBlock} {m : Manifest} (place : Placement) (hright : s.raiseWrong k = false)
    (hmanifest : s.manifest k.ctx k.manifest = some m) (hok : m.ok (s.ctx k.ctx) k.mode = true)
    (hbases : m.entries.any (s.baseBad (s.ctx k.ctx)) = false) :
    s.raise k place
      = if k.mode = 0 then (s.startRaise k m, 0)
        else if ((s.dropVersion k.ctx k.version).startSet k m place).2 = 0 then (s.dropVersion k.ctx k.version).startSet k m place
        else (s, ((s.dropVersion k.ctx k.version).startSet k m place).2) := by
  simp only [State.raise, hright, hmanifest, hok, hbases, Bool.not_true, Bool.false_eq_true, ↓reduceIte]

/-! ### The block as it is written (Table 10-3) -/

/-- A whole block of mode 0 or 1 is raised as it stands: nothing of it is clamped, and object 0x4302.02 takes the raise's code. -/
theorem State.actRaise_unclamped {s : State} {block : List Byte} (place : Placement) (hlength : block.length = 32)
    (hidle : (s.ctx (raiseBlock block).ctx).raising = false) (hmode : (raiseBlock block).mode < 2) :
    s.actRaise block place
      = ((s.raise (raiseBlock block) place).1.setCnt 0x4302 2 (s.raise (raiseBlock block) place).2, 0) := by
  have hwhole : ¬ (2 ≤ (raiseBlock block).mode ∨ block.length ≠ 32) := by omega
  have hmodeKept : (if 2 ≤ (raiseBlock block).mode then 0 else (raiseBlock block).mode) = (raiseBlock block).mode := if_neg (by omega)
  simp only [State.actRaise, hidle, Bool.false_eq_true, ↓reduceIte, if_neg hwhole, hmodeKept]

theorem exec_raiseJob {dt : Nat} {block : List Byte} {place : Placement} {s : State} (hup : (s.elapse dt).up = true)
    (hmode : (raiseBlock block).mode ≠ 1) :
    exec (.raiseJob dt block place) s = .next ((s.elapse dt).actRaise block place).1 :=
  congrArg Host.Outcome.next ((State.whenUp_up _ hup).trans (if_neg hmode))

theorem exec_raiseWeightSet {dt : Nat} {block : List Byte} {place : Placement} {s : State} (hup : (s.elapse dt).up = true)
    (hmode : (raiseBlock block).mode = 1) :
    exec (.raiseWeightSet dt block place) s = .next ((s.elapse dt).actRaise block place).1 :=
  congrArg Host.Outcome.next ((State.whenUp_up _ hup).trans (if_pos hmode))

/-! ### O36 -/

/-- Settles O36: the block is raised as it stands, and each mode's raise starts once its checks have passed. -/
theorem raisesStart : Obligations.RaisesStart := by
  rintro dt block place s _ _ m rfl hup hlength rfl hidle hright hmanifest hok hbases
  have hraise := State.raise_checked place hright hmanifest hok hbases
  refine ⟨fun hmode => ?_, fun hmode hfits => ?_⟩
  · rw [exec_raiseJob hup (by omega), State.actRaise_unclamped place hlength hidle (by omega), hraise, if_pos hmode]
  · rw [exec_raiseWeightSet hup hmode, State.actRaise_unclamped place hlength hidle (by omega), hraise, if_neg (by omega),
      if_pos hfits, hfits]

end Sys2Proof.Machine
end

section
/-! PROOFS. Every command keeps the queue and what was sent, and keeps the state sound (O3, O4): what one state keeps of an earlier one,
proved of the model's functions in their order, each from the functions it calls. -/

namespace Sys2Proof.Machine

set_option Elab.async false

/-- From `s` to `t`, the queue stands, what was sent stays sent, and the byte store stays canonical and the stamp in range. -/
structure State.Follows (s t : State) : Prop where
  queue : t.pending = s.pending
  output : s.sent <+: t.sent
  sound : s.Sound → t.Sound

/-- Whatever `o` offers, the state in it follows `s`. -/
def State.Offers {α : Type} (s : State) (π : α → State) (o : Option α) : Prop := ∀ a, o = some a → s.Follows (π a)

/-- A command that answers a next state answers one that follows `s`. -/
def State.Leads (s : State) (o : Host.Outcome State Fault Refusal) : Prop := ∀ t, o = .next t → s.Follows t

/-! ### How following is put together -/

variable {s₀ s t : State}

theorem State.Follows.refl (s : State) : s.Follows s := ⟨rfl, List.prefix_rfl, id⟩

section
variable {freeCtr : Nat} {objs : Sparse ObjVal} {hbm : Sparse HbmPage} {sill : Sparse SillPage} {copies : List Copy} {loft : Sparse (List
    LoftLine)} {interleave : Sparse Nat} {stale : List StaleEntry} {copyQueue : Sparse (List Nat)} {objects : Sparse Obj} {nextObj :
    Nat} {engines : Sparse Engine} {bays : Sparse Bay} {dies : Sparse Die} {res : Sparse ResUnit} {resOrder : Nat} {ctxs : Sparse
    Ctx} {epochs : Sparse Nat} {sched : Sched} {links : Sparse Link} {ports hostPorts : Sparse Nat} {fab : Fabric} {sessions :
    Sparse Session} {clock : Clock} {efyth : Efyth} {intr : Intr} {cores : Sparse Core} {perf : Perf} {power : Power} {fault :
    FaultSt} {boot : Boot} {pins : Pins}

/-- A change of anything but the queue, the output, memory and the stamp. -/
theorem State.Follows.keep (h : s₀.Follows s) : s₀.Follows
    { s with
      freeCtr, objs, hbm, sill, copies, loft, interleave, stale, copyQueue, objects, nextObj, engines, bays, dies, res, resOrder,
      ctxs, epochs, sched, links, ports, hostPorts, fab, sessions, clock, efyth, intr, cores, perf, power, fault, boot, pins } :=
  ⟨h.queue, h.output, h.sound⟩

/-- A change of memory that keeps its form. -/
theorem State.Follows.withMem (h : s₀.Follows s) {mem : List Host.Cell} (hm : Memory.wf s.mem = true → Memory.wf mem = true) : s₀.Follows
    { s with
      mem, freeCtr, objs, hbm, sill, copies, loft, interleave, stale, copyQueue, objects, nextObj, engines, bays, dies, res, resOrder,
      ctxs, epochs, sched, links, ports, hostPorts, fab, sessions, clock, efyth, intr, cores, perf, power, fault, boot, pins } :=
  ⟨h.queue, h.output, fun g => ⟨hm (h.sound g).1, (h.sound g).2⟩⟩

/-- A new stamp in range. -/
theorem State.Follows.withStamp (h : s₀.Follows s) {stamp : Nat} (hc : stamp < 2 ^ 64) : s₀.Follows
    { s with
      stamp, freeCtr, objs, hbm, sill, copies, loft, interleave, stale, copyQueue, objects, nextObj, engines, bays, dies, res, resOrder,
      ctxs, epochs, sched, links, ports, hostPorts, fab, sessions, clock, efyth, intr, cores, perf, power, fault, boot, pins } :=
  ⟨h.queue, h.output, fun g => ⟨(h.sound g).1, hc⟩⟩

end

theorem State.Follows.ite {c : Prop} {_ : Decidable c} (h : s₀.Follows s) (g : s₀.Follows t) : s₀.Follows (if c then s else t) := by
  split <;> assumption

theorem State.Follows.fst {β : Type} {b : β} (h : s₀.Follows s) : s₀.Follows (s, b).1 := h

theorem State.Follows.haulOut {n : Nat} {l : Sink} (h : s₀.Follows s) : s₀.Follows (HaulOut.mk s n l).state := h

theorem State.Follows.elim {α : Type} {o : Option α} {f : α → State} (h : s₀.Follows s) (hf : ∀ a, s₀.Follows (f a)) :
    s₀.Follows (o.elim s f) := by
  cases o with
  | none => exact h
  | some a => exact hf a

theorem State.Follows.iteFst {β : Type} {c : Prop} {_ : Decidable c} {a b : State × β} (h : s₀.Follows a.1) (g : s₀.Follows b.1) :
    s₀.Follows (if c then a else b).1 := by
  split <;> assumption

theorem State.Follows.iteHaul {c : Prop} {_ : Decidable c} {a b : HaulOut} (h : s₀.Follows a.state) (g : s₀.Follows b.state) :
    s₀.Follows (if c then a else b).state := by
  split <;> assumption

/-- What each round of a fold does, the fold does; `π` is the state in what is folded. -/
theorem State.Follows.foldlOn {α β : Type} (π : β → State) {f : β → α → β} (hf : ∀ b x, s₀.Follows (π b) → s₀.Follows (π (f b x)))
    {l : List α} {b : β} (h : s₀.Follows (π b)) : s₀.Follows (π (l.foldl f b)) := by
  induction l generalizing b with
  | nil => exact h
  | cons x l ih => exact ih (hf b x h)

theorem State.Follows.foldl {α : Type} {f : State → α → State} (hf : ∀ s x, s₀.Follows s → s₀.Follows (f s x)) {l : List α}
    (h : s₀.Follows s) : s₀.Follows (l.foldl f s) :=
  State.Follows.foldlOn id hf h

theorem State.Follows.foldlFst {α γ : Type} {f : State × γ → α → State × γ} (hf : ∀ b x, s₀.Follows b.1 → s₀.Follows (f b x).1)
    {l : List α} {b : State × γ} (h : s₀.Follows b.1) : s₀.Follows (l.foldl f b).1 :=
  State.Follows.foldlOn Prod.fst hf h

section
variable {α β : Type} {π : α → State} {ρ : β → State}

theorem State.Offers.none : s₀.Offers π none := fun _ e => nomatch e

theorem State.Offers.some {a : α} (h : s₀.Follows (π a)) : s₀.Offers π (some a) := fun _ e => by cases e; exact h

theorem State.Offers.map {o : Option α} {f : α → β} (h : s₀.Offers π o) (hf : ∀ a, s₀.Follows (π a) → s₀.Follows (ρ (f a))) :
    s₀.Offers ρ (o.map f) := by
  cases o with
  | none => exact .none
  | some a => exact .some (hf a (h a rfl))

theorem State.Offers.bind {o : Option α} {f : α → Option β} (h : s₀.Offers π o) (hf : ∀ a, s₀.Follows (π a) → s₀.Offers ρ (f a)) :
    s₀.Offers ρ (o.bind f) := by
  cases o with
  | none => exact .none
  | some a => exact hf a (h a rfl)

theorem State.Offers.foldl {γ : Type} {f : Option α → γ → Option α} (hf : ∀ o x, s₀.Offers π o → s₀.Offers π (f o x))
    {l : List γ} {o : Option α} (h : s₀.Offers π o) : s₀.Offers π (l.foldl f o) := by
  induction l generalizing o with
  | nil => exact h
  | cons x l ih => exact ih (hf o x h)

end

theorem State.Leads.next (h : s₀.Follows s) : s₀.Leads (.next s) := fun _ e => by cases e; exact h

/-! ### Sys2Proof/Machine/Objs.lean -/

theorem State.Follows.setObj (h : s₀.Follows s) {idx sub : Nat} {v : ObjVal} : s₀.Follows (s.setObj idx sub v) := h.keep

theorem State.Follows.noteRwp (h : s₀.Follows s) {k : Nat} : s₀.Follows (s.noteRwp k) := h.keep

theorem State.Follows.setRwp (h : s₀.Follows s) {idx sub : Nat} {v : ObjVal} : s₀.Follows (s.setRwp idx sub v) := .noteRwp (.setObj h)

theorem State.Follows.setCnt (h : s₀.Follows s) {idx sub n : Nat} : s₀.Follows (s.setCnt idx sub n) := h.keep

theorem State.Follows.bumpBy (h : s₀.Follows s) {idx sub n : Nat} : s₀.Follows (s.bumpBy idx sub n) := .setCnt h

theorem State.Follows.bump (h : s₀.Follows s) {idx sub : Nat} : s₀.Follows (s.bump idx sub) := .bumpBy h

theorem State.Follows.resetObjs (h : s₀.Follows s) {idx lo n : Nat} : s₀.Follows (s.resetObjs idx lo n) := h.keep

theorem State.Follows.countClamp (h : s₀.Follows s) {idx : Nat} : s₀.Follows (s.countClamp idx) := by
  unfold State.countClamp
  split
  · exact .bump h
  · exact h

theorem State.Follows.clearList (h : s₀.Follows s) {cmd v : Nat} {l : List (Nat × Nat × Nat)} : s₀.Follows (s.clearList cmd v l) :=
  .ite (.foldl (fun _ _ h' => .resetObjs h') h) (.countClamp (.foldl (fun _ _ h' => .resetObjs h') h))

theorem State.Follows.execClear (h : s₀.Follows s) {cmd v : Nat} : s₀.Follows (s.execClear cmd v) := .clearList h

/-! ### Sys2Proof/Machine/Msg.lean -/

theorem State.Follows.push (h : s₀.Follows s) {m : Sent} : s₀.Follows (s.push m) :=
  ⟨h.queue, h.output.trans (List.prefix_append _ _), h.sound⟩

theorem State.Follows.setSession (h : s₀.Follows s) {n : Nat} {k : Session} : s₀.Follows (s.setSession n k) := h.keep

theorem State.Follows.hostEmit (h : s₀.Follows s) {port : Nat} {dst : List Byte} {ty : Nat} {hd : HostHdr} {p : List Byte} : s₀.Follows
    (s.hostEmit port dst ty hd p) :=
  .bump (.push h)

theorem State.Follows.hostSend (h : s₀.Follows s) {n ty : Nat} {f : HostHdr → HostHdr} {p : List Byte} : s₀.Follows (s.hostSend n ty f
    p) :=
  .setSession (.hostEmit h)

theorem State.Follows.efythSend (h : s₀.Follows s) {dst ty level : Nat} {hd : EfythHdr} {p : List Byte} : s₀.Follows (s.efythSend dst
    ty level hd p) :=
  .bump (.push h)

/-! ### Sys2Proof/Machine/Ops.lean -/

theorem State.Follows.advance (h : s₀.Follows s) {dt : Nat} : s₀.Follows (s.advance dt) := h.withStamp (Nat.mod_lt _ (by decide))

theorem State.Follows.whenUp (h : s₀.Follows s) {f : State → State} (hf : ∀ t, s₀.Follows t → s₀.Follows (f t)) : s₀.Follows (s.whenUp
    f) :=
  .ite (hf _ h) h

theorem State.Follows.setByte (h : s₀.Follows s) {a : Nat} {b : Byte} : s₀.Follows (s.setByte a b) := h.withMem (State.setByte_wf · _ _)

theorem State.Follows.writeBytes (h : s₀.Follows s) {a : Nat} {l : List Byte} : s₀.Follows (s.writeBytes a l) := by
  induction l generalizing s a with
  | nil => exact h
  | cons b l ih => exact ih (.setByte h)

theorem State.Follows.zeroRange (h : s₀.Follows s) {lo hi : Nat} : s₀.Follows (s.zeroRange lo hi) :=
  h.withMem (State.zeroRange_wf · _ _)

theorem State.Follows.loadRange (h : s₀.Follows s) {lo : Nat} {l : Sparse Nat} : s₀.Follows (s.loadRange lo l) :=
  .foldl (fun _ _ h' => .setByte h') h

theorem State.Follows.zeroBanks (h : s₀.Follows s) {bay mask : Nat} : s₀.Follows (s.zeroBanks bay mask) :=
  h.withMem (State.zeroBanks_wf · _ _)

theorem State.Follows.setCtx (h : s₀.Follows s) {c : Nat} {x : Ctx} : s₀.Follows (s.setCtx c x) := h.keep

theorem State.Follows.modCtx (h : s₀.Follows s) {c : Nat} {f : Ctx → Ctx} : s₀.Follows (s.modCtx c f) := .setCtx h

theorem State.Follows.setEngine (h : s₀.Follows s) {e : Nat} {x : Engine} : s₀.Follows (s.setEngine e x) := h.keep

theorem State.Follows.setBay (h : s₀.Follows s) {b : Nat} {x : Bay} : s₀.Follows (s.setBay b x) := h.keep

theorem State.Follows.setDie (h : s₀.Follows s) {d : Nat} {x : Die} : s₀.Follows (s.setDie d x) := h.keep

theorem State.Follows.setLink (h : s₀.Follows s) {n : Nat} {x : Link} : s₀.Follows (s.setLink n x) := h.keep

theorem State.Follows.setHbmPage (h : s₀.Follows s) {p : Nat} {x : HbmPage} : s₀.Follows (s.setHbmPage p x) := h.keep

theorem State.Follows.setSillPage (h : s₀.Follows s) {p : Nat} {x : SillPage} : s₀.Follows (s.setSillPage p x) := h.keep

theorem State.Follows.setObject (h : s₀.Follows s) {o : Nat} {x : Obj} : s₀.Follows (s.setObject o x) := h.keep

theorem State.Follows.setSourceOf (h : s₀.Follows s) {n : Nat} {x : Source} : s₀.Follows (s.setSourceOf n x) := h.keep

theorem State.Follows.latchSignal (h : s₀.Follows s) {n : Nat} {c : Option Nat} : s₀.Follows (s.latchSignal n c) :=
  .bump (.setSourceOf (.ite (.bump h) h))

theorem State.Follows.setPerfValue (h : s₀.Follows s) {u k v : Nat} : s₀.Follows (s.setPerfValue u k v) := h.keep

theorem State.Follows.addCounterBy (h : s₀.Follows s) {sig : State → Nat → State} {f u k n : Nat}
    (hsig : ∀ t x, s₀.Follows t → s₀.Follows (sig t x)) : s₀.Follows (State.addCounterBy sig f s u k n) := by
  induction f generalizing s k n with
  | zero => exact h
  | succ f ih => exact .ite (.setPerfValue h) (.ite (ih (.setPerfValue h)) (.ite (hsig _ _ (.keep (.setPerfValue h))) (.keep (.setPerfValue h))))

theorem State.Follows.countEventBy (h : s₀.Follows s) {sig : State → Nat → State} {u ev n : Nat} {c : Option Nat}
    (hsig : ∀ t x, s₀.Follows t → s₀.Follows (sig t x)) : s₀.Follows (State.countEventBy sig s u ev n c) :=
  .ite h (.foldl (fun _ _ h' => .ite (.addCounterBy h' hsig) h') h)

theorem State.Follows.eventTo (h : s₀.Follows s) {n : Nat} {r : EventRec} {stamp : Nat} : s₀.Follows (s.eventTo n r stamp).1 :=
  .iteFst (.fst (.bump (.setSession h))) (.fst (.countEventBy (.hostSend (.setSession h)) (fun _ _ h' => .latchSignal h')))

theorem State.Follows.closeSession (h : s₀.Follows s) {n : Nat} : s₀.Follows (s.closeSession n) := .setSession h

theorem State.Follows.routeEvents (h : s₀.Follows s) {l : List Nat} {r : EventRec} : s₀.Follows (s.routeEvents l r).1 :=
  .foldlFst (fun _ _ h' => .fst (.bump (.eventTo h'))) (.fst h)

theorem State.Follows.forwardSignal (h : s₀.Follows s) {n : Nat} {c : Option Nat} : s₀.Follows (s.forwardSignal n c).1 :=
  .fst (.ite (.bump (.keep (.efythSend (.routeEvents h)))) (.routeEvents h))

theorem State.Follows.startWake (h : s₀.Follows s) : s₀.Follows s.startWake := .ite (.keep (.setCnt (.setCnt h))) (.ite h.keep h)

theorem State.Follows.signal (h : s₀.Follows s) {n : Nat} {c : Option Nat} : s₀.Follows (s.signal n c) :=
  .ite h (.ite (.startWake (.ite (.forwardSignal (.latchSignal (.forwardSignal (.latchSignal h)))) (.forwardSignal (.latchSignal h))))
      (.ite (.forwardSignal (.latchSignal (.forwardSignal (.latchSignal h)))) (.forwardSignal (.latchSignal h))))

theorem State.Follows.logEntry (h : s₀.Follows s) {a : LogArgs} : s₀.Follows (s.logEntry a) := .signal h.keep

theorem State.Follows.setResUnit (h : s₀.Follows s) {u : Nat} {x : ResUnit} : s₀.Follows (s.setResUnit u x) := h.keep

theorem State.Follows.countRefusal (h : s₀.Follows s) {u winner loser code : Nat} : s₀.Follows (s.countRefusal u winner loser code) :=
  .setCnt (.setCnt (.setCnt (.setCnt (.setCnt (.setCnt h)))))

theorem State.Follows.setSamplingRun (h : s₀.Follows s) {n : Nat} {r : Sampling} : s₀.Follows (s.setSamplingRun n r) := .ite h.keep h.keep

theorem State.Follows.startPolling (h : s₀.Follows s) : s₀.Follows s.startPolling := .signal (.bump h.keep)

theorem State.Follows.loseHooks (h : s₀.Follows s) {a : Asker} : s₀.Follows (s.loseHooks a) := by
  unfold State.loseHooks
  split
  · exact .signal (.bump (.setSamplingRun h))
  · exact .logEntry (.signal (.bump h.keep))
  · exact .logEntry (.startPolling h)
  · exact .setCnt h
  · exact .logEntry h
  · exact .logEntry h
  · exact .logEntry h
  · exact .logEntry h
  · exact .logEntry h
  · exact .logEntry h
  · exact .logEntry h
  · exact .logEntry h
  · exact .logEntry h

theorem State.Follows.refuseHooks (h : s₀.Follows s) {a : Asker} : s₀.Follows (s.refuseHooks a) := by
  unfold State.refuseHooks
  split
  · exact .setSamplingRun h
  · exact h.keep
  · exact .startPolling h
  · exact .setCnt h
  · exact .logEntry h
  · exact .logEntry h
  · exact .logEntry h
  · exact .logEntry h
  · exact .logEntry h
  · exact .logEntry h
  · exact .logEntry h
  · exact .logEntry h
  · exact .logEntry h

theorem State.Follows.grantUnit (h : s₀.Follows s) {u : Nat} {a : Asker} {level : Nat} : s₀.Follows (s.grantUnit u a level) :=
  .keep (.setResUnit h)

theorem State.Follows.requestUnit (h : s₀.Follows s) {u : Nat} {a : Asker} {level : Nat} : s₀.Follows (s.requestUnit u a level).1 := by
  unfold State.requestUnit
  split
  · exact .fst (.grantUnit h)
  · exact .iteFst (.fst h) (.iteFst (.fst (.refuseHooks (.grantUnit (.setResUnit (.countRefusal h))))) (.iteFst (.fst (.loseHooks
      (.grantUnit (.setResUnit (.countRefusal h))))) (.fst (.countRefusal h))))

theorem State.Follows.releaseUnit (h : s₀.Follows s) {u : Nat} {a : Asker} : s₀.Follows (s.releaseUnit u a) := by
  unfold State.releaseUnit
  dsimp only
  split
  · exact .ite (.setResUnit h) h
  · exact h

theorem State.Follows.requestTimer (h : s₀.Follows s) {a : Asker} {level : Nat} : s₀.Follows (s.requestTimer a level).1 := by
  unfold State.requestTimer
  split
  · exact .fst (.grantUnit h)
  · split
    · exact .fst (.requestUnit h)
    · exact .fst (.countRefusal h)

theorem State.Follows.releaseAll (h : s₀.Follows s) {a : Asker} : s₀.Follows (s.releaseAll a) := h.keep

theorem State.Follows.recoveryOn (h : s₀.Follows s) : s₀.Follows s.recoveryOn := by
  unfold State.recoveryOn
  split
  · exact .ite h (.requestUnit h)
  · exact .requestUnit h

theorem State.Follows.log (h : s₀.Follows s) {a : LogArgs} : s₀.Follows (s.log a) := by
  unfold State.log
  refine .ite ?_ (.logEntry h)
  dsimp only
  split
  · exact .ite (.keep (.logEntry h)) (.requestUnit (.keep (.logEntry h)))
  · exact .requestUnit (.keep (.logEntry h))

theorem State.Follows.healthChanged (h : s₀.Follows s) {before : Nat} : s₀.Follows (s.healthChanged before) := .ite h (.signal h)

theorem State.Follows.deduct (h : s₀.Follows s) {points : Nat} : s₀.Follows (s.deduct points) := .ite (.bump h.keep) (.healthChanged
    h.keep)

theorem State.Follows.deductPermanent (h : s₀.Follows s) {key points : Nat} : s₀.Follows (s.deductPermanent key points) :=
  .healthChanged h.keep

theorem State.Follows.addCounter (h : s₀.Follows s) {u k n : Nat} : s₀.Follows (s.addCounter u k n) :=
  .addCounterBy h (fun _ _ h' => .signal h')

theorem State.Follows.countEvent (h : s₀.Follows s) {u ev n : Nat} {c : Option Nat} : s₀.Follows (s.countEvent u ev n c) :=
  .countEventBy h (fun _ _ h' => .signal h')

theorem State.Follows.hostTell (h : s₀.Follows s) {n ty : Nat} {f : HostHdr → HostHdr} {p : List Byte} : s₀.Follows (s.hostTell n ty f
    p) :=
  .countEvent (.hostSend h)

/-! ### Sys2Proof/Machine/Loft.lean -/

theorem State.Follows.loadModes (h : s₀.Follows s) : s₀.Follows s.loadModes := h.keep

theorem State.Follows.setLoftSet (h : s₀.Follows s) {k : Nat} {l : List LoftLine} : s₀.Follows (s.setLoftSet k l) := h.keep

theorem State.Follows.loftRead (h : s₀.Follows s) {u : LoftUse} {a n : Nat} : s₀.Follows (s.loftRead u a n) :=
  .foldl (fun _ _ h' => .setLoftSet h') h

theorem State.Follows.loftWrite (h : s₀.Follows s) {u : LoftUse} {a : Nat} {l : List Byte} : s₀.Follows (s.loftWrite u a l) :=
  .foldl (fun _ _ h' => .setLoftSet h') h

theorem State.Follows.storeAt (h : s₀.Follows s) {u : LoftUse} {a : Nat} {l : List Byte} : s₀.Follows (s.storeAt u a l) :=
  .writeBytes (.ite (.loftWrite h) h)

theorem State.Follows.coreWrite (h : s₀.Follows s) {a : Nat} {l : List Byte} : s₀.Follows (s.coreWrite a l) := .storeAt h

theorem State.Follows.coreWriteNat (h : s₀.Follows s) {a n v : Nat} : s₀.Follows (s.coreWriteNat a n v) := .coreWrite h

theorem State.Follows.dropLines (h : s₀.Follows s) {p : LoftLine → Bool} : s₀.Follows (s.dropLines p) := h.keep

theorem State.Follows.dropPageLines (h : s₀.Follows s) {page : Nat} : s₀.Follows (s.dropPageLines page) := .dropLines h

theorem State.Follows.flushLofts (h : s₀.Follows s) : s₀.Follows s.flushLofts := h.keep

theorem State.Follows.loseDirty (h : s₀.Follows s) {l : List LoftLine} : s₀.Follows (s.loseDirty l) := by
  unfold State.loseDirty
  refine .foldl (fun _ _ h' => ?_) h
  split
  · exact .bump (.writeBytes h')
  · exact h'

theorem State.Follows.warmFlush (h : s₀.Follows s) : s₀.Follows s.warmFlush := .flushLofts (.loseDirty h.keep)

/-! ### Sys2Proof/Machine/Operands.lean -/

theorem State.Follows.dropCopy (h : s₀.Follows s) {sill : Nat} : s₀.Follows (s.dropCopy sill) := h.keep

theorem State.Follows.refusePromotion (h : s₀.Follows s) {p : Nat} : s₀.Follows (s.refusePromotion p) := .bump (.setSillPage h)

theorem State.Follows.startCopy (h : s₀.Follows s) {sill page : Nat} : s₀.Follows (s.startCopy sill page) := .bump h.keep

theorem State.Follows.promote (h : s₀.Follows s) {g : Agent} {sill : Nat} : s₀.Follows (s.promote g sill) := by
  unfold State.promote
  refine .ite (.refusePromotion h) ?_
  split
  · exact .startCopy h
  · split
    · exact .ite (.startCopy (.dropCopy h)) (.refusePromotion h)
    · exact .refusePromotion h

theorem State.Follows.heatPage (h : s₀.Follows s) {g : Agent} {p n : Nat} : s₀.Follows (s.heatPage g p n) :=
  .ite h (.ite (.promote (.setSillPage h)) (.setSillPage h))

theorem State.Follows.countLoft (h : s₀.Follows s) {g : Agent} {c a n : Nat} : s₀.Follows (s.countLoft g c a n) := by
  unfold State.countLoft
  split
  · exact .countEvent (.countEvent h)
  · exact h

theorem State.Follows.loftServe (h : s₀.Follows s) {g : Agent} {c a n : Nat} : s₀.Follows (s.loftServe g c a n) := by
  unfold State.loftServe
  refine .ite h (.ite (.loftRead (.countLoft h)) ?_)
  dsimp only
  split
  · exact .loftRead (.countLoft h)
  · exact .countEvent h

theorem State.Follows.heatRead (h : s₀.Follows s) {g : Agent} {c a n : Nat} : s₀.Follows (s.heatRead g c a n) :=
  .ite h (.foldl (fun _ _ h' => .ite (.heatPage (.loftServe h')) (.loftServe h')) h)

theorem State.Follows.countWrites (h : s₀.Follows s) {g : Agent} {c : Nat} {l : List (Nat × Nat)} : s₀.Follows (s.countWrites g c l) :=
  .foldl (fun _ _ h' => .ite (.countLoft h') h') h

theorem State.Follows.storeBytes (h : s₀.Follows s) {c a : Nat} {l : List Byte} : s₀.Follows (s.storeBytes c a l) :=
  .foldlFst (fun _ _ h' => .fst (.storeAt h')) (.fst h)

theorem State.Follows.copyOnWrite (h : s₀.Follows s) {c a n : Nat} : s₀.Follows (s.copyOnWrite c a n) := by
  unfold State.copyOnWrite
  split
  · exact h
  · exact .ite (.bump (.modCtx h)) h

theorem State.Follows.putBytes (h : s₀.Follows s) {c a : Nat} {l : List Byte} : s₀.Follows (s.putBytes c a l) :=
  .copyOnWrite (.storeBytes h)

theorem State.Follows.recordUe (h : s₀.Follows s) {a : Nat} {c : Option Nat} : s₀.Follows (s.recordUe a c) :=
  .deduct (.signal (.setObj (.setCnt (.setCnt (.setCnt (.setCnt (.bump h)))))))

theorem State.Follows.retireHbm (h : s₀.Follows s) {p : Nat} : s₀.Follows (s.retireHbm p) :=
  .ite h (.log (.deduct (.setRwp (.bump (.setHbmPage h)))))

theorem State.Follows.copyUe (h : s₀.Follows s) {x : Copy} : s₀.Follows (s.copyUe x) := .retireHbm (.bump (.dropCopy h))

/-! ### Sys2Proof/Machine/SaveArea.lean -/

theorem State.Follows.putSave (h : s₀.Follows s) {x : Ctx} {o : Nat} {l : List Byte} : s₀.Follows (s.putSave x o l) :=
  .foldl (fun _ _ h' => .ite h' (.setByte h')) h

theorem State.Follows.putTable (h : s₀.Follows s) {x : Ctx} {o n : Nat} {l : List (Nat × List Byte)} : s₀.Follows (s.putTable x o n l) :=
  .foldl (fun _ _ h' => .putSave h') h

theorem State.Follows.saveParked (h : s₀.Follows s) {c : Nat} : s₀.Follows (s.saveParked c) := .ite (.putTable (.zeroRange h)) h

theorem State.Follows.saveState (h : s₀.Follows s) {c : Nat} : s₀.Follows (s.saveState c) :=
  .putTable (.putTable (.putTable (.putTable (.putTable (.putSave (.foldl (fun _ _ h' => .zeroRange h') h))))))

theorem State.Follows.saveKept (h : s₀.Follows s) {x : Ctx} {l : List Nat} : s₀.Follows (s.saveKept x l) :=
  .foldl (fun _ _ h' => .foldl (fun _ _ h'' => .setByte h'') h') h

theorem State.Follows.loadKept (h : s₀.Follows s) {x : Ctx} {l : List Nat} : s₀.Follows (s.loadKept x l) := by
  unfold State.loadKept
  refine .foldl (fun _ _ h' => ?_) h
  split
  · exact h'
  · exact .ite h' (.setByte h')

/-! ### Sys2Proof/Machine/Queues.lean -/

theorem State.Follows.elapse (h : s₀.Follows s) {dt : Nat} : s₀.Follows (s.elapse dt) := .keep (.advance h)

theorem State.Follows.clearWaits (h : s₀.Follows s) {c : Nat} : s₀.Follows (s.clearWaits c) := h.keep

theorem State.Follows.admitList (h : s₀.Follows s) {l : List Nat} {stopped : Bool} : s₀.Follows (s.admitList l stopped) := by
  induction l generalizing s stopped with
  | nil => exact h
  | cons c l ih => exact .ite (ih (.setCtx h)) (ih (.ite h (.bump (.setCtx h))))

theorem State.Follows.admitTest (h : s₀.Follows s) : s₀.Follows s.admitTest := .admitList h

theorem State.Follows.arriveOpen (h : s₀.Follows s) {c : Nat} : s₀.Follows (s.arriveOpen c) := .ite (.admitTest (.setCtx h)) h

theorem State.Follows.noteResident (h : s₀.Follows s) : s₀.Follows s.noteResident := .ite h.keep h

theorem State.Follows.track (h : s₀.Follows s) {c : Nat} : s₀.Follows (s.track c) :=
  .ite (.setCtx (.arriveOpen h)) (.ite (.setCtx (.arriveOpen h)) (.arriveOpen h))

theorem State.Follows.setTail (h : s₀.Follows s) {c q v : Nat} : s₀.Follows (s.setTail c q v) :=
  .ite (.ite h (.bump h)) (.track (.setCtx (.ite h (.bump h))))

theorem State.Follows.setRingHead (h : s₀.Follows s) {c v : Nat} : s₀.Follows (s.setRingHead c v) := by
  unfold State.setRingHead
  exact .track (.setCtx (.ite h (.bump h)))

theorem State.Follows.doorWrite (h : s₀.Follows s) {c off v : Nat} : s₀.Follows (s.doorWrite c off v) :=
  .ite h (.ite (.ite (.setTail h) h) (.ite (.setRingHead h) h))

theorem State.Follows.completionEvent (h : s₀.Follows s) {c : Nat} {d : Done} {seq : Nat} : s₀.Follows (s.completionEvent c d seq) :=
  .ite (.signal (.foldlFst (fun _ _ h' => .fst (.eventTo h')) (.fst h))) (.foldlFst (fun _ _ h' => .fst (.eventTo h')) (.fst h))

theorem State.Follows.finish (h : s₀.Follows s) {c : Nat} {d : Done} : s₀.Follows (s.finish c d) :=
  .track (.ite (.completionEvent (.ite (.bump (.bump (.ite (.putBytes (.setCtx h)) (.setCtx h)))) (.bump (.ite (.putBytes (.setCtx h))
      (.setCtx h))))) (.ite (.bump (.bump (.ite (.putBytes (.setCtx h)) (.setCtx h)))) (.bump (.ite (.putBytes (.setCtx h)) (.setCtx
      h)))))

theorem State.Follows.finishHead (h : s₀.Follows s) {c q : Nat} {m : Cmd} {clamped : Bool} {code : Nat} : s₀.Follows (s.finishHead c q
    m clamped code) :=
  .finish (.setCtx (.ite (.bump h) h))

theorem State.Follows.finishRun (h : s₀.Follows s) {r : Run} {code : Nat} {aborted : Bool} : s₀.Follows (s.finishRun r code aborted) :=
  .finish h

theorem State.Follows.clearEngine (h : s₀.Follows s) {e : Nat} {p : Run → Bool} : s₀.Follows (s.clearEngine e p) := .setEngine h

theorem State.Follows.complete (h : s₀.Follows s) {e : Nat} {r : Run} {code : Nat} : s₀.Follows (s.complete e r code) :=
  .finishRun (.setEngine h)

theorem State.Follows.armTimer (h : s₀.Follows s) : s₀.Follows s.armTimer := by
  unfold State.armTimer
  refine .ite ?_ (.ite h (.ite (.requestTimer h) (.startPolling (.requestTimer h))))
  split
  · exact .releaseUnit h.keep
  · exact h.keep

theorem State.Follows.wakeParked (h : s₀.Follows s) {c : Nat} {sel : Parked → Bool} {stamp code : Nat} : s₀.Follows (s.wakeParked c sel
    stamp code) := by
  unfold State.wakeParked
  exact .armTimer (.track (.saveParked (.ite (.bumpBy (.bumpBy (.bumpBy (.bumpBy (.setCtx h))))) (.signal (.bumpBy (.bumpBy (.bumpBy
      (.bumpBy (.setCtx h)))))))))

theorem State.Follows.expireHeads (h : s₀.Follows s) : s₀.Follows s.expireHeads :=
  .foldl (fun _ _ h' => .ite h' (.track (.signal (.bumpBy (.foldl (fun _ _ h'' => .modCtx h'') h'))))) h

theorem State.Follows.expireWaits (h : s₀.Follows s) : s₀.Follows s.expireWaits :=
  .foldl (fun _ _ h' => .ite h' (.track (.saveParked (.signal (.bumpBy (.modCtx h')))))) (.expireHeads h)

theorem State.Follows.fillSlot (h : s₀.Follows s) {c m : Nat} {a : FillArgs} : s₀.Follows (s.fillSlot c m a) := by
  unfold State.fillSlot
  exact .wakeParked (.ite (.bump (.setCtx (.ite (.bump (.expireHeads h)) (.expireHeads h)))) (.setCtx (.ite (.bump (.expireHeads h))
      (.expireHeads h))))

/-! ### Sys2Proof/Machine/Send.lean -/

theorem State.Follows.sendCodewords (h : s₀.Follows s) {n : Nat} {l : List (List Nat)} : s₀.Follows (s.sendCodewords n l) := by
  induction l generalizing s with
  | nil => exact h
  | cons c l ih => exact ih (.push (.setLink h))

theorem State.Follows.startOnLink (h : s₀.Follows s) {n ty : Nat} {hd : FabHdr} {p : List Byte} : s₀.Follows (s.startOnLink n ty hd p) :=
  .sendCodewords (.countEvent (.push (.setLink h)))

theorem State.Follows.onLink (h : s₀.Follows s) {n ty : Nat} {hd : FabHdr} {p : List Byte} : s₀.Follows (s.onLink n ty hd p) :=
  .ite (.startOnLink h) (.setLink h)

theorem State.Follows.drainHeld (h : s₀.Follows s) {f n : Nat} {blocked : List Nat} : s₀.Follows (State.drainHeld f s n blocked) := by
  induction f generalizing s blocked with
  | zero => exact h
  | succ f ih =>
    unfold State.drainHeld
    dsimp only
    split
    · exact h
    · exact .ite (ih (.startOnLink (.setLink h))) (ih h)

theorem State.Follows.onPort (h : s₀.Follows s) {p d ty : Nat} {hd : FabHdr} {l : List Byte} : s₀.Follows (s.onPort p d ty hd l) :=
  .countEvent (.push h)

theorem State.Follows.route (h : s₀.Follows s) {d ty : Nat} {hd : FabHdr} {p : List Byte} : s₀.Follows (s.route d ty hd p).1 :=
  .iteFst (.fst (.onLink h.keep)) (.iteFst (.fst h) (.fst (.onPort h.keep)))

theorem State.Follows.findLeader (h : s₀.Follows s) : s₀.Follows s.findLeader := .ite h.keep h

theorem State.Follows.fabSend (h : s₀.Follows s) {d ty : Nat} {hd : FabHdr} {p : List Byte} : s₀.Follows (s.fabSend d ty hd p).1 :=
  .iteFst (.fst h) (.fst (.bump (.route h.keep)))

theorem State.Follows.routeAll (h : s₀.Follows s) {d ty : Nat} {l : List (FabHdr × List Byte)} : s₀.Follows (s.routeAll d ty l) :=
  .foldl (fun _ _ h' => .bump (.route h')) h

theorem State.Follows.sendCommand (h : s₀.Follows s) {d ty : Nat} {l : List (FabHdr × List Byte)} : s₀.Follows (s.sendCommand d ty l).1 :=
  .iteFst (.fst h) (.fst (.routeAll h.keep))

theorem State.Follows.dropPages (h : s₀.Follows s) {c queue : Nat} {p : PageOut → Bool} : s₀.Follows (s.dropPages c queue p) := h.keep

theorem State.Follows.respond (h : s₀.Follows s) {ty code : Nat} {m : FabHdr} : s₀.Follows (s.respond ty code m) :=
  .fabSend (.ite (.bump h) h)

theorem State.Follows.sendContribution (h : s₀.Follows s) {c d slot : Nat} {p : Preamble} {data : List Byte} : s₀.Follows
    (s.sendContribution c d slot p data) :=
  .fabSend h

theorem State.Follows.sendAborts (h : s₀.Follows s) {c slot kind opcode lost srcSlot : Nat} : s₀.Follows (s.sendAborts c slot kind
    opcode lost srcSlot) :=
  .ite h (.foldl (fun _ _ h' => .sendContribution h') (.setCtx h))

theorem State.Follows.endParked (h : s₀.Follows s) {c code : Nat} {aborted : Bool} : s₀.Follows (s.endParked c code aborted) := by
  unfold State.endParked
  refine .foldl (fun _ _ h' => ?_) (.setCtx h)
  split
  · exact .finishRun h'
  · exact .ite (.finish (.setCtx h')) h'

theorem State.Follows.endRuns (h : s₀.Follows s) {c code : Nat} {aborted : Bool} : s₀.Follows (s.endRuns c code aborted) :=
  .foldl (fun _ _ h' => .finishRun (.clearEngine h')) h

theorem State.Follows.abandonAs (h : s₀.Follows s) {c cause : Nat} {override : Option Nat} : s₀.Follows (s.abandonAs c cause override)
    := by
  unfold State.abandonAs
  dsimp only
  split
  · exact .log h
  · exact .log (.bump (.foldl (fun _ _ h' => .sendAborts h') (.endParked (.endRuns (.setCtx h)))))

theorem State.Follows.abandon (h : s₀.Follows s) {c cause : Nat} : s₀.Follows (s.abandon c cause) := .abandonAs h

theorem State.Follows.endWith (h : s₀.Follows s) {e : Nat} {r : Run} {code : Nat} : s₀.Follows (s.endWith e r code) :=
  .ite (.abandon (.complete h)) (.complete h)

theorem State.Follows.endRemote (h : s₀.Follows s) {c q slot code : Nat} : s₀.Follows (s.endRemote c q slot code).1 := by
  unfold State.endRemote
  split
  · exact .fst (.ite (.abandon (.finishRun (.clearEngine h))) (.finishRun (.clearEngine h)))
  · exact .iteFst (.fst (.wakeParked h)) (.fst h)

theorem State.Follows.memberLost (h : s₀.Follows s) {c slotNo : Nat} {m : Cmd} {lost : Nat} : s₀.Follows (s.memberLost c slotNo m lost)
    := by
  unfold State.memberLost
  dsimp only
  refine .abandon (.sendAborts (.bump (.signal (.fillSlot ?_))))
  split
  · exact .finishRun (.clearEngine h)
  · split
    · split
      · exact .finishRun (.modCtx h)
      · exact .modCtx h
    · exact h

theorem State.Follows.enterPeerReset (h : s₀.Follows s) {d : Nat} : s₀.Follows (s.enterPeerReset d) :=
  .ite h (.foldl (fun _ _ h' => .foldl (fun _ _ h'' => .ite (.memberLost h'') h'') h') (.foldl (fun _ _ h' => .ite (.fillSlot h') h')
      (.foldl (fun _ _ h' => .wakeParked h') (.foldl (fun _ _ h' => .finishRun (.clearEngine h')) (.signal (.findLeader h.keep))))))

/-! ### Sys2Proof/Machine/Prefetch.lean -/

theorem State.Follows.prefRecord (h : s₀.Follows s) {c b code : Nat} : s₀.Follows (s.prefRecord c b code) := .ite h (.putBytes (.setCtx
    h))

theorem State.Follows.prefDone (h : s₀.Follows s) {c b : Nat} : s₀.Follows (s.prefDone c b) := by
  unfold State.prefDone
  exact .track (.bump (.modCtx h))

theorem State.Follows.endPref (h : s₀.Follows s) {c b code : Nat} {f : Flight} : s₀.Follows (s.endPref c b code f) :=
  .prefDone (.ite (.prefRecord h) h)

theorem State.Follows.endFlights (h : s₀.Follows s) {b code : Nat} : s₀.Follows (s.endFlights b code) :=
  .foldl (fun _ _ h' => .foldl (fun _ _ h'' => .endPref h'') (.ite h' (.modCtx h'))) h

/-! ### Sys2Proof/Machine/FaultOps.lean -/

theorem State.Follows.enterOrdered (h : s₀.Follows s) {reason : Nat} : s₀.Follows (s.enterOrdered reason) := h.keep

theorem State.Follows.leaveOrdered (h : s₀.Follows s) : s₀.Follows s.leaveOrdered := h.keep

theorem State.Follows.bayOut (h : s₀.Follows s) {b : Nat} : s₀.Follows (s.bayOut b) :=
  .ite h (.log (.deductPermanent (.zeroBanks (.keep (.setBay (.endFlights h))))))

theorem State.Follows.mismatch (h : s₀.Follows s) {bay : Option Nat} : s₀.Follows (s.mismatch bay) := by
  unfold State.mismatch
  dsimp only
  split
  · exact .deduct h
  · exact .ite (.bayOut (.setBay (.deduct h))) (.setBay (.deduct h))

theorem State.Follows.killRuns (h : s₀.Follows s) {l : List Nat} : s₀.Follows (s.killRuns l) :=
  .foldl (fun _ _ h' => .finishRun (.clearEngine h')) h

theorem State.Follows.loseCounters (h : s₀.Follows s) {units : List Nat} : s₀.Follows (s.loseCounters units) := h.keep

theorem State.Follows.abandonAll (h : s₀.Follows s) {l : List Nat} {cause : Nat} : s₀.Follows (s.abandonAll l cause) :=
  .foldl (fun _ _ h' => .abandon h') h

theorem State.Follows.resetBay (h : s₀.Follows s) {b cause : Nat} : s₀.Follows (s.resetBay b cause) :=
  .setBay (.loseCounters (.zeroBanks (.keep (.endFlights (.killRuns (.abandonAll h))))))

theorem State.Follows.loseLoft (h : s₀.Follows s) {d : Nat} : s₀.Follows (s.loseLoft d) := .dropLines (.loseDirty h)

theorem State.Follows.resetDie (h : s₀.Follows s) {d cause : Nat} : s₀.Follows (s.resetDie d cause) := by
  unfold State.resetDie
  exact .recoveryOn (.setDie (.loseCounters (.keep (.foldl (fun _ _ h' => .setBay (.endFlights (.zeroBanks h'))) (.loseLoft (.killRuns
      (.abandonAll h)))))))

theorem State.Follows.addSuspects (h : s₀.Follows s) {b e : Nat} {l : List Nat} : s₀.Follows (s.addSuspects b e l) :=
  .ite (.setBay h) (.setBay h)

theorem State.Follows.nextSuspect (h : s₀.Follows s) {b : Nat} : s₀.Follows (s.nextSuspect b) := by
  unfold State.nextSuspect
  refine .ite h ?_
  split
  · exact .recoveryOn (.log (.bump (.setBay h)))
  · exact .ite (.setBay h) (.ite (.bayOut (.deduct (.setBay h))) (.deduct (.setBay h)))

theorem State.Follows.recoveryOff (h : s₀.Follows s) : s₀.Follows s.recoveryOff := .ite h (.releaseUnit h)

theorem State.Follows.endQuarantine (h : s₀.Follows s) {b : Nat} : s₀.Follows (s.endQuarantine b) :=
  .ite h (.recoveryOff (.nextSuspect (.setBay h)))

theorem State.Follows.leaveQuarantine (h : s₀.Follows s) {c : Nat} : s₀.Follows (s.leaveQuarantine c) :=
  .foldl (fun _ _ h' => .ite (.endQuarantine h') h') h

theorem State.Follows.startDump (h : s₀.Follows s) {cause : Nat} : s₀.Follows (s.startDump cause) :=
  .ite (.log (.bump (.countRefusal h))) (.enterOrdered (.keep (.requestUnit h)))

/-! ### Sys2Proof/Machine/Clocks.lean -/

theorem State.Follows.applyClock (h : s₀.Follows s) {d : Nat} : s₀.Follows (s.applyClock d) :=
  .ite (.setDie h) (.ite (.setDie h) (.setDie h))

theorem State.Follows.applyClocks (h : s₀.Follows s) : s₀.Follows s.applyClocks := .foldl (fun _ _ h' => .applyClock h') h

theorem State.Follows.setClockState (h : s₀.Follows s) {n : Nat} : s₀.Follows (s.setClockState n) :=
  .ite h (.ite (.signal (.keep (.signal h.keep))) (.signal h.keep))

theorem State.Follows.stepClock (h : s₀.Follows s) {d : Int} : s₀.Follows (s.stepClock d) :=
  .withStamp (.setCnt (.setCnt h)) (Nat.mod_lt _ (by decide))

theorem State.Follows.follow (h : s₀.Follows s) {d : Int} {state : Nat} : s₀.Follows (s.follow d state) :=
  .setClockState (.ite h.keep (.stepClock h))

theorem State.Follows.stopBallast (h : s₀.Follows s) : s₀.Follows s.stopBallast := h.keep

theorem State.Follows.addWear (h : s₀.Follows s) {d n : Nat} : s₀.Follows (s.addWear d n) :=
  .ite (.applyClock (.deductPermanent (.signal (.setDie (.stopBallast (.setDie h)))))) (.setDie h)

theorem State.Follows.requestWindows (h : s₀.Follows s) : s₀.Follows s.requestWindows := .keep (.requestTimer h)

theorem State.Follows.requestJobPin (h : s₀.Follows s) {k : Nat} : s₀.Follows (s.requestJobPin k) :=
  .ite (.ite (.requestUnit h) (.setCnt (.requestUnit h))) h

theorem State.Follows.disableLinks (h : s₀.Follows s) : s₀.Follows s.disableLinks :=
  .foldl (fun _ _ h' => .ite (.signal (.setLink h')) h') h

theorem State.Follows.afterBoot (h : s₀.Follows s) : s₀.Follows s.afterBoot :=
  .disableLinks (.requestJobPin (.requestJobPin (.requestWindows (.keep (.ite h (.foldl (fun _ _ h' => .addWear h') h))))))

/-! ### Sys2Proof/Machine/Pages.lean -/

theorem State.Follows.allocHbm (h : s₀.Follows s) {prefer : List Nat} {w : Spot} {use : PageUse} :
    s₀.Offers Prod.fst (s.allocHbm prefer w use) :=
  State.Offers.map (π := fun _ => s) (fun _ _ => h) fun _ h' => .setHbmPage h'

theorem State.Follows.allocMany (h : s₀.Follows s) {prefer : List Nat} {use : PageUse} {l : List Spot} :
    s₀.Offers Prod.fst (s.allocMany prefer use l) := by
  induction l generalizing s prefer with
  | nil => exact .some h
  | cons k l ih =>
    unfold State.allocMany
    split
    · exact .none
    · next a ha =>
      split
      · exact .none
      · next b hb => exact .some (ih (.allocHbm h a ha) b hb)

theorem State.Follows.takeSill (h : s₀.Follows s) {obj n : Nat} : s₀.Offers Prod.fst (s.takeSill obj n) := by
  induction n generalizing s with
  | zero => exact .some h
  | succ n ih =>
    unfold State.takeSill
    split
    · exact .none
    · split
      · exact .none
      · next a ha => exact .some (ih (.setSillPage h) a ha)

theorem State.Follows.allocSill (h : s₀.Follows s) {obj : Nat} {own : Option Nat} {n : Nat} :
    s₀.Offers Prod.fst (s.allocSill obj own n) := by
  unfold State.allocSill
  split
  · exact .none
  · exact .takeSill h

theorem State.Follows.zeroHbm (h : s₀.Follows s) {p : Nat} : s₀.Follows (s.zeroHbm p) := .setHbmPage h

theorem State.Follows.zeroSill (h : s₀.Follows s) {p : Nat} : s₀.Follows (s.zeroSill p) := .setSillPage (.dropCopy h)

theorem State.Follows.zeroUnnamed (h : s₀.Follows s) : s₀.Follows s.zeroUnnamed := h.keep

theorem State.Follows.freePages (h : s₀.Follows s) {o : Obj} : s₀.Follows (s.freePages o) :=
  .ite (.foldl (fun _ _ h' => .zeroHbm h') h) (.foldl (fun _ _ h' => .zeroSill h') h)

theorem State.Follows.freeObject (h : s₀.Follows s) {id : Nat} : s₀.Follows (s.freeObject id) := .setObject (.freePages h)

theorem State.Follows.noteStale (h : s₀.Follows s) {c a : Nat} : s₀.Follows (s.noteStale c a) := by
  unfold State.noteStale
  split
  · exact h
  · exact h.keep

theorem State.Follows.mapPage (h : s₀.Follows s) {c a entry : Nat} : s₀.Offers id (s.mapPage c a entry) := by
  unfold State.mapPage
  refine State.Offers.map (π := Prod.fst) ?_ fun _ h' => .coreWriteNat (.coreWriteNat h')
  split
  · exact State.Offers.map (.allocHbm (.noteStale h)) fun _ h' => .setCtx h'
  · exact .some (.noteStale h)

theorem State.Follows.changePte (h : s₀.Follows s) {c a : Nat} {f : Nat → Nat} : s₀.Follows (s.changePte c a f) := by
  unfold State.changePte
  dsimp only
  split
  · exact h
  · exact .coreWriteNat (.noteStale h)

theorem State.Follows.setRemote (h : s₀.Follows s) {c a n : Nat} {on : Bool} : s₀.Follows (s.setRemote c a n on) :=
  .foldl (fun _ _ h' => .changePte h') h

theorem State.Follows.listSill (h : s₀.Follows s) {p : Nat} : s₀.Follows (s.listSill p) := by
  unfold State.listSill
  exact .log (.deduct (.setRwp (.bump h)))

theorem State.Follows.moveSill (h : s₀.Follows s) {id i p : Nat} : s₀.Follows (s.moveSill id i p) := by
  unfold State.moveSill
  refine .ite h ?_
  split
  · exact h
  · exact .zeroSill (.foldl (fun _ _ h' => .changePte h') (.setObject (.setSillPage (.loadRange h))))

theorem State.Follows.retireSill (h : s₀.Follows s) {p : Nat} : s₀.Follows (s.retireSill p) := by
  unfold State.retireSill
  refine .ite h (.ite (.setSillPage (.ite h (.listSill (.setSillPage h)))) (.ite ?_ (.ite h (.listSill (.setSillPage h)))))
  split
  · exact .moveSill (.ite h (.listSill (.setSillPage h)))
  · exact .ite h (.listSill (.setSillPage h))

theorem State.Follows.fillSill (h : s₀.Follows s) {pages : List Nat} {b : List Byte} : s₀.Follows (s.fillSill pages b) :=
  .foldl (fun _ _ h' => .writeBytes h') h

theorem State.Follows.sealPages (h : s₀.Follows s) {pages : List Nat} {obj maps : Nat} : s₀.Follows (s.sealPages pages obj maps) :=
  .foldl (fun _ _ h' => .setSillPage h') h

theorem State.Follows.moveRetiring (h : s₀.Follows s) {id : Nat} : s₀.Follows (s.moveRetiring id) :=
  .ite h (.foldl (fun _ _ h' => .ite (.moveSill h') h') h)

theorem State.Follows.objectBad (h : s₀.Follows s) {id i : Nat} : s₀.Follows (s.objectBad id i) :=
  .ite (.setObject (.setCnt (.setCnt (.setCnt (.signal (.bump h)))))) (.setCnt (.setCnt (.setCnt (.signal (.bump h)))))

theorem State.Follows.refill (h : s₀.Follows s) {id i p : Nat} : s₀.Follows (s.refill id i p) := by
  unfold State.refill
  split
  · exact h
  · exact .zeroSill (.keep (.setObject (.takeSill h _ ‹_›)))

theorem State.Follows.sillBad (h : s₀.Follows s) {p : Nat} : s₀.Follows (s.sillBad p) := by
  unfold State.sillBad
  refine .ite (.setSillPage (.ite h (.listSill (.setSillPage h)))) ?_
  split
  · exact .ite h (.listSill (.setSillPage h))
  · exact .ite (.refill (.ite h (.listSill (.setSillPage h)))) (.ite (.objectBad (.ite h (.listSill (.setSillPage h)))) (.setCnt
      (.freeObject (.keep (.ite h (.listSill (.setSillPage h)))))))

theorem State.Follows.recordLoft (h : s₀.Follows s) {a : Nat} {c : Option Nat} : s₀.Follows (s.recordLoft a c) :=
  .deduct (.signal (.setObj (.setCnt (.setCnt (.setCnt (.setCnt h))))))

theorem State.Follows.loseLine (h : s₀.Follows s) {x : LoftLine} : s₀.Follows (s.loseLine x) := by
  unfold State.loseLine
  refine .ite (.dropLines h) ?_
  dsimp only
  split
  · exact .ite (.abandon (.bump (.zeroRange (.dropLines h)))) (.bump (.zeroRange (.dropLines h)))
  · exact .bump (.zeroRange (.dropLines h))

theorem State.Follows.loftData (h : s₀.Follows s) {a : Nat} {c : Option Nat} : s₀.Follows (s.loftData a c).1 := by
  unfold State.loftData
  split
  · exact .fst h
  · exact .fst (.loseLine (.recordLoft h))

theorem State.Follows.loftTag (h : s₀.Follows s) {a : Nat} {c : Option Nat} : s₀.Follows (s.loftTag a c).1 :=
  .iteFst (.fst h) (.fst (.foldl (fun _ _ h' => .loseLine h') (.recordLoft h)))

theorem State.Follows.memoryError (h : s₀.Follows s) {part : MemPart} {a : Nat} {c : Option Nat} : s₀.Follows (s.memoryError part a
    c).1 := by
  unfold State.memoryError
  split
  · exact .iteFst (.loftData h) (.fst h)
  · exact .iteFst (.loftTag h) (.fst h)
  · split
    · exact .fst (.copyUe h)
    · exact .iteFst (.fst (.retireHbm (.recordUe h))) (.iteFst (.fst (.sillBad (.recordUe h))) (.fst (.recordUe h)))

/-! ### Sys2Proof/Machine/Persist.lean -/

theorem State.Follows.setBank (h : s₀.Follows s) {k : Nat} {b : List Byte} : s₀.Follows (s.setBank k b) := .ite h.keep h.keep

theorem State.Follows.loadRecord (h : s₀.Follows s) {b : List Byte} : s₀.Follows (s.loadRecord b) :=
  .foldlFst (fun _ _ h' => .fst (.setObj h')) (.fst h)

theorem State.Follows.loadStore (h : s₀.Follows s) : s₀.Follows s.loadStore := by
  unfold State.loadStore
  dsimp only
  split
  · exact .setCnt (.setCnt (.loadRecord h.keep))
  · exact .signal (.setCnt (.setCnt h.keep))

/-! ### Sys2Proof/Machine/Reset.lean -/

theorem State.Follows.peerResetOn (h : s₀.Follows s) {n reset : Nat} : s₀.Follows (s.peerResetOn n reset) := .bump (.onLink h.keep)

theorem State.Follows.peerResetTo (h : s₀.Follows s) {l : List Nat} {reset : Nat} : s₀.Follows (s.peerResetTo l reset) :=
  .foldl (fun _ _ h' => .ite h' (.fabSend h')) h

theorem State.Follows.announce (h : s₀.Follows s) : s₀.Follows s.announce := .peerResetTo (.foldl (fun _ _ h' => .peerResetOn h') h)

theorem State.Follows.warmSill (h : s₀.Follows s) : s₀.Follows s.warmSill := .foldl (fun _ _ h' => .ite (.freeObject h') h') h

theorem State.Follows.closeAll (h : s₀.Follows s) : s₀.Follows s.closeAll := .keep (.zeroUnnamed (.warmSill h.keep))

theorem State.Follows.clearBench (h : s₀.Follows s) : s₀.Follows s.clearBench := h.withMem State.clearBench_wf

theorem State.Follows.failTest (h : s₀.Follows s) {ran : Bool} : s₀.Follows (s.failTest ran) := .ite (.setCnt (.setCnt h)) h

theorem State.Follows.signalDrops (h : s₀.Follows t) {s : State} : s₀.Follows (t.signalDrops s) :=
  .foldl (fun _ _ h' => .ite h' (.signal h')) (.foldl (fun _ _ h' => .ite h' (.signal h')) (.foldl (fun _ _ h' => .ite h' (.signal h')) h))

theorem State.Follows.warmFields (h : s₀.Follows s) : s₀.Follows s.warmFields := .keep (.clearBench (.closeAll h))

theorem State.Follows.warmClear (h : s₀.Follows s) : s₀.Follows s.warmClear := .signalDrops (.warmFields h)

theorem State.Follows.enterWarmReset (h : s₀.Follows s) {cause : Nat} {announced dump : Bool} : s₀.Follows (s.enterWarmReset cause
    announced dump) := by
  unfold State.enterWarmReset
  split
  · exact .keep (.failTest (.warmClear (.setCnt (.setCnt (.recoveryOn (.log (.ite (.startDump (.warmFlush (.ite (.announce h) h)))
      (.warmFlush (.ite (.announce h) h)))))))))
  · exact .keep (.failTest (.warmClear (.setCnt (.setCnt (.recoveryOn (.log (.ite (.startDump (.warmFlush (.ite (.announce h) h)))
      (.warmFlush (.ite (.announce h) h)))))))))
  · exact .log h

theorem State.Follows.coldState (h : s₀.Follows s) {cause : Nat} : s₀.Follows (s.coldState cause) :=
  ⟨h.queue, h.output, fun _ => ⟨rfl, Nat.two_pow_pos 64⟩⟩

theorem State.Follows.enterColdReset (h : s₀.Follows s) {cause : Nat} : s₀.Follows (s.enterColdReset cause) := .ite h (.coldState h)

theorem State.Follows.setSlots (h : s₀.Follows s) {imageSlot : List Byte} : s₀.Follows (s.setSlots imageSlot) := h.keep

theorem State.Follows.zeroDevice (h : s₀.Follows s) {keep : Bool} : s₀.Follows (s.zeroDevice keep) :=
  .foldl (fun _ _ h' => .ite (.setHbmPage h') h') (.foldl (fun _ _ h' => .ite (.setHbmPage h') h')
    (h.withMem (Assoc.wf_clearRange _ _ _ _)))

theorem State.Follows.loadConfig (h : s₀.Follows s) : s₀.Follows s.loadConfig := h.keep

theorem State.Follows.loadSettings (h : s₀.Follows s) : s₀.Follows s.loadSettings := .ite h.keep (.loadModes (.keep h.keep))

theorem State.Follows.startFirmware (h : s₀.Follows s) {img : List Byte} : s₀.Follows (s.startFirmware img) :=
  .afterBoot (.recoveryOff (.setCnt (.keep (.leaveOrdered (.loadSettings (.loadConfig (.setSlots (.setObj (.setObj h)))))))))

theorem State.Follows.recoveryRequest (h : s₀.Follows s) : s₀.Follows s.recoveryRequest := .keep (.efythSend h)

theorem State.Follows.startRecovery (h : s₀.Follows s) {code source : Nat} : s₀.Follows (s.startRecovery code source) :=
  .recoveryRequest (.keep (.enterOrdered (.recoveryOn (.setCnt (.setCnt h)))))

theorem State.Follows.bootImage (h : s₀.Follows s) {img : List Byte} {keepStaging : Bool} : s₀.Follows (s.bootImage img keepStaging) :=
  .ite (.startFirmware (.zeroDevice (.setCnt h))) (.startRecovery h)

theorem State.Follows.shedAtBoot (h : s₀.Follows s) : s₀.Follows s.shedAtBoot := .ite h (.signal (.bump (.applyClocks h.keep)))

theorem State.Follows.warmBoot (h : s₀.Follows s) : s₀.Follows s.warmBoot :=
  .ite h (.bootImage (.keep (.setObj (.setCnt (.setObj (.shedAtBoot (.keep (.ite (.zeroRange h) h))))))))

theorem State.Follows.firmwareFault (h : s₀.Follows s) : s₀.Follows s.firmwareFault := .enterWarmReset (.bump (.log (.deduct h)))

/-! ### Sys2Proof/Machine/Values.lean -/

theorem State.Follows.clampNum (h : s₀.Follows s) {idx sub v : Nat} : s₀.Follows (s.clampNum idx sub v).1 := by
  unfold State.clampNum
  split
  · exact .fst h
  · exact .iteFst (.fst h) (.fst (.countClamp h))

/-! ### Sys2Proof/Machine/Boot.lean -/

theorem State.Follows.testUnits (h : s₀.Follows s) {good : List Nat} : s₀.Follows (s.testUnits good) :=
  .foldl (fun _ _ h' => .ite h' (.setCnt h')) h.keep

theorem State.Follows.sample (h : s₀.Follows s) {env : BootEnv} : s₀.Follows (s.sample env) := h.withStamp (by decide : 0 < 2 ^ 64)

theorem State.Follows.noteFlash (h : s₀.Follows s) {flash : Option (List Byte)} : s₀.Follows (s.noteFlash flash) := by
  unfold State.noteFlash
  split
  · exact .setObj h
  · exact h

theorem State.Follows.romSlots (h : s₀.Follows s) : s₀.Follows s.romSlots := h.keep

theorem State.Follows.stopBoot (h : s₀.Follows s) : s₀.Follows s.stopBoot := .requestUnit (.foldl (fun _ _ h' => .signal (.bump h'))
    h.keep)

theorem State.Follows.holdBoot (h : s₀.Follows s) : s₀.Follows s.holdBoot := h.keep

theorem State.Follows.bootFrom (h : s₀.Follows s) : s₀.Follows s.bootFrom :=
  .ite (.startRecovery (.loadStore h)) (.bootImage (.loadStore h))

theorem State.Follows.bootRom (h : s₀.Follows s) {env : BootEnv} : s₀.Follows (s.bootRom env) :=
  .ite (.stopBoot (.ite (.log (.ite (.setCnt (.shedAtBoot (.romSlots (.testUnits (.noteFlash (.enterOrdered (.sample h)))))))
      (.shedAtBoot (.romSlots (.testUnits (.noteFlash (.enterOrdered (.sample h)))))))) (.ite (.setCnt (.shedAtBoot (.romSlots
      (.testUnits (.noteFlash (.enterOrdered (.sample h))))))) (.shedAtBoot (.romSlots (.testUnits (.noteFlash (.enterOrdered (.sample
      h))))))))) (.ite (.holdBoot (.ite (.log (.ite (.setCnt (.shedAtBoot (.romSlots (.testUnits (.noteFlash (.enterOrdered (.sample
      h))))))) (.shedAtBoot (.romSlots (.testUnits (.noteFlash (.enterOrdered (.sample h)))))))) (.ite (.setCnt (.shedAtBoot (.romSlots
      (.testUnits (.noteFlash (.enterOrdered (.sample h))))))) (.shedAtBoot (.romSlots (.testUnits (.noteFlash (.enterOrdered (.sample
      h))))))))) (.bootFrom (.ite (.log (.ite (.setCnt (.shedAtBoot (.romSlots (.testUnits (.noteFlash (.enterOrdered (.sample h)))))))
      (.shedAtBoot (.romSlots (.testUnits (.noteFlash (.enterOrdered (.sample h)))))))) (.ite (.setCnt (.shedAtBoot (.romSlots
      (.testUnits (.noteFlash (.enterOrdered (.sample h))))))) (.shedAtBoot (.romSlots (.testUnits (.noteFlash (.enterOrdered (.sample
      h))))))))))

theorem State.Follows.drawEpochs (h : s₀.Follows s) {l : List Nat} : s₀.Follows (s.drawEpochs l) := h.keep

theorem State.leads_execColdBoot (h : s₀.Follows s) {dt : Nat} {env : BootEnv} : s₀.Leads (execColdBoot dt env s) :=
  .next (.ite (.drawEpochs (.bootRom (.elapse h))) (.elapse h))

theorem State.leads_execBootCtlUpdate (h : s₀.Follows s) {dt v : Nat} {_place : Placement} : s₀.Leads (execBootCtlUpdate dt v _place s)
    := by
  unfold execBootCtlUpdate
  refine .next (.ite ?_ (.elapse h))
  split
  · exact .bootImage (.loadStore (.elapse h))
  · exact .startRecovery (.loadStore (.elapse h))
  · exact .elapse h

theorem State.Follows.recovered (h : s₀.Follows s) {img : List Byte} : s₀.Follows (s.recovered img) :=
  .ite (.signal (.setCnt (.setObj (.keep (.startFirmware (.zeroDevice (.setCnt h))))))) (.keep (.log h))

theorem State.Follows.updateFlash (h : s₀.Follows s) {img : List Byte} {back : Option (List Byte)} : s₀.Follows (s.updateFlash img
    back) := by
  unfold State.updateFlash
  refine .ite (.setCnt (.setCnt h)) ?_
  split
  · exact .setCnt (.setCnt h.keep)
  · exact .signal (.setObj (.setCnt (.setCnt h.keep)))

theorem State.Follows.fetchedImage (h : s₀.Follows s) : s₀.Follows s.fetchedImage := .ite (.updateFlash h.keep) (.recovered h)

theorem State.Follows.nextWindow (h : s₀.Follows s) : s₀.Follows s.nextWindow :=
  .ite (.fetchedImage h.keep) (.recoveryRequest (.keep h.keep))

theorem State.leads_execRecoveryData (h : s₀.Follows s) {dt : Nat} {msg : EfythMsg} : s₀.Leads (execRecoveryData dt msg s) :=
  .next (.ite (.ite (.nextWindow (.keep (.bump (.elapse h)))) (.keep (.bump (.elapse h)))) (.elapse h))

theorem State.leads_execRecoveryWindowTimeout (h : s₀.Follows s) {dt : Nat} : s₀.Leads (execRecoveryWindowTimeout dt s) :=
  .next (.ite (.recoveryRequest (.ite (.log (.elapse h)) (.elapse h))) (.elapse h))

theorem State.leads_execRecoveryFetchRestart (h : s₀.Follows s) {dt : Nat} : s₀.Leads (execRecoveryFetchRestart dt s) :=
  .next (.ite (.recoveryRequest (.keep (.elapse h))) (.elapse h))

theorem State.Follows.actFirmwareUpdate (h : s₀.Follows s) {len : Nat} {back : Option (List Byte)} : s₀.Follows (s.actFirmwareUpdate
    len back) := by
  unfold State.actFirmwareUpdate
  exact .updateFlash (.clampNum h)

theorem State.leads_execFirmwareUpdate (h : s₀.Follows s) {dt len : Nat} {readBack : Bool} : s₀.Leads (execFirmwareUpdate dt len
    readBack s) :=
  .next (.whenUp (.elapse h) (fun _ h' => .ite h' (.actFirmwareUpdate h')))

theorem State.Follows.actFirmwareFetch (h : s₀.Follows s) {mac : Nat} {back : Option (List Byte)} : s₀.Follows (s.actFirmwareFetch mac
    back) :=
  .recoveryRequest (.keep (.setCnt (.clampNum h)))

theorem State.leads_execFirmwareUpdateFetch (h : s₀.Follows s) {dt mac : Nat} {left : List Byte} {readBack : Bool} : s₀.Leads
    (execFirmwareUpdateFetch dt mac left readBack s) :=
  .next (.whenUp (.elapse h) (fun _ h' => .ite h' (.actFirmwareFetch h')))

theorem State.Follows.actRaiseMin (h : s₀.Follows s) {v : Nat} : s₀.Follows (s.actRaiseMin v).1 := by
  unfold State.actRaiseMin
  exact .iteFst (.fst (.clampNum h)) (.fst (.keep (.clampNum h)))

theorem State.leads_execRaiseMinSecurity (h : s₀.Follows s) {dt v : Nat} : s₀.Leads (execRaiseMinSecurity dt v s) :=
  .next (.whenUp (.elapse h) (fun _ h' => .actRaiseMin h'))

theorem State.Follows.actDebugLock (h : s₀.Follows s) {v : Nat} : s₀.Follows (s.actDebugLock v) := .keep (.clampNum h)

theorem State.leads_execDebugLockBlow (h : s₀.Follows s) {dt v : Nat} : s₀.Leads (execDebugLockBlow dt v s) :=
  .next (.whenUp (.elapse h) (fun _ h' => .actDebugLock h'))

theorem State.Follows.actExtend (h : s₀.Follows s) {val : List Byte} : s₀.Follows (s.actExtend val) := .keep (.ite h (.countClamp h))

theorem State.leads_execExtendSlot (h : s₀.Follows s) {dt : Nat} {val : List Byte} : s₀.Leads (execExtendSlot dt val s) :=
  .next (.whenUp (.elapse h) (fun _ h' => .actExtend h'))

/-! ### Sys2Proof/Machine/Engine.lean -/

theorem State.Follows.heatAll (h : s₀.Follows s) {g : Agent} {c : Nat} {l : List (Nat × Nat)} : s₀.Follows (s.heatAll g c l) :=
  .foldl (fun _ _ h' => .heatRead h') h

theorem State.Follows.engineWrite (h : s₀.Follows s) {c a : Nat} {l : List Byte} : s₀.Follows (s.engineWrite c a l) :=
  .ite (.putBytes h) (.foldl (fun _ _ h' => .doorWrite h') h)

theorem State.Follows.writeAll (h : s₀.Follows s) {c : Nat} {l : List (Nat × List Byte)} : s₀.Follows (s.writeAll c l) :=
  .foldl (fun _ _ h' => .engineWrite h') h

theorem State.Follows.reportAccess (h : s₀.Follows s) {e c code : Nat} : s₀.Follows (s.reportAccess e c code) :=
  .ite (.ite (.signal (.bump h)) (.bump h)) h

theorem State.Follows.onRun (h : s₀.Follows s) {e : Nat} {p : Cmd → Bool} {f : State → Run → State} (hf : ∀ t x1, s₀.Follows t →
    s₀.Follows (f t x1)) : s₀.Follows (s.onRun e p f) := by
  unfold State.onRun
  refine .whenUp h (fun _ h' => ?_)
  split
  · exact h'
  · refine .ite ?_ h'
    split
    · exact .endWith h'
    · exact hf _ _ h'

theorem State.Follows.endAccess (h : s₀.Follows s) {e : Nat} {r : Run} {code : Nat} : s₀.Follows (s.endAccess e r code) :=
  .endWith (.reportAccess h)

theorem State.Follows.reactMismatch (h : s₀.Follows s) {e c code : Nat} : s₀.Follows (s.reactMismatch e c code) :=
  .ite (.deduct (.signal (.ite (.bump h) (.ite (.bump h) h)))) (.mismatch (.signal (.ite (.bump h) (.ite (.bump h) h))))

theorem State.Follows.endMismatch (h : s₀.Follows s) {e : Nat} {r : Run} {code : Nat} : s₀.Follows (s.endMismatch e r code) :=
  .endWith (.reactMismatch h)

theorem State.Follows.draw (h : s₀.Follows s) : s₀.Follows (s.draw).1 := .fst h.keep

theorem State.Follows.writeSome (h : s₀.Follows s) {c : Nat} {l : List (Nat × List Byte)} : s₀.Follows (s.writeSome c l) :=
  .writeAll (.draw h)

theorem State.Follows.meetUe (h : s₀.Follows s) {r : Run} {d : Option Diag} : s₀.Follows (s.meetUe r d).1 := by
  unfold State.meetUe
  split
  · exact .memoryError h
  · exact .fst h

theorem State.Follows.countPlaner (h : s₀.Follows s) {c : PCount} : s₀.Follows (s.countPlaner c) :=
  .ite (.ite (.ite (.ite (.ite h (.bumpBy h)) (.bumpBy (.ite h (.bumpBy h)))) (.bumpBy (.ite (.ite h (.bumpBy h)) (.bumpBy (.ite h
      (.bumpBy h)))))) (.bumpBy (.ite (.ite (.ite h (.bumpBy h)) (.bumpBy (.ite h (.bumpBy h)))) (.bumpBy (.ite (.ite h (.bumpBy h))
      (.bumpBy (.ite h (.bumpBy h)))))))) (.bumpBy (.ite (.ite (.ite (.ite h (.bumpBy h)) (.bumpBy (.ite h (.bumpBy h)))) (.bumpBy
      (.ite (.ite h (.bumpBy h)) (.bumpBy (.ite h (.bumpBy h)))))) (.bumpBy (.ite (.ite (.ite h (.bumpBy h)) (.bumpBy (.ite h (.bumpBy
      h)))) (.bumpBy (.ite (.ite h (.bumpBy h)) (.bumpBy (.ite h (.bumpBy h)))))))))

theorem State.Follows.countSome (h : s₀.Follows s) {c : PCount} : s₀.Follows (s.countSome c) := .countPlaner (.draw h)

/-! ### Sys2Proof/Machine/Rows.lean -/

theorem State.leads_execTrainingCountersClear (h : s₀.Follows s) {dt v : Nat} : s₀.Leads (execTrainingCountersClear dt v s) :=
  .next (.whenUp (.elapse h) (fun _ h' => .execClear h'))

theorem State.Follows.accumulateRow (h : s₀.Follows s) {c a : Nat} {l : List Nat} : s₀.Follows (s.accumulateRow c a l) :=
  .ite h (.countPlaner (.engineWrite h))

theorem State.Follows.runRow (h : s₀.Follows s) {c op : Nat} {t : RowCmd} {keyed : Bool} {r : Nat} : s₀.Follows (s.runRow c op t keyed
    r) :=
  .accumulateRow (.accumulateRow (.countPlaner (.engineWrite h)))

theorem State.Follows.runRows (h : s₀.Follows s) {c op : Nat} {t : RowCmd} {keyed : Bool} {n : Nat} : s₀.Follows (s.runRows c op t
    keyed n) :=
  .foldl (fun _ _ h' => .runRow h') h

theorem State.Follows.rowCommand (h : s₀.Follows s) {e op : Nat} {diag : Option Diag} : s₀.Follows (s.rowCommand e op diag) := by
  unfold State.rowCommand
  refine .onRun h (fun _ _ h' => .ite (.endAccess h') ?_)
  dsimp only
  split
  · exact .ite (.endWith (.runRows (.draw (.memoryError (.countWrites (.heatAll h')))))) (.endWith (.runRows (.memoryError
      (.countWrites (.heatAll h')))))
  · exact .endMismatch (.runRows (.draw (.countWrites (.heatAll h'))))
  · exact .ite (.endMismatch (.runRows (.draw (.countWrites (.heatAll h'))))) (.endWith (.runRows (.countWrites (.heatAll h'))))
  · exact .endWith (.runRows (.countWrites (.heatAll h')))

theorem State.leads_execRmsForward (h : s₀.Follows s) {dt e : Nat} {diag : Option Diag} : s₀.Leads (execRmsForward dt e diag s) :=
  .next (.rowCommand (.elapse h))

theorem State.leads_execRmsBackward (h : s₀.Follows s) {dt e : Nat} {diag : Option Diag} : s₀.Leads (execRmsBackward dt e diag s) :=
  .next (.rowCommand (.elapse h))

theorem State.leads_execLayerForward (h : s₀.Follows s) {dt e : Nat} {diag : Option Diag} : s₀.Leads (execLayerForward dt e diag s) :=
  .next (.rowCommand (.elapse h))

theorem State.leads_execLayerBackward (h : s₀.Follows s) {dt e : Nat} {diag : Option Diag} : s₀.Leads (execLayerBackward dt e diag s) :=
  .next (.rowCommand (.elapse h))

theorem State.leads_execSoftmaxForward (h : s₀.Follows s) {dt e : Nat} {diag : Option Diag} : s₀.Leads (execSoftmaxForward dt e diag s) :=
  .next (.rowCommand (.elapse h))

theorem State.leads_execSoftmaxBackward (h : s₀.Follows s) {dt e : Nat} {diag : Option Diag} : s₀.Leads (execSoftmaxBackward dt e diag
    s) :=
  .next (.rowCommand (.elapse h))

theorem State.Follows.addElem (h : s₀.Follows s) {c src dst i : Nat} : s₀.Follows (s.addElem c src dst i) := .countPlaner (.engineWrite h)

theorem State.Follows.addElems (h : s₀.Follows s) {c src dst n : Nat} : s₀.Follows (s.addElems c src dst n) :=
  .foldl (fun _ _ h' => .addElem h') h

theorem State.leads_execFp32Add (h : s₀.Follows s) {dt e : Nat} {diag : Option Diag} : s₀.Leads (execFp32Add dt e diag s) := by
  unfold execFp32Add
  refine .next (.onRun (.elapse h) (fun _ _ h' => .ite (.endAccess h') ?_))
  dsimp only
  split
  · exact .ite (.endWith (.addElems (.draw (.memoryError (.countWrites (.heatAll h')))))) (.endWith (.addElems (.memoryError
      (.countWrites (.heatAll h')))))
  · exact .endMismatch (.addElems (.draw (.countWrites (.heatAll h'))))
  · exact .endWith (.addElems (.countWrites (.heatAll h')))

/-! ### Sys2Proof/Machine/Update.lean -/

theorem State.Follows.writeReport (h : s₀.Follows s) {c : Nat} {b : List Byte} : s₀.Follows (s.writeReport c b) := by
  unfold State.writeReport
  dsimp only
  split
  · exact h
  · exact .ite h (.modCtx (.putBytes h))

theorem State.Follows.layerReport (h : s₀.Follows s) {c layer : Nat} {clipped skipped : Bool} : s₀.Follows (s.layerReport c layer
    clipped skipped) :=
  .ite (.writeReport h) h

theorem State.Follows.endUpdate (h : s₀.Follows s) {e : Nat} {r : Run} {code : Nat} : s₀.Follows (s.endUpdate e r code) :=
  .endWith (.ite (.bump h) h)

theorem State.Follows.updNote (h : s₀.Follows s) {e c a : Nat} {q : Recipe} {su sw : Nat} {clipped skipped : Bool} : s₀.Follows
    (s.updNote e c a q su sw clipped skipped) :=
  .ite (.modCtx h) (.layerReport (.modCtx h))

theorem State.Follows.updError {e c : Nat} {m : State × Bool} {stop whole : State → State} (h : s₀.Follows m.1)
    (hstop : ∀ t, s₀.Follows t → s₀.Follows (stop t)) (hwhole : ∀ t, s₀.Follows t → s₀.Follows (whole t)) :
    s₀.Follows (updError e c m stop whole) :=
  .ite (hstop _ (.signal h)) (hwhole _ h)

theorem State.Follows.runUpdate (h : s₀.Follows s) {e : Nat} {r : Run} {q : Recipe} {t : Tensor × Tensor × Option Tensor × Option
    Tensor} {diag : Option Diag} : s₀.Follows (s.runUpdate e r q t diag) := by
  unfold State.runUpdate
  refine .ite ?_ (.ite (.endUpdate (.reportAccess h)) ?_)
  · dsimp only
    split
    · exact .updError (.memoryError h) (fun _ h' => .endWith h') (fun _ h' => .endUpdate (.updNote (.ite h' (.bump (.modCtx h')))))
    · exact .endUpdate (.updNote (.ite h (.bump (.modCtx h))))
  · dsimp only
    split
    · exact .updError (.fst (.mismatch (.heatAll h))) (fun _ h' => .endWith (.writeSome h')) (fun _ h' => .endUpdate (.updNote
        (.countEvent (.ite (.bumpBy (.bumpBy (.ite (.bump (.modCtx (.putBytes (.writeAll h')))) (.putBytes (.writeAll h'))))) (.bumpBy
        (.bumpBy (.bumpBy (.ite (.bump (.modCtx (.putBytes (.writeAll h')))) (.putBytes (.writeAll h'))))))))))
    · exact .updError (.memoryError (.heatAll h)) (fun _ h' => .endWith (.writeSome h')) (fun _ h' => .endUpdate (.updNote (.countEvent
        (.ite (.bumpBy (.bumpBy (.ite (.bump (.modCtx (.putBytes (.writeAll h')))) (.putBytes (.writeAll h'))))) (.bumpBy (.bumpBy
        (.bumpBy (.ite (.bump (.modCtx (.putBytes (.writeAll h')))) (.putBytes (.writeAll h'))))))))))
    · exact .endUpdate (.updNote (.countEvent (.ite (.bumpBy (.bumpBy (.ite (.bump (.modCtx (.putBytes (.writeAll (.heatAll h)))))
        (.putBytes (.writeAll (.heatAll h)))))) (.bumpBy (.bumpBy (.bumpBy (.ite (.bump (.modCtx (.putBytes (.writeAll (.heatAll h)))))
        (.putBytes (.writeAll (.heatAll h))))))))))

theorem State.leads_execUpdate (h : s₀.Follows s) {dt e : Nat} {diag : Option Diag} : s₀.Leads (execUpdate dt e diag s) := by
  unfold execUpdate
  refine .next (.onRun (.elapse h) (fun _ _ h' => .ite (.endUpdate (.reportAccess h')) (.ite (.endUpdate h') ?_)))
  dsimp only
  split
  · exact .endUpdate h'
  · exact .ite (.ite (.endUpdate h') (.runUpdate h')) (.ite (.endUpdate h') h')

/-! ### Sys2Proof/Machine/Fault.lean -/

theorem State.Follows.bayHang (h : s₀.Follows s) {b e : Nat} : s₀.Follows (s.bayHang b e) := by
  unfold State.bayHang
  refine .resetBay (.addSuspects ?_)
  split
  · exact .setBay (.abandonAs (.log (.bump (.setBay h))))
  · exact h

theorem State.leads_execHangDetected (h : s₀.Follows s) {dt e : Nat} : s₀.Leads (execHangDetected dt e s) := by
  unfold execHangDetected
  refine .next (.whenUp (.elapse h) (fun _ h' => ?_))
  split
  · exact h'
  · exact .ite h' (.ite (.bayHang (.startDump (.signal (.log (.bump h'))))) (.ite (.resetDie (.startDump (.signal (.log (.bump h')))))
      (.enterWarmReset (.startDump (.signal (.log (.bump h')))))))

theorem State.leads_execQuarantineLimit (h : s₀.Follows s) {dt bay : Nat} : s₀.Leads (execQuarantineLimit dt bay s) :=
  .next (.whenUp (.elapse h) (fun _ h' => .ite (.endQuarantine h') h'))

theorem State.leads_execHeartbeatKick (h : s₀.Follows s) {dt : Nat} : s₀.Leads (execHeartbeatKick dt s) :=
  .next (.whenUp (.elapse h) (fun _ h' => .setCnt (.efythSend (.keep h'))))

theorem State.leads_execWatchdogExpiry (h : s₀.Follows s) {dt : Nat} : s₀.Leads (execWatchdogExpiry dt s) :=
  .next (.whenUp (.elapse h) (fun _ h' => .ite (.ite (.enterWarmReset (.deduct (.signal (.bump (.keep h'))))) (.deduct (.signal (.bump
      (.keep h'))))) h'))

theorem State.leads_execWatchdogGraceExpiry (h : s₀.Follows s) {dt : Nat} : s₀.Leads (execWatchdogGraceExpiry dt s) := by
  unfold execWatchdogGraceExpiry
  refine .next (.whenUp (.elapse h) (fun _ h' => ?_))
  split
  · exact .ite (.enterWarmReset h') h'
  · exact h'

theorem State.Follows.clampUnit (h : s₀.Follows s) {u last : Nat} : s₀.Follows (s.clampUnit u last).1 :=
  .iteFst (.fst h) (.fst (.countClamp h))

theorem State.Follows.actBayReset (h : s₀.Follows s) {bay : Nat} : s₀.Follows (s.actBayReset bay) :=
  .ite (.log (.clampUnit h)) (.resetBay (.log (.clampUnit h)))

theorem State.leads_execBayReset (h : s₀.Follows s) {dt bay : Nat} : s₀.Leads (execBayReset dt bay s) :=
  .next (.whenUp (.elapse h) (fun _ h' => .actBayReset h'))

theorem State.Follows.dieResetFor (h : s₀.Follows s) {d cause : Nat} : s₀.Follows (s.dieResetFor d cause) :=
  .ite (.log h) (.resetDie (.log h))

theorem State.Follows.actDieReset (h : s₀.Follows s) {d : Nat} : s₀.Follows (s.actDieReset d) := .dieResetFor (.clampUnit h)

theorem State.leads_execBeamDieReset (h : s₀.Follows s) {dt die : Nat} : s₀.Leads (execBeamDieReset dt die s) :=
  .next (.whenUp (.elapse h) (fun _ h' => .actDieReset h'))

theorem State.leads_execWarmReset (h : s₀.Follows s) {dt : Nat} : s₀.Leads (execWarmReset dt s) :=
  .next (.whenUp (.elapse h) (fun _ h' => .enterWarmReset h'))

theorem State.Follows.actColdReset (h : s₀.Follows s) : s₀.Follows s.actColdReset := .enterColdReset (.announce h)

theorem State.leads_execColdReset (h : s₀.Follows s) {dt : Nat} : s₀.Leads (execColdReset dt s) :=
  .next (.whenUp (.elapse h) (fun _ h' => .actColdReset h'))

theorem State.Follows.bayBack (h : s₀.Follows s) {b : Nat} : s₀.Follows (s.bayBack b) := .ite (.nextSuspect (.setBay h)) h

theorem State.Follows.dieBack (h : s₀.Follows s) {d : Nat} : s₀.Follows (s.dieBack d) :=
  .ite (.recoveryOff (.foldl (fun _ _ h' => .bayBack h') (.setDie h.keep))) h

theorem State.Follows.completeReset (h : s₀.Follows s) {domain unit : Nat} : s₀.Follows (s.completeReset domain unit) :=
  .ite (.whenUp h (fun _ h' => .bayBack h')) (.ite (.whenUp h (fun _ h' => .dieBack h')) (.ite (.ite h (.warmBoot h)) h))

theorem State.leads_execResetComplete (h : s₀.Follows s) {dt domain unit : Nat} {_place : Placement} : s₀.Leads (execResetComplete dt
    domain unit _place s) :=
  .next (.completeReset (.elapse h))

theorem State.Follows.actDump (h : s₀.Follows s) {v : Nat} : s₀.Follows (s.actDump v) :=
  .ite h (.ite (.startDump (.clampNum h)) (.keep (.startDump (.clampNum h))))

theorem State.leads_execCrashDumpStart (h : s₀.Follows s) {dt : Nat} : s₀.Leads (execCrashDumpStart dt s) :=
  .next (.whenUp (.elapse h) (fun _ h' => .actDump h'))

-- Unfolded at its name, and its match taken apart by a name for what is matched: the kernel would else run the search for free pages.
theorem State.Follows.keepDump (h : s₀.Follows s) {content : List Byte} : s₀.Follows (s.keepDump content) := by
  conv in State.keepDump => delta State.keepDump
  extract_lets -underBinder +onlyGivenNames id
  generalize ho : s.allocSill _ _ _ = o
  cases o with
  | none => exact .log h
  | some a =>
    refine .log (.bump (.setCnt (.setCnt (.foldl (fun _ _ h' => .freeObject h') (.keep (.moveRetiring ?_))))))
    exact .setObject (.sealPages (.fillSill (.allocSill h a ho)))

theorem State.Follows.endDump (h : s₀.Follows s) {content : List Byte} : s₀.Follows (s.endDump content) := by
  unfold State.endDump
  dsimp only
  exact .signal (.ite (.leaveOrdered (.releaseUnit (.keepDump h.keep))) (.releaseUnit (.keepDump h.keep)))

theorem State.leads_execCrashDumpSealed (h : s₀.Follows s) {dt : Nat} {content : List Byte} : s₀.Leads (execCrashDumpSealed dt content
    s) :=
  .next (.ite (.endDump (.elapse h)) (.elapse h))

theorem State.Follows.actDumpCopy (h : s₀.Follows s) {n : Nat} : s₀.Follows (s.actDumpCopy n) := by
  unfold State.actDumpCopy
  dsimp only
  split
  · exact .clampNum h
  · exact .coreWrite (.clampNum h)

theorem State.leads_execCrashDumpCopy (h : s₀.Follows s) {dt n : Nat} : s₀.Leads (execCrashDumpCopy dt n s) :=
  .next (.whenUp (.elapse h) (fun _ h' => .actDumpCopy h'))

theorem State.Follows.actFatalAck (h : s₀.Follows s) {v : Nat} : s₀.Follows (s.actFatalAck v) := .releaseUnit (.keep (.clampNum h))

theorem State.leads_execFatalAck (h : s₀.Follows s) {dt v : Nat} : s₀.Leads (execFatalAck dt v s) :=
  .next (.whenUp (.elapse h) (fun _ h' => .actFatalAck h'))

theorem State.leads_execHealthRestoreTick (h : s₀.Follows s) {dt : Nat} : s₀.Leads (execHealthRestoreTick dt s) :=
  .next (.ite (.elapse h) (.healthChanged (.keep (.elapse h))))

theorem State.Follows.actAdmission (h : s₀.Follows s) {v : Nat} : s₀.Follows (s.actAdmission v) := .setRwp (.clampNum h)

theorem State.leads_execAdmissionStateWrite (h : s₀.Follows s) {dt v : Nat} : s₀.Leads (execAdmissionStateWrite dt v s) :=
  .next (.whenUp (.elapse h) (fun _ h' => .actAdmission h'))

theorem State.Follows.setSelfTest (h : s₀.Follows s) {v : Nat} : s₀.Follows (s.setSelfTest v) := .setCnt h.keep

theorem State.Follows.actSelfTest (h : s₀.Follows s) {v : Nat} : s₀.Follows (s.actSelfTest v).1 :=
  .iteFst (.fst (.clampNum h)) (.iteFst (.fst (.setSelfTest (.clampNum h))) (.fst (.recoveryOn (.keep (.enterOrdered (.setSelfTest
      (.clampNum h)))))))

theorem State.leads_execSelfTestStart (h : s₀.Follows s) {dt : Nat} : s₀.Leads (execSelfTestStart dt s) :=
  .next (.whenUp (.elapse h) (fun _ h' => .actSelfTest h'))

theorem State.Follows.retireTested (h : s₀.Follows s) {p : Nat} : s₀.Follows (s.retireTested p) := .ite (.retireHbm h) (.retireSill h)

theorem State.leads_execSelfTestComplete (h : s₀.Follows s) {dt : Nat} {bays hbms sills paths pages : List Nat} : s₀.Leads
    (execSelfTestComplete dt bays hbms sills paths pages s) :=
  .next (.whenUp (.elapse h) (fun _ h' => .ite h' (.signal (.recoveryOff (.ite (.leaveOrdered (.setCnt (.setObj (.setSelfTest (.ite
      (.healthChanged (.keep (.foldl (fun _ _ h'' => .retireTested h'') (.foldl (fun _ _ h'' => .bayOut h'') h')))) (.foldl (fun _ _
      h'' => .retireTested h'') (.foldl (fun _ _ h'' => .bayOut h'') h'))))))) (.setCnt (.setObj (.setSelfTest (.ite (.healthChanged
      (.keep (.foldl (fun _ _ h'' => .retireTested h'') (.foldl (fun _ _ h'' => .bayOut h'') h')))) (.foldl (fun _ _ h'' =>
      .retireTested h'') (.foldl (fun _ _ h'' => .bayOut h'') h')))))))))))

theorem State.leads_execFaultCountersClear (h : s₀.Follows s) {dt v : Nat} : s₀.Leads (execFaultCountersClear dt v s) :=
  .next (.whenUp (.elapse h) (fun _ h' => .execClear h'))

theorem State.leads_execFirmwareFault (h : s₀.Follows s) {dt : Nat} {cause : FwCause} : s₀.Leads (execFirmwareFault dt cause s) := by
  unfold execFirmwareFault
  refine .next (.whenUp (.elapse h) (fun _ h' => ?_))
  split
  · exact .ite h' (.firmwareFault (.signal h'))
  · exact .firmwareFault (.signal h')
  · exact .firmwareFault h'

/-! ### Sys2Proof/Machine/Planer.lean -/

theorem State.leads_execPlanerCountersClear (h : s₀.Follows s) {dt v : Nat} : s₀.Leads (execPlanerCountersClear dt v s) :=
  .next (.whenUp (.elapse h) (fun _ h' => .execClear h'))

/-! ### Sys2Proof/Machine/Sticker.lean -/

theorem State.Follows.settle (h : s₀.Follows s) {c lane bay : Nat} : s₀.Follows (s.settle c lane bay) := .setCtx h

theorem State.Follows.setHeld (h : s₀.Follows s) {c lane bay off : Nat} {v : Bool} : s₀.Follows (s.setHeld c lane bay off v) :=
    .putBytes h

theorem State.Follows.transfer (h : s₀.Follows s) {b c : Nat} {d : Desc} {side : StickSide} {keyed remote : Bool} {diag : Option Diag}
    : s₀.Follows (s.transfer b c d side keyed remote diag).state := by
  unfold State.transfer
  dsimp only
  split
  · exact .iteHaul (.haulOut (.reactMismatch (.countSome (.ite (.ite (.countEvent (.countEvent (.heatAll h))) (.countWrites
      (.countEvent (.countEvent (.heatAll h))))) (.writeSome (.ite (.countEvent (.countEvent (.heatAll h))) (.countWrites (.countEvent
      (.countEvent (.heatAll h)))))))))) (.haulOut (.countPlaner (.ite (.ite (.countEvent (.countEvent (.heatAll h))) (.countWrites
      (.countEvent (.countEvent (.heatAll h))))) (.writeAll (.ite (.countEvent (.countEvent (.heatAll h))) (.countWrites (.countEvent
      (.countEvent (.heatAll h)))))))))
  · exact .iteHaul (.haulOut (.countSome (.ite (.memoryError (.ite (.countEvent (.countEvent (.heatAll h))) (.countWrites (.countEvent
      (.countEvent (.heatAll h)))))) (.writeSome (.memoryError (.ite (.countEvent (.countEvent (.heatAll h))) (.countWrites
      (.countEvent (.countEvent (.heatAll h)))))))))) (.haulOut (.countPlaner (.ite (.memoryError (.ite (.countEvent (.countEvent
      (.heatAll h))) (.countWrites (.countEvent (.countEvent (.heatAll h)))))) (.writeAll (.memoryError (.ite (.countEvent (.countEvent
      (.heatAll h))) (.countWrites (.countEvent (.countEvent (.heatAll h))))))))))
  · exact .haulOut (.reactMismatch (.countPlaner (.ite (.ite (.countEvent (.countEvent (.heatAll h))) (.countWrites (.countEvent
      (.countEvent (.heatAll h))))) (.writeAll (.ite (.countEvent (.countEvent (.heatAll h))) (.countWrites (.countEvent (.countEvent
      (.heatAll h)))))))))
  · exact .haulOut (.countPlaner (.ite (.ite (.countEvent (.countEvent (.heatAll h))) (.countWrites (.countEvent (.countEvent (.heatAll
      h))))) (.writeAll (.ite (.countEvent (.countEvent (.heatAll h))) (.countWrites (.countEvent (.countEvent (.heatAll h))))))))
  · exact .haulOut (.countPlaner (.ite (.ite (.countEvent (.countEvent (.heatAll h))) (.countWrites (.countEvent (.countEvent (.heatAll
      h))))) (.writeAll (.ite (.countEvent (.countEvent (.heatAll h))) (.countWrites (.countEvent (.countEvent (.heatAll h))))))))

theorem State.Follows.stickPush (h : s₀.Follows s) {b c : Nat} {d : Desc} {w : StickWord} {keyed : Bool} {diag : Option Diag} :
    s₀.Follows (s.stickPush b c d w keyed diag).1 :=
  .iteFst (.fst h) (.iteFst (.fst h) (.iteFst (.fst h) (.iteFst (.fst (.transfer h)) (.fst (.ite (.setCnt (.bump (.modCtx (.putBytes
      (.transfer h))))) (.bump (.modCtx (.putBytes (.transfer h)))))))))

theorem State.Follows.writeMaybe (h : s₀.Follows s) {c : Nat} {l : Sink} : s₀.Follows (s.writeMaybe c l) :=
  .foldl (fun _ _ h' => .engineWrite (.keep h')) h

theorem State.Follows.stickMove (h : s₀.Follows s) {b c : Nat} {d : Desc} {w : StickWord} {off : Nat} {keyed remote : Bool} {diag :
    Option Diag} : s₀.Follows (s.stickMove b c d w off keyed remote diag).state :=
  .iteHaul (.haulOut h) (.iteHaul (.transfer h) (.haulOut (.bump (.countPlaner (.ite h (.writeMaybe h))))))

theorem State.Follows.stickPop (h : s₀.Follows s) {b c : Nat} {d : Desc} {w : StickWord} {hold keyed remote : Bool} {diag : Option
    Diag} : s₀.Follows (s.stickPop b c d w hold keyed remote diag).state := by
  unfold State.stickPop
  refine .iteHaul (.haulOut h) ?_
  split
  · exact .haulOut h
  · exact .iteHaul (.haulOut h) (.iteHaul (.stickMove h) (.haulOut (.bump (.settle (.modCtx (.ite (.bump (.modCtx (.setHeld (.stickMove
      h)))) (.stickMove h)))))))

theorem State.Follows.stickRead (h : s₀.Follows s) {b c : Nat} {d : Desc} {w : StickWord} {keyed remote : Bool} {diag : Option Diag} :
    s₀.Follows (s.stickRead b c d w keyed remote diag).state := by
  unfold State.stickRead
  split
  · exact .haulOut h
  · exact .iteHaul (.haulOut h) (.stickMove h)

theorem State.Follows.stickRelease (h : s₀.Follows s) {b c : Nat} {w : StickWord} : s₀.Follows (s.stickRelease b c w).1 := by
  unfold State.stickRelease
  split
  · exact .fst h
  · exact .iteFst (.fst h) (.fst (.bump (.settle (.modCtx (.setHeld h)))))

theorem State.Follows.haulDesc (h : s₀.Follows s) {b c : Nat} {d : Desc} {keyed remote : Bool} {diag : Option Diag} : s₀.Follows
    (s.haulDesc b c d keyed remote diag).state := by
  unfold State.haulDesc
  refine .haulOut (.ite (.signal (.reportAccess ?_)) (.reportAccess ?_))
  · split
    · exact .iteHaul (.haulOut h) (.transfer h)
    · exact .haulOut (.stickPush h)
    · exact .stickPop h
    · exact .stickPop h
    · exact .stickRead h
    · exact .haulOut (.stickRelease h)
  · split
    · exact .iteHaul (.haulOut h) (.transfer h)
    · exact .haulOut (.stickPush h)
    · exact .stickPop h
    · exact .stickPop h
    · exact .stickRead h
    · exact .haulOut (.stickRelease h)

theorem State.Follows.localHaul (h : s₀.Follows s) {e op : Nat} {diag : Option Diag} : s₀.Follows (s.localHaul e op diag) :=
  .onRun h (fun _ _ h' => .ite h' (.endWith (.haulDesc h')))

theorem State.leads_execHaul (h : s₀.Follows s) {dt e : Nat} {diag : Option Diag} : s₀.Leads (execHaul dt e diag s) :=
  .next (.localHaul (.elapse h))

theorem State.leads_execPush (h : s₀.Follows s) {dt e : Nat} {diag : Option Diag} : s₀.Leads (execPush dt e diag s) :=
  .next (.localHaul (.elapse h))

theorem State.leads_execPop (h : s₀.Follows s) {dt e : Nat} {diag : Option Diag} : s₀.Leads (execPop dt e diag s) :=
  .next (.localHaul (.elapse h))

theorem State.leads_execPopAndHold (h : s₀.Follows s) {dt e : Nat} {diag : Option Diag} : s₀.Leads (execPopAndHold dt e diag s) :=
  .next (.localHaul (.elapse h))

theorem State.leads_execReadHeld (h : s₀.Follows s) {dt e : Nat} {diag : Option Diag} : s₀.Leads (execReadHeld dt e diag s) :=
  .next (.localHaul (.elapse h))

theorem State.leads_execRelease (h : s₀.Follows s) {dt e : Nat} {diag : Option Diag} : s₀.Leads (execRelease dt e diag s) :=
  .next (.localHaul (.elapse h))

theorem State.leads_execRemoteHaul (h : s₀.Follows s) {dt e : Nat} {diag : Option Diag} : s₀.Leads (execRemoteHaul dt e diag s) :=
  .next (.onRun (.elapse h) (fun _ _ h' => .ite h' (.ite (.endWith h') (.ite (.endWith h') (.ite (.endWith (.haulDesc h')) (.ite h'
      (.setEngine (.sendCommand (.haulDesc h')))))))))

/-! ### Sys2Proof/Machine/Memory.lean -/

theorem State.Follows.dropCopies (h : s₀.Follows s) {p : Copy → Bool} {counted : Bool} : s₀.Follows (s.dropCopies p counted) :=
  .foldl (fun _ _ h' => .ite (.bump (.dropCopy h')) (.dropCopy h')) h

theorem State.leads_execHeatHalving (h : s₀.Follows s) {dt : Nat} : s₀.Leads (execHeatHalving dt s) :=
  .next (.whenUp (.elapse h) (fun _ h' => .ite h' (.dropCopies (.keep h'))))

theorem State.Follows.installCopy (h : s₀.Follows s) {x : Copy} : s₀.Follows (s.installCopy x) := .keep (.loadRange (.zeroRange h))

theorem State.leads_execCopyComplete (h : s₀.Follows s) {dt pkg : Nat} {ue : Bool} : s₀.Leads (execCopyComplete dt pkg ue s) := by
  unfold execCopyComplete
  refine .next (.whenUp (.elapse h) (fun _ h' => ?_))
  split
  · exact h'
  · dsimp only
    split
    · exact .keep h'
    · exact .ite (.memoryError (.dropCopy (.keep h'))) (.installCopy (.keep h'))

theorem State.Follows.shrinkPool (h : s₀.Follows s) {f k n : Nat} : s₀.Follows (State.shrinkPool f s k n) := by
  induction f generalizing s with
  | zero => exact h
  | succ f ih =>
    unfold State.shrinkPool
    refine .ite h ?_
    split
    · exact ih (.dropCopy h)
    · exact h

theorem State.Follows.actCopyPool (h : s₀.Follows s) {stack v : Nat} : s₀.Follows (s.actCopyPool stack v) :=
  .shrinkPool (.setRwp (.clampNum h))

theorem State.leads_execCopyPoolWrite (h : s₀.Follows s) {dt stack v : Nat} : s₀.Leads (execCopyPoolWrite dt stack v s) :=
  .next (.whenUp (.elapse h) (fun _ h' => .ite (.actCopyPool h') h'))

theorem State.Follows.actCopies (h : s₀.Follows s) {v : Nat} : s₀.Follows (s.actCopies v) :=
  .ite (.dropCopies (.setObj (.clampNum h))) (.setObj (.clampNum h))

theorem State.leads_execTransparentCopiesWrite (h : s₀.Follows s) {dt v : Nat} : s₀.Leads (execTransparentCopiesWrite dt v s) :=
  .next (.whenUp (.elapse h) (fun _ h' => .actCopies h'))

theorem State.Follows.readPref (h : s₀.Follows s) {c b i a : Nat} : s₀.Follows (s.readPref c b i a).1 :=
  .iteFst (.fst (.reportAccess h)) (.iteFst (.fst h) (.fst (.ite (.bump (.ite (.bump (.heatRead h)) (.heatRead h))) (.ite (.bump
      (.heatRead h)) (.heatRead h)))))

theorem State.Follows.fly (h : s₀.Follows s) {c b : Nat} {f : Flight} : s₀.Follows (s.fly c b f) := .ite (.endPref h) (.modCtx h)

theorem State.Follows.firePref (h : s₀.Follows s) {c b : Nat} {x1 : Flight ⊕ Nat} : s₀.Follows (s.firePref c b x1) := by
  unfold State.firePref
  split
  · exact .fly (.modCtx h)
  · exact .fly (.iteFst (.readPref (.modCtx (.ite (.bump h) h))) (.fst (.modCtx (.ite (.bump h) h))))

theorem State.leads_execPrefetchFire (h : s₀.Follows s) {dt bay : Nat} : s₀.Leads (execPrefetchFire dt bay s) := by
  unfold execPrefetchFire
  refine .next (.whenUp (.elapse h) (fun _ h' => ?_))
  split
  · split
    · exact .firePref h'
    · exact h'
  · exact h'

theorem State.Follows.warm (h : s₀.Follows s) {c b a n : Nat} : s₀.Follows (s.warm c b a n) :=
  .ite h (.foldl (fun _ _ h' => .ite (.reportAccess h') (.ite (.loftServe h') (.ite (.heatPage (.loftServe h')) h'))) h)

theorem State.Follows.prefDescriptor (h : s₀.Follows s) {c b : Nat} {f : Flight} {diag : Option Diag} : s₀.Follows (s.prefDescriptor c
    b f diag).1 :=
  .iteFst (.fst h) (.fst (.haulDesc h))

theorem State.Follows.warmError (h : s₀.Follows s) {c : Nat} {x1 : Option Diag} : s₀.Follows (s.warmError c x1) := by
  unfold State.warmError
  split
  · exact .ite (.abandon (.memoryError h)) (.memoryError h)
  · exact h

theorem State.leads_execPrefetchComplete (h : s₀.Follows s) {dt bay entry : Nat} {diag : Option Diag} : s₀.Leads (execPrefetchComplete
    dt bay entry diag s) := by
  unfold execPrefetchComplete
  refine .next (.whenUp (.elapse h) (fun _ h' => ?_))
  split
  · exact h'
  · dsimp only
    split
    · exact h'
    · exact .ite (.warmError (.prefDone (.warm (.modCtx h')))) (.ite (.abandon (.prefDone (.ite (.prefDescriptor (.modCtx h'))
        (.prefRecord (.prefDescriptor (.modCtx h')))))) (.prefDone (.ite (.prefDescriptor (.modCtx h')) (.prefRecord (.prefDescriptor
        (.modCtx h'))))))

theorem State.Follows.correctAt (h : s₀.Follows s) {unit a : Nat} : s₀.Follows (s.correctAt unit a) := by
  unfold State.correctAt
  split
  · exact .bump h
  · exact .bump h
  · exact .bump h
  · exact .ite (.retireHbm (.setHbmPage (.bump h))) (.setHbmPage (.bump h))
  · exact .ite (.retireSill (.setSillPage (.bump h))) (.setSillPage (.bump h))

theorem State.Follows.scrubBad (h : s₀.Follows s) {unit a : Nat} : s₀.Follows (s.scrubBad unit a) := by
  unfold State.scrubBad
  split
  · exact .memoryError h
  · exact .memoryError h
  · exact .ite (.firmwareFault (.signal (.memoryError h))) (.memoryError h)

theorem State.leads_execPatrolScrub (h : s₀.Follows s) {dt unit : Nat} {corrected bad : List Nat} : s₀.Leads (execPatrolScrub dt unit
    corrected bad s) :=
  .next (.whenUp (.elapse h) (fun _ h' => .ite h' (.foldl (fun _ _ h'' => .ite (.scrubBad h'') h'') (.foldl (fun _ _ h'' => .correctAt
      h'') h'))))

theorem State.Follows.grantWaiting (h : s₀.Follows s) {b : Nat} : s₀.Follows (s.grantWaiting b) :=
  .setBay (.foldl (fun _ _ h' => .modCtx h') h)

theorem State.leads_execBenchZeroingComplete (h : s₀.Follows s) {dt bay : Nat} : s₀.Leads (execBenchZeroingComplete dt bay s) :=
  .next (.whenUp (.elapse h) (fun _ h' => .ite h' (.grantWaiting (.setBay (.zeroBanks h')))))

theorem State.leads_execMemoryCountersClear (h : s₀.Follows s) {dt v : Nat} : s₀.Leads (execMemoryCountersClear dt v s) :=
  .next (.whenUp (.elapse h) (fun _ h' => .execClear h'))

/-! ### Sys2Proof/Machine/Context.lean -/

theorem State.Follows.placePages (h : s₀.Follows s) {c a : Nat} {attr : PageAttr} {use : PageUse} {prefer : List Nat} {l : List Spot} :
    s₀.Offers Prod.fst (s.placePages c a attr use prefer l) := by
  induction l generalizing s a prefer with
  | nil => exact .some h
  | cons k l ih =>
    unfold State.placePages
    split
    · exact .none
    · next r hr =>
      split
      · exact .none
      · next t ht => exact State.Offers.map (ih (.mapPage (.allocHbm h r hr) t ht)) fun _ h' => h'

theorem State.Follows.mapPages (h : s₀.Follows s) {c a : Nat} {attr : PageAttr} {l : List Nat} :
    s₀.Offers id (s.mapPages c a attr l) := by
  induction l generalizing s a with
  | nil => exact .some h
  | cons p l ih => exact State.Offers.bind (.mapPage h) fun _ h' => ih h'

theorem State.Follows.allocSets (h : s₀.Follows s) {use : PageUse} {home : Option Nat} {prefer : List Nat} {l : List (List (Nat × Nat))} :
    s₀.Offers Prod.fst (s.allocSets use home prefer l) := by
  induction l generalizing s prefer with
  | nil => exact .some h
  | cons k l ih =>
    unfold State.allocSets
    split
    · exact .none
    · exact State.Offers.bind (.allocMany h) fun _ h' => State.Offers.map (ih h') fun _ h' => h'

theorem State.Follows.newObject (h : s₀.Follows s) {w : PlaceBy} {t : Tensor} {prefer : List Nat} :
    s₀.Offers Prod.fst (s.newObject w t prefer) := by
  unfold State.newObject
  dsimp only
  split
  · exact State.Offers.map (.allocMany h) fun _ h' => .setObject h'.keep
  · exact State.Offers.map (.allocSill h) fun _ h' => .setObject h'.keep

theorem State.Follows.countMaps (h : s₀.Follows s) {id : Nat} {up : Bool} : s₀.Follows (s.countMaps id up) :=
  .ite h (.foldl (fun _ _ h' => .setSillPage h') h)

theorem State.Follows.mapObject (h : s₀.Follows s) {c : Nat} {t : Tensor} {o : Nat} : s₀.Offers id (s.mapObject c t o) :=
  State.Offers.map (State.Offers.foldl (fun _ _ h' => State.Offers.bind h' fun _ h' => .mapPage h') (.some h))
    fun _ h' => .ite (.countMaps (.setObject (.modCtx h'))) (.modCtx h')

theorem State.Follows.placeTensor (h : s₀.Follows s) {c : Nat} {w : PlaceBy} {done : List (Nat × Nat)} {prefer : List Nat} {t : Tensor} :
    s₀.Offers Prod.fst (s.placeTensor c w done prefer t) := by
  unfold State.placeTensor
  dsimp only
  split
  · split
    · exact State.Offers.map (.mapObject h) fun _ h' => h'
    · exact State.Offers.bind (.newObject h) fun _ h' => State.Offers.map (.mapObject h') fun _ h' => h'
  · split
    · exact State.Offers.map (.mapPages h) fun _ h' => h'
    · split
      · exact State.Offers.bind (.allocSets h) fun _ h' => State.Offers.map (.mapPages h') fun _ h' => h'
      · exact State.Offers.map (.placePages h) fun _ h' => h'

theorem State.Follows.placeAll (h : s₀.Follows s) {c : Nat} {b : List Byte} {l : Layout} {bays : List Nat} {qlog rlog : Nat}
    {prefer : List Nat} : s₀.Offers id (s.placeAll c b l bays qlog rlog prefer) := by
  unfold State.placeAll
  extract_lets w plain start r1 r2 r3 r4
  have hplain {s : State} {a n : Nat} {remote : Bool} {prefer : List Nat} (h : s₀.Follows s) :
      s₀.Offers Prod.fst (plain s a n remote prefer) := .placePages h
  have h2 : s₀.Offers Prod.fst r2 :=
    State.Offers.bind (State.Offers.bind (hplain h) fun _ h' => hplain h') fun _ h' => hplain h'
  have h3 : s₀.Offers Prod.fst r3 := State.Offers.bind h2 fun _ h' =>
    State.Offers.foldl (fun _ _ h' => State.Offers.bind h' fun _ h' => .placeTensor h') (.some h')
  have h4 : s₀.Offers Prod.fst r4 := by
    refine State.Offers.bind h3 fun _ h' => State.Offers.foldl (fun _ _ ha => State.Offers.bind ha fun _ h' => ?_) (.some h')
    exact State.Offers.map (hplain h') fun _ hp => hp
  exact State.Offers.map h4 fun _ h' => h'

theorem State.Follows.placeSave (h : s₀.Follows s) {c : Nat} : s₀.Offers id (s.placeSave c) :=
  State.Offers.map (.allocMany h) fun _ h' => .modCtx h'

theorem State.Follows.reserveImages (h : s₀.Follows s) {c : Nat} {b : List Byte} {m : Meta} : s₀.Offers id (s.reserveImages c b m) := by
  unfold State.reserveImages
  dsimp only
  split
  · exact .none
  · exact .some (.modCtx h)

theorem State.Follows.placeContext (h : s₀.Follows s) {b : List Byte} {c : Create} {place : Placement} :
    s₀.Follows (s.placeContext b c place).1 := by
  fun_cases State.placeContext s b c place with
  | case9 m frame _ _ _ b idx l sp own hown bays x x1 t r hr t1 ht1 =>
    have hr' : s₀.Follows r.1 := .placePages (.setCtx (.allocHbm h own hown)) r hr
    exact .putBytes (State.Offers.bind (π := id) (ρ := id)
      (State.Offers.bind (π := id) (.placeAll hr') fun _ h' => .placeSave h') (fun _ h' => .reserveImages h') t1 ht1)
  | _ => exact h

theorem State.Follows.enterContext (h : s₀.Follows s) {c : Nat} : s₀.Follows (s.enterContext c) := .keep (.modCtx h.keep)

theorem State.Follows.create (h : s₀.Follows s) {c : Create} {place : Placement} : s₀.Follows (s.create c place).1 := by
  unfold State.create
  exact .iteFst (.fst h) (.iteFst (.fst h) (.iteFst (.fst h) (.iteFst (.fst h) (.iteFst (.fst h) (.fst (.enterContext (.placeContext
      h)))))))

theorem State.Follows.actCreate (h : s₀.Follows s) {block : List Byte} {place : Placement} : s₀.Follows (s.actCreate block place).1 :=
  .iteFst (.fst (.bump (.setCnt (.setCnt (.create (.ite (.bump h) h)))))) (.fst (.bump (.setCnt (.create (.ite (.bump h) h)))))

theorem State.leads_execContextCreate (h : s₀.Follows s) {dt : Nat} {block : List Byte} {place : Placement} : s₀.Leads
    (execContextCreate dt block place s) :=
  .next (.whenUp (.elapse h) (fun _ h' => .actCreate h'))

theorem State.Follows.closeNotices (h : s₀.Follows s) {c : Nat} : s₀.Follows (s.closeNotices c) := .foldl (fun _ _ h' => .fabSend h') h

theorem State.Follows.endDrain (h : s₀.Follows s) {c : Nat} : s₀.Follows (s.endDrain c) := by
  unfold State.endDrain
  exact .modCtx (.closeNotices h)

theorem State.Follows.failImage (h : s₀.Follows s) {c : Nat} : s₀.Follows (s.failImage c) := by
  unfold State.failImage
  split
  · exact h
  · exact .signal (.bump (.modCtx (.dropPages (.elim h (fun _ => .freeObject h)))))

theorem State.Follows.beginClose (h : s₀.Follows s) {c : Nat} : s₀.Follows (s.beginClose c) :=
  .ite (.endDrain (.failImage (.setCtx (.noteResident h)))) (.setCtx (.noteResident h))

theorem State.Follows.actClose (h : s₀.Follows s) {id : Nat} : s₀.Follows (s.actClose id).1 :=
  .iteFst (.fst (.setCnt (.clampNum h))) (.iteFst (.fst (.clampNum h)) (.iteFst (.fst (.modCtx (.clampNum h))) (.fst (.beginClose
      (.leaveQuarantine (.clampNum h))))))

theorem State.leads_execContextClose (h : s₀.Follows s) {dt id : Nat} : s₀.Leads (execContextClose dt id s) :=
  .next (.whenUp (.elapse h) (fun _ h' => .actClose h'))

theorem State.Follows.abortAll (h : s₀.Follows s) {c : Nat} : s₀.Follows (s.abortAll c) := .failImage (.modCtx (.endParked (.endRuns h)))

theorem State.Follows.releaseIds (h : s₀.Follows s) {ids : List Nat} : s₀.Follows (s.releaseIds ids) :=
  .foldl (fun _ _ h' => .ite (.freeObject h') (.setObject h')) h

theorem State.Follows.releaseVersions (h : s₀.Follows s) {c : Nat} : s₀.Follows (s.releaseVersions c) := by
  unfold State.releaseVersions
  refine .releaseIds (.modCtx (.foldl (fun _ _ h' => .signal (.bump h')) ?_))
  split
  · exact .foldl (fun _ _ h' => .countMaps h') h
  · exact h

theorem State.Follows.zeroContext (h : s₀.Follows s) {c : Nat} : s₀.Follows (s.zeroContext c) :=
  .armTimer (.modCtx (.foldl (fun _ _ h' => .setBay h') (.releaseVersions (.foldl (fun _ _ h' => .zeroHbm h') h))))

theorem State.leads_execInvalidationComplete (h : s₀.Follows s) {dt ctx : Nat} : s₀.Leads (execInvalidationComplete dt ctx s) :=
  .next (.whenUp (.elapse h) (fun _ h' => .zeroUnnamed (.ite (.zeroContext (.keep h')) (.keep h'))))

theorem State.Follows.hbmZeroed (h : s₀.Follows s) {p : Nat} : s₀.Follows (s.hbmZeroed p) :=
  .ite h (.keep (.setHbmPage (.bump (.dropPageLines (.zeroRange h)))))

theorem State.Follows.sillZeroed (h : s₀.Follows s) {p : Nat} : s₀.Follows (s.sillZeroed p) := .ite h (.setSillPage (.bump (.zeroRange
    h)))

theorem State.Follows.reachSill (h : s₀.Follows s) {p : Nat} : s₀.Follows (s.reachSill p) := .ite h.keep h

theorem State.leads_execPageZeroingComplete (h : s₀.Follows s) {dt page : Nat} : s₀.Leads (execPageZeroingComplete dt page s) :=
  .next (.whenUp (.elapse h) (fun _ h' => .ite (.hbmZeroed h') (.sillZeroed (.reachSill h'))))

theorem State.Follows.closeBound (h : s₀.Follows s) {c n : Nat} : s₀.Follows (s.closeBound c n) :=
  .closeSession (.ite (.signal (.eventTo h)) (.eventTo h))

theorem State.Follows.closeSessionsOf (h : s₀.Follows s) {c : Nat} : s₀.Follows (s.closeSessionsOf c) :=
  .foldl (fun _ _ h' => .closeBound h') h

theorem State.Follows.clearFilters (h : s₀.Follows s) {c : Nat} : s₀.Follows (s.clearFilters c) :=
  .foldl (fun _ _ h' => .ite (.setSamplingRun (.releaseAll h')) h') h.keep

theorem State.Follows.undefine (h : s₀.Follows s) {c : Nat} : s₀.Follows (s.undefine c) := by
  unfold State.undefine
  refine .recoveryOff (.bump (.setCnt (.keep (.setCtx (.clearFilters (.closeSessionsOf ?_))))))
  split
  · exact .modCtx (.modCtx h)
  · exact h

theorem State.leads_execTeardownComplete (h : s₀.Follows s) {dt id : Nat} : s₀.Leads (execTeardownComplete dt id s) :=
  .next (.whenUp (.elapse h) (fun _ h' => .ite (.undefine h') h'))

theorem State.leads_execDoorbellTailWrite (h : s₀.Follows s) {dt ctx q v : Nat} : s₀.Leads (execDoorbellTailWrite dt ctx q v s) :=
  .next (.whenUp (.elapse h) (fun _ h' => .ite (.doorWrite h') h'))

theorem State.leads_execCompletionHeadWrite (h : s₀.Follows s) {dt ctx v : Nat} : s₀.Leads (execCompletionHeadWrite dt ctx v s) :=
  .next (.whenUp (.elapse h) (fun _ h' => .doorWrite h'))

theorem State.leads_execContextCountersClear (h : s₀.Follows s) {dt v : Nat} : s₀.Leads (execContextCountersClear dt v s) :=
  .next (.whenUp (.elapse h) (fun _ h' => .execClear h'))

/-! ### Sys2Proof/Machine/Reshard.lean -/

theorem State.Follows.unplace (h : s₀.Follows s) {c : Nat} {l : List Tensor} : s₀.Follows (s.unplace c l) := by
  unfold State.unplace
  refine .foldl (fun _ _ h' => .foldl (fun _ _ h'' => ?_) h') h
  split
  · exact h''
  · exact .changePte (.ite (.zeroHbm h'') h'')

theorem State.Follows.remap (h : s₀.Follows s) {c : Nat} {t : Tensor} {id : Nat} : s₀.Follows (s.remap c t id) :=
  .foldl (fun _ _ h' => .changePte h') h

theorem State.Follows.keepVersions (h : s₀.Follows s) {c : Nat} {placed : Nat → Bool} : s₀.Follows (s.keepVersions c placed) :=
  .releaseIds (.modCtx (.foldl (fun _ _ h' => .countMaps h') h))

theorem State.Follows.placeAgain (h : s₀.Follows s) {c : Nat} {w : PlaceBy} {done : List (Nat × Nat)} {prefer : List Nat} {t : Tensor} :
    s₀.Offers Prod.fst (s.placeAgain c w done prefer t) := by
  unfold State.placeAgain
  dsimp only
  split
  · split
    · exact .some (.remap h)
    · exact .placeTensor h
  · exact .placeTensor h

theorem State.Follows.replace (h : s₀.Follows s) {c : Nat} {m : Meta} {stage : Nat} {prefer : List Nat} :
    s₀.Offers id (s.replace c m stage prefer) := by
  unfold State.replace
  extract_lets x b own start s1 old start1 t s2 s3 w
  have h1 : s₀.Follows s1 := .unplace h
  have h2 : s₀.Follows s2 := .keepVersions (.modCtx h1)
  have h3 : s₀.Follows s3 := .putBytes h2
  clear_value w s3
  refine State.Offers.map (π := Prod.fst) ?_ fun _ h' => h'
  exact State.Offers.foldl (fun _ _ ha => State.Offers.bind ha fun _ h' => .placeAgain h') (.some h3)

theorem State.Follows.mapReshard (h : s₀.Follows s) {c : Nat} : s₀.Follows (s.mapReshard c) := by
  unfold State.mapReshard
  refine .ite ?_ (.setCtx h)
  dsimp only
  split
  · exact .replace (.setCtx h) _ ‹_›
  · exact .modCtx (.setCtx h)

/-! ### Sys2Proof/Machine/Image.lean -/

theorem State.Follows.sendPage (h : s₀.Follows s) {c d queue slot : Nat} {p : PagePre} {data : List Byte} : s₀.Follows (s.sendPage c d
    queue slot p data).1 :=
  .iteFst (.fst h) (.fst (.keep (.sendCommand h)))

theorem State.Follows.pumpImage (h : s₀.Follows s) {f c : Nat} : s₀.Follows (State.pumpImage f s c) := by
  induction f generalizing s with
  | zero => exact h
  | succ f ih =>
    unfold State.pumpImage
    split
    · exact h
    · split
      · exact h
      · exact .ite h (.ite (.failImage (.sendPage h)) (ih (.modCtx (.sendPage h))))

theorem State.Follows.localCopy (h : s₀.Follows s) {c : Nat} {o : Obj} {pages : List (List Byte)} : s₀.Follows (s.localCopy c o pages).1 := by
  unfold State.localCopy
  extract_lets -underBinder +onlyGivenNames s1 id
  have h1 : s₀.Follows s1 := by
    unfold s1
    split
    · exact .freeObject h
    · exact h
  split
  · exact .fst h1
  · next r hr => exact .fst (.fillSill (.setObject (.keep (.allocSill h1 r hr))))

theorem State.Follows.startImage (h : s₀.Follows s) {c gen : Nat} : s₀.Follows (s.startImage c gen) :=
  .ite (.failImage (.modCtx (.iteFst (.localCopy h) (.fst h)))) (.pumpImage (.modCtx (.iteFst (.localCopy h) (.fst h))))

theorem State.Follows.closeImage (h : s₀.Follows s) {c : Nat} : s₀.Follows (s.closeImage c) := by
  unfold State.closeImage
  refine .ite h ?_
  split
  · exact .startImage h
  · exact .ite h (.bump (.setCtx h))

theorem State.Follows.startReshard (h : s₀.Follows s) {c : Nat} : s₀.Follows (s.startReshard c) := by
  unfold State.startReshard
  refine .ite h ?_
  split
  · exact .startImage (.modCtx h)
  · exact .ite h (.bump (.setCtx h))

theorem State.Follows.sealImage (h : s₀.Follows s) {c : Nat} {im : ImageOut} : s₀.Follows (s.sealImage c im) := by
  unfold State.sealImage
  refine .ite (.mapReshard (.signal (.bump (.modCtx ?_)))) (.startReshard (.signal (.bump (.modCtx ?_))))
  · split
    · exact .moveRetiring (.setObject (.sealPages h))
    · exact h
  · split
    · exact .moveRetiring (.setObject (.sealPages h))
    · exact h

theorem State.Follows.imageAck (h : s₀.Follows s) {c i : Nat} : s₀.Follows (s.imageAck c i) := by
  unfold State.imageAck
  split
  · exact h
  · exact .ite h (.ite (.sealImage (.modCtx (.dropPages h))) (.pumpImage (.modCtx (.dropPages h))))

theorem State.Follows.imageNack (h : s₀.Follows s) {c i code : Nat} : s₀.Follows (s.imageNack c i code) := by
  unfold State.imageNack
  split
  · exact h
  · exact .ite h (.ite (.pumpImage (.modCtx (.dropPages h))) (.failImage (.dropPages h)))

theorem State.Follows.pumpForwards (h : s₀.Follows s) {f c : Nat} : s₀.Follows (State.pumpForwards f s c) := by
  induction f generalizing s with
  | zero => exact h
  | succ f ih =>
    unfold State.pumpForwards
    refine .ite h ?_
    split
    · exact h
    · split
      · exact ih (.modCtx h)
      · exact .ite h (.ite (ih (.modCtx h)) (ih (.modCtx (.bump (.sendPage h)))))

theorem State.Follows.forward (h : s₀.Follows s) {c : Nat} {hd : Shard} {leaf : Nat} {data : List Byte} : s₀.Follows (s.forward c hd
    leaf data) :=
  .pumpForwards (.setCtx h)

theorem State.Follows.forwardEnd (h : s₀.Follows s) {c slot : Nat} : s₀.Follows (s.forwardEnd c slot) :=
  .pumpForwards (.modCtx (.dropPages h))

theorem State.Follows.rechain (h : s₀.Follows s) {d : Nat} : s₀.Follows (s.rechain d) :=
  .foldl (fun _ _ h' => .ite (.pumpForwards (.modCtx h')) h') h

theorem State.Follows.refetch (h : s₀.Follows s) {d : Nat} : s₀.Follows (s.refetch d) := .foldl (fun _ _ h' => .setObject h') h

theorem State.Follows.dropFilling (h : s₀.Follows s) {device : Nat} {p : Nat → Bool} : s₀.Follows (s.dropFilling device p) :=
  .foldl (fun _ _ h' => .freeObject h') h

theorem State.Follows.peerReset (h : s₀.Follows s) {d : Nat} : s₀.Follows (s.peerReset d) := by
  unfold State.peerReset
  refine .foldl (fun _ _ h' => ?_) (.rechain (.refetch (.dropFilling (.enterPeerReset h))))
  split
  · exact .ite (.failImage h') h'
  · exact h'

/-! ### Sys2Proof/Machine/Link.lean -/

theorem State.Follows.sendFlit (h : s₀.Follows s) {n kind a b c : Nat} : s₀.Follows (s.sendFlit n kind a b c) := .push (.setLink h)

theorem State.Follows.checkPeer (h : s₀.Follows s) {d : Nat} : s₀.Follows (s.checkPeer d) :=
  .ite h (.ite (.peerResetTo (.peerReset h)) (.peerReset h))

theorem State.Follows.endPeerReset (h : s₀.Follows s) {d : Nat} : s₀.Follows (s.endPeerReset d) := .findLeader h.keep

theorem State.Follows.setLinkState (h : s₀.Follows s) {n : Nat} {l : Link} {st : Nat} : s₀.Follows (s.setLinkState n l st) :=
  .ite (.setLink h) (.signal (.setLink h))

theorem State.Follows.collRefused (h : s₀.Follows s) {c slot code : Nat} : s₀.Follows (s.collRefused c slot code).1 := by
  unfold State.collRefused
  split
  · exact .fst (.finishRun (.clearEngine h))
  · split
    · exact .fst (.elim (.modCtx h) (fun _ => .finishRun (.modCtx h)))
    · exact .fst h

theorem State.Follows.noPath (h : s₀.Follows s) {ty : Nat} {hd : FabHdr} : s₀.Follows (s.noPath ty hd) :=
  .ite h (.ite (.collRefused h) (.ite (.ite (.failImage h) (.forwardEnd h)) (.endRemote h)))

theorem State.Follows.reroute (h : s₀.Follows s) {m : Nat × FabHdr × List Byte} : s₀.Follows (s.reroute m) :=
  .ite (.route h) (.noPath (.route h))

theorem State.Follows.dropLink (h : s₀.Follows s) {n st : Nat} : s₀.Follows (s.dropLink n st) := by
  unfold State.dropLink
  refine .foldl (fun _ _ h' => .reroute h') ?_
  split
  · exact .ite (.bump (.setLinkState h)) (.setLinkState h)
  · exact .setLink (.ite (.bump (.setLinkState h)) (.setLinkState h))

theorem State.Follows.fewerLanes (h : s₀.Follows s) {n : Nat} : s₀.Follows (s.fewerLanes n) :=
  .ite (.dropLink h) (.deduct (.setLinkState h))

theorem State.Follows.linkLeaves (h : s₀.Follows s) {n st : Nat} : s₀.Follows (s.linkLeaves n st) :=
  .ite (.checkPeer (.foldl (fun _ _ h' => .ite (.dropLink (.setLink h')) (.foldl (fun _ _ h'' => .ite (.fewerLanes h'') h'') (.setLink
      h'))) (.dropLink h))) (.foldl (fun _ _ h' => .ite (.dropLink (.setLink h')) (.foldl (fun _ _ h'' => .ite (.fewerLanes h'') h'')
      (.setLink h'))) (.dropLink h))

theorem State.Follows.linkDown (h : s₀.Follows s) {n : Nat} : s₀.Follows (s.linkDown n) := .linkLeaves h

theorem State.Follows.askRetry (h : s₀.Follows s) {n : Nat} : s₀.Follows (s.askRetry n) := .sendFlit (.setLink h)

theorem State.Follows.acceptCodeword (h : s₀.Follows s) {n : Nat} {flits : List Nat} : s₀.Follows (s.acceptCodeword n flits) :=
  .sendFlit (.countEvent (.setLink h))

theorem State.Follows.codeword (h : s₀.Follows s) {n : Nat} {fecOk : Bool} {corrected seq crc : Nat} {flits : List Nat} : s₀.Follows
    (s.codeword n fecOk corrected seq crc flits) :=
  .ite (.askRetry (.bump h)) (.ite (.askRetry (.bump (.ite h (.bump h)))) (.ite (.acceptCodeword (.ite h (.bump h))) (.ite (.ite h
      (.bump h)) (.askRetry (.ite h (.bump h))))))

theorem State.leads_execCodewordReceive (h : s₀.Follows s) {dt link : Nat} {fecOk : Bool} {corrected seq crc : Nat} {flits : List Nat}
    : s₀.Leads (execCodewordReceive dt link fecOk corrected seq crc flits s) :=
  .next (.whenUp (.elapse h) (fun _ h' => .ite (.codeword h') h'))

theorem State.Follows.onFlit (h : s₀.Follows s) {n f kind : Nat} {g : State → State} (hg : ∀ t, s₀.Follows t → s₀.Follows (g t)) :
    s₀.Follows (s.onFlit n f kind g) :=
  .whenUp h (fun _ h' => .ite (hg _ (.drainHeld (.setLink h'))) h')

theorem State.leads_execIdleCreditFlit (h : s₀.Follows s) {dt link flit : Nat} : s₀.Leads (execIdleCreditFlit dt link flit s) :=
  .next (.onFlit (.elapse h) (fun _ h' => h'))

theorem State.Follows.resendFrom (h : s₀.Follows s) {n q : Nat} : s₀.Follows (s.resendFrom n q) := by
  unfold State.resendFrom
  refine .ite h ?_
  split
  · exact h
  · exact .foldl (fun _ _ h' => .push (.push h')) (.setLink h)

theorem State.leads_execRetryRequest (h : s₀.Follows s) {dt link flit : Nat} : s₀.Leads (execRetryRequest dt link flit s) := by
  unfold execRetryRequest
  refine .next (.onFlit (.elapse h) (fun _ h' => ?_))
  dsimp only
  split
  · exact h'
  · exact .ite (.linkDown h') (.resendFrom (.countEvent (.bump h')))

theorem State.leads_execSyncInterval (h : s₀.Follows s) {dt : Nat} : s₀.Leads (execSyncInterval dt s) := by
  unfold execSyncInterval
  refine .next (.whenUp (.elapse h) (fun _ h' => .ite h' ?_))
  split
  · exact h'
  · exact .sendFlit (.keep h')

theorem State.leads_execSyncRequest (h : s₀.Follows s) {dt link flit : Nat} : s₀.Leads (execSyncRequest dt link flit s) :=
  .next (.onFlit (.elapse h) (fun _ h' => .ite (.sendFlit h') h'))

theorem State.leads_execSyncReply (h : s₀.Follows s) {dt link flit : Nat} : s₀.Leads (execSyncReply dt link flit s) :=
  .next (.onFlit (.elapse h) (fun _ h' => .ite (.follow (.keep h')) h'))

theorem State.leads_execLeaderLossTimeout (h : s₀.Follows s) {dt : Nat} : s₀.Leads (execLeaderLossTimeout dt s) :=
  .next (.whenUp (.elapse h) (fun _ h' => .ite h' (.keep h')))

theorem State.leads_execLinkDownTimeout (h : s₀.Follows s) {dt link : Nat} : s₀.Leads (execLinkDownTimeout dt link s) :=
  .next (.whenUp (.elapse h) (fun _ h' => .ite (.setLinkState h') h'))

theorem State.leads_execPartnerSignal (h : s₀.Follows s) {dt link : Nat} : s₀.Leads (execPartnerSignal dt link s) :=
  .next (.whenUp (.elapse h) (fun _ h' => .ite (.setLinkState h') h'))

theorem State.leads_execTrainingDone (h : s₀.Follows s) {dt link : Nat} {ok : Bool} : s₀.Leads (execTrainingDone dt link ok s) :=
  .next (.whenUp (.elapse h) (fun _ h' => .ite (.ite (.setLinkState h') (.linkDown h')) h'))

theorem State.leads_execAlignDone (h : s₀.Follows s) {dt link laneMap : Nat} : s₀.Leads (execAlignDone dt link laneMap s) :=
  .next (.whenUp (.elapse h) (fun _ h' => .ite (.sendFlit (.setLinkState h')) h'))

theorem State.leads_execIdentify (h : s₀.Follows s) {dt link flit : Nat} : s₀.Leads (execIdentify dt link flit s) :=
  .next (.whenUp (.elapse h) (fun _ h' => .ite (.findLeader (.ite (.endPeerReset (.setLinkState h')) (.setLinkState h'))) h'))

theorem State.Follows.beginSwap (h : s₀.Follows s) {n : Nat} : s₀.Follows (s.beginSwap n) := .deduct (.sendFlit (.setLink h))

theorem State.Follows.takeWhole (h : s₀.Follows s) {n k : Nat} : s₀.Follows (s.takeWhole n k) :=
  .beginSwap (.bump (.setLinkState (.setLink h)))

theorem State.Follows.takeLane (h : s₀.Follows s) {n k lane : Nat} : s₀.Follows (s.takeLane n k lane) :=
  .beginSwap (.bump (.setLink (.setLink h)))

theorem State.Follows.loseLane (h : s₀.Follows s) {n lane : Nat} : s₀.Follows (s.loseLane n lane) := by
  unfold State.loseLane
  dsimp only
  split
  · exact .takeWhole h
  · split
    · exact .takeLane h
    · exact .ite (.linkDown h) (.fewerLanes (.setLink h))

theorem State.leads_execLaneLoss (h : s₀.Follows s) {dt link lane : Nat} : s₀.Leads (execLaneLoss dt link lane s) :=
  .next (.whenUp (.elapse h) (fun _ h' => .ite (.loseLane h') h'))

theorem State.Follows.joinSwap (h : s₀.Follows s) {n flit : Nat} : s₀.Follows (s.joinSwap n flit) := by
  unfold State.joinSwap
  dsimp only
  split
  · exact .sendFlit h
  · refine .ite (.sendFlit h) (.ite (.takeWhole h) ?_)
    split
    · exact .sendFlit h
    · exact .takeLane h

theorem State.leads_execLaneMap (h : s₀.Follows s) {dt link flit : Nat} : s₀.Leads (execLaneMap dt link flit s) := by
  unfold execLaneMap
  refine .next (.onFlit (.elapse h) (fun _ h' => .drainHeld ?_))
  dsimp only
  split
  · exact .resendFrom (.setLink (.ite h' (.joinSwap h')))
  · exact .setLink (.ite h' (.joinSwap h'))

theorem State.leads_execLinkSilenceTimeout (h : s₀.Follows s) {dt link : Nat} : s₀.Leads (execLinkSilenceTimeout dt link s) := by
  unfold execLinkSilenceTimeout
  refine .next (.whenUp (.elapse h) (fun _ h' => .ite ?_ (.ite (.linkDown h') h')))
  split
  · exact .takeWhole h'
  · exact .linkDown h'

theorem State.Follows.actRetrain (h : s₀.Follows s) {mask : Nat} : s₀.Follows (s.actRetrain mask) :=
  .foldl (fun _ _ h' => .ite (.linkDown h') h') h

theorem State.leads_execLinkRetrain (h : s₀.Follows s) {dt mask : Nat} : s₀.Leads (execLinkRetrain dt mask s) :=
  .next (.whenUp (.elapse h) (fun _ h' => .actRetrain h'))

theorem State.Follows.actDisable (h : s₀.Follows s) {mask : Nat} : s₀.Follows (s.actDisable mask) :=
  .foldl (fun _ _ h' => .ite (.ite h' (.linkLeaves h')) (.ite (.linkDown h') h')) (.setRwp h)

theorem State.leads_execLinkDisableWrite (h : s₀.Follows s) {dt mask : Nat} : s₀.Leads (execLinkDisableWrite dt mask s) :=
  .next (.whenUp (.elapse h) (fun _ h' => .actDisable h'))

theorem State.leads_execLinkDownDeduction (h : s₀.Follows s) {dt link : Nat} : s₀.Leads (execLinkDownDeduction dt link s) :=
  .next (.whenUp (.elapse h) (fun _ h' => .ite (.deductPermanent (.setLink h')) h'))

theorem State.Follows.takeFraming (h : s₀.Follows s) {p : Nat} : s₀.Follows (s.takeFraming p) := h.keep

theorem State.Follows.setPort (h : s₀.Follows s) {p st : Nat} : s₀.Follows (s.setPort p st) :=
  .ite (.ite (.takeFraming h) h) (.signal (.keep (.ite (.ite (.takeFraming h) h) (.keep (.ite (.takeFraming h) h)))))

theorem State.leads_execPortStateChange (h : s₀.Follows s) {dt port st : Nat} : s₀.Leads (execPortStateChange dt port st s) :=
  .next (.whenUp (.elapse h) (fun _ h' => .ite (.setPort h') h'))

/-! ### Sys2Proof/Machine/Intr.lean -/

theorem State.Follows.setCore (h : s₀.Follows s) {k : Nat} {x : Core} : s₀.Follows (s.setCore k x) := h.keep

theorem State.Follows.deliver (h : s₀.Follows s) {k : Nat} : s₀.Follows (s.deliver k) := by
  unfold State.deliver
  refine .ite ?_ h
  split
  · exact .setCore h
  · exact h

theorem State.leads_execInterruptDelivery (h : s₀.Follows s) {dt core : Nat} : s₀.Leads (execInterruptDelivery dt core s) :=
  .next (.whenUp (.elapse h) (fun _ h' => .deliver h'))

theorem State.leads_execEndHandler (h : s₀.Follows s) {dt core source : Nat} : s₀.Leads (execEndHandler dt core source s) :=
  .next (.whenUp (.elapse h) (fun _ h' => .ite (.setCore h') h'))

theorem State.leads_execInterruptSignal (h : s₀.Follows s) {dt source : Nat} {ctx : Option Nat} : s₀.Leads (execInterruptSignal dt
    source ctx s) :=
  .next (.ite (.signal (.elapse h)) (.elapse h))

theorem State.Follows.takeSource (h : s₀.Follows s) {k n : Nat} : s₀.Follows (s.takeSource k n) := .setSourceOf (.setCore h)

theorem State.leads_execTake (h : s₀.Follows s) {dt core source : Nat} : s₀.Leads (execTake dt core source s) :=
  .next (.whenUp (.elapse h) (fun _ h' => .ite (.takeSource h') h'))

theorem State.Follows.clearPend (h : s₀.Follows s) {w mask : Nat} : s₀.Follows (s.clearPend w mask) :=
  .foldl (fun _ _ h' => .ite (.setSourceOf h') h') h

theorem State.leads_execPendClear (h : s₀.Follows s) {dt w mask : Nat} : s₀.Leads (execPendClear dt w mask s) :=
  .next (.whenUp (.elapse h) (fun _ h' => .ite (.clearPend h') h'))

theorem State.Follows.setSoftware (h : s₀.Follows s) {n : Nat} : s₀.Follows (s.setSoftware n) := .ite (.signal h) h

theorem State.leads_execSetSource (h : s₀.Follows s) {dt source : Nat} : s₀.Leads (execSetSource dt source s) :=
  .next (.whenUp (.elapse h) (fun _ h' => .setSoftware h'))

theorem State.Follows.writeMode (h : s₀.Follows s) {v : Nat} : s₀.Follows (s.writeMode v) :=
  .ite (.ite h (.enterOrdered h)) (.leaveOrdered h)

theorem State.leads_execModeWrite (h : s₀.Follows s) {dt v : Nat} : s₀.Leads (execModeWrite dt v s) :=
  .next (.whenUp (.elapse h) (fun _ h' => .writeMode h'))

theorem State.leads_execJtagTestModeEntry (h : s₀.Follows s) {dt : Nat} : s₀.Leads (execJtagTestModeEntry dt s) :=
  .next (.enterOrdered (.keep (.elapse h)))

theorem State.Follows.writeIntr (h : s₀.Follows s) {k off v : Nat} : s₀.Follows (s.writeIntr k off v) := by
  unfold State.writeIntr
  refine .ite h (.ite (.clearPend h) (.ite h.keep ?_))
  split
  · exact .writeMode h
  · exact .setSoftware h
  · exact .ite (.takeSource h) h
  · exact .setCore h
  · exact .setCore h
  · exact .setCore h
  · exact h

theorem State.Follows.actSoftware (h : s₀.Follows s) {v : Nat} : s₀.Follows (s.actSoftware v) := .signal (.clampNum h)

theorem State.leads_execRaiseSoftwareSource (h : s₀.Follows s) {dt source : Nat} : s₀.Leads (execRaiseSoftwareSource dt source s) :=
  .next (.whenUp (.elapse h) (fun _ h' => .actSoftware h'))

theorem State.Follows.actConfig (h : s₀.Follows s) {b : List Byte} : s₀.Follows (s.actConfig b) :=
  .loadConfig (.setRwp (.ite h (.countClamp h)))

theorem State.leads_execSourceConfigWrite (h : s₀.Follows s) {dt : Nat} {val : List Byte} : s₀.Leads (execSourceConfigWrite dt val s) :=
  .next (.whenUp (.elapse h) (fun _ h' => .actConfig h'))

theorem State.leads_execInterruptCountersClear (h : s₀.Follows s) {dt v : Nat} : s₀.Leads (execInterruptCountersClear dt v s) :=
  .next (.whenUp (.elapse h) (fun _ h' => .execClear h'))

/-! ### Sys2Proof/Machine/Count.lean -/

theorem State.Follows.wrapCounter (h : s₀.Follows s) {u k : Nat} : s₀.Follows (s.wrapCounter u k) := .ite (.addCounter (.setPerfValue
    h)) h

theorem State.leads_execCounterWrap (h : s₀.Follows s) {dt unit k : Nat} : s₀.Leads (execCounterWrap dt unit k s) :=
  .next (.whenUp (.elapse h) (fun _ h' => .ite (.wrapCounter h') h'))

theorem State.Follows.actCounterReset (h : s₀.Follows s) {v : Nat} : s₀.Follows (s.actCounterReset v) := .keep (.clampNum h)

theorem State.leads_execCounterReset (h : s₀.Follows s) {dt v : Nat} : s₀.Leads (execCounterReset dt v s) :=
  .next (.whenUp (.elapse h) (fun _ h' => .actCounterReset h'))

theorem State.Follows.startSampling (h : s₀.Follows s) {n : Nat} : s₀.Follows (s.startSampling n) :=
  .ite h (.ite (.setSamplingRun (.requestUnit h)) (.setSamplingRun (.requestUnit h)))

theorem State.Follows.stopSampling (h : s₀.Follows s) {n : Nat} : s₀.Follows (s.stopSampling n) := .setSamplingRun (.releaseAll h)

theorem State.leads_execSamplingStart (h : s₀.Follows s) {dt : Nat} : s₀.Leads (execSamplingStart dt s) :=
  .next (.whenUp (.elapse h) (fun _ h' => .startSampling h'))

theorem State.leads_execSamplingStop (h : s₀.Follows s) {dt : Nat} : s₀.Leads (execSamplingStop dt s) :=
  .next (.whenUp (.elapse h) (fun _ h' => .stopSampling h'))

theorem State.Follows.signalLoss (h : s₀.Follows s) {n : Nat} : s₀.Follows (s.signalLoss n) := .ite (.signal (.setSamplingRun h)) h

theorem State.Follows.writeSample (h : s₀.Follows s) {n : Nat} {o : Occurrence} : s₀.Follows (s.writeSample n o) :=
  .ite (.signal (.ite (.signalLoss (.bump (.bump (.setSamplingRun h)))) (.bump (.setSamplingRun h)))) (.ite (.signalLoss (.bump (.bump
      (.setSamplingRun h)))) (.bump (.setSamplingRun h)))

theorem State.Follows.sample1 (h : s₀.Follows s) {o : Occurrence} : s₀.Follows (s.sample1 o) :=
  .ite (.ite (.setSamplingRun h) (.ite (.signalLoss (.bump (.setSamplingRun h))) (.writeSample (.setSamplingRun h)))) h

theorem State.leads_execSampleRecord (h : s₀.Follows s) {dt : Nat} {occ : Occurrence} : s₀.Leads (execSampleRecord dt occ s) :=
  .next (.whenUp (.elapse h) (fun _ h' => .ite (.sample1 h') h'))

theorem State.Follows.actReadMark (h : s₀.Follows s) {v : Nat} : s₀.Follows (s.actReadMark v) := .setSamplingRun (.clampNum h)

theorem State.leads_execReadMarkWrite (h : s₀.Follows s) {dt v : Nat} : s₀.Leads (execReadMarkWrite dt v s) :=
  .next (.whenUp (.elapse h) (fun _ h' => .actReadMark h'))

theorem State.Follows.actSamplingCopy (h : s₀.Follows s) {v : Nat} : s₀.Follows (s.actSamplingCopy v) := .writeBytes (.clampNum h)

theorem State.leads_execSamplingCopy (h : s₀.Follows s) {dt : Nat} : s₀.Leads (execSamplingCopy dt s) :=
  .next (.whenUp (.elapse h) (fun _ h' => .actSamplingCopy h'))

theorem State.Follows.endWindow (h : s₀.Follows s) {traffic : List (Nat × Nat)} : s₀.Follows (s.endWindow traffic) :=
  .ite (.signal h.keep) h.keep

theorem State.leads_execBandwidthWindowEnd (h : s₀.Follows s) {dt : Nat} {traffic : List (Nat × Nat)} : s₀.Leads
    (execBandwidthWindowEnd dt traffic s) :=
  .next (.whenUp (.elapse h) (fun _ h' => .ite (.endWindow h') h'))

/-! ### Sys2Proof/Machine/Pins.lean -/

theorem State.leads_execResetNAssert (h : s₀.Follows s) {dt : Nat} : s₀.Leads (execResetNAssert dt s) :=
  .next (.enterColdReset (.keep (.elapse h)))

theorem State.Follows.holdWarm (h : s₀.Follows s) : s₀.Follows s.holdWarm := by
  unfold State.holdWarm
  refine .keep (.setCnt (.setCnt ?_))
  split
  · exact .enterWarmReset h
  · exact .enterWarmReset h
  · exact .warmClear (.log h)

theorem State.leads_execRefclkLoss (h : s₀.Follows s) {dt : Nat} : s₀.Leads (execRefclkLoss dt s) :=
  .next (.ite (.elapse h) (.ite (.keep (.elapse h)) (.holdWarm (.setClockState (.signal (.bump (.keep (.elapse h))))))))

theorem State.Follows.endHold (h : s₀.Follows s) : s₀.Follows s.endHold := .ite (.warmBoot h.keep) h

theorem State.leads_execRefclkRestored (h : s₀.Follows s) {dt : Nat} : s₀.Leads (execRefclkRestored dt s) :=
  .next (.endHold (.keep (.elapse h)))

theorem State.Follows.actJobSignal (h : s₀.Follows s) {k v : Nat} : s₀.Follows (s.actJobSignal k v) :=
  .requestJobPin (.releaseUnit (.setRwp (.clampNum h)))

theorem State.leads_execJobSignalAssign (h : s₀.Follows s) {dt pin v : Nat} : s₀.Leads (execJobSignalAssign dt pin v s) :=
  .next (.whenUp (.elapse h) (fun _ h' => .ite (.actJobSignal h') h'))

theorem State.Follows.rearmHooks (h : s₀.Follows s) {a : Asker} : s₀.Follows (s.rearmHooks a) := by
  unfold State.rearmHooks
  split
  · exact .setSamplingRun h
  · exact h.keep
  · exact h
  · exact h
  · exact h
  · exact h
  · exact h
  · exact h
  · exact h
  · exact h
  · exact h
  · exact h
  · exact h

theorem State.Follows.forgetWaits (h : s₀.Follows s) {a : Asker} : s₀.Follows (s.forgetWaits a) := h.keep

theorem State.Follows.rearm (h : s₀.Follows s) {u : Nat} : s₀.Follows (s.rearm u) := by
  unfold State.rearm
  refine .ite h ?_
  split
  · exact h
  · exact .rearmHooks (.grantUnit (.forgetWaits h))

theorem State.leads_execResourceRearm (h : s₀.Follows s) {dt unit : Nat} : s₀.Leads (execResourceRearm dt unit s) :=
  .next (.whenUp (.elapse h) (fun _ h' => .rearm h'))

theorem State.leads_execRefusalCountersClear (h : s₀.Follows s) {dt v : Nat} : s₀.Leads (execRefusalCountersClear dt v s) :=
  .next (.whenUp (.elapse h) (fun _ h' => .execClear h'))

theorem State.Follows.losePath (h : s₀.Follows s) {p : Nat} {spare : Bool} : s₀.Follows (s.losePath p spare) :=
  .ite h (.ite (.setCnt h) (.deductPermanent (.signal (.setCnt h))))

theorem State.leads_execDiePathLaneLoss (h : s₀.Follows s) {dt path : Nat} {spare : Bool} : s₀.Leads (execDiePathLaneLoss dt path spare
    s) :=
  .next (.whenUp (.elapse h) (fun _ h' => .ite (.losePath h') h'))

/-! ### Sys2Proof/Machine/Clock.lean -/

theorem State.leads_execPtpAnnounce (h : s₀.Follows s) {dt port : Nat} {msg : PtpAnnounce} : s₀.Leads (execPtpAnnounce dt port msg s) :=
  .next (.whenUp (.elapse h) (fun _ h' => .ite (.keep h') h'))

theorem State.Follows.acceptSync (h : s₀.Follows s) {offset : Int} : s₀.Follows (s.acceptSync offset) :=
  .ite (.setClockState (.keep (.setObj h))) (.follow (.setObj h))

theorem State.leads_execPtpSync (h : s₀.Follows s) {dt port : Nat} {msg : PtpSync} : s₀.Leads (execPtpSync dt port msg s) :=
  .next (.whenUp (.elapse h) (fun _ h' => .ite (.acceptSync h') h'))

theorem State.leads_execSyncTimeout (h : s₀.Follows s) {dt : Nat} : s₀.Leads (execSyncTimeout dt s) :=
  .next (.whenUp (.elapse h) (fun _ h' => .ite (.setClockState h') h'))

theorem State.leads_execHoldoverLimit (h : s₀.Follows s) {dt : Nat} : s₀.Leads (execHoldoverLimit dt s) :=
  .next (.whenUp (.elapse h) (fun _ h' => .ite (.setClockState h') h'))

theorem State.Follows.acceptEdge (h : s₀.Follows s) : s₀.Follows s.acceptEdge := .ite (.signal (.bump h)) (.follow h)

theorem State.leads_execPpsInEdge (h : s₀.Follows s) {dt : Nat} : s₀.Leads (execPpsInEdge dt s) :=
  .next (.whenUp (.elapse h) (fun _ h' => .ite (.acceptEdge h') h'))

theorem State.leads_execPpsOutPulse (h : s₀.Follows s) {dt : Nat} : s₀.Leads (execPpsOutPulse dt s) :=
  .next (.whenUp (.elapse h) (fun _ h' => .ite (.keep h') h'))

theorem State.leads_execPpsOutFall (h : s₀.Follows s) {dt : Nat} : s₀.Leads (execPpsOutFall dt s) :=
  .next (.ite (.keep (.elapse h)) (.elapse h))

/-! ### Sys2Proof/Machine/Fabric.lean -/

theorem State.Follows.freeFlits (h : s₀.Follows s) {n ty len : Nat} : s₀.Follows (s.freeFlits n ty len) :=
  .ite (.sendFlit (.setLink h)) (.setLink h)

theorem State.Follows.arrive (h : s₀.Follows s) {via : Via} {ty : Nat} {m : FabMsg} : s₀.Follows (s.arrive via ty m) := by
  unfold State.arrive
  refine .ite (.startWake ?_) ?_
  · split
    · exact .freeFlits h
    · exact .countEvent h
  · split
    · exact .freeFlits h
    · exact .countEvent h

theorem State.Follows.setRx (h : s₀.Follows s) {d : Nat} {x : RxState} : s₀.Follows (s.setRx d x) := h.keep

theorem State.Follows.markSeq (h : s₀.Follows s) {hd : FabHdr} : s₀.Follows (s.markSeq hd) := .setRx h

theorem State.Follows.refuseCmd (h : s₀.Follows s) {hd : FabHdr} : s₀.Follows (s.refuseCmd hd) := .setRx h

theorem State.Follows.refuse (h : s₀.Follows s) {ty : Nat} {hd : FabHdr} {code : Nat} : s₀.Follows (s.refuse ty hd code) :=
  .respond (.ite (.refuseCmd (.markSeq h)) (.markSeq h))

theorem State.Follows.duplicate (h : s₀.Follows s) {ty : Nat} {hd : FabHdr} : s₀.Follows (s.duplicate ty hd) :=
  .ite (.respond (.bump h)) (.bump h)

theorem State.Follows.stray (h : s₀.Follows s) {ty : Nat} {hd : FabHdr} : s₀.Follows (s.stray ty hd) :=
  .refuse (.signal (.bump (.foldl (fun _ _ h' => .setCnt h') h.keep)))

theorem State.Follows.receive (h : s₀.Follows s) {ty : Nat} {via : Via} {m : FabMsg} {act : Lander} (hact : ∀ t x1 x2, s₀.Follows t →
    s₀.Follows (act t x1 x2)) : s₀.Follows (s.receive ty via m act) :=
  .whenUp h (fun _ h' => .ite h' (.ite (.bump (.arrive h')) (.ite (.refuse (.arrive h')) (.ite (hact _ _ _ (.markSeq (.arrive h')))
      (.ite (.bump (.arrive h')) (.ite (.duplicate (.arrive h')) (.ite (.respond (.arrive h')) (.ite (.ite (.refuse (.bump (.arrive
      h'))) (.markSeq (.bump (.arrive h')))) (.ite (.stray (.arrive h')) (hact _ _ _ (.arrive h')))))))))))

theorem State.Follows.countTranslation (h : s₀.Follows s) {code : Nat} : s₀.Follows (s.countTranslation code) := .ite (.bump h) h

theorem State.Follows.endCommand (h : s₀.Follows s) {hd last : FabHdr} : s₀.Follows (s.endCommand hd last) :=
  .ite (.respond (.ite (.signal (.ite h (.fillSlot h))) (.ite h (.fillSlot h)))) (.ite (.signal (.ite h (.fillSlot h))) (.ite h
      (.fillSlot h)))

theorem State.Follows.noteLanded (h : s₀.Follows s) {hd : FabHdr} : s₀.Follows (s.noteLanded hd).1 := by
  unfold State.noteLanded
  extract_lets x k0 k1 s1
  have h1 : s₀.Follows s1 := .bump h
  split
  · exact .iteFst (.fst (.setRx h1)) (.fst (.setRx h1))
  · exact .fst (.setRx h1)

theorem State.Follows.landData (h : s₀.Follows s) {ty : Nat} {put : Lander} {hd : FabHdr} {p : List Byte} (hput : ∀ t x1 x2, s₀.Follows
    t → s₀.Follows (put t x1 x2)) : s₀.Follows (s.landData ty put hd p) := by
  unfold State.landData
  refine .ite (.refuse (.countTranslation h)) ?_
  dsimp only
  split
  · exact .endCommand (.noteLanded (hput _ _ _ h))
  · exact .noteLanded (hput _ _ _ h)

theorem State.leads_execFabricWrite (h : s₀.Follows s) {dt : Nat} {via : Via} {msg : FabMsg} : s₀.Leads (execFabricWrite dt via msg s) :=
  .next (.receive (.elapse h) fun _ _ _ h' => .landData h' fun _ _ _ h'' => .engineWrite h'')

theorem State.leads_execFabricDoorbell (h : s₀.Follows s) {dt : Nat} {via : Via} {msg : FabMsg} :
    s₀.Leads (execFabricDoorbell dt via msg s) :=
  .next (.receive (.elapse h) fun _ _ _ h' => .landData h' fun _ _ _ h'' => .doorWrite h'')

theorem State.leads_execFillOnly (h : s₀.Follows s) {dt : Nat} {via : Via} {msg : FabMsg} : s₀.Leads (execFillOnly dt via msg s) :=
  .next (.receive (.elapse h) fun _ _ _ h' => .landData h' fun _ _ _ h'' => h'')

theorem State.leads_execCloseNotice (h : s₀.Follows s) {dt : Nat} {via : Via} {msg : FabMsg} : s₀.Leads (execCloseNotice dt via msg s) :=
  .next (.receive (.elapse h) (fun _ _ _ h' => .fillSlot (.dropFilling (.bump (.markSeq h')))))

theorem State.leads_execPeerResetMessage (h : s₀.Follows s) {dt : Nat} {via : Via} {msg : FabMsg} : s₀.Leads (execPeerResetMessage dt
    via msg s) :=
  .next (.receive (.elapse h) (fun _ _ _ h' => .ite (.bump (.bump h')) (.peerReset (.bump (.bump h')))))

theorem State.leads_execPeerResetHoldExpiry (h : s₀.Follows s) {dt dev : Nat} : s₀.Leads (execPeerResetHoldExpiry dt dev s) :=
  .next (.whenUp (.elapse h) (fun _ h' => .ite (.endPeerReset h') h'))

theorem State.leads_execRafterCountersClear (h : s₀.Follows s) {dt v : Nat} : s₀.Leads (execRafterCountersClear dt v s) :=
  .next (.whenUp (.elapse h) (fun _ h' => .execClear h'))

theorem State.Follows.actTransportClear (h : s₀.Follows s) {v : Nat} : s₀.Follows (s.actTransportClear v) := .keep (.execClear h)

theorem State.leads_execTransportCountersClear (h : s₀.Follows s) {dt v : Nat} : s₀.Leads (execTransportCountersClear dt v s) :=
  .next (.whenUp (.elapse h) (fun _ h' => .actTransportClear h'))

/-! ### Sys2Proof/Machine/Tensor.lean -/

theorem State.leads_execTensorCountersClear (h : s₀.Follows s) {dt v : Nat} : s₀.Leads (execTensorCountersClear dt v s) :=
  .next (.whenUp (.elapse h) (fun _ h' => .execClear h'))

theorem State.Follows.countTile (h : s₀.Follows s) {b c : Nat} {t : TensorCmd} : s₀.Follows (s.countTile b c t) :=
  .countEvent (.countEvent h)

theorem State.Follows.freeShared (h : s₀.Follows s) {t : TensorCmd} {at_ : Bool × Bool} {l : List (List Byte)} : s₀.Follows
    (s.freeShared t at_ l).1 :=
  .fst (.draw h)

theorem State.Follows.noteResidue (h : s₀.Follows s) {b col stage : Nat} : s₀.Follows (s.noteResidue b col stage) :=
  .setCnt (.setCnt (.setCnt (.setCnt h)))

theorem State.Follows.tensorMismatch (h : s₀.Follows s) {b : Nat} {diag : Option Diag} : s₀.Follows (s.tensorMismatch b diag) := by
  unfold State.tensorMismatch
  split
  · exact .bump (.noteResidue h)
  · exact .bump (.noteResidue (.draw h))

theorem State.Follows.ballastTile (h : s₀.Follows s) {b : Nat} {diag : Option Diag} : s₀.Follows (s.ballastTile b diag) := by
  unfold State.ballastTile
  split
  · exact .mismatch (.signal (.tensorMismatch h))
  · exact .mismatch (.signal (.tensorMismatch h))
  · exact h

theorem State.leads_execTensorProduct (h : s₀.Follows s) {dt e : Nat} {diag : Option Diag} : s₀.Leads (execTensorProduct dt e diag s)
    := by
  unfold execTensorProduct
  refine .next (.ite (.whenUp (.elapse h) (fun _ h' => .ballastTile h')) (.onRun (.elapse h) (fun _ _ h' => .ite h' (.ite h' (.ite
      (.endAccess h') (.ite (.endWith (.meetUe h')) (.ite h' ?_)))))))
  dsimp only
  split
  · exact .endMismatch (.tensorMismatch (.bumpBy (.countTile (.heatAll (.meetUe h')))))
  · exact .endMismatch (.tensorMismatch (.bumpBy (.countTile (.heatAll (.meetUe h')))))
  · exact .setEngine (.bumpBy (.countTile (.heatAll (.meetUe h'))))

theorem State.Follows.endTile (h : s₀.Follows s) {e : Nat} {r : Run} {code : Nat} : s₀.Follows (s.endTile e r code) :=
  .ite (.abandon (.setEngine (.finishRun (.clearEngine h)))) (.setEngine (.finishRun (.clearEngine h)))

theorem State.Follows.stoppedWrites (h : s₀.Follows s) {c : Nat} {diag : Option Diag} {recompute : Bool} {first second : List (Nat ×
    List Byte)} : s₀.Follows (s.stoppedWrites c diag recompute first second) := by
  unfold State.stoppedWrites
  split
  · exact .ite (.writeSome h) (.ite (.writeAll h) h)
  · exact .writeSome h

theorem State.leads_execTileEpilogue (h : s₀.Follows s) {dt e : Nat} {diag : Option Diag} :
    s₀.Leads (execTileEpilogue dt e diag s) := by
  refine .next (.whenUp (.elapse h) fun s h => ?_)
  split
  · exact h
  · next r _ =>
    split
    · exact h
    · next tile _ =>
      refine .ite h ?_
      extract_lets -underBinder +onlyGivenNames b t kb keyed pred first again recompute fresh second planed stopped
      have hstopped : s₀.Follows stopped := .countSome (.stoppedWrites h)
      split
      · exact .endTile (.reactMismatch (.tensorMismatch hstopped))
      · exact .endTile (.reactMismatch (.tensorMismatch hstopped))
      · exact .endTile (.reactMismatch hstopped)
      · extract_lets -underBinder code u s1 undefined record s2 s3 s4 s5 s6 d s7 bytes record1 at_ sh s8 s9 s10 s11 s12
        have h1 : s₀.Follows s1 := .iteFst (.meetUe h) h
        have h4 : s₀.Follows s4 := .ite (.bump (.bumpBy (.ite (.countTile h1) h1))) (.bumpBy (.ite (.countTile h1) h1))
        have h7 : s₀.Follows s7 := .iteFst (.draw (.countPlaner (.bumpBy h4))) (.countPlaner (.bumpBy h4))
        have hsh : s₀.Follows sh.1 := .iteFst (.freeShared h7) h7
        have h9 : s₀.Follows s9 := .bump (.writeAll hsh)
        have h11 : s₀.Follows s11 := .countEvent (.countWrites (.ite (.bump h9) h9))
        have h12 : s₀.Follows s12 := .ite (.countEvent h11) h11
        exact .ite (.endTile (.reportAccess h)) (.ite (.endTile (.countPlaner (.writeAll h1))) (.endTile h12))

/-! ### Sys2Proof/Machine/Queue.lean -/

theorem State.Follows.countFieldClamps (h : s₀.Follows s) {c : Nat} {m : Cmd} {block : List Byte} : s₀.Follows (s.countFieldClamps c m
    block) := by
  unfold State.countFieldClamps
  dsimp only
  split
  · exact .ite (.bump h) h
  · exact .bumpBy h
  · exact .bumpBy h
  · exact .bumpBy h
  · exact .bumpBy h
  · exact .bumpBy h
  · exact .bumpBy h
  · exact .ite (.bump (.ite (.bump h) h)) (.ite (.bump h) h)
  · exact .ite (.bump h) h
  · exact .ite (.bump h) h

theorem State.Follows.countPreempt (h : s₀.Follows s) {e : Nat} {c : Option Nat} : s₀.Follows (s.countPreempt e c) :=
  .ite (.countEvent (.bump h)) (.bump h)

theorem State.Follows.touchBay (h : s₀.Follows s) {e : Nat} : s₀.Follows (s.touchBay e) := by
  unfold State.touchBay
  split
  · exact .setBay (.ite (.countPreempt h) h)
  · exact h

theorem State.Follows.place (h : s₀.Follows s) {e : Nat} {r : Run} : s₀.Follows (s.place e r) := .setEngine (.touchBay h)

theorem State.Follows.startHead (h : s₀.Follows s) {e c rank : Nat} : s₀.Follows (s.startHead e c rank) :=
  .track (.place (.setEngine (.countFieldClamps (.ite (.bump (.setCtx h)) (.setCtx h)))))

theorem State.Follows.badSlot (h : s₀.Follows s) {e c : Nat} : s₀.Follows (s.badSlot e c) := .abandon (.finishHead (.memoryError h))

theorem State.Follows.resumeParked (h : s₀.Follows s) {e c rank : Nat} {p : Parked} : s₀.Follows (s.resumeParked e c rank p) := by
  unfold State.resumeParked
  dsimp only
  split
  · exact .armTimer (.modCtx h)
  · exact .ite (.armTimer (.modCtx h)) (.ite (.finishRun (.modCtx (.armTimer (.modCtx h)))) (.ite (.ite (.abandon (.finishRun
      (.armTimer (.modCtx h)))) (.finishRun (.armTimer (.modCtx h)))) (.track (.place (.armTimer (.modCtx h))))))

theorem State.Follows.take (h : s₀.Follows s) {e : Nat} {k : Choice} {ue : Bool} : s₀.Follows (s.take e k ue) := by
  unfold State.take
  split
  · exact .track (.place (.setEngine h))
  · exact .resumeParked h
  · refine .ite (.badSlot h) ?_
    dsimp only
    split
    · exact .finishHead h
    · exact .startHead h

theorem State.Follows.addRecord (h : s₀.Follows s) {c : Nat} {p : Parked} : s₀.Follows (s.addRecord c p) := by
  unfold State.addRecord
  exact .track (.armTimer (.saveParked (.ite (.signal (.modCtx (.bump (.modCtx h)))) (.bump (.modCtx h)))))

theorem State.Follows.tableFull (h : s₀.Follows s) {c : Nat} : s₀.Follows (s.tableFull c) := .track (.armTimer h)

theorem State.Follows.parkRun (h : s₀.Follows s) {e : Nat} {r : Run} : s₀.Follows (s.parkRun e r) := by
  unfold State.parkRun
  split
  · exact h
  · exact .ite (.tableFull h) (.addRecord (.setEngine h))

theorem State.Follows.suspend (h : s₀.Follows s) {e : Nat} {r : Run} : s₀.Follows (s.suspend e r) := .countPreempt (.setEngine h)

theorem State.Follows.preempt (h : s₀.Follows s) {e : Nat} {r : Run} {ue : Bool} : s₀.Follows (s.preempt e r ue) :=
  .ite h (.ite (.ite h (.ite (.elim (.countPreempt (.parkRun h)) (fun _ => .take (.countPreempt (.parkRun h)))) (.tableFull h))) (.ite
      (.elim (.suspend h) (fun _ => .take (.suspend h))) h))

theorem State.leads_execCommandStart (h : s₀.Follows s) {dt e : Nat} {ue : Bool} : s₀.Leads (execCommandStart dt e ue s) := by
  unfold execCommandStart
  refine .next (.whenUp (.elapse h) (fun _ h' => .ite (.expireWaits h') ?_))
  split
  · exact .preempt (.expireWaits h')
  · exact .elim (.expireWaits h') (fun _ => .take (.expireWaits h'))

theorem State.leads_execNoOp (h : s₀.Follows s) {dt e : Nat} : s₀.Leads (execNoOp dt e s) :=
  .next (.onRun (.elapse h) (fun _ _ h' => .ite (.endWith h') h'))

theorem State.leads_execLayerMarker (h : s₀.Follows s) {dt e : Nat} : s₀.Leads (execLayerMarker dt e s) :=
  .next (.onRun (.elapse h) (fun _ _ h' => .ite (.endWith (.modCtx h')) h'))

theorem State.Follows.mapVersion (h : s₀.Follows s) {c v : Nat} : s₀.Follows (s.mapVersion c v) := by
  unfold State.mapVersion
  refine .ite h ?_
  split
  · exact h
  · refine .modCtx (.foldl (fun _ _ h' => .countMaps h') (.foldl (fun _ _ h' => .countMaps h') (.foldl (fun _ _ h' => ?_) h)))
    split
    · exact .remap h'
    · exact h'

theorem State.Follows.dropVersion (h : s₀.Follows s) {c v : Nat} : s₀.Follows (s.dropVersion c v) := by
  unfold State.dropVersion
  dsimp only
  split
  · exact h
  · exact .ite h (.signal (.bump (.releaseIds (.modCtx (.ite (.mapVersion h) h)))))

theorem State.leads_execStepOpen (h : s₀.Follows s) {dt : Nat} : s₀.Leads (execStepOpen dt s) :=
  .next (.onRun (.elapse h) (fun _ _ h' => .endWith (.clearWaits (.modCtx (.mapVersion h')))))

theorem State.Follows.emptyStack (h : s₀.Follows s) {c : Nat} : s₀.Follows (s.emptyStack c).1 :=
  .fst (.bumpBy (.modCtx (.foldl (fun _ _ h' => .setHeld h') h)))

theorem State.Follows.measureStep (h : s₀.Follows s) {c : Nat} {stalls : List (Nat × Nat)} : s₀.Follows (s.measureStep c stalls) := by
  unfold State.measureStep
  exact .modCtx (.ite (.keep (.ite (.setObj (.setObj (.setObj (.setObj (.setObj (.clearWaits h)))))) (.clearWaits h))) (.ite (.setObj
      (.setObj (.setObj (.setObj (.setObj (.clearWaits h)))))) (.clearWaits h)))

theorem State.leads_execStepClose (h : s₀.Follows s) {dt : Nat} {delays : List (Nat × Nat)} : s₀.Leads (execStepClose dt delays s) :=
  .next (.onRun (.elapse h) (fun _ _ h' => .admitTest (.endWith (.ite (.dropVersion (.leaveQuarantine (.modCtx (.measureStep
      (.emptyStack h'))))) (.ite (.startReshard (.dropVersion (.leaveQuarantine (.modCtx (.measureStep (.emptyStack h'))))))
      (.closeImage (.dropVersion (.leaveQuarantine (.modCtx (.measureStep (.emptyStack h')))))))))))

/-! ### Sys2Proof/Machine/Collective.lean -/

theorem State.Follows.noteSent (h : s₀.Follows s) {c : Nat} {k : Coll} {l ph j : Nat} : s₀.Follows (s.noteSent c k l ph j) := .modCtx h

theorem State.Follows.keepSent (h : s₀.Follows s) {l : List (FabHdr × List Byte)} : s₀.Follows (s.keepSent l) := .setEngine h

theorem State.Follows.givePiece (h : s₀.Follows s) {c : Nat} {r : Run} {k : Coll} {dest l ph j : Nat} {ws : List Nat} : s₀.Follows
    (s.givePiece c r k dest l ph j ws) :=
  .foldl (fun _ _ h' => .ite (.modCtx h') (.keepSent (.sendCommand h'))) h

theorem State.Follows.sendInputs (h : s₀.Follows s) {c : Nat} {r : Run} {k : Coll} : s₀.Follows (s.sendInputs c r k) :=
  .foldl (fun _ _ h' => .ite h' (.noteSent (.givePiece h'))) h

theorem State.Follows.foldShard (h : s₀.Follows s) {c : Nat} {r : Run} {k : Coll} {l j : Nat} : s₀.Follows (s.foldShard c r k l j) :=
  .ite h (.ite h (.ite (.givePiece (.countEvent (.noteSent h))) (.givePiece (.countEvent (.noteSent h)))))

theorem State.Follows.foldAll (h : s₀.Follows s) {c : Nat} {r : Run} {k : Coll} : s₀.Follows (s.foldAll c r k) :=
  .foldl (fun _ _ h' => .foldl (fun _ _ h'' => .foldShard h'') h') h

theorem State.Follows.returnShard (h : s₀.Follows s) {c : Nat} {r : Run} {k : Coll} {l j : Nat} : s₀.Follows (s.returnShard c r k l j)
    := by
  unfold State.returnShard
  refine .ite h ?_
  split
  · exact h
  · exact .noteSent (.foldl (fun _ _ h' => .givePiece h') h)

theorem State.Follows.returnAll (h : s₀.Follows s) {c : Nat} {r : Run} {k : Coll} : s₀.Follows (s.returnAll c r k) :=
  .foldl (fun _ _ h' => .foldl (fun _ _ h'' => .returnShard h'') h') h

theorem State.Follows.sendGathered (h : s₀.Follows s) {c : Nat} {r : Run} {k : Coll} : s₀.Follows (s.sendGathered c r k) :=
  .ite h (.noteSent (.foldl (fun _ _ h' => .givePiece h') h))

theorem State.Follows.storeResults (h : s₀.Follows s) {c : Nat} {k : Coll} : s₀.Follows (s.storeResults c k) := by
  unfold State.storeResults
  refine .ite h (.foldl (fun _ _ h' => .ite h' ?_) h)
  split
  · exact h'
  · exact .noteSent (.engineWrite h')

theorem State.Follows.sealStep (h : s₀.Follows s) {c : Nat} {k : Coll} {y : List Nat} : s₀.Follows (s.sealStep c k y) :=
  .setObj (.engineWrite (.setCtx h))

theorem State.Follows.dispatch (h : s₀.Follows s) {c : Nat} {k : Coll} : s₀.Follows (s.dispatch c k) :=
  .foldl (fun _ _ h' => .ite (.engineWrite h') (.bumpBy (.engineWrite h'))) h

theorem State.Follows.combine (h : s₀.Follows s) {c : Nat} {k : Coll} : s₀.Follows (s.combine c k) :=
  .foldl (fun _ _ h' => .engineWrite h') h

theorem State.Follows.endReshard (h : s₀.Follows s) {c : Nat} {k : Coll} : s₀.Follows (s.endReshard c k) :=
  .ite (.admitTest (.signal (.bump (.modCtx h)))) h

theorem State.Follows.endColl (h : s₀.Follows s) {c : Nat} {r : Run} {k : Coll} : s₀.Follows (s.endColl c r k) := by
  unfold State.endColl
  refine .endReshard (.endWith (.bump (.modCtx (.modCtx ?_))))
  split
  · exact .dispatch h
  · exact .combine h
  · exact .sealStep h
  · exact h

theorem State.Follows.failColl (h : s₀.Follows s) {r : Run} {k : Coll} {code : Nat} : s₀.Follows (s.failColl r k code) :=
  .endAccess (.ite (.modCtx h) h)

theorem State.Follows.exchange (h : s₀.Follows s) {c : Nat} {r : Run} {k : Coll} : s₀.Follows (s.exchange c r k) :=
  .storeResults (.ite (.returnAll (.foldAll (.sendInputs h))) (.sendGathered h))

theorem State.Follows.runColl (h : s₀.Follows s) {r : Run} {diag : Option Diag} : s₀.Follows (s.runColl r diag) := by
  unfold State.runColl
  refine .ite (.failColl h) (.ite (.failColl h) ?_)
  split
  · exact .memberLost h
  · split
    · exact .ite (.failColl (.memoryError h)) (.memoryError h)
    · exact .endMismatch (.ite (.modCtx h) h)
    · refine .ite ?_ (.setEngine (.exchange h))
      split
      · exact .endColl (.exchange h)
      · exact .exchange h

theorem State.Follows.onColl (h : s₀.Follows s) {op : Nat} {diag : Option Diag} : s₀.Follows (s.onColl op diag) := by
  unfold State.onColl
  refine .whenUp h (fun _ h' => ?_)
  split
  · exact h'
  · refine .ite ?_ h'
    split
    · exact .endWith h'
    · exact .runColl h'

theorem State.leads_execAllReduce (h : s₀.Follows s) {dt : Nat} {diag : Option Diag} : s₀.Leads (execAllReduce dt diag s) :=
  .next (.onColl (.elapse h))

theorem State.leads_execReduceScatter (h : s₀.Follows s) {dt : Nat} {diag : Option Diag} : s₀.Leads (execReduceScatter dt diag s) :=
  .next (.onColl (.elapse h))

theorem State.leads_execAllGather (h : s₀.Follows s) {dt : Nat} {diag : Option Diag} : s₀.Leads (execAllGather dt diag s) :=
  .next (.onColl (.elapse h))

theorem State.leads_execBroadcast (h : s₀.Follows s) {dt : Nat} {diag : Option Diag} : s₀.Leads (execBroadcast dt diag s) :=
  .next (.onColl (.elapse h))

theorem State.leads_execExpertDispatch (h : s₀.Follows s) {dt : Nat} {diag : Option Diag} : s₀.Leads (execExpertDispatch dt diag s) :=
  .next (.onColl (.elapse h))

theorem State.leads_execExpertCombine (h : s₀.Follows s) {dt : Nat} {diag : Option Diag} : s₀.Leads (execExpertCombine dt diag s) :=
  .next (.onColl (.elapse h))

theorem State.leads_execStepSeal (h : s₀.Follows s) {dt : Nat} {diag : Option Diag} : s₀.Leads (execStepSeal dt diag s) :=
  .next (.onColl (.elapse h))

theorem State.leads_execBarrier (h : s₀.Follows s) {dt : Nat} {diag : Option Diag} : s₀.Leads (execBarrier dt diag s) :=
  .next (.onColl (.elapse h))

theorem State.Follows.onAbort (h : s₀.Follows s) {c : Nat} {p : Preamble} : s₀.Follows (s.onAbort c p) := by
  unfold State.onAbort
  refine .ite h (.ite (.setCtx h) ?_)
  split
  · exact .memberLost (.setCtx h)
  · exact .setCtx h

theorem State.Follows.wakeColl (h : s₀.Follows s) {c : Nat} {hd : FabHdr} {p : Preamble} : s₀.Follows (s.wakeColl c hd p) :=
  .wakeParked (.fillSlot h)

theorem State.Follows.takeContribution (h : s₀.Follows s) {hd : FabHdr} {b : List Byte} : s₀.Follows (s.takeContribution hd b) :=
  .ite (.refuse (.countTranslation h)) (.ite (.refuse h) (.ite (.bump (.bump (.markSeq h))) (.ite (.onAbort (.bump (.markSeq h))) (.ite
      (.bump (.bump (.markSeq h))) (.wakeColl (.countEvent (.putBytes (.setCtx (.bump (.markSeq h))))))))))

theorem State.leads_execContribution (h : s₀.Follows s) {dt : Nat} {via : Via} {msg : FabMsg} : s₀.Leads (execContribution dt via msg
    s) :=
  .next (.receive (.elapse h) (fun _ _ _ h' => .takeContribution h'))

theorem State.Follows.unpair (h : s₀.Follows s) : s₀.Follows s.unpair := h.keep

theorem State.Follows.actPair (h : s₀.Follows s) {host guest : Nat} : s₀.Follows (s.actPair host guest).1 :=
  .iteFst (.fst (.setCnt h)) (.fst (.setCnt (.modCtx (.modCtx (.unpair h)))))

theorem State.leads_execDovetailPair (h : s₀.Follows s) {dt host guest : Nat} : s₀.Leads (execDovetailPair dt host guest s) :=
  .next (.whenUp (.elapse h) (fun _ h' => .actPair h'))

theorem State.leads_execDovetailUnpair (h : s₀.Follows s) {dt : Nat} : s₀.Leads (execDovetailUnpair dt s) :=
  .next (.whenUp (.elapse h) (fun _ h' => .setCnt (.unpair h')))

theorem State.Follows.actReshard (h : s₀.Follows s) {block : List Byte} {place : Placement} : s₀.Follows (s.actReshard block place) :=
  .ite h (.startReshard (.setCtx (.ite h (.bump h))))

theorem State.leads_execReshard (h : s₀.Follows s) {dt : Nat} {block : List Byte} {place : Placement} : s₀.Leads (execReshard dt block
    place s) :=
  .next (.whenUp (.elapse h) (fun _ h' => .actReshard h'))

theorem State.leads_execMappingCountersClear (h : s₀.Follows s) {dt v : Nat} : s₀.Leads (execMappingCountersClear dt v s) :=
  .next (.whenUp (.elapse h) (fun _ h' => .execClear h'))

/-! ### Sys2Proof/Machine/Power.lean -/

theorem State.Follows.noteClip (h : s₀.Follows s) : s₀.Follows s.noteClip := .bump (.stopBallast h)

theorem State.leads_execClockRaiseAfterSettle (h : s₀.Follows s) {dt die : Nat} : s₀.Leads (execClockRaiseAfterSettle dt die s) :=
  .next (.whenUp (.elapse h) (fun _ h' => .ite (.setDie h') h'))

theorem State.Follows.enterShed (h : s₀.Follows s) {cause : Option Nat} : s₀.Follows (s.enterShed cause) := by
  unfold State.enterShed
  refine .applyClocks ?_
  split
  · exact .keep (.stopBallast h)
  · exact .ite (.stopBallast h) (.bump (.keep (.stopBallast h)))

theorem State.Follows.noteClear (h : s₀.Follows s) : s₀.Follows s.noteClear := .ite h.keep h

theorem State.Follows.clearCause (h : s₀.Follows s) {k : Nat} : s₀.Follows (s.clearCause k) := .ite (.noteClear h.keep) h

theorem State.Follows.whenSafe (h : s₀.Follows s) {f : State → State} (hf : ∀ t, s₀.Follows t → s₀.Follows (f t)) : s₀.Follows
    (s.whenSafe f) := by
  unfold State.whenSafe
  split
  · exact h
  · exact h
  · exact hf _ h

theorem State.leads_execShedNAssert (h : s₀.Follows s) {dt : Nat} : s₀.Leads (execShedNAssert dt s) := by
  unfold execShedNAssert
  refine .next ?_
  split
  · exact .keep (.elapse h)
  · exact .ite (.keep (.elapse h)) (.signal (.bump (.enterShed (.keep (.elapse h)))))

theorem State.leads_execShedNDeassert (h : s₀.Follows s) {dt : Nat} : s₀.Leads (execShedNDeassert dt s) := .next (.keep (.elapse h))

theorem State.leads_execShedEnd (h : s₀.Follows s) {dt : Nat} : s₀.Leads (execShedEnd dt s) :=
  .next (.whenUp (.elapse h) (fun _ h' => .ite (.admitTest (.applyClocks (.keep h'))) h'))

theorem State.Follows.chargeContexts (h : s₀.Follows s) {l : List (Nat × Rat)} : s₀.Follows (s.chargeContexts l) := h.keep

theorem State.Follows.addWindow (h : s₀.Follows s) {e : Estimates} : s₀.Follows (s.addWindow e) :=
  .keep (.foldl (fun _ _ h' => .setDie h') (.chargeContexts h))

theorem State.Follows.trackMean (h : s₀.Follows s) : s₀.Follows s.trackMean := h.keep

theorem State.Follows.elecClip (h : s₀.Follows s) : s₀.Follows s.elecClip :=
  .ite (.applyClocks (.noteClip (.keep (.ite (.bump (.signal h.keep)) h.keep)))) (.ite (.bump (.signal h.keep)) h.keep)

theorem State.Follows.elecCap (h : s₀.Follows s) : s₀.Follows s.elecCap := .ite (.admitTest (.bump h.keep)) h

theorem State.Follows.elecShed (h : s₀.Follows s) : s₀.Follows s.elecShed := .ite (.enterShed h.keep) h.keep

theorem State.Follows.elecRelease (h : s₀.Follows s) : s₀.Follows s.elecRelease :=
  .ite (.admitTest (.keep (.ite (.applyClocks (.keep (.keep (.clearCause h)))) (.keep (.clearCause h))))) (.ite (.applyClocks (.keep
      (.keep (.clearCause h)))) (.keep (.clearCause h)))

theorem State.Follows.electrical (h : s₀.Follows s) : s₀.Follows s.electrical :=
  .ite (.elecShed (.elecCap (.elecClip (.trackMean h)))) (.elecRelease (.trackMean h))

theorem State.Follows.shedDeep (h : s₀.Follows s) : s₀.Follows s.shedDeep := .ite h h.keep

theorem State.leads_execLedgerWindow (h : s₀.Follows s) {dt : Nat} {est : Estimates} : s₀.Leads (execLedgerWindow dt est s) :=
  .next (.whenUp (.elapse h) (fun _ h' => .shedDeep (.electrical (.ite (.bump (.noteResident (.addWindow h'))) (.noteResident
      (.addWindow h'))))))

theorem State.Follows.correction (h : s₀.Follows s) {d : Nat} {i : Rat} : s₀.Follows (s.correction d i).1 :=
  .iteFst (.fst (.draw h)) (.fst h)

theorem State.leads_execAvsCurrentRead (h : s₀.Follows s) {dt rail : Nat} {frame : Option Nat} : s₀.Leads (execAvsCurrentRead dt rail
    frame s) := by
  unfold execAvsCurrentRead
  refine .next (.whenUp (.elapse h) (fun _ h' => .ite h' ?_))
  dsimp only
  split
  · exact .ite (.signal (.setDie (.bump h'))) (.setDie (.bump h'))
  · exact .ite (.setDie h') (.setDie (.correction h'))

theorem State.leads_execGovernorUpdate (h : s₀.Follows s) {dt : Nat} : s₀.Leads (execGovernorUpdate dt s) :=
  .next (.whenUp (.elapse h) (fun _ h' => .keep h'))

theorem State.leads_execBandCheck (h : s₀.Follows s) {dt stepPower : Nat} : s₀.Leads (execBandCheck dt stepPower s) :=
  .next (.whenUp (.elapse h) (fun _ h' => .ite (.ite (.bump h') (.applyClocks (.noteClip (.keep h')))) (.ite (.applyClocks (.keep h'))
      h')))

theorem State.leads_execBallastUpdate (h : s₀.Follows s) {dt perBay : Nat} : s₀.Leads (execBallastUpdate dt perBay s) :=
  .next (.whenUp (.elapse h) (fun _ h' => .ite (.stopBallast h') (.foldl (fun _ _ h'' => .setBay h'') (.foldl (fun _ _ h'' => .setBay
      h'') (.stopBallast h')))))

theorem State.Follows.noteTherm (h : s₀.Follows s) {down first : Bool} : s₀.Follows (s.noteTherm down first) :=
  .ite (.noteClip (.ite (.bump (.signal h)) h)) (.ite (.bump (.signal h)) h)

theorem State.Follows.sampleDie (h : s₀.Follows s) {d : Nat} {tj : Int} : s₀.Follows (s.sampleDie d tj) :=
  .noteTherm (.ite (.clearCause (.setDie h)) (.setDie h))

theorem State.Follows.sampleEdge (h : s₀.Follows s) {t0 t1 : Int} : s₀.Follows (s.sampleEdge t0 t1) := .noteTherm h.keep

theorem State.Follows.thermCap (h : s₀.Follows s) : s₀.Follows s.thermCap := by
  unfold State.thermCap
  dsimp only
  split
  · exact .ite (.admitTest (.bump h.keep)) h
  · exact .ite (.admitTest h.keep) h

theorem State.leads_execJunctionSample (h : s₀.Follows s) {dt : Nat} {raw : List Int} : s₀.Leads (execJunctionSample dt raw s) :=
  .next (.whenUp (.elapse h) (fun _ h' => .ite (.enterWarmReset (.applyClocks (.thermCap (.keep (.sampleEdge (.foldl (fun _ _ h'' =>
      .sampleDie h'') h')))))) (.applyClocks (.thermCap (.keep (.sampleEdge (.foldl (fun _ _ h'' => .sampleDie h'') h')))))))

theorem State.leads_execThermalTrip (h : s₀.Follows s) {dt die : Nat} : s₀.Leads (execThermalTrip dt die s) :=
  .next (.whenSafe (.elapse h) (fun _ h' => .ite h' (.signal (.bump (.enterShed (.setDie h'))))))

theorem State.leads_execTripHoldTimeout (h : s₀.Follows s) {dt die : Nat} : s₀.Leads (execTripHoldTimeout dt die s) :=
  .next (.whenUp (.elapse h) (fun _ h' => .ite (.setDie (.dieResetFor h')) h'))

theorem State.Follows.vrStatus (h : s₀.Follows s) {status : VrStatus} : s₀.Follows (s.vrStatus status) := by
  unfold State.vrStatus
  split
  · exact .electrical h.keep
  · exact h.keep
  · exact .enterShed h
  · exact h

theorem State.leads_execVrAlert (h : s₀.Follows s) {dt : Nat} {status : VrStatus} : s₀.Leads (execVrAlert dt status s) :=
  .next (.ite (.keep (.elapse h)) (.whenSafe (.bump (.signal (.keep (.elapse h)))) (fun _ h' => .vrStatus h')))

theorem State.leads_execVrAlertDeassert (h : s₀.Follows s) {dt : Nat} : s₀.Leads (execVrAlertDeassert dt s) :=
  .next (.clearCause (.keep (.elapse h)))

theorem State.Follows.loseRail (h : s₀.Follows s) {die : Nat} : s₀.Follows (s.loseRail die) := by
  unfold State.loseRail
  split
  · exact .log h
  · exact .log h
  · exact .dieResetFor h

theorem State.leads_execPgBeamLoss (h : s₀.Follows s) {dt die : Nat} : s₀.Leads (execPgBeamLoss dt die s) :=
  .next (.ite (.whenSafe (.keep (.elapse h)) (fun _ h' => .signal (.bump (.loseRail h')))) (.keep (.elapse h)))

theorem State.leads_execPgSocLoss (h : s₀.Follows s) {dt : Nat} : s₀.Leads (execPgSocLoss dt s) :=
  .next (.enterColdReset (.keep (.elapse h)))

theorem State.leads_execWearCommit (h : s₀.Follows s) {dt : Nat} {seconds : List Nat} : s₀.Leads (execWearCommit dt seconds s) :=
  .next (.whenUp (.elapse h) (fun _ h' => .foldl (fun _ _ h'' => .addWear h'') h'))

theorem State.leads_execBayIdleGate (h : s₀.Follows s) {dt bay : Nat} : s₀.Leads (execBayIdleGate dt bay s) :=
  .next (.whenUp (.elapse h) (fun _ h' => .ite (.setBay h') h'))

theorem State.leads_execBaySleep (h : s₀.Follows s) {dt bay : Nat} : s₀.Leads (execBaySleep dt bay s) :=
  .next (.whenUp (.elapse h) (fun _ h' => .ite (.setBay (.zeroBanks h')) h'))

theorem State.Follows.enterP2 (h : s₀.Follows s) : s₀.Follows s.enterP2 :=
  .keep (.foldl (fun _ _ h' => .setBay h') (.clearBench (.flushLofts h)))

theorem State.Follows.enterP3 (h : s₀.Follows s) : s₀.Follows s.enterP3 := .keep (.failTest (.warmClear (.flushLofts (.announce h))))

theorem State.Follows.actPower (h : s₀.Follows s) {v : Nat} : s₀.Follows (s.actPower v).1 :=
  .iteFst (.iteFst (.fst (.setCnt (.clampNum h))) (.fst (.enterP2 (.setCnt (.clampNum h))))) (.iteFst (.fst (.enterP3 (.setCnt
      (.clampNum h)))) (.fst (.startWake (.setCnt (.clampNum h)))))

theorem State.leads_execDeviceP2Request (h : s₀.Follows s) {dt : Nat} : s₀.Leads (execDeviceP2Request dt s) :=
  .next (.whenUp (.elapse h) (fun _ h' => .actPower h'))

theorem State.leads_execDeviceP3Request (h : s₀.Follows s) {dt : Nat} : s₀.Leads (execDeviceP3Request dt s) :=
  .next (.whenUp (.elapse h) (fun _ h' => .actPower h'))

theorem State.leads_execDeviceWakeRequest (h : s₀.Follows s) {dt : Nat} : s₀.Leads (execDeviceWakeRequest dt s) := by
  unfold execDeviceWakeRequest
  refine .next ?_
  split
  · exact .actPower (.elapse h)
  · exact .startWake (.elapse h)
  · exact .elapse h

theorem State.leads_execAutoP2Timeout (h : s₀.Follows s) {dt : Nat} : s₀.Leads (execAutoP2Timeout dt s) :=
  .next (.whenUp (.elapse h) (fun _ h' => .ite (.enterP2 h') h'))

theorem State.leads_execBayWakeComplete (h : s₀.Follows s) {dt : Nat} {bay : Option Nat} : s₀.Leads (execBayWakeComplete dt bay s) := by
  unfold execBayWakeComplete
  refine .next (.whenUp (.elapse h) (fun _ h' => ?_))
  split
  · exact .ite (.setBay h') h'
  · exact .ite (.keep h') h'

theorem State.Follows.cycleReport (h : s₀.Follows s) : s₀.Follows s.cycleReport := .ite (.signal (.keep (.setObj h))) (.keep (.setObj h))

theorem State.leads_execPowerCountersClear (h : s₀.Follows s) {dt v : Nat} : s₀.Leads (execPowerCountersClear dt v s) :=
  .next (.whenUp (.elapse h) (fun _ h' => .execClear h'))

/-! ### Sys2Proof/Machine/Sched.lean -/

theorem State.Follows.actSchedule (h : s₀.Follows s) {val : List Byte} : s₀.Follows (s.actSchedule val) := .setRwp (.ite h (.bumpBy h))

theorem State.leads_execScheduleTableWrite (h : s₀.Follows s) {dt : Nat} {val : List Byte} : s₀.Leads (execScheduleTableWrite dt val s) :=
  .next (.whenUp (.elapse h) (fun _ h' => .actSchedule h'))

theorem State.Follows.actActivate (h : s₀.Follows s) {n : Nat} : s₀.Follows (s.actActivate n) := .keep (.ite h (.countClamp h))

theorem State.leads_execScheduleActivate (h : s₀.Follows s) {dt n : Nat} : s₀.Leads (execScheduleActivate dt n s) :=
  .next (.whenUp (.elapse h) (fun _ h' => .actActivate h'))

theorem State.Follows.activateTable (h : s₀.Follows s) : s₀.Follows s.activateTable := by
  unfold State.activateTable
  split
  · exact .ite (.signal h.keep) h
  · exact h

theorem State.Follows.reportSigma (h : s₀.Follows s) : s₀.Follows s.reportSigma := .keep (.setObj (.setObj h))

theorem State.leads_execCycleStart (h : s₀.Follows s) {dt : Nat} : s₀.Leads (execCycleStart dt s) :=
  .next (.whenUp (.elapse h) (fun _ h' => .ite h' (.admitTest (.keep (.cycleReport (.reportSigma (.activateTable h')))))))

theorem State.leads_execAdmissionWaitTimeout (h : s₀.Follows s) {dt ctx : Nat} : s₀.Leads (execAdmissionWaitTimeout dt ctx s) := by
  unfold execAdmissionWaitTimeout
  refine .next (.whenUp (.elapse h) (fun _ h' => ?_))
  dsimp only
  split
  · exact .ite (.signal (.setCtx h')) h'
  · exact h'

theorem State.Follows.wakeGuarded (h : s₀.Follows s) : s₀.Follows s.wakeGuarded := .foldl (fun _ _ h' => .ite (.setBay h') h') h

theorem State.Follows.retryTimer (h : s₀.Follows s) : s₀.Follows s.retryTimer := .ite h (.ite (.keep (.requestTimer h)) (.requestTimer h))

theorem State.leads_execSlotBoundary (h : s₀.Follows s) {dt : Nat} : s₀.Leads (execSlotBoundary dt s) :=
  .next (.whenUp (.elapse h) (fun _ h' => .ite h' (.armTimer (.retryTimer (.expireWaits (.ite (.wakeGuarded h') h'))))))

theorem State.Follows.parkHead (h : s₀.Follows s) {c q : Nat} : s₀.Follows (s.parkHead c q) := .ite (.tableFull h) (.addRecord h)

theorem State.leads_execPark (h : s₀.Follows s) {dt ctx q : Nat} : s₀.Leads (execPark dt ctx q s) := by
  unfold execPark
  refine .next (.whenUp (.elapse h) (fun _ h' => ?_))
  split
  · exact .ite (.parkRun h') h'
  · exact .ite (.parkHead h') h'

theorem State.Follows.markFired (h : s₀.Follows s) : s₀.Follows s.markFired := h.keep

theorem State.leads_execRemoteWaitDeadline (h : s₀.Follows s) {dt : Nat} : s₀.Leads (execRemoteWaitDeadline dt s) :=
  .next (.whenUp (.elapse h) (fun _ h' => .ite h' (.armTimer (.markFired (.expireWaits h')))))

theorem State.Follows.stopFlight (h : s₀.Follows s) {c : Nat} : s₀.Follows (s.stopFlight c) := .bumpBy (.modCtx h)

theorem State.Follows.swapOut (h : s₀.Follows s) {c : Nat} : s₀.Follows (s.swapOut c) := by
  unfold State.swapOut
  exact .track (.keep (.modCtx (.foldl (fun _ _ h' => .setBay h') (.saveKept (.saveState (.stopFlight (.noteResident h)))))))

theorem State.Follows.swapIn (h : s₀.Follows s) {c : Nat} : s₀.Follows (s.swapIn c) := .bump (.keep (.foldl (fun _ _ h' => .setBay h') h))

theorem State.Follows.swapOuts (h : s₀.Follows s) {c : Nat} {x1 : List Nat} : s₀.Follows (s.swapOuts c x1).1 :=
  .foldlFst (fun _ _ h' => .iteFst h' (.fst (.swapOut h'))) (.fst h)

theorem State.Follows.bringIn (h : s₀.Follows s) {c : Nat} : s₀.Follows (s.bringIn c) :=
  .ite (.swapIn h) (.ite h (.ite (.swapIn (.swapOuts h)) (.ite h (.signal (.bump (.modCtx h))))))

theorem State.Follows.bringFirst (h : s₀.Follows s) {l : List Nat} : s₀.Follows (s.bringFirst l) := by
  induction l generalizing s with
  | nil => exact h
  | cons c l ih => exact .ite (.bringIn h) (ih (.bringIn h))

theorem State.leads_execSwap (h : s₀.Follows s) {dt : Nat} : s₀.Leads (execSwap dt s) :=
  .next (.whenUp (.elapse h) (fun _ h' => .ite (.foldl (fun _ _ h'' => .track h'') (.expireWaits h')) (.bringFirst (.foldl (fun _ _ h''
      => .track h'') (.expireWaits h')))))

theorem State.Follows.enter (h : s₀.Follows s) {c : Nat} : s₀.Follows (s.enter c) := by
  unfold State.enter
  exact .track (.keep (.setCtx (.loadKept h)))

theorem State.leads_execSwapComplete (h : s₀.Follows s) {dt ctx : Nat} : s₀.Leads (execSwapComplete dt ctx s) :=
  .next (.whenUp (.elapse h) (fun _ h' => .ite (.foldl (fun _ _ h'' => .ite (.beginClose h'') h'') (.enter h')) h'))

theorem State.leads_execSchedulingCountersClear (h : s₀.Follows s) {dt v : Nat} : s₀.Leads (execSchedulingCountersClear dt v s) :=
  .next (.whenUp (.elapse h) (fun _ h' => .execClear h'))

/-! ### Sys2Proof/Machine/Raise.lean -/

theorem State.Follows.adopt (h : s₀.Follows s) {c : Nat} {t : Tensor} {old new : Nat} : s₀.Follows (s.adopt c t old new) :=
  .ite h (.releaseIds (.modCtx (.setCtx (.setObject (.countMaps (.countMaps (.remap h)))))))

theorem State.Follows.zeroShard (h : s₀.Follows s) {c : Nat} {hd : Shard} : s₀.Follows (s.zeroShard c hd) := by
  unfold State.zeroShard
  split
  · exact .setObject (.foldl (fun _ _ h' => .zeroRange h') h)
  · exact .foldl (fun _ _ h' => .zeroRange h') h

theorem State.Follows.nameObject (h : s₀.Follows s) {hd : Shard} : s₀.Follows (s.nameObject hd) := by
  unfold State.nameObject
  split
  · exact h
  · exact .ite h (.setObject h)

theorem State.Follows.sealObject (h : s₀.Follows s) {id : Nat} : s₀.Follows (s.sealObject id) :=
  .ite h (.moveRetiring (.setObject (.ite h (.sealPages h))))

theorem State.Follows.shardsRemote (h : s₀.Follows s) {c : Nat} {r : Raise} {on : Bool} : s₀.Follows (s.shardsRemote c r on) := by
  unfold State.shardsRemote
  refine .ite h (.foldl (fun _ _ h' => ?_) h)
  split
  · exact .ite h' (.setRemote h')
  · exact h'

theorem State.Follows.endRaise (h : s₀.Follows s) {c : Nat} : s₀.Follows (s.endRaise c) := by
  unfold State.endRaise
  split
  · exact h
  · exact .ite h (.admitTest (.signal (.modCtx (.foldl (fun _ _ h' => .sealObject h') (.shardsRemote h)))))

theorem State.Follows.startRaise (h : s₀.Follows s) {k : RaiseBlock} {m : Manifest} : s₀.Follows (s.startRaise k m) := by
  unfold State.startRaise
  refine .endRaise (.shardsRemote (.modCtx (.foldl (fun _ _ h' => .zeroShard h') (.foldl (fun _ _ h' => .nameObject h') (.foldl (fun _
      _ h' => ?_) h)))))
  split
  · exact .adopt h'
  · exact h'

theorem State.Follows.setObjectFor (h : s₀.Follows s) {c : Nat} {e : ManEntry} {prefer : List Nat} :
    s₀.Offers Prod.fst (s.setObjectFor c e prefer) := by
  unfold State.setObjectFor
  split
  · exact .some h
  · exact State.Offers.bind (π := fun _ => s) (fun _ _ => h) fun _ h' => .newObject h'

theorem State.Follows.setObjects (h : s₀.Follows s) {c : Nat} {l : List (ManEntry × Nat)} {prefer : List Nat} :
    s₀.Offers Prod.fst (s.setObjects c l prefer) := by
  induction l generalizing s prefer with
  | nil => exact .some h
  | cons p l ih =>
    unfold State.setObjects
    split
    · exact .none
    · next a ha => exact State.Offers.map (ih (.setObjectFor h a ha)) fun _ h' => h'

theorem State.Follows.startSet (h : s₀.Follows s) {k : RaiseBlock} {m : Manifest} {place : Placement} : s₀.Follows (s.startSet k m
    place).1 := by
  unfold State.startSet
  dsimp only
  split
  · exact .fst h
  · exact .fst (.endRaise (.modCtx (.modCtx (.foldl (fun _ _ h' => .ite (.zeroShard h') h') (.foldl (fun _ _ h' => .nameObject h')
      (.foldl (fun _ _ h' => .setObject h') (.setObjects h _ ‹_›)))))))

theorem State.Follows.raise (h : s₀.Follows s) {k : RaiseBlock} {place : Placement} : s₀.Follows (s.raise k place).1 := by
  unfold State.raise
  refine .iteFst (.fst h) ?_
  split
  · exact .fst h
  · exact .iteFst (.fst h) (.iteFst (.fst h) (.iteFst (.fst (.startRaise h)) (.iteFst (.startSet (.dropVersion h)) (.fst h))))

theorem State.Follows.actRaise (h : s₀.Follows s) {block : List Byte} {place : Placement} : s₀.Follows (s.actRaise block place).1 :=
  .iteFst (.fst h) (.fst (.setCnt (.raise (.ite (.bump h) h))))

theorem State.leads_execRaiseJob (h : s₀.Follows s) {dt : Nat} {block : List Byte} {place : Placement} : s₀.Leads (execRaiseJob dt
    block place s) :=
  .next (.whenUp (.elapse h) (fun _ h' => .ite h' (.actRaise h')))

theorem State.leads_execRaiseWeightSet (h : s₀.Follows s) {dt : Nat} {block : List Byte} {place : Placement} : s₀.Leads
    (execRaiseWeightSet dt block place s) :=
  .next (.whenUp (.elapse h) (fun _ h' => .ite (.actRaise h') h'))

theorem State.Follows.placeLeaf (h : s₀.Follows s) {c : Nat} {hd : Shard} {i : Nat} {data : List Byte} : s₀.Follows (s.placeLeaf c hd i
    data) := by
  unfold State.placeLeaf
  split
  · dsimp only
    split
    · exact .setObject (.writeBytes h)
    · exact h
  · exact .putBytes h

theorem State.Follows.settleLeaf (h : s₀.Follows s) {c : Nat} {hd : Shard} {i : Nat} : s₀.Follows (s.settleLeaf c hd i) := by
  unfold State.settleLeaf
  refine .foldl (fun _ _ h' => ?_) h
  dsimp only
  split
  · exact h'
  · exact .ite h' (.endRaise (.modCtx h'))

theorem State.Follows.differs (h : s₀.Follows s) {c : Nat} : s₀.Follows (s.differs c) := .signal (.bump h)

theorem State.Follows.landShard (h : s₀.Follows s) {c : Nat} {r : Raise} {hd : Shard} {i off : Nat} {data : List Byte} : s₀.Follows
    (s.landShard c r hd i off data).1 := by
  unfold State.landShard
  refine .iteFst (.fst h) (.iteFst (.fst h) ?_)
  dsimp only
  split
  · exact .fst (.modCtx h)
  · exact .iteFst (.fst (.settleLeaf (.ite (.forward (.bump (.placeLeaf (.modCtx h)))) (.bump (.placeLeaf (.modCtx h)))))) (.fst
      (.differs (.modCtx h)))

theorem State.Follows.freshPages (h : s₀.Follows s) {id : Nat} {prefer : List Nat} : s₀.Follows (s.freshPages id prefer) := by
  unfold State.freshPages
  refine .ite h (.ite ?_ ?_)
  · split
    · exact .setObject (.allocMany h _ ‹_›)
    · exact h
  · split
    · exact .setObject (.allocSill h _ ‹_›)
    · exact h

theorem State.Follows.remapObject (h : s₀.Follows s) {id : Nat} : s₀.Follows (s.remapObject id) := by
  unfold State.remapObject
  refine .foldl (fun _ _ h' => .foldl (fun _ _ h'' => .ite ?_ h'') h') h
  split
  · exact .remap h''
  · exact h''

theorem State.Follows.endReplace (h : s₀.Follows s) {id : Nat} : s₀.Follows (s.endReplace id) :=
  .ite h (.admitTest (.moveRetiring (.freePages (.remapObject (.setObject (.ite h (.sealPages h)))))))

theorem State.Follows.landReplace (h : s₀.Follows s) {c id i off : Nat} {data : List Byte} : s₀.Follows (s.landReplace c id i off
    data).1 := by
  unfold State.landReplace
  dsimp only
  split
  · exact .fst (.freshPages h)
  · refine .iteFst (.fst (.freshPages h)) ?_
    split
    · exact .fst (.setObject (.freshPages h))
    · exact .iteFst (.fst (.endReplace (.bump (.setObject (.writeBytes (.freshPages h)))))) (.fst (.differs (.setObject (.freshPages h))))

theorem State.Follows.landLeaf (h : s₀.Follows s) {c entry leaf off : Nat} {data : List Byte} : s₀.Follows (s.landLeaf c entry leaf off
    data).1 := by
  unfold State.landLeaf
  split
  · exact .landReplace h
  · split
    · exact .fst h
    · refine .iteFst (.fst h) ?_
      split
      · exact .fst h
      · exact .landShard h

theorem State.Follows.recheckBad (h : s₀.Follows s) {prefer : List Nat} {page : Nat} : s₀.Follows (s.recheckBad prefer page) := by
  unfold State.recheckBad
  dsimp only
  split
  · exact .ite (.freshPages (.objectBad h)) h
  · exact h

theorem State.Follows.nextPass (h : s₀.Follows s) {start : Nat} : s₀.Follows (s.nextPass start) := .ite (.bump h.keep) h.keep

theorem State.leads_execRecheckPass (h : s₀.Follows s) {dt : Nat} {bad : List Nat} {place : Placement} : s₀.Leads (execRecheckPass dt
    bad place s) :=
  .next (.whenUp (.elapse h) (fun _ h' => .ite h' (.nextPass (.keep (.foldl (fun _ _ h'' => .recheckBad h'') (.foldl (fun _ _ h'' =>
      .freshPages (.objectBad h'')) h'))))))

theorem State.Follows.actSwitch (h : s₀.Follows s) {c version : Nat} : s₀.Follows (s.actSwitch c version) :=
  .ite (.setCnt h) (.setCnt (.dropVersion (.setCtx h)))

theorem State.leads_execWeightSwitch (h : s₀.Follows s) {dt ctx version : Nat} : s₀.Leads (execWeightSwitch dt ctx version s) :=
  .next (.whenUp (.elapse h) (fun _ h' => .actSwitch h'))

theorem State.leads_execRaisingCountersClear (h : s₀.Follows s) {dt v : Nat} : s₀.Leads (execRaisingCountersClear dt v s) :=
  .next (.whenUp (.elapse h) (fun _ h' => .execClear h'))

/-! ### Sys2Proof/Machine/Transfer.lean -/

theorem State.Follows.refuseWhole (h : s₀.Follows s) {last : Option FabHdr} {hd : FabHdr} {code : Nat} : s₀.Follows (s.refuseWhole last
    hd code) := by
  unfold State.refuseWhole
  split
  · exact .respond h
  · exact .respond (.refuseCmd h)

theorem State.Follows.acknowledge (h : s₀.Follows s) {last : Option FabHdr} : s₀.Follows (s.acknowledge last) := by
  unfold State.acknowledge
  split
  · exact .ite (.respond h) h
  · exact h

theorem State.Follows.fabShard (h : s₀.Follows s) {hd : FabHdr} {p : PagePre} {data : List Byte} : s₀.Follows (s.fabShard hd p data) := by
  unfold State.fabShard
  dsimp only
  split
  · exact .refuse h
  · exact .refuseWhole (.noteLanded (.landLeaf h))
  · exact .acknowledge (.noteLanded (.landLeaf h))
  · exact .acknowledge (.ite (.bump (.noteLanded (.landLeaf h))) (.noteLanded (.landLeaf h)))

theorem State.Follows.reopen (h : s₀.Follows s) {hd : FabHdr} {p : PagePre} : s₀.Follows (s.reopen hd p).1 := by
  unfold State.reopen
  refine .fst (.setObject (.keep ?_))
  split
  · exact .freeObject h
  · exact h

theorem State.Follows.openSlot (h : s₀.Follows s) {hd : FabHdr} {p : PagePre} : s₀.Offers Prod.fst (s.openSlot hd p) := by
  unfold State.openSlot
  split
  · exact .none
  · split
    · split
      · exact .some h
      · split
        · exact .none
        · exact .some (.reopen (.freeObject h))
    · split
      · exact .none
      · exact .some (.reopen h)

theorem State.Follows.growImage (h : s₀.Follows s) {c o i : Nat} : s₀.Offers id (s.growImage c o i) :=
  State.Offers.map (.allocSill h) fun _ h' => .setObject h'

theorem State.Follows.checkImageIn (h : s₀.Follows s) {id : Nat} : s₀.Follows (s.checkImageIn id).1 :=
  .iteFst (.fst (.moveRetiring (.setObject (.sealPages h)))) (.iteFst (.fst (.freeObject (.signal (.bump h)))) (.fst (.setObject
      (.signal (.bump h)))))

theorem State.Follows.writeImagePage (h : s₀.Follows s) {id i : Nat} {b : List Byte} : s₀.Follows (s.writeImagePage id i b).1 := by
  unfold State.writeImagePage
  dsimp only
  split
  · exact .fst h
  · exact .iteFst (.checkImageIn (.setObject (.writeBytes h))) (.fst (.setObject (.writeBytes h)))

theorem State.Follows.fabImage (h : s₀.Follows s) {hd : FabHdr} {p : PagePre} {data : List Byte} : s₀.Follows (s.fabImage hd p data) := by
  unfold State.fabImage
  split
  · exact .refuse h
  · split
    · exact .refuse (.freeObject (.openSlot h _ ‹_›))
    · refine .ite (.refuse (.growImage (.openSlot h _ ‹_›) _ ‹_›)) ?_
      dsimp only
      split
      · exact .acknowledge (.noteLanded (.setObject (.growImage (.openSlot h _ ‹_›) _ ‹_›)))
      · exact .ite (.acknowledge (.noteLanded (.writeImagePage (.growImage (.openSlot h _ ‹_›) _ ‹_›)))) (.refuseWhole (.noteLanded
      (.writeImagePage (.growImage (.openSlot h _ ‹_›) _ ‹_›))))

theorem State.leads_execPageTransfer (h : s₀.Follows s) {dt : Nat} {via : Via} {msg : FabMsg} : s₀.Leads (execPageTransfer dt via msg
    s) :=
  .next (.receive (.elapse h) (fun _ _ _ h' => .ite (.fabImage h') (.fabShard h')))

theorem State.Follows.pumpTo (h : s₀.Follows s) {d : Nat} : s₀.Follows (s.pumpTo d) :=
  .foldl (fun _ _ h' => .ite (.ite (.pumpImage h') h') (.pumpForwards (.ite (.pumpImage h') h'))) h

theorem State.Follows.answered (h : s₀.Follows s) {hd : FabHdr} {code : Nat} : s₀.Follows (s.answered hd code) := by
  unfold State.answered
  refine .pumpTo (.ite (.ite (.bump h.keep) (.ite (.imageAck h.keep) (.imageNack h.keep))) (.ite (.ite (.bump h.keep) (.forwardEnd
      h.keep)) (.ite (.ite (.ite (.abandon (.iteFst (.fst h.keep) (.collRefused h.keep))) (.iteFst (.fst h.keep) (.collRefused
      h.keep))) (.bump h.keep)) (.ite (.bump h.keep) ?_))))
  dsimp only
  split
  · exact .bump (.modCtx (.fillSlot h.keep))
  · exact .endRemote (.fillSlot h.keep)

theorem State.leads_execAcknowledgement (h : s₀.Follows s) {dt : Nat} {via : Via} {msg : FabMsg} : s₀.Leads (execAcknowledgement dt via
    msg s) :=
  .next (.receive (.elapse h) (fun _ _ _ h' => .answered (.bump (.markSeq h'))))

theorem State.Follows.resendOne (h : s₀.Follows s) {q : Nat} {m : FabHdr × List Byte} : s₀.Follows (s.resendOne q m) :=
  .ite (.bump (.route h)) h

theorem State.leads_execNegativeAcknowledgement (h : s₀.Follows s) {dt : Nat} {via : Via} {msg : FabMsg} : s₀.Leads
    (execNegativeAcknowledgement dt via msg s) :=
  .next (.receive (.elapse h) (fun _ _ _ h' => .ite (.ite (.bump (.bump (.bump (.markSeq h')))) (.keep (.bump (.bump (.markSeq h')))))
      (.answered (.bump (.bump (.markSeq h'))))))

theorem State.leads_execSeqWindowResend (h : s₀.Follows s) {dt ctx q msgIndex : Nat} : s₀.Leads (execSeqWindowResend dt ctx q msgIndex
    s) := by
  unfold execSeqWindowResend
  refine .next (.whenUp (.elapse h) (fun _ h' => ?_))
  split
  · exact h'
  · dsimp only
    split
    · exact .resendOne (.keep h')
    · exact .keep h'

theorem State.Follows.modRun (h : s₀.Follows s) {r : Run} {f : Run → Run} : s₀.Follows (s.modRun r f) := by
  unfold State.modRun
  exact .modCtx h.keep

theorem State.Follows.resendAll (h : s₀.Follows s) {q : Nat} {l : List (FabHdr × List Byte)} : s₀.Follows (s.resendAll q l) :=
  .bump (.foldl (fun _ _ h' => .resendOne h') h)

theorem State.Follows.noResponse (h : s₀.Follows s) {c q slot : Nat} : s₀.Follows (s.noResponse c q slot) :=
  .ite (.failImage (.signal (.bump h))) (.ite (.forwardEnd (.signal (.bump h))) (.endRemote (.signal (.bump h))))

theorem State.leads_execRetransmitTimeout (h : s₀.Follows s) {dt ctx q slot : Nat} : s₀.Leads (execRetransmitTimeout dt ctx q slot s)
    := by
  unfold execRetransmitTimeout
  refine .next (.whenUp (.elapse h) (fun _ h' => ?_))
  split
  · exact .ite h' (.ite (.noResponse h') (.keep (.resendAll h')))
  · split
    · exact h'
    · split
      · exact h'
      · exact .ite h' (.ite (.noResponse h') (.modRun (.resendAll h')))

/-! ### Sys2Proof/Machine/Restore.lean -/

theorem State.Follows.actCheckpoint (h : s₀.Follows s) {c : Nat} : s₀.Follows (s.actCheckpoint c) :=
  .ite (.setCtx (.clampNum h)) (.clampNum h)

theorem State.leads_execCheckpointRequest (h : s₀.Follows s) {dt ctx : Nat} : s₀.Leads (execCheckpointRequest dt ctx s) :=
  .next (.whenUp (.elapse h) (fun _ h' => .actCheckpoint h'))

theorem State.Follows.actCommit (h : s₀.Follows s) {c step : Nat} : s₀.Follows (s.actCommit c step) := .startReshard (.keep (.setCtx h))

theorem State.leads_execCheckpointCommit (h : s₀.Follows s) {dt ctx step : Nat} : s₀.Leads (execCheckpointCommit dt ctx step s) :=
  .next (.whenUp (.elapse h) (fun _ h' => .ite (.actCommit h') h'))

theorem State.Follows.newFrame (h : s₀.Follows s) {c : Nat} {k : Restoring} : s₀.Offers id (s.newFrame c k) := by
  unfold State.newFrame
  extract_lets x l i here rep stage moved y s1
  have h1 : s₀.Follows s1 := .setCtx h
  split
  · exact .replace h1
  · exact .some h1

theorem State.Follows.endRestore (h : s₀.Follows s) {c code : Nat} : s₀.Follows (s.endRestore c code) :=
  .ite (.admitTest (.track (.signal (.bump (.setCnt (.modCtx h)))))) (.signal (.setCnt (.modCtx h)))

theorem State.Follows.emptyAndMap (h : s₀.Follows s) {c : Nat} : s₀.Follows (s.emptyAndMap c) := by
  unfold State.emptyAndMap
  split
  · exact h
  · dsimp only
    split
    · exact .endRestore (.modCtx (.failImage h))
    · exact .admitTest (.track (.armTimer (.saveParked (.newFrame (.modCtx (.failImage h)) _ ‹_›))))

theorem State.Follows.actRestore (h : s₀.Follows s) {block : List Byte} {place : Placement} : s₀.Follows (s.actRestore block place).1 :=
  .iteFst (.fst h) (.iteFst (.fst (.ite (.bump h) h)) (.iteFst (.fst (.emptyAndMap (.modCtx (.ite (.bump h) h)))) (.fst (.modCtx (.ite
      (.bump h) h)))))

theorem State.leads_execTeardownDrainEnd (h : s₀.Follows s) {dt id : Nat} : s₀.Leads (execTeardownDrainEnd dt id s) :=
  .next (.whenUp (.elapse h) (fun _ h' => .ite h' (.ite (.endDrain h') (.ite (.emptyAndMap h') h'))))

theorem State.leads_execTeardownDrainLimit (h : s₀.Follows s) {dt id : Nat} : s₀.Leads (execTeardownDrainLimit dt id s) :=
  .next (.whenUp (.elapse h) (fun _ h' => .ite h' (.ite (.ite (.endDrain (.bump (.abortAll h'))) h') (.ite (.emptyAndMap (.abortAll
      h')) h'))))

theorem State.leads_execRestore (h : s₀.Follows s) {dt : Nat} {block : List Byte} {place : Placement} : s₀.Leads (execRestore dt block
    place s) :=
  .next (.whenUp (.elapse h) (fun _ h' => .actRestore h'))

theorem State.Follows.putImage (h : s₀.Follows s) {c : Nat} {r : ImageRead} : s₀.Follows (s.putImage c r) := by
  unfold State.putImage
  exact .modCtx (.foldl (fun _ _ h' => .putBytes h') h)

theorem State.leads_execRestoreComplete (h : s₀.Follows s) {dt ctx : Nat} {localBad : Bool} {holder : Option (List (List Byte))} :
    s₀.Leads (execRestoreComplete dt ctx localBad holder s) := by
  unfold execRestoreComplete
  refine .next (.whenUp (.elapse h) (fun _ h' => ?_))
  split
  · exact h'
  · refine .ite h' ?_
    dsimp only
    split
    · exact .endRestore (.putImage h')
    · split
      · exact .ite (.endRestore (.putImage h')) (.endRestore h')
      · exact .endRestore h'

/-! ### Sys2Proof/Machine/Security.lean -/

theorem State.Follows.sign (h : s₀.Follows s) {nonce slots : List Byte} : s₀.Follows (s.sign nonce slots) := .setCnt (.setObj h.keep)

theorem State.Follows.actQuote (h : s₀.Follows s) {nonce : List Byte} : s₀.Follows (s.actQuote nonce) := .ite h (.ite h.keep (.sign h))

theorem State.leads_execQuote (h : s₀.Follows s) {dt : Nat} {nonce : List Byte} : s₀.Leads (execQuote dt nonce s) :=
  .next (.whenUp (.elapse h) (fun _ h' => .ite h' (.actQuote (.ite h' (.countClamp h')))))

theorem State.Follows.failRng (h : s₀.Follows s) : s₀.Follows s.failRng := .signal (.bump h.keep)

theorem State.leads_execRngHealthFail (h : s₀.Follows s) {dt : Nat} : s₀.Leads (execRngHealthFail dt s) :=
  .next (.whenUp (.elapse h) (fun _ h' => .failRng h'))

/-! ### Sys2Proof/Machine/Dict.lean -/

theorem State.Follows.takeHostFraming (h : s₀.Follows s) {p : Nat} : s₀.Follows (s.takeHostFraming p) := h.keep

theorem State.Follows.setHostPort (h : s₀.Follows s) {p st : Nat} : s₀.Follows (s.setHostPort p st) :=
  .ite (.ite (.takeHostFraming h) h) (.signal (.keep (.ite (.ite (.takeHostFraming h) h) (.keep (.ite (.takeHostFraming h) h)))))

theorem State.Follows.resetEdge (h : s₀.Follows s) {i : Nat} : s₀.Follows (s.resetEdge i) :=
  .ite (.ite h (.setHostPort h)) (.ite (.ite h (.setPort h)) (.ite h (.linkDown h)))

theorem State.leads_execEdgeLinkReset (h : s₀.Follows s) {dt port : Nat} : s₀.Leads (execEdgeLinkReset dt port s) :=
  .next (.whenUp (.elapse h) (fun _ h' => .resetEdge (.clampUnit h')))

theorem State.Follows.writeWindow (h : s₀.Follows s) {off v : Nat} : s₀.Follows (s.writeWindow off v) :=
  .ite (.ite (.ite (.setPerfValue h) h) (.ite (.ite h.keep h) (.ite h.keep h))) (.ite h.keep (.ite h.keep h))

theorem State.Follows.userSet (h : s₀.Follows s) : s₀.Follows s.userSet := .ite h (.signal (.setCnt h))

theorem State.Follows.touchCalibration (h : s₀.Follows s) : s₀.Follows s.touchCalibration := .ite (.setRwp (.userSet h)) (.userSet h)

theorem State.Follows.refreshRail (h : s₀.Follows s) {d : Nat} : s₀.Follows (s.refreshRail d) := .ite h (.setDie h)

theorem State.Follows.actCalibration (h : s₀.Follows s) {image : List Byte} : s₀.Follows (s.actCalibration image).1 := by
  unfold State.actCalibration
  refine .iteFst (.fst h) (.fst (.foldl (fun _ _ h' => .refreshRail h') (.ite (.countClamp (.foldlFst (fun _ _ h' => ?_) (.fst
      (.touchCalibration h)))) (.foldlFst (fun _ _ h' => ?_) (.fst (.touchCalibration h))))))
  · dsimp only
    split
    · exact h'
    · exact .fst (.setRwp h')
  · dsimp only
    split
    · exact h'
    · exact .fst (.setRwp h')

theorem State.leads_execCalibrationWrite (h : s₀.Follows s) {dt : Nat} {image : List Byte} : s₀.Leads (execCalibrationWrite dt image s) :=
  .next (.whenUp (.elapse h) (fun _ h' => .actCalibration h'))

theorem State.Follows.reclamp (h : s₀.Follows s) {idx sub bound : Nat} : s₀.Follows (s.reclamp idx sub bound) :=
  .ite h (.countClamp (.ite (.setRwp h) (.setObj h)))

theorem State.Follows.afterSetting (h : s₀.Follows s) {idx sub : Nat} : s₀.Follows (s.afterSetting idx sub) := by
  unfold State.afterSetting
  split
  · exact h.keep
  · exact .ite (.reclamp h) h
  · exact .ite (.armTimer h) h
  · exact .ite h.keep h
  · exact .ite h.keep h
  · exact .admitTest h
  · exact .admitTest (.ite (.reclamp h) h)
  · exact .userSet h
  · exact .touchCalibration h
  · exact .touchCalibration h
  · exact .touchCalibration h
  · exact .touchCalibration h
  · exact .refreshRail (.touchCalibration h)
  · exact h

theorem State.Follows.setSelected (h : s₀.Follows s) {idx sub n : Nat} : s₀.Follows (s.setSelected idx sub n) := by
  unfold State.setSelected
  split
  · exact h.keep
  · exact .setSamplingRun h

theorem State.Follows.setPlain (h : s₀.Follows s) {r : ORow} {sub : Nat} {v : ObjVal} : s₀.Follows (s.setPlain r sub v) :=
  .afterSetting (.ite (.setSelected h) (.ite (.setRwp h) (.setObj h)))

theorem State.Follows.setSetting (h : s₀.Follows s) {r : ORow} {sub : Nat} {v : ObjVal} : s₀.Follows (s.setSetting r sub v) := by
  unfold State.setSetting
  split
  · exact .actCopyPool h
  · exact .actCopies h
  · exact .actDisable h
  · exact .actReadMark h
  · exact .actAdmission h
  · exact .actJobSignal h
  · exact .setPlain h

theorem State.Follows.returnDefaults (h : s₀.Follows s) : s₀.Follows s.returnDefaults :=
  .foldl (fun _ _ h' => .ite h' (.ite (.actSchedule h') (.ite (.actConfig h') (.setSetting h')))) h

theorem State.Follows.actDefaults (h : s₀.Follows s) {v : Nat} : s₀.Follows (s.actDefaults v) := .returnDefaults (.ite h (.countClamp h))

theorem State.leads_execRwpDefaults (h : s₀.Follows s) {dt v : Nat} : s₀.Leads (execRwpDefaults dt v s) :=
  .next (.whenUp (.elapse h) (fun _ h' => .actDefaults h'))

theorem State.Follows.actReset (h : s₀.Follows s) {n : Nat} : s₀.Follows (s.actReset n) := by
  unfold State.actReset
  split
  · exact .actBayReset h
  · exact .actDieReset h
  · exact .resetEdge h
  · exact .enterWarmReset h
  · exact .actColdReset h
  · exact h

theorem State.Follows.numCommand (h : s₀.Follows s) {idx sub n : Nat} {aux : Aux} : s₀.Follows (s.numCommand idx sub n aux).1 := by
  unfold State.numCommand
  split
  · exact .fst (.actDefaults h)
  · exact .fst (.actClose h)
  · exact .fst (.actActivate h)
  · exact .fst (.actRetrain h)
  · exact .fst (.ite (.setCnt (.unpair h)) (.actPair h))
  · exact .fst (.actCheckpoint h)
  · exact .fst (.ite (.actCommit h) h)
  · exact .fst (.actSwitch h)
  · exact .fst (.actSoftware h)
  · exact .fst (.actCounterReset h)
  · exact .fst (.ite (.startSampling h) (.stopSampling h))
  · exact .fst (.actSamplingCopy h)
  · exact .fst (.actPower h)
  · exact .fst (.actFatalAck h)
  · exact .fst (.actDumpCopy h)
  · exact .fst (.actDump h)
  · exact .fst (.actReset h)
  · exact .actSelfTest h
  · exact .fst (.actFirmwareUpdate h)
  · exact .fst (.actFirmwareFetch h)
  · exact .actRaiseMin h
  · exact .fst (.actDebugLock h)
  · exact .fst h

theorem State.Follows.blockCommand (h : s₀.Follows s) {idx : Nat} {b : List Byte} {aux : Aux} : s₀.Follows (s.blockCommand idx b aux).1
    := by
  unfold State.blockCommand
  split
  · exact .fst (.actCreate h)
  · exact .fst (.actSchedule h)
  · exact .fst (.actReshard h)
  · exact .actRaise h
  · exact .actRestore h
  · exact .fst (.actConfig h)
  · exact .actCalibration h
  · exact .fst (.actExtend h)

theorem State.Follows.writeRow (h : s₀.Follows s) {r : ORow} {sub : Nat} {b : List Byte} {aux : Aux} : s₀.Follows (s.writeRow r sub b
    aux).1 := by
  unfold State.writeRow
  refine .iteFst (.fst (.blockCommand h)) (.iteFst (.fst (.ite (.clearList h) (.ite (.actTransportClear h) (.execClear h)))) ?_)
  dsimp only
  split
  · exact .fst (.numCommand (.ite (.countClamp h) h))
  · exact .fst (.actQuote (.ite (.countClamp h) h))
  · exact .fst (.setSetting (.ite (.countClamp h) h))

theorem State.Follows.applyWrite (h : s₀.Follows s) {idx sub : Nat} {b : List Byte} {aux : Aux} : s₀.Follows (s.applyWrite idx sub b
    aux).1 := by
  unfold State.applyWrite
  split
  · exact .fst h
  · exact .iteFst (.fst h) (.iteFst (.fst h) (.writeRow h))

theorem State.Follows.coreWriteReg (h : s₀.Follows s) {core a v : Nat} : s₀.Follows (s.coreWriteReg core a v) := by
  unfold State.coreWriteReg
  refine .ite (.firmwareFault (.signal h)) ?_
  split
  · exact .doorWrite h
  · exact .writeIntr h
  · exact .writeWindow h
  · exact h
  · exact h
  · exact h

theorem State.leads_execObjectWrite (h : s₀.Follows s) {dt : Nat} {target : WriteTarget} {place : Nat} {val : List Byte} {aux : Aux} :
    s₀.Leads (execObjectWrite dt target place val aux s) := by
  unfold execObjectWrite
  refine .next (.whenUp (.elapse h) (fun _ h' => ?_))
  split
  · exact .applyWrite h'
  · exact .coreWriteReg h'

theorem State.leads_execClampCounterClear (h : s₀.Follows s) {dt idx v : Nat} : s₀.Leads (execClampCounterClear dt idx v s) :=
  .next (.whenUp (.elapse h) (fun _ h' => .ite (.clearList h') h'))

theorem State.leads_execManagementCountersClear (h : s₀.Follows s) {dt v : Nat} : s₀.Leads (execManagementCountersClear dt v s) :=
  .next (.whenUp (.elapse h) (fun _ h' => .execClear h'))

theorem State.leads_execHostCountersClear (h : s₀.Follows s) {dt v : Nat} : s₀.Leads (execHostCountersClear dt v s) :=
  .next (.whenUp (.elapse h) (fun _ h' => .execClear h'))

/-! ### Sys2Proof/Machine/Efyth.lean -/

theorem State.Follows.efythReply (h : s₀.Follows s) {src : Nat} {q : EfythHdr} {level flags code : Nat} {p : List Byte} : s₀.Follows
    (s.efythReply src q level flags code p) :=
  .keep (.efythSend h)

theorem State.Follows.efythAgain (h : s₀.Follows s) {e : Nat × Nat × Nat × EfythHdr × List Byte} : s₀.Follows (s.efythAgain e) :=
  .efythSend (.bump h)

theorem State.Follows.efythIn (h : s₀.Follows s) {ty level : Nat} {m : EfythMsg} {act : State → State} (hact : ∀ t, s₀.Follows t →
    s₀.Follows (act t)) : s₀.Follows (s.efythIn ty level m act) := by
  unfold State.efythIn
  refine .ite h (.ite (.bump (.bump h)) (.ite (.bump (.bump h)) (.ite (.efythReply (.bump h)) ?_)))
  split
  · exact .efythAgain (.bump h)
  · exact .ite (.bump h) (.ite (.efythReply (.bump (.bump h))) (hact _ (.bump h)))

theorem State.Follows.efythRead (h : s₀.Follows s) {m : EfythMsg} : s₀.Follows (s.efythRead m) := .efythReply h

theorem State.leads_execEfythReadRequest (h : s₀.Follows s) {dt : Nat} {msg : EfythMsg} : s₀.Leads (execEfythReadRequest dt msg s) :=
  .next (.ite (.efythIn (.elapse h) (fun _ h' => .efythRead h')) (.elapse h))

theorem State.leads_execDiscover (h : s₀.Follows s) {dt : Nat} {msg : EfythMsg} : s₀.Leads (execDiscover dt msg s) :=
  .next (.ite (.efythIn (.elapse h) (fun _ h' => .efythReply h')) (.elapse h))

theorem State.Follows.efythPut (h : s₀.Follows s) {m : EfythMsg} {b : List Byte} {aux : Aux} : s₀.Follows (s.efythPut m b aux) :=
  .ite (.applyWrite (.efythReply h)) (.ite (.keep (.applyWrite h)) (.efythReply (.applyWrite h)))

theorem State.Follows.dropBuffer (h : s₀.Follows s) {src : Nat} : s₀.Follows (s.dropBuffer src) := by
  unfold State.dropBuffer
  split
  · exact h
  · exact .bump h.keep

theorem State.Follows.keepBuffer (h : s₀.Follows s) {src : Nat} {b : Parts} : s₀.Follows (s.keepBuffer src b) := h.keep

theorem State.Follows.takeBuffer (h : s₀.Follows s) {src : Nat} : s₀.Follows (s.takeBuffer src) := h.keep

theorem State.Follows.firstPart (h : s₀.Follows s) {m : EfythMsg} {p : List Byte} {aux : Aux} : s₀.Follows (s.firstPart m p aux) :=
  .ite (.efythPut (.dropBuffer h)) (.ite (.efythReply (.dropBuffer h)) (.efythReply (.keepBuffer (.dropBuffer h))))

theorem State.Follows.laterPart (h : s₀.Follows s) {m : EfythMsg} {p : List Byte} {aux : Aux} : s₀.Follows (s.laterPart m p aux) := by
  unfold State.laterPart
  split
  · exact .efythReply (.bump h)
  · exact .ite (.efythReply (.dropBuffer h)) (.ite (.efythReply (.keepBuffer h)) (.efythPut (.takeBuffer h)))

theorem State.Follows.efythWrite (h : s₀.Follows s) {m : EfythMsg} {aux : Aux} : s₀.Follows (s.efythWrite m aux) :=
  .ite (.efythReply h) (.ite (.efythReply h) (.ite (.firstPart h) (.laterPart h)))

theorem State.Follows.efythAsleep (h : s₀.Follows s) {m : EfythMsg} : s₀.Follows (s.efythAsleep m) :=
  .ite (.efythIn h (fun _ h' => .ite (.startWake (.efythReply (.ite (.countClamp h') h'))) (.efythReply (.ite (.countClamp h') h')))) h

theorem State.leads_execEfythWrite (h : s₀.Follows s) {dt : Nat} {msg : EfythMsg} {aux : Aux} : s₀.Leads (execEfythWrite dt msg aux s)
    := by
  unfold execEfythWrite
  refine .next ?_
  split
  · exact .efythIn (.elapse h) (fun _ h' => .efythWrite h')
  · exact .efythAsleep (.elapse h)
  · exact .elapse h

theorem State.leads_execMultipartTimeout (h : s₀.Follows s) {dt mac : Nat} : s₀.Leads (execMultipartTimeout dt mac s) := by
  unfold execMultipartTimeout
  refine .next (.whenUp (.elapse h) (fun _ h' => ?_))
  split
  · exact .ite (.dropBuffer h') h'
  · exact h'

theorem State.leads_execPlcaChangeApply (h : s₀.Follows s) {dt : Nat} : s₀.Leads (execPlcaChangeApply dt s) :=
  .next (.whenUp (.elapse h) (fun _ h' => .ite (.keep h') h'))

theorem State.Follows.closeWindow (h : s₀.Follows s) : s₀.Follows s.closeWindow := h.keep

theorem State.leads_execCommitWindowClose (h : s₀.Follows s) {dt : Nat} : s₀.Leads (execCommitWindowClose dt s) := by
  unfold execCommitWindowClose
  refine .next (.whenUp (.elapse h) (fun _ h' => ?_))
  split
  · exact .ite (.closeWindow h') h'
  · exact h'

theorem State.Follows.answerCommit (h : s₀.Follows s) {code : Nat} {w : Waiter} : s₀.Follows (s.answerCommit code w) := by
  unfold State.answerCommit
  split
  · exact .efythReply h
  · exact .ite (.hostTell h) h
  · exact h

theorem State.Follows.failCommit (h : s₀.Follows s) {objs : List Nat} {ws : List Waiter} {bank : Nat} : s₀.Follows (s.failCommit objs
    ws bank) :=
  .foldl (fun _ _ h' => .answerCommit h') (.signal (.setCnt (.keep (.setBank h))))

theorem State.Follows.writeBank (h : s₀.Follows s) {bank : Nat} {rec_ : List Byte} : s₀.Follows (s.writeBank bank rec_) :=
  .keep (.setBank h)

theorem State.Follows.endCommit (h : s₀.Follows s) {ws : List Waiter} {gen : Nat} : s₀.Follows (s.endCommit ws gen) :=
  .foldl (fun _ _ h' => .answerCommit h') (.ite (.setCnt (.setCnt (.setCnt h.keep))) (.setCnt (.setCnt h.keep)))

theorem State.Follows.completeCommit (h : s₀.Follows s) {badReads : Nat} : s₀.Follows (s.completeCommit badReads) := by
  unfold State.completeCommit
  split
  · exact h
  · exact .ite (.endCommit (.ite (.writeBank (.writeBank h)) (.writeBank h))) (.ite (.failCommit h) (.failCommit (.setCnt (.writeBank
      h))))

theorem State.leads_execCommitComplete (h : s₀.Follows s) {dt badReads : Nat} : s₀.Leads (execCommitComplete dt badReads s) :=
  .next (.whenUp (.elapse h) (fun _ h' => .completeCommit h'))

/-! ### Sys2Proof/Machine/HostPort.lean -/

theorem State.Follows.hostAck (h : s₀.Follows s) {n : Nat} : s₀.Follows (s.hostAck n) := .hostTell (.setSession h)

theorem State.Follows.hostNack (h : s₀.Follows s) {n seq code : Nat} : s₀.Follows (s.hostNack n seq code) := .hostTell (.bump h)

theorem State.Follows.looseSend (h : s₀.Follows s) {port : Nat} {m : HostMsg} {ty value code : Nat} : s₀.Follows (s.looseSend port m ty
    value code) :=
  .countEvent (.hostEmit h)

theorem State.Follows.looseNack (h : s₀.Follows s) {port : Nat} {m : HostMsg} {code : Nat} : s₀.Follows (s.looseNack port m code) :=
  .looseSend (.bump h)

theorem State.Follows.actedOn (h : s₀.Follows s) {n : Nat} : s₀.Follows (s.actedOn n) := .ite (.hostAck (.setSession h)) (.setSession h)

theorem State.Follows.markAhead (h : s₀.Follows s) {n : Nat} {m : HostMsg} {ty : Nat} {aux : Aux} {diag : Option Diag} : s₀.Follows
    (s.markAhead n m ty aux diag) :=
  .ite h (.setSession h)

theorem State.Follows.hostWrite (h : s₀.Follows s) {n : Nat} {m : HostMsg} : s₀.Follows (s.hostWrite n m) :=
  .ite (.hostNack (.countTranslation h)) (.ite (.writeBytes h) (.engineWrite h))

theorem State.Follows.sendData (h : s₀.Follows s) {n addr code : Nat} {b : List Byte} : s₀.Follows (s.sendData n addr code b) :=
  .foldl (fun _ _ h' => .hostTell h') h

theorem State.Follows.freeBytes (h : s₀.Follows s) {n : Nat} : s₀.Follows (s.freeBytes n).1 := .fst h.keep

theorem State.Follows.hostRead (h : s₀.Follows s) {n : Nat} {m : HostMsg} {diag : Option Diag} : s₀.Follows (s.hostRead n m diag) := by
  unfold State.hostRead
  refine .ite (.hostNack (.countTranslation h)) (.ite (.sendData (.freeBytes ?_)) (.sendData ?_))
  · split
    · exact .memoryError (.ite (.heatRead h) h)
    · exact .fst (.ite (.heatRead h) h)
  · split
    · exact .memoryError (.ite (.heatRead h) h)
    · exact .fst (.ite (.heatRead h) h)

theorem State.Follows.dictReply (h : s₀.Follows s) {n : Nat} {m : HostMsg} {flags addr code : Nat} {p : List Byte} : s₀.Follows
    (s.dictReply n m flags addr code p) :=
  .hostTell h

theorem State.Follows.dictData (h : s₀.Follows s) {n : Nat} {m : HostMsg} {off : Nat} {b : List Byte} : s₀.Follows (s.dictData n m off
    b) :=
  .ite (.dictReply h) (.foldl (fun _ _ h' => .dictReply h') h)

theorem State.Follows.dictRead (h : s₀.Follows s) {n : Nat} {m : HostMsg} : s₀.Follows (s.dictRead n m) :=
  .ite (.hostNack h) (.ite (.dictReply h) (.dictData h))

theorem State.Follows.dictPut (h : s₀.Follows s) {n : Nat} {m : HostMsg} {b : List Byte} {aux : Aux} : s₀.Follows (s.dictPut n m b aux) :=
  .ite (.applyWrite (.dictReply h)) (.ite (.keep (.applyWrite h)) (.dictReply (.applyWrite h)))

theorem State.Follows.dictWrite (h : s₀.Follows s) {n : Nat} {m : HostMsg} {aux : Aux} : s₀.Follows (s.dictWrite n m aux) := by
  unfold State.dictWrite
  refine .ite (.hostNack h) ?_
  dsimp only
  split
  · exact .dictReply (.setSession h)
  · exact .ite (.dictReply (.setSession h)) (.ite (.setSession (.setSession h)) (.dictPut (.setSession h)))

theorem State.Follows.hostDoor (h : s₀.Follows s) {n : Nat} {m : HostMsg} : s₀.Follows (s.hostDoor n m) :=
  .ite (.hostNack h) (.ite (.hostNack h) (.signal (.doorWrite h)))

theorem State.Follows.hostPage (h : s₀.Follows s) {n : Nat} {m : HostMsg} : s₀.Follows (s.hostPage n m) := by
  unfold State.hostPage
  refine .ite (.hostNack h) ?_
  dsimp only
  split
  · exact .hostNack h
  · exact .hostNack (.landLeaf h)
  · exact .landLeaf h
  · exact .ite (.landLeaf h) (.bump (.landLeaf h))

theorem State.Follows.ackEvents (h : s₀.Follows s) {n ack : Nat} : s₀.Follows (s.ackEvents n ack) := .setSession h

theorem State.Follows.hostAct (h : s₀.Follows s) {n ty : Nat} {m : HostMsg} {aux : Aux} {diag : Option Diag} : s₀.Follows (s.hostAct n
    ty m aux diag) := by
  unfold State.hostAct
  refine .ite h (.ite (.hostNack h) ?_)
  split
  · exact .ackEvents h
  · exact .dictRead h
  · exact .dictWrite h
  · exact .hostDoor h
  · exact .hostWrite h
  · exact .hostRead h
  · exact .hostPage h
  · exact h

theorem State.Follows.hostServe (h : s₀.Follows s) {n ty : Nat} {m : HostMsg} {aux : Aux} {diag : Option Diag} : s₀.Follows
    (s.hostServe n ty m aux diag) :=
  .ite (.hostAct (.actedOn h)) (.ite (.closeSession (.ite (.hostAck (.hostAct (.actedOn h))) (.hostAct (.actedOn h)))) (.ite (.hostAck
      (.hostAct (.actedOn h))) (.hostAct (.actedOn h))))

theorem State.Follows.serveAhead (h : s₀.Follows s) {f n : Nat} : s₀.Follows (State.serveAhead f s n) := by
  induction f generalizing s with
  | zero => exact h
  | succ f ih =>
    unfold State.serveAhead
    dsimp only
    split
    · exact h
    · exact ih (.hostServe (.setSession h))

theorem State.Follows.hostNext (h : s₀.Follows s) {n ty : Nat} {m : HostMsg} {aux : Aux} {diag : Option Diag} : s₀.Follows (s.hostNext
    n ty m aux diag) :=
  .serveAhead (.hostServe h)

theorem State.Follows.hostRefuse (h : s₀.Follows s) {n : Nat} {m : HostMsg} {aux : Aux} {code : Nat} : s₀.Follows (s.hostRefuse n m aux
    code) :=
  .ite (.hostNext (.hostNack h)) (.ite (.markAhead (.hostNack h)) (.hostNack h))

theorem State.Follows.hostOrder (h : s₀.Follows s) {n ty : Nat} {m : HostMsg} {aux : Aux} {diag : Option Diag} : s₀.Follows
    (s.hostOrder n ty m aux diag) :=
  .ite (.hostAck (.bump h)) (.ite (.hostRefuse h) (.ite (.hostNext h) (.markAhead h)))

theorem State.Follows.hostArrive (h : s₀.Follows s) {port : Nat} {m : HostMsg} : s₀.Follows (s.hostArrive port m) :=
  .ite (.startWake (.countEvent (.bump h))) (.countEvent (.bump h))

theorem State.Follows.hostIn (h : s₀.Follows s) {port ty : Nat} {m : HostMsg} {aux : Aux} {diag : Option Diag} : s₀.Follows (s.hostIn
    port ty m aux diag) := by
  unfold State.hostIn
  refine .ite h (.ite (.bump (.hostArrive h)) ?_)
  dsimp only
  split
  · exact .looseNack (.hostArrive h)
  · exact .ite (.hostRefuse (.hostArrive h)) (.ite (.hostRefuse (.setSession (.hostArrive h))) (.ite (.hostRefuse (.setSession
      (.hostArrive h))) (.hostOrder (.setSession (.hostArrive h)))))

theorem State.leads_execSessionClose (h : s₀.Follows s) {dt port : Nat} {msg : HostMsg} : s₀.Leads (execSessionClose dt port msg s) :=
  .next (.whenUp (.elapse h) (fun _ h' => .hostIn h'))

theorem State.leads_execHostAcknowledgement (h : s₀.Follows s) {dt port : Nat} {msg : HostMsg} : s₀.Leads (execHostAcknowledgement dt
    port msg s) :=
  .next (.whenUp (.elapse h) (fun _ h' => .hostIn h'))

theorem State.leads_execDictionaryRead (h : s₀.Follows s) {dt port : Nat} {msg : HostMsg} : s₀.Leads (execDictionaryRead dt port msg s) :=
  .next (.whenUp (.elapse h) (fun _ h' => .hostIn h'))

theorem State.leads_execDictionaryWrite (h : s₀.Follows s) {dt port : Nat} {msg : HostMsg} {aux : Aux} : s₀.Leads (execDictionaryWrite
    dt port msg aux s) :=
  .next (.whenUp (.elapse h) (fun _ h' => .hostIn h'))

theorem State.leads_execHostDoorbell (h : s₀.Follows s) {dt port : Nat} {msg : HostMsg} : s₀.Leads (execHostDoorbell dt port msg s) :=
  .next (.whenUp (.elapse h) (fun _ h' => .hostIn h'))

theorem State.leads_execHostWrite (h : s₀.Follows s) {dt port : Nat} {msg : HostMsg} : s₀.Leads (execHostWrite dt port msg s) :=
  .next (.whenUp (.elapse h) (fun _ h' => .hostIn h'))

theorem State.leads_execHostReadRequest (h : s₀.Follows s) {dt port : Nat} {msg : HostMsg} {diag : Option Diag} : s₀.Leads
    (execHostReadRequest dt port msg diag s) :=
  .next (.whenUp (.elapse h) (fun _ h' => .hostIn h'))

theorem State.leads_execHostPageTransfer (h : s₀.Follows s) {dt port : Nat} {msg : HostMsg} : s₀.Leads (execHostPageTransfer dt port
    msg s) :=
  .next (.whenUp (.elapse h) (fun _ h' => .hostIn h'))

theorem State.Follows.createSession (h : s₀.Follows s) {port draw : Nat} {m : HostMsg} : s₀.Follows (s.createSession port draw m) := by
  unfold State.createSession
  split
  · exact h
  · exact .ite (.hostAck (.hostTell (.bump (.setSession h)))) (.hostTell (.bump (.setSession h)))

theorem State.Follows.refuseOpen (h : s₀.Follows s) {port : Nat} {m : HostMsg} {code : Nat} : s₀.Follows (s.refuseOpen port m code) :=
  .looseSend h

theorem State.Follows.openSession (h : s₀.Follows s) {port draw : Nat} {m : HostMsg} : s₀.Follows (s.openSession port draw m) :=
  .ite (.refuseOpen h) (.ite h.keep (.createSession h))

theorem State.leads_execSessionOpen (h : s₀.Follows s) {dt port draw : Nat} {msg : HostMsg} : s₀.Leads (execSessionOpen dt port draw
    msg s) :=
  .next (.whenUp (.elapse h) (fun _ h' => .ite h' (.ite (.bump (.hostArrive h')) (.ite (.looseNack (.hostArrive h')) (.ite (.looseNack
      (.hostArrive h')) (.openSession (.hostArrive h')))))))

theorem State.leads_execSessionTimeout (h : s₀.Follows s) {dt session : Nat} : s₀.Leads (execSessionTimeout dt session s) :=
  .next (.whenUp (.elapse h) (fun _ h' => .ite (.signal (.bump (.closeSession h'))) h'))

theorem State.Follows.resendEvent (h : s₀.Follows s) {n seq : Nat} : s₀.Follows (s.resendEvent n seq) := by
  unfold State.resendEvent
  dsimp only
  split
  · exact h
  · exact .ite h (.ite (.signal (.closeSession h)) (.countEvent (.hostEmit (.setSession h))))

theorem State.leads_execEventResend (h : s₀.Follows s) {dt session seq : Nat} : s₀.Leads (execEventResend dt session seq s) :=
  .next (.whenUp (.elapse h) (fun _ h' => .ite (.resendEvent h') h'))

theorem State.leads_execHostPortStateChange (h : s₀.Follows s) {dt port st : Nat} : s₀.Leads (execHostPortStateChange dt port st s) :=
  .next (.whenUp (.elapse h) (fun _ h' => .ite (.setHostPort h') h'))

theorem State.leads_execArpRequest (h : s₀.Follows s) {dt port target mac : Nat} : s₀.Leads (execArpRequest dt port target mac s) :=
  .next (.whenUp (.elapse h) (fun _ h' => .ite (.push h') h'))

theorem State.leads_execNeighborSolicitation (h : s₀.Follows s) {dt port target mac : Nat} : s₀.Leads (execNeighborSolicitation dt port
    target mac s) :=
  .next (.whenUp (.elapse h) (fun _ h' => .ite (.push h') h'))

theorem State.Follows.refuseWaits (h : s₀.Follows s) : s₀.Follows s.refuseWaits := by
  unfold State.refuseWaits
  refine .foldl (fun _ _ h' => .refuseOpen h') (.keep ?_)
  split
  · exact .ite (.setCnt h.keep) h
  · exact h

theorem State.leads_execRandomWaitTimeout (h : s₀.Follows s) {dt : Nat} : s₀.Leads (execRandomWaitTimeout dt s) :=
  .next (.whenUp (.elapse h) (fun _ h' => .refuseWaits h'))

theorem State.Follows.passRng (h : s₀.Follows s) {draws : List Nat} : s₀.Follows (s.passRng draws) := by
  unfold State.passRng
  refine .foldl (fun _ _ h' => .openSession h') ?_
  split
  · exact .sign h.keep
  · exact h.keep

theorem State.leads_execRngHealthPass (h : s₀.Follows s) {dt : Nat} {draws : List Nat} : s₀.Leads (execRngHealthPass dt draws s) :=
  .next (.whenUp (.elapse h) (fun _ h' => .passRng h'))

/-! ### Any command (O3, O4) -/

/-- The state after any command follows the state before it. -/
theorem State.leads_exec (h : s₀.Follows s) (c : Instr) : s₀.Leads (exec c s) := by
  cases c with
  | objectWrite => exact State.leads_execObjectWrite h
  | clampCounterClear => exact State.leads_execClampCounterClear h
  | resourceRearm => exact State.leads_execResourceRearm h
  | refusalCountersClear => exact State.leads_execRefusalCountersClear h
  | diePathLaneLoss => exact State.leads_execDiePathLaneLoss h
  | planerCountersClear => exact State.leads_execPlanerCountersClear h
  | tensorProduct => exact State.leads_execTensorProduct h
  | tileEpilogue => exact State.leads_execTileEpilogue h
  | tensorCountersClear => exact State.leads_execTensorCountersClear h
  | rmsForward => exact State.leads_execRmsForward h
  | rmsBackward => exact State.leads_execRmsBackward h
  | layerForward => exact State.leads_execLayerForward h
  | layerBackward => exact State.leads_execLayerBackward h
  | softmaxForward => exact State.leads_execSoftmaxForward h
  | softmaxBackward => exact State.leads_execSoftmaxBackward h
  | fp32Add => exact State.leads_execFp32Add h
  | haul => exact State.leads_execHaul h
  | remoteHaul => exact State.leads_execRemoteHaul h
  | push => exact State.leads_execPush h
  | pop => exact State.leads_execPop h
  | popAndHold => exact State.leads_execPopAndHold h
  | readHeld => exact State.leads_execReadHeld h
  | release => exact State.leads_execRelease h
  | update => exact State.leads_execUpdate h
  | trainingCountersClear => exact State.leads_execTrainingCountersClear h
  | heatHalving => exact State.leads_execHeatHalving h
  | copyComplete => exact State.leads_execCopyComplete h
  | copyPoolWrite => exact State.leads_execCopyPoolWrite h
  | transparentCopiesWrite => exact State.leads_execTransparentCopiesWrite h
  | prefetchFire => exact State.leads_execPrefetchFire h
  | prefetchComplete => exact State.leads_execPrefetchComplete h
  | patrolScrub => exact State.leads_execPatrolScrub h
  | pageZeroingComplete => exact State.leads_execPageZeroingComplete h
  | benchZeroingComplete => exact State.leads_execBenchZeroingComplete h
  | invalidationComplete => exact State.leads_execInvalidationComplete h
  | memoryCountersClear => exact State.leads_execMemoryCountersClear h
  | contextCreate => exact State.leads_execContextCreate h
  | contextClose => exact State.leads_execContextClose h
  | teardownDrainEnd => exact State.leads_execTeardownDrainEnd h
  | teardownDrainLimit => exact State.leads_execTeardownDrainLimit h
  | teardownComplete => exact State.leads_execTeardownComplete h
  | doorbellTailWrite => exact State.leads_execDoorbellTailWrite h
  | completionHeadWrite => exact State.leads_execCompletionHeadWrite h
  | commandStart => exact State.leads_execCommandStart h
  | noOp => exact State.leads_execNoOp h
  | layerMarker => exact State.leads_execLayerMarker h
  | stepOpen => exact State.leads_execStepOpen h
  | stepClose => exact State.leads_execStepClose h
  | contextCountersClear => exact State.leads_execContextCountersClear h
  | scheduleTableWrite => exact State.leads_execScheduleTableWrite h
  | scheduleActivate => exact State.leads_execScheduleActivate h
  | cycleStart => exact State.leads_execCycleStart h
  | admissionWaitTimeout => exact State.leads_execAdmissionWaitTimeout h
  | slotBoundary => exact State.leads_execSlotBoundary h
  | park => exact State.leads_execPark h
  | remoteWaitDeadline => exact State.leads_execRemoteWaitDeadline h
  | swap => exact State.leads_execSwap h
  | swapComplete => exact State.leads_execSwapComplete h
  | schedulingCountersClear => exact State.leads_execSchedulingCountersClear h
  | codewordReceive => exact State.leads_execCodewordReceive h
  | idleCreditFlit => exact State.leads_execIdleCreditFlit h
  | retryRequest => exact State.leads_execRetryRequest h
  | syncInterval => exact State.leads_execSyncInterval h
  | syncRequest => exact State.leads_execSyncRequest h
  | syncReply => exact State.leads_execSyncReply h
  | identify => exact State.leads_execIdentify h
  | laneMap => exact State.leads_execLaneMap h
  | linkDownTimeout => exact State.leads_execLinkDownTimeout h
  | partnerSignal => exact State.leads_execPartnerSignal h
  | trainingDone => exact State.leads_execTrainingDone h
  | alignDone => exact State.leads_execAlignDone h
  | linkSilenceTimeout => exact State.leads_execLinkSilenceTimeout h
  | laneLoss => exact State.leads_execLaneLoss h
  | leaderLossTimeout => exact State.leads_execLeaderLossTimeout h
  | linkRetrain => exact State.leads_execLinkRetrain h
  | linkDisableWrite => exact State.leads_execLinkDisableWrite h
  | portStateChange => exact State.leads_execPortStateChange h
  | fabricWrite => exact State.leads_execFabricWrite h
  | fabricDoorbell => exact State.leads_execFabricDoorbell h
  | fillOnly => exact State.leads_execFillOnly h
  | contribution => exact State.leads_execContribution h
  | pageTransfer => exact State.leads_execPageTransfer h
  | acknowledgement => exact State.leads_execAcknowledgement h
  | negativeAcknowledgement => exact State.leads_execNegativeAcknowledgement h
  | seqWindowResend => exact State.leads_execSeqWindowResend h
  | closeNotice => exact State.leads_execCloseNotice h
  | peerResetMessage => exact State.leads_execPeerResetMessage h
  | peerResetHoldExpiry => exact State.leads_execPeerResetHoldExpiry h
  | retransmitTimeout => exact State.leads_execRetransmitTimeout h
  | rafterCountersClear => exact State.leads_execRafterCountersClear h
  | transportCountersClear => exact State.leads_execTransportCountersClear h
  | allReduce => exact State.leads_execAllReduce h
  | reduceScatter => exact State.leads_execReduceScatter h
  | allGather => exact State.leads_execAllGather h
  | broadcast => exact State.leads_execBroadcast h
  | expertDispatch => exact State.leads_execExpertDispatch h
  | expertCombine => exact State.leads_execExpertCombine h
  | stepSeal => exact State.leads_execStepSeal h
  | barrier => exact State.leads_execBarrier h
  | dovetailPair => exact State.leads_execDovetailPair h
  | dovetailUnpair => exact State.leads_execDovetailUnpair h
  | reshard => exact State.leads_execReshard h
  | mappingCountersClear => exact State.leads_execMappingCountersClear h
  | raiseJob => exact State.leads_execRaiseJob h
  | raiseWeightSet => exact State.leads_execRaiseWeightSet h
  | recheckPass => exact State.leads_execRecheckPass h
  | weightSwitch => exact State.leads_execWeightSwitch h
  | checkpointRequest => exact State.leads_execCheckpointRequest h
  | checkpointCommit => exact State.leads_execCheckpointCommit h
  | restore => exact State.leads_execRestore h
  | restoreComplete => exact State.leads_execRestoreComplete h
  | raisingCountersClear => exact State.leads_execRaisingCountersClear h
  | sessionOpen => exact State.leads_execSessionOpen h
  | sessionClose => exact State.leads_execSessionClose h
  | hostAcknowledgement => exact State.leads_execHostAcknowledgement h
  | dictionaryRead => exact State.leads_execDictionaryRead h
  | dictionaryWrite => exact State.leads_execDictionaryWrite h
  | hostDoorbell => exact State.leads_execHostDoorbell h
  | hostWrite => exact State.leads_execHostWrite h
  | hostReadRequest => exact State.leads_execHostReadRequest h
  | hostPageTransfer => exact State.leads_execHostPageTransfer h
  | sessionTimeout => exact State.leads_execSessionTimeout h
  | eventResend => exact State.leads_execEventResend h
  | hostPortStateChange => exact State.leads_execHostPortStateChange h
  | arpRequest => exact State.leads_execArpRequest h
  | neighborSolicitation => exact State.leads_execNeighborSolicitation h
  | ptpAnnounce => exact State.leads_execPtpAnnounce h
  | ptpSync => exact State.leads_execPtpSync h
  | syncTimeout => exact State.leads_execSyncTimeout h
  | holdoverLimit => exact State.leads_execHoldoverLimit h
  | ppsInEdge => exact State.leads_execPpsInEdge h
  | ppsOutPulse => exact State.leads_execPpsOutPulse h
  | ppsOutFall => exact State.leads_execPpsOutFall h
  | hostCountersClear => exact State.leads_execHostCountersClear h
  | efythReadRequest => exact State.leads_execEfythReadRequest h
  | efythWrite => exact State.leads_execEfythWrite h
  | discover => exact State.leads_execDiscover h
  | multipartTimeout => exact State.leads_execMultipartTimeout h
  | plcaChangeApply => exact State.leads_execPlcaChangeApply h
  | commitWindowClose => exact State.leads_execCommitWindowClose h
  | commitComplete => exact State.leads_execCommitComplete h
  | rwpDefaults => exact State.leads_execRwpDefaults h
  | calibrationWrite => exact State.leads_execCalibrationWrite h
  | managementCountersClear => exact State.leads_execManagementCountersClear h
  | interruptSignal => exact State.leads_execInterruptSignal h
  | interruptDelivery => exact State.leads_execInterruptDelivery h
  | take => exact State.leads_execTake h
  | pendClear => exact State.leads_execPendClear h
  | setSource => exact State.leads_execSetSource h
  | endHandler => exact State.leads_execEndHandler h
  | modeWrite => exact State.leads_execModeWrite h
  | raiseSoftwareSource => exact State.leads_execRaiseSoftwareSource h
  | sourceConfigWrite => exact State.leads_execSourceConfigWrite h
  | interruptCountersClear => exact State.leads_execInterruptCountersClear h
  | counterWrap => exact State.leads_execCounterWrap h
  | counterReset => exact State.leads_execCounterReset h
  | samplingStart => exact State.leads_execSamplingStart h
  | samplingStop => exact State.leads_execSamplingStop h
  | sampleRecord => exact State.leads_execSampleRecord h
  | readMarkWrite => exact State.leads_execReadMarkWrite h
  | samplingCopy => exact State.leads_execSamplingCopy h
  | bandwidthWindowEnd => exact State.leads_execBandwidthWindowEnd h
  | ledgerWindow => exact State.leads_execLedgerWindow h
  | avsCurrentRead => exact State.leads_execAvsCurrentRead h
  | governorUpdate => exact State.leads_execGovernorUpdate h
  | bandCheck => exact State.leads_execBandCheck h
  | ballastUpdate => exact State.leads_execBallastUpdate h
  | junctionSample => exact State.leads_execJunctionSample h
  | clockRaiseAfterSettle => exact State.leads_execClockRaiseAfterSettle h
  | thermalTrip => exact State.leads_execThermalTrip h
  | tripHoldTimeout => exact State.leads_execTripHoldTimeout h
  | shedNAssert => exact State.leads_execShedNAssert h
  | shedNDeassert => exact State.leads_execShedNDeassert h
  | shedEnd => exact State.leads_execShedEnd h
  | vrAlert => exact State.leads_execVrAlert h
  | pgBeamLoss => exact State.leads_execPgBeamLoss h
  | pgSocLoss => exact State.leads_execPgSocLoss h
  | wearCommit => exact State.leads_execWearCommit h
  | bayIdleGate => exact State.leads_execBayIdleGate h
  | baySleep => exact State.leads_execBaySleep h
  | deviceP2Request => exact State.leads_execDeviceP2Request h
  | deviceP3Request => exact State.leads_execDeviceP3Request h
  | deviceWakeRequest => exact State.leads_execDeviceWakeRequest h
  | autoP2Timeout => exact State.leads_execAutoP2Timeout h
  | powerCountersClear => exact State.leads_execPowerCountersClear h
  | hangDetected => exact State.leads_execHangDetected h
  | quarantineLimit => exact State.leads_execQuarantineLimit h
  | heartbeatKick => exact State.leads_execHeartbeatKick h
  | watchdogExpiry => exact State.leads_execWatchdogExpiry h
  | watchdogGraceExpiry => exact State.leads_execWatchdogGraceExpiry h
  | bayReset => exact State.leads_execBayReset h
  | beamDieReset => exact State.leads_execBeamDieReset h
  | edgeLinkReset => exact State.leads_execEdgeLinkReset h
  | warmReset => exact State.leads_execWarmReset h
  | coldReset => exact State.leads_execColdReset h
  | resetComplete dt domain unit place => exact State.leads_execResetComplete h (_place := place)
  | crashDumpStart => exact State.leads_execCrashDumpStart h
  | crashDumpSealed => exact State.leads_execCrashDumpSealed h
  | crashDumpCopy => exact State.leads_execCrashDumpCopy h
  | fatalAck => exact State.leads_execFatalAck h
  | healthRestoreTick => exact State.leads_execHealthRestoreTick h
  | admissionStateWrite => exact State.leads_execAdmissionStateWrite h
  | selfTestStart => exact State.leads_execSelfTestStart h
  | selfTestComplete => exact State.leads_execSelfTestComplete h
  | faultCountersClear => exact State.leads_execFaultCountersClear h
  | coldBoot => exact State.leads_execColdBoot h
  | bootCtlUpdate dt v place => exact State.leads_execBootCtlUpdate h (_place := place)
  | recoveryData => exact State.leads_execRecoveryData h
  | recoveryWindowTimeout => exact State.leads_execRecoveryWindowTimeout h
  | firmwareUpdate => exact State.leads_execFirmwareUpdate h
  | firmwareUpdateFetch => exact State.leads_execFirmwareUpdateFetch h
  | raiseMinSecurity => exact State.leads_execRaiseMinSecurity h
  | debugLockBlow => exact State.leads_execDebugLockBlow h
  | extendSlot => exact State.leads_execExtendSlot h
  | quote => exact State.leads_execQuote h
  | rngHealthFail => exact State.leads_execRngHealthFail h
  | randomWaitTimeout => exact State.leads_execRandomWaitTimeout h
  | resetNAssert => exact State.leads_execResetNAssert h
  | refclkLoss => exact State.leads_execRefclkLoss h
  | refclkRestored => exact State.leads_execRefclkRestored h
  | jobSignalAssign => exact State.leads_execJobSignalAssign h
  | jtagTestModeEntry => exact State.leads_execJtagTestModeEntry h
  | rngHealthPass => exact State.leads_execRngHealthPass h
  | recoveryFetchRestart => exact State.leads_execRecoveryFetchRestart h
  | vrAlertDeassert => exact State.leads_execVrAlertDeassert h
  | bayWakeComplete => exact State.leads_execBayWakeComplete h
  | linkDownDeduction => exact State.leads_execLinkDownDeduction h
  | firmwareFault => exact State.leads_execFirmwareFault h

/-- Settles O4: every command's state follows the state it ran in. -/
theorem commandsKeepQueueAndOutput : Obligations.CommandsKeepQueueAndOutput := by
  intro c s t e
  obtain ⟨hqueue, hsent, -⟩ := State.leads_exec (.refl s) c t e
  exact ⟨hqueue, hsent⟩

/-- Settles O3: an idle step changes nothing, and the front command's state follows the one with the queue's rest. -/
theorem stepKeepsSound : Obligations.StepKeepsSound := by
  intro s t hs e
  unfold step at e
  split at e
  · cases e
    exact hs
  · exact (State.leads_exec (.refl _) _ t e).sound hs

end Sys2Proof.Machine
end

section
/-! PROOFS. Steps, reset, and the passing of time (O1, O2, O5, O6). -/

namespace Sys2Proof.Machine

/-- Settles O1: the three clauses are the two branches of `step`. -/
theorem stepRunsFrontCommand : Obligations.StepRunsFrontCommand := by
  refine ⟨fun _ _ => rfl, fun c rest s h => ?_, fun s h => ?_⟩
  · simp only [step, h]
  · simp only [step, h]

/-- Settles O2: every clause is a value of the reset state. -/
theorem resetIsSound : Obligations.ResetIsSound := by
  unfold Obligations.ResetIsSound State.Sound
  decide

/-- Settles O6: with nothing to slew and outside P3 the stamp gains exactly what passed, and the clock stands. -/
theorem timePasses : Obligations.TimePasses := by
  intro s dt hslew haon hphase
  have hgain : s.gain dt = (dt, 0) := by simp [State.gain, haon, hphase]
  have hclock : s.clock.slewed dt = (s.clock, 0) := if_pos hslew
  have haonStands : ({ s.clock with aon := 0 } : Clock) = s.clock := by rw [← haon]
  have hstamp : ((s.stamp : Int) + (dt : Int) + 0).toNat = s.stamp + dt := by omega
  simp only [State.elapse, State.advance, hgain, hclock, haonStands, hstamp]

/-- A device that boots from a warm reset: its firmware does not run yet. -/
def warmBooting : State := { State.reset with boot := { State.reset.boot with phase := .warmBoot } }

/-- Refutes O5: a thermal trip stands among the commands of `Instr.needsFirmware`, yet in warm boot it gates its die. -/
theorem not_firmwareCommandsWaitForBoot : ¬ Obligations.FirmwareCommandsWaitForBoot := by
  intro h
  have hwaits := h (.thermalTrip 0 0) warmBooting rfl rfl
  have hgated := congrArg (fun t : State => (t.die 0).gated) (Host.Outcome.next.inj hwaits)
  exact absurd hgated (by decide +kernel)

end Sys2Proof.Machine
end

section
/-! PROOFS. Host sessions (O39, O40, O41), and what holds through a signal, for every later proof about one. -/

namespace Sys2Proof.Machine

/-! ### What holds through a signal (R411 to R421) -/

/-- What the host knows a session by: that it is open, its kind, its tag and the next number heard. -/
def Session.bond (k : Session) : Bool × Nat × Nat × Nat := (k.isOpen, k.kind, k.tag, k.rxSeq)

/-- `P` holds through all that a signal of source n does after its latch: counts, frames and events leave, and the counters of the host's
ports, and a session that drops its first event, latch sources of their own. -/
structure State.SignalStable (n : Nat) (P : State → Prop) : Prop where
  bump {s : State} {i k : Nat} : objKey i k ∈ signalCounters → P s → P (s.bump i k)
  sent {s : State} (l : List Sent) : P s → P { s with sent := l }
  efyth {s : State} (q : Nat) : P s → P { s with efyth := { s.efyth with notifySeq := q } }
  value {s : State} {u : Nat} (k v : Nat) : 81 ≤ u → P s → P (s.setPerfValue u k v)
  overflow {s : State} {u : Nat} (v : Nat) : 81 ≤ u → P s →
    P { s with perf := { s.perf with overflow := Assoc.set 0 s.perf.overflow u v } }
  latch {s : State} {m : Nat} : (m = 215 ∧ n ≠ 215) ∨ 433 ≤ m → P s → P (s.latchSignal m none)
  session {s : State} {m : Nat} {k : Session} : k.bond = (s.session m).bond → (∀ e ∈ (s.session m).events, e ∈ k.events) → P s →
    P (s.setSession m k)
  wake {s : State} : P s → P s.startWake

theorem hostUnit_ge (p : Nat) : 81 ≤ hostUnit p := Nat.le_add_right 81 p

section
variable {n : Nat} {P : State → Prop} {s : State}

/-- Only the source of a drop is treated apart. -/
theorem State.SignalStable.of_ne (h : State.SignalStable n P) (hn : n ≠ 215) (m : Nat) : State.SignalStable m P :=
  { h with latch := fun hm => h.latch (hm.imp_left fun hd => ⟨hd.1, hn⟩) }

theorem State.SignalStable.foldl {α β : Type} (π : β → State) {f : β → α → β} (hf : ∀ b x, P (π b) → P (π (f b x))) (l : List α) {b : β}
    (hb : P (π b)) : P (π (l.foldl f b)) :=
  List.foldlRecOn l f (motive := fun a => P (π a)) hb fun a ha x _ => hf a x ha

theorem State.SignalStable.addCounterBy (h : State.SignalStable n P) {sig : State → Nat → State} {u : Nat} (hu : 81 ≤ u)
    (hsig : ∀ t, P t → P (sig t (352 + u))) (f k m : Nat) (hs : P s) : P (State.addCounterBy sig f s u k m) := by
  induction f generalizing s k m with
  | zero => exact hs
  | succ f ih =>
    have hset := h.value k ((s.perfValue u k + m) % 2 ^ 48) hu hs
    unfold State.addCounterBy
    dsimp only
    split
    · exact hset
    · split
      · exact ih _ _ hset
      · split
        · exact hsig _ (h.overflow _ hu hset)
        · exact h.overflow _ hu hset

theorem State.SignalStable.countEventBy (h : State.SignalStable n P) {sig : State → Nat → State} {u : Nat} (hu : 81 ≤ u)
    (hsig : ∀ t, P t → P (sig t (352 + u))) (ev m : Nat) (c : Option Nat) (hs : P s) : P (State.countEventBy sig s u ev m c) := by
  unfold State.countEventBy
  split
  · exact hs
  · refine State.SignalStable.foldl id (fun t k ht => ?_) _ hs
    dsimp only [id]
    split
    · exact h.addCounterBy hu hsig _ _ _ ht
    · exact ht

theorem State.SignalStable.hostEmit (h : State.SignalStable n P) (port : Nat) (dst : List Byte) (ty : Nat) (hd : HostHdr) (p : List Byte)
    (hs : P s) : P (s.hostEmit port dst ty hd p) :=
  h.bump (by decide) (h.sent _ hs)

theorem State.SignalStable.hostSend (h : State.SignalStable n P) (m ty : Nat) (f : HostHdr → HostHdr) (p : List Byte) (hs : P s) :
    P (s.hostSend m ty f p) :=
  h.session rfl (fun _ he => he) (h.hostEmit _ _ _ _ _ hs)

theorem State.SignalStable.eventTo (h : State.SignalStable n P) (m : Nat) (r : EventRec) (stamp : Nat) (hs : P s) :
    P (s.eventTo m r stamp).1 := by
  unfold State.eventTo
  dsimp only
  split
  · exact h.bump (by decide) (h.session rfl (fun _ he => he) hs)
  · dsimp only
    refine h.countEventBy (hostUnit_ge _) (fun t => ?_) _ _ _ (h.hostSend _ _ _ _ ?_)
    · exact h.latch (.inr (Nat.add_le_add_left (hostUnit_ge _) 352))
    · exact h.session rfl (fun _ => List.mem_append_left _) hs

theorem State.SignalStable.routeEvents (h : State.SignalStable n P) (l : List Nat) (r : EventRec) (hs : P s) : P (s.routeEvents l r).1 :=
  State.SignalStable.foldl Prod.fst (fun a m ha => h.bump (i := 0x5010) (k := 3) (by decide) (h.eventTo m r s.stamp (s := a.1) ha)) l hs

theorem State.SignalStable.forwardSignal (h : State.SignalStable n P) (m : Nat) (c : Option Nat) (hs : P s) : P (s.forwardSignal m c).1 := by
  unfold State.forwardSignal
  dsimp only
  generalize (_ ++ _ : List Nat) = l
  have hroute := h.routeEvents l (s.signalRec m c) hs
  split
  · refine h.bump (by decide) (h.efyth _ ?_)
    exact h.bump (by decide) (h.sent _ hroute)
  · exact hroute

/-- Whatever holds of the latched state holds of the signalled one. -/
theorem State.SignalStable.signal (h : State.SignalStable n P) (c : Option Nat) (hs : sourceDefined n = false → P s) (hlatched : P (s.latchSignal n c)) :
    P (s.signal n c) := by
  have hwake (t : State) (ht : P t) : P (if (t.config n).testBit 8 then t.startWake else t) := by
    split
    · exact h.wake ht
    · exact ht
  unfold State.signal
  split
  next hundefined => exact hs (by simpa using hundefined)
  next =>
    refine hwake _ ?_
    split
    next hdrop =>
      have hn : n ≠ 215 := by simp_all
      exact h.forwardSignal _ _ (h.latch (.inl ⟨rfl, hn⟩) (h.forwardSignal n c hlatched))
    next => exact h.forwardSignal n c hlatched

theorem State.SignalStable.countEvent (h : State.SignalStable n P) (hn : n ≠ 215) {u : Nat} (hu : 81 ≤ u) (ev m : Nat) (c : Option Nat)
    (hs : P s) : P (s.countEvent u ev m c) :=
  h.countEventBy hu (fun _ ht => (h.of_ne hn _).signal none (fun _ => ht) (h.latch (.inr (by omega)) ht)) ev m c hs

theorem State.SignalStable.hostTell (h : State.SignalStable n P) (hn : n ≠ 215) (m ty : Nat) (f : HostHdr → HostHdr) (p : List Byte)
    (hs : P s) : P (s.hostTell m ty f p) :=
  h.countEvent hn (hostUnit_ge _) _ _ _ (h.hostSend _ _ _ _ hs)

theorem State.SignalStable.hostAck (h : State.SignalStable n P) (hn : n ≠ 215) (m : Nat) (hs : P s) : P (s.hostAck m) :=
  h.hostTell hn _ _ _ _ (h.session rfl (fun _ he => he) hs)

end

/-! ### What stands of the sessions (R369, R419) -/

/-- From s to t every session keeps its bond and loses no event. -/
structure State.SessionsStand (s t : State) : Prop where
  bond : ∀ n, (t.session n).bond = (s.session n).bond
  events : ∀ n, ∀ e ∈ (s.session n).events, e ∈ (t.session n).events

theorem State.SessionsStand.of_sessions {s t : State} (h : t.sessions = s.sessions) : s.SessionsStand t := by
  have hsame (n : Nat) : t.session n = s.session n := by rw [State.session, State.session, h]
  exact ⟨fun n => by rw [hsame n], fun n e he => by rwa [hsame n]⟩

theorem State.SessionsStand.refl (s : State) : s.SessionsStand s := .of_sessions rfl

theorem State.SessionsStand.trans {s t v : State} (h : s.SessionsStand t) (g : t.SessionsStand v) : s.SessionsStand v :=
  ⟨fun n => (g.bond n).trans (h.bond n), fun n e he => g.events n e (h.events n e he)⟩

/-- A session written with its bond and its events stands. -/
theorem State.setSession_stands {s : State} {n : Nat} {k : Session} (hbond : k.bond = (s.session n).bond)
    (hevents : ∀ e ∈ (s.session n).events, e ∈ k.events) : s.SessionsStand (s.setSession n k) := by
  refine ⟨fun m => ?_, fun m => ?_⟩
  · by_cases hm : m = n
    · subst hm
      rw [State.setSession_session_self, hbond]
    · rw [State.setSession_session_ne _ _ hm]
  · by_cases hm : m = n
    · subst hm
      rwa [State.setSession_session_self]
    · rw [State.setSession_session_ne _ _ hm]
      exact fun _ he => he

theorem State.latchSignal_sessions (s : State) (n : Nat) (c : Option Nat) : (s.latchSignal n c).sessions = s.sessions := by
  unfold State.latchSignal
  dsimp only
  split <;> rfl

theorem State.startWake_sessions (s : State) : s.startWake.sessions = s.sessions := by
  unfold State.startWake
  split
  · rfl
  · split <;> rfl

/-- The sessions stand whichever source is signalled. -/
theorem State.sessionsStand_stable (s : State) (n : Nat) : State.SignalStable n s.SessionsStand where
  bump _ h := h.trans (.of_sessions rfl)
  sent _ h := h.trans (.of_sessions rfl)
  efyth _ h := h.trans (.of_sessions rfl)
  value _ _ _ h := h.trans (.of_sessions rfl)
  overflow _ _ h := h.trans (.of_sessions rfl)
  latch _ h := h.trans (.of_sessions (State.latchSignal_sessions _ _ _))
  session hb he h := h.trans (State.setSession_stands hb he)
  wake h := h.trans (.of_sessions (State.startWake_sessions _))

theorem State.signal_stands (s : State) (n : Nat) (c : Option Nat) : s.SessionsStand (s.signal n c) :=
  (s.sessionsStand_stable n).signal c (fun _ => .refl s) (.of_sessions (s.latchSignal_sessions n c))

/-! ### Opening, closing, sending again (R366 to R368, R374) -/

theorem State.bump_session (s : State) (i k n : Nat) : (s.bump i k).session n = s.session n := rfl

/-- The first free number becomes an open session with what the open says. -/
theorem State.createSession_bond {s : State} {port draw n : Nat} {m : HostMsg} (hfree : s.freeSession = some n) :
    ((s.createSession port draw m).session n).bond = (true, m.hdr.value % 2, draw % 65536, (m.hdr.seq + 1) % 2 ^ 32) := by
  unfold State.createSession
  rw [hfree]
  dsimp only
  generalize hopened : (State.setSession s n _).bump 0x4810 7 = t
  have hstable := t.sessionsStand_stable 0
  have htold : t.SessionsStand (if m.hdr.flags.testBit 7 = true then (t.hostTell n 0x41 (fun h => h) []).hostAck n
      else t.hostTell n 0x41 (fun h => h) []) := by
    split
    · exact hstable.hostAck (by decide) n (hstable.hostTell (by decide) n 0x41 _ [] (.refl t))
    · exact hstable.hostTell (by decide) n 0x41 _ [] (.refl t)
  rw [htold.bond n, ← hopened]
  rw [State.bump_session, State.setSession_session_self]
  rfl

/-- No signal touches the random source. -/
theorem State.rngBad_stable (s : State) (n : Nat) : State.SignalStable n (fun t => t.boot.rngBad = s.boot.rngBad) where
  bump _ h := h
  sent _ h := h
  efyth _ h := h
  value _ _ _ h := h
  overflow _ _ h := h
  latch _ h := by
    unfold State.latchSignal
    dsimp only
    split <;> exact h
  session _ _ h := h
  wake h := by
    unfold State.startWake
    split
    · exact h
    · split <;> exact h

theorem State.hostArrive_rngBad (s : State) (port : Nat) (m : HostMsg) : (s.hostArrive port m).boot.rngBad = s.boot.rngBad := by
  have hstable := s.rngBad_stable 0
  unfold State.hostArrive
  dsimp only
  split
  · exact hstable.wake (hstable.countEvent (by decide) (hostUnit_ge port) _ _ _ rfl)
  · exact hstable.countEvent (by decide) (hostUnit_ge port) _ _ _ rfl

/-- An open that passes its checks, with a random value at hand, creates its session. -/
theorem exec_sessionOpen_creates {dt port draw : Nat} {m : HostMsg} {s : State} (hup : (s.elapse dt).up = true)
    (htakes : (s.elapse dt).hostTakes port m = true) (hkept : discarded 0x40 m = false) (hform : misformed 0x40 m = false)
    (hcrc : m.hdr.pcrc = 0) (hcode : ((s.elapse dt).hostArrive port m).openCode m = 0) (hrng : (s.elapse dt).boot.rngBad = false) :
    exec (.sessionOpen dt port draw m) s = .next (((s.elapse dt).hostArrive port m).createSession port draw m) := by
  have hdraws : ((s.elapse dt).hostArrive port m).boot.rngBad = false := (State.hostArrive_rngBad _ port m).trans hrng
  refine congrArg Host.Outcome.next ((State.whenUp_up _ hup).trans ?_)
  simp [htakes, hkept, hform, hcrc, State.openSession, hcode, hdraws]

/-- An event whose time has passed is sent again before its sixteenth send. -/
theorem State.resendEvent_again {s : State} {n seq : Nat} {e : Nat × List Byte × Nat × Nat}
    (hfind : (s.session n).events.find? (fun x => x.1 == seq) = some e) (hsends : e.2.2.1 < 16)
    (hdue : e.2.2.2 + s.num 0x4805 2 * us ≤ s.stamp) :
    (s.resendEvent n seq).mem = s.mem ∧ (e.1, e.2.1, e.2.2.1 + 1, s.stamp) ∈ ((s.resendEvent n seq).session n).events := by
  have hseq : e.1 = seq := by simpa using List.find?_some hfind
  have hmem := List.mem_map_of_mem (f := fun x : Nat × List Byte × Nat × Nat => if x.1 = seq then (x.1, x.2.1, x.2.2.1 + 1, s.stamp) else x)
    (List.mem_of_find?_eq_some hfind)
  simp only [if_pos hseq] at hmem
  unfold State.resendEvent
  simp only [hfind, if_neg (Nat.not_lt.mpr hdue), if_neg (Nat.not_le.mpr hsends)]
  generalize hwritten : State.setSession s n _ = v
  have hevents : (v.session n).events = (s.session n).events.map (fun x => if x.1 = seq then (x.1, x.2.1, x.2.2.1 + 1, s.stamp) else x) := by
    rw [← hwritten, State.setSession_session_self]
  refine ⟨(State.mem_of_standing (State.countEvent_standing _ _ _ _ _)).trans ?_, ?_⟩
  · rw [← hwritten]
    rfl
  · have hstable := v.sessionsStand_stable 0
    refine (hstable.countEvent (by decide) (hostUnit_ge _) _ _ _ (hstable.hostEmit _ _ _ _ _ (.refl v))).events n _ ?_
    rwa [hevents]

/-- Settles O41: the open creates its session, the time-out closes it, and a resend maps the event in its place. -/
theorem sessionsOpenAndClose : Obligations.SessionsOpenAndClose := by
  refine ⟨?_, ?_, ?_⟩
  · rintro dt port draw n m s _ rfl hup htakes hkept hform hcrc hcode hfree hrng
    refine ⟨_, exec_sessionOpen_creates hup htakes hkept hform hcrc hcode hrng, ?_⟩
    have hbond := State.createSession_bond (port := port) (draw := draw) (m := m) hfree
    simp only [Session.bond, Prod.mk.injEq] at hbond
    obtain ⟨hopen, hkind, htag, hseq⟩ := hbond
    exact ⟨hopen, htag, hkind, hseq⟩
  · rintro dt n s u rfl hup hopen hsilent
    refine ⟨_, congrArg Host.Outcome.next ((State.whenUp_up _ hup).trans (if_pos ?_)), ?_, ?_, ?_⟩
    · simp [hopen, hsilent]
    · have hstands := State.signal_stands ((State.closeSession (s.elapse dt) n).bump 0x4810 8) 216 none
      refine (congrArg Prod.fst (hstands.bond n)).trans ?_
      exact congrArg Session.isOpen (State.setSession_session_self _ n Session.none)
    · exact State.signal_pend _ none (by decide)
    · exact State.mem_of_standing (State.signal_standing _ _ _)
  · rintro dt n seq e s u rfl hup hopen hfind hsends hdue
    exact ⟨_, congrArg Host.Outcome.next ((State.whenUp_up _ hup).trans (if_pos hopen)), State.resendEvent_again hfind hsends hdue⟩

/-! ### The next message in order (R370) -/

theorem seqAhead_mod_self (n : Nat) : seqAhead (n % 2 ^ 32) n = 0 := by
  unfold seqAhead
  omega

theorem State.hostOrder_next {s : State} {n ty : Nat} {m : HostMsg} (hseq : (s.session n).rxSeq = m.hdr.seq % 2 ^ 32)
    (hahead : (s.session n).ahead = []) (aux : Aux) (diag : Option Diag) : s.hostOrder n ty m aux diag = s.hostNext n ty m aux diag := by
  have hd : seqAhead (s.session n).rxSeq m.hdr.seq = 0 := by rw [hseq, seqAhead_mod_self]
  simp [State.hostOrder, hd, hahead]

/-- A message that passes every check and is the next of its session is served. -/
theorem State.hostIn_accepted {s : State} {port ty n : Nat} {m : HostMsg} (h : s.hostAccepts port ty m n) (aux : Aux) (diag : Option Diag) :
    s.whenUp (fun s => s.hostIn port ty m aux diag) = (s.hostHeard port m n).hostNext n ty m aux diag := by
  obtain ⟨hup, htakes, hkept, hform, hopen, htag, hcrc, hseq, hahead⟩ := h
  rw [State.whenUp_up _ hup, ← State.hostOrder_next (s := s.hostHeard port m n)]
  · simp only [State.hostIn, htakes, hkept, hform, hopen, hcrc, Bool.not_true, Bool.false_eq_true, ↓reduceIte, ne_eq, not_true_eq_false,
      if_neg (not_not_intro htag)]
    rfl
  · exact (congrArg Session.rxSeq (State.setSession_session_self _ n _)).trans hseq
  · exact (congrArg Session.ahead (State.setSession_session_self _ n _)).trans hahead

/-- Settles O39: every command of the family gives its message to `hostIn` once its time has passed. -/
theorem hostMessagesAreServed : Obligations.HostMessagesAreServed := by
  rintro dt port n m aux diag s _ rfl
  have hserved {ty : Nat} (h : (s.elapse dt).hostAccepts port ty m n) (a : Aux) (d : Option Diag) :=
    congrArg (Host.Outcome.next (φ := Fault) (ρ := Refusal)) (State.hostIn_accepted h a d)
  exact ⟨fun h => hserved h _ _, fun h => hserved h _ _, fun h => hserved h _ _, fun h => hserved h _ _, fun h => hserved h _ _,
    fun h => hserved h _ _, fun h => hserved h _ _, fun h => hserved h _ _⟩

/-! ### What the messages of a management session do (R371 to R374) -/

/-- The doorbell of a management session lies in the page of the context that its address names, at the page's offset. -/
theorem State.hostDoor_head {s : State} {n : Nat} {m : HostMsg} (hkind : (s.session n).kind = 0) (hoff : m.hdr.addr % 65536 = 0)
    (hpage : m.hdr.addr / 65536 < 4096) (hdefined : (s.ctx (m.hdr.addr / 65536)).state ≠ 0) :
    s.hostDoor n m
      = (s.doorWrite (m.hdr.addr / 65536) 0 (leNat m.payload)).signal (320 + m.hdr.addr / 65536 % 32) (some (m.hdr.addr / 65536)) := by
  simp [State.hostDoor, hkind, hoff, hdefined, Nat.not_le.mpr hpage]

/-- Settles O40: the message's type selects what is done, and a management session is held to no epoch. -/
theorem hostMessagesAct : Obligations.HostMessagesAct := by
  intro n m aux s hkind
  have hmgmt : ¬ (s.session n).kind = 1 := by omega
  refine ⟨fun hin => ?_, fun hout => ?_, ?_, fun hoff hpage hstate hdrain => ?_⟩
  · simp [State.hostAct, State.hostWrite, State.hostCode, hkind, hin]
  · simp [State.hostAct, State.hostWrite, State.hostCode, State.countTranslation, hkind, hout]
  · have hack : s.hostAct n 0x43 m aux none = s.ackEvents n m.hdr.ackSeq := by simp [State.hostAct, hkind]
    rw [hack]
    exact congrArg Session.events (State.setSession_session_self _ n _)
  · have hdefined : (s.ctx (m.hdr.addr / 65536)).state ≠ 0 := by omega
    have hdoor : s.hostAct n 0x4C m aux none = s.hostDoor n m := by simp [State.hostAct, hkind]
    rw [hdoor, State.hostDoor_head hkind hoff hpage hdefined, State.doorWrite_tail hstate hdrain,
      State.ctx_of_standing (State.signal_standing _ _ _)]
    exact (s.setTail_spec _ 0 (leNat m.payload % m32)).2.1

end Sys2Proof.Machine
end

section
/-! PROOFS. The stamp clock (O42): a correction, the clock's state, and what each of the seven commands makes of them (R376 to R382). -/

namespace Sys2Proof.Machine

/-! ### The state of the clock (R379, R380) -/

/-- The clock in state n; entry into state 5 pulls PPS_OUT low. -/
def State.clockIn (s : State) (n : Nat) : State :=
  { s with
    clock := { s.clock with state := n },
    pins := if s.clock.state ≠ n ∧ n = 5 then { s.pins with ppsOut := false } else s.pins }

theorem State.clockIn_state {s : State} {n : Nat} (h : s.clock.state = n) : s.clockIn n = s := by
  subst h
  simp [State.clockIn]

/-- Pins play no part in a signal's frame. -/
theorem State.SignalFrame.withPins {s t : State} (h : s.SignalFrame t) (p : Pins) :
    ({ s with pins := p } : State).SignalFrame { t with pins := p } := by
  refine ⟨?_, h.object⟩
  have hsignals := h.signalsTo
  unfold State.SignalsTo at hsignals ⊢
  rw [hsignals]

theorem State.SignalsTo.pins {s t : State} (h : s.SignalsTo t) : t.pins = s.pins := by
  unfold State.SignalsTo at h
  rw [h]

/-- A change of the clock's state moves it, pulls PPS_OUT low at state 5, and signals. -/
theorem State.setClockState_frame {s : State} (hup : s.up = true) (n : Nat) : (s.clockIn n).SignalFrame (s.setClockState n) := by
  unfold State.setClockState
  by_cases hsame : s.clock.state = n
  · rw [if_pos hsame, State.clockIn_state hsame]
    exact .refl s
  · rw [if_neg hsame]
    dsimp only
    have hfirst := State.signalFrame_signal (s := { s with clock := { s.clock with state := n } }) hup 213 none
    generalize State.signal _ 213 none = t at hfirst ⊢
    by_cases hlast : n = 5
    · have hlow : (s.clockIn n).SignalFrame { t with pins := { t.pins with ppsOut := false } } := by
        rw [State.clockIn, if_pos ⟨hsame, hlast⟩, hfirst.signalsTo.pins]
        exact hfirst.withPins _
      rw [if_pos hlast]
      exact hlow.trans (State.signalFrame_signal (hlow.signalsTo.up.trans hup) 214 none)
    · rw [if_neg hlast, State.clockIn, if_neg (fun h => hlast h.2)]
      exact hfirst

/-- A change of state pends source 213, and entry into state 5 source 214. -/
theorem State.setClockState_pend {s : State} {n : Nat} (h : s.clock.state ≠ n) :
    ((s.setClockState n).sourceOf 213).pend = true ∧ (n = 5 → ((s.setClockState n).sourceOf 214).pend = true) := by
  unfold State.setClockState
  rw [if_neg h]
  dsimp only
  split
  next hlast =>
    refine ⟨(State.signal_keepsPending _ 214 none).pend 213 ?_, fun _ => State.signal_pend _ none (by decide)⟩
    exact State.signal_pend { s with clock := { s.clock with state := n } } none (by decide)
  next hlast => exact ⟨State.signal_pend _ none (by decide), fun e => absurd e hlast⟩

theorem State.SignalFrame.num {s t : State} (h : s.SignalFrame t) {i k : Nat} (hk : objKey i k ∉ signalCounters) : t.num i k = s.num i k :=
  congrArg ObjVal.toNat (h.object _ _ hk)

/-! ### A correction (R378, R381, R382) -/

/-- Before its lock a clock steps, and after it slews. -/
def State.corrected (s : State) (d : Int) : State :=
  if s.clock.locked then { s with clock := { s.clock with slew := d, slewFrac := 0, lastSync := s.stamp } } else s.stepClock d

theorem State.corrected_up (s : State) (d : Int) : (s.corrected d).up = s.up := by
  unfold State.corrected
  split <;> rfl

theorem State.corrected_mem (s : State) (d : Int) : (s.corrected d).mem = s.mem := by
  unfold State.corrected
  split <;> rfl

theorem State.corrected_locked {s : State} (h : s.clock.locked = true) (d : Int) :
    s.corrected d = { s with clock := { s.clock with slew := d, slewFrac := 0, lastSync := s.stamp } } := if_pos h

theorem State.corrected_unlocked {s : State} (h : s.clock.locked = false) (d : Int) : s.corrected d = s.stepClock d :=
  if_neg (by simp [h])

/-- A step notes itself in objects 0x4807.06 and 0x4807.07 alone (R382). -/
theorem State.stepClock_num (s : State) (d : Int) : (s.stepClock d).num 0x4807 5 = s.num 0x4807 5 :=
  (State.setCnt_num_ne _ _ (by decide)).trans (State.setCnt_num_ne _ _ (by decide))

theorem State.corrected_num (s : State) (d : Int) : (s.corrected d).num 0x4807 5 = s.num 0x4807 5 := by
  unfold State.corrected
  split
  · rfl
  · exact s.stepClock_num d

theorem State.stepClock_notes (s : State) (d : Int) :
    (s.stepClock d).cnt 0x4807 6 = s.stamp ∧ (s.stepClock d).cnt 0x4807 7 = shiftStamp d s.stamp % 2 ^ 64 :=
  ⟨(State.setCnt_cnt_ne _ _ (by decide)).trans (State.setCnt_cnt_self s _ _ _), State.setCnt_cnt_self _ _ _ _⟩

theorem State.follow_frame {s : State} (hup : s.up = true) (d : Int) (n : Nat) : ((s.corrected d).clockIn n).SignalFrame (s.follow d n) :=
  State.setClockState_frame ((s.corrected_up d).trans hup) n

theorem State.SignalsTo.clock {s t : State} (h : s.SignalsTo t) : t.clock = s.clock := by
  unfold State.SignalsTo at h
  rw [h]

theorem State.SignalsTo.stamp {s t : State} (h : s.SignalsTo t) : t.stamp = s.stamp := by
  unfold State.SignalsTo at h
  rw [h]

/-- A Sync of the chosen master where PPS_IN is not in use: the offset is noted, and the clock follows it. -/
theorem State.acceptSync_spec {s : State} (hup : s.up = true) (hpps : s.usesPps = false) (offset : Int) :
    (s.acceptSync offset).num 0x4807 5 = i32Of offset ∧ (s.acceptSync offset).clock.state = 2 ∧ (s.acceptSync offset).mem = s.mem
      ∧ (s.clock.locked = true → (s.acceptSync offset).clock.slew = -(offset * 4) ∧ (s.acceptSync offset).clock.lastSync = s.stamp
          ∧ (s.acceptSync offset).stamp = s.stamp)
      ∧ (s.clock.locked = false → (s.acceptSync offset).clock.locked = true
          ∧ (s.acceptSync offset).stamp = shiftStamp (-(offset * 4)) s.stamp % 2 ^ 64
          ∧ (s.acceptSync offset).cnt 0x4807 6 = s.stamp ∧ (s.acceptSync offset).cnt 0x4807 7 = (s.acceptSync offset).stamp) := by
  let v := s.setObj 0x4807 5 (.num (i32Of offset))
  have hsource : v.usesPps = false := (congrArg (· == 1) (congrArg ObjVal.toNat (State.setObj_obj_ne s _ (by decide)))).trans hpps
  have hplain : s.acceptSync offset = v.follow (-(offset * 4)) 2 := by
    simp only [State.acceptSync, hsource, Bool.false_and, Bool.false_eq_true, ↓reduceIte, v]
  have hframe := State.follow_frame (s := v) hup (-(offset * 4)) 2
  rw [hplain, hframe.num (by decide), hframe.signalsTo.clock, hframe.signalsTo.mem, hframe.signalsTo.stamp]
  refine ⟨?_, rfl, v.corrected_mem _, fun hlocked => ?_, fun hunlocked => ?_⟩
  · refine (v.corrected_num _).trans ?_
    exact congrArg ObjVal.toNat (State.setObj_obj_self s _ _ _)
  · rw [State.corrected_locked (s := v) hlocked]
    exact ⟨rfl, rfl, rfl⟩
  · obtain ⟨hfrom, hto⟩ := v.stepClock_notes (-(offset * 4))
    rw [hframe.cnt (by decide), hframe.cnt (by decide), State.corrected_unlocked (s := v) hunlocked]
    exact ⟨rfl, rfl, hfrom, hto⟩

/-- An edge of a locked clock is followed within 1 µs of its multiple, and counted and signalled beyond it. -/
theorem State.acceptEdge_spec {s : State} (hup : s.up = true) (hlocked : s.clock.locked = true) :
    let d := nearestMultiple s.stamp 4000000000 - (s.stamp : Int)
    s.acceptEdge.stamp = s.stamp ∧ s.acceptEdge.mem = s.mem
      ∧ (d.natAbs ≤ us → s.acceptEdge.clock.slew = d ∧ s.acceptEdge.clock.state = 3 ∧ s.acceptEdge.clock.lastSync = s.stamp)
      ∧ (us < d.natAbs → s.acceptEdge.clock = s.clock ∧ s.acceptEdge.cnt 0x4810 9 = min (s.cnt 0x4810 9 + 1) (2 ^ 64 - 1)
          ∧ (s.acceptEdge.sourceOf 217).pend = true) := by
  intro d
  by_cases hfar : us < d.natAbs
  · have hframe := State.signalFrame_signal (s := s.bump 0x4810 9) hup 217 none
    have hcounted : s.acceptEdge = (s.bump 0x4810 9).signal 217 none := if_pos (by simp [hlocked, d, hfar])
    rw [hcounted]
    refine ⟨hframe.signalsTo.stamp, hframe.signalsTo.mem, fun hnear => absurd hfar (Nat.not_lt.mpr hnear), fun _ =>
      ⟨hframe.signalsTo.clock, (hframe.cnt (by decide)).trans (State.bump_cnt_self s _ _), State.signal_pend _ none (by decide)⟩⟩
  · have hframe := State.follow_frame hup d 3
    have hfollowed : s.acceptEdge = s.follow d 3 := if_neg (by simp [hlocked, d, hfar])
    rw [hfollowed, hframe.signalsTo.stamp, hframe.signalsTo.mem, hframe.signalsTo.clock, State.corrected_locked hlocked]
    exact ⟨rfl, rfl, fun _ => ⟨rfl, rfl, rfl⟩, fun h => absurd h hfar⟩

/-- Settles O42: each command's guard holds, and what it does is a write, a change of state or a correction. -/
theorem clockFollows : Obligations.ClockFollows := by
  rintro dt s _ rfl hup
  have hrun (f : State → State) := congrArg (Host.Outcome.next (φ := Fault) (ρ := Refusal)) (State.whenUp_up f hup)
  refine ⟨fun p m htakes => ?_, fun p domain offset hsteers hmaster htakes hpps => ?_, fun hstate hdue => ?_, fun hstate hdue => ?_,
    fun hpps hsteers hlocked => ?_, fun hout hstate0 hstate5 hsec => ?_, fun hout hdue => ?_⟩
  · exact (hrun _).trans (congrArg Host.Outcome.next (if_pos htakes))
  · refine ⟨_, (hrun _).trans (congrArg Host.Outcome.next (if_pos ?_)), State.acceptSync_spec hup hpps offset⟩
    simp [hsteers, hmaster, htakes]
  · have hframe := State.setClockState_frame hup 4
    refine ⟨_, (hrun _).trans (congrArg Host.Outcome.next (if_pos ⟨hstate, hdue⟩)), hframe.signalsTo.clock,
      (State.setClockState_pend ?_).1, hframe.signalsTo.mem⟩
    omega
  · have hframe := State.setClockState_frame hup 5
    have hleaves : (s.elapse dt).clock.state ≠ 5 := by omega
    obtain ⟨hchanged, hlost⟩ := State.setClockState_pend hleaves
    refine ⟨_, (hrun _).trans (congrArg Host.Outcome.next (if_pos ⟨hstate, hdue⟩)), hframe.signalsTo.clock, ?_, hchanged, hlost rfl,
      hframe.signalsTo.mem⟩
    rw [hframe.signalsTo.pins, State.clockIn, if_pos ⟨hleaves, rfl⟩]
  · refine ⟨_, (hrun _).trans (congrArg Host.Outcome.next (if_pos ?_)), State.acceptEdge_spec hup hlocked⟩
    simp only [hpps, hsteers, Bool.and_self]
  · refine (hrun _).trans (congrArg Host.Outcome.next (if_pos ?_))
    simp [hout, hstate0, hstate5, hsec]
  · refine congrArg Host.Outcome.next (if_pos ?_)
    simp only [hout, hdue, decide_true, Bool.and_self]

end Sys2Proof.Machine
end

section
/-! PROOFS. Efyth requests (O44): the checks (R390), and what is answered to reads, discovers and writes (R388 to R395). -/

namespace Sys2Proof.Machine

/-! ### A request that passes checks 1 to 5 (R390) -/

/-- A request that is whole, of version 3, for this station and device, and not sent before. -/
structure State.EfythAccepts (s : State) (m : EfythMsg) : Prop where
  whole : m.ok = true
  version : m.hdr.version = 3
  station : m.dst = s.boot.fuses.macMgmt
  typed : m.typ = none
  device : m.hdr.device = s.deviceId
  formed : malformed m = false
  fresh : s.efyth.replies.find? (fun e => e.1 == m.src && e.2.1 == m.hdr.seq) = none
  unanswered : s.replyWaits m.src m.hdr.seq = false

/-- The count of a request leaves the writers. -/
theorem State.bump_unlisted (s : State) (src : Nat) : (s.bump 0x1106 1).unlisted src = s.unlisted src := by
  have hkeys : ∀ j ∈ rangeFrom 1 8, objKey 0x1103 j ≠ objKey 0x1106 1 := by decide
  have hwriters : (rangeFrom 1 8).map ((s.bump 0x1106 1).num 0x1103) = (rangeFrom 1 8).map (s.num 0x1103) :=
    List.map_congr_left fun j hj => State.setCnt_num_ne s _ (hkeys j hj)
  rw [State.unlisted, State.unlisted, hwriters]

/-- Past the checks, a request is counted and acted on; a write also needs its station listed. -/
theorem State.efythIn_accepted {s : State} {m : EfythMsg} (h : s.EfythAccepts m) (ty level : Nat) (act : State → State)
    (hlisted : ty = 2 → s.unlisted m.src = false) : s.efythIn ty level m act = act (s.bump 0x1106 1) := by
  have htakes : s.efythTakes ty m = true := by simp [State.efythTakes, h.station]
  have htyped : badType m = false := by simp [badType, h.typed]
  have hfresh : (s.bump 0x1106 1).efyth.replies.find? (fun e => e.1 == m.src && e.2.1 == m.hdr.seq) = none := h.fresh
  have hunanswered : (s.bump 0x1106 1).replyWaits m.src m.hdr.seq = false := h.unanswered
  have hwriter : ¬ ((ty == 2 && (s.bump 0x1106 1).unlisted m.src) = true) := by
    intro hty
    obtain ⟨htwo, hun⟩ := Bool.and_eq_true_iff.mp hty
    rw [State.bump_unlisted, hlisted (by simpa using htwo)] at hun
    exact Bool.false_ne_true hun
  have hdevice : (m.hdr.device != (s.bump 0x1106 1).deviceId) = false := by simp [h.device, State.deviceId]
  simp only [State.efythIn, htakes, h.whole, h.version, hdevice, htyped, h.formed, hfresh, hunanswered, if_neg hwriter, bne_self_eq_false,
    Bool.not_true, Bool.or_false, Bool.and_false, Bool.false_and, Bool.false_eq_true, ↓reduceIte]

/-- An answer is one frame to the request's source, kept and counted. -/
theorem State.efythReply_answers (s : State) (m : EfythMsg) (level flags code : Nat) (p : List Byte) :
    (s.bump 0x1106 1).answersFrom s ((s.bump 0x1106 1).efythReply m.src m.hdr level flags code p) m level flags code p :=
  ⟨rfl, rfl⟩

/-! ### Writes (R392, R395) -/

theorem objExists_of_row {i k : Nat} {r : ORow} (hk : k ≠ 0) (h : rowFor i k = some r) : objExists i k = true := by
  simp [objExists, hk, h]

/-- Only a write to an RWP object awaits a commit. -/
theorem State.writeRow_commits (s : State) (r : ORow) (k : Nat) (b : List Byte) (aux : Aux) :
    (s.writeRow r k b aux).2.commits = (r.acc == .rwp) := by
  unfold State.writeRow
  split
  · rfl
  · dsimp only
    split
    · rfl
    · split <;> rfl

theorem State.efythWrite_readOnly {s : State} {m : EfythMsg} {r : ORow} (hk : m.hdr.sub ≠ 0)
    (hrow : rowFor m.hdr.index m.hdr.sub = some r) (hro : r.acc = .ro) (aux : Aux) :
    s.efythWrite m aux = s.efythReply m.src m.hdr 4 0 0x0804 [] := by
  simp [State.efythWrite, objExists_of_row hk hrow, hrow, hro]

/-- A value of one part to an RW object is written and answered at once. -/
theorem State.efythWrite_once {s : State} {m : EfythMsg} {r : ORow} (hk : m.hdr.sub ≠ 0)
    (hrow : rowFor m.hdr.index m.hdr.sub = some r) (hrw : r.acc = .rw) (hfirst : m.hdr.offset = 0) (hlast : m.hdr.flags.testBit 7 = false)
    (hbuffer : s.buffer m.src = none) (aux : Aux)
    (hends : s.endsAnswer m.hdr.index m.hdr.sub (m.payload.take m.hdr.length) = false) :
    let a := s.applyWrite m.hdr.index m.hdr.sub (m.payload.take m.hdr.length) aux
    s.efythWrite m aux = a.1.efythReply m.src m.hdr 4 (clampFlag a.2.clamped) a.2.code (if a.2.code = 0 then a.2.value else []) := by
  have hcommits : (s.applyWrite m.hdr.index m.hdr.sub (m.payload.take m.hdr.length) aux).2.commits = false := by
    simp [State.applyWrite, hrow, hk, hrw, State.writeRow_commits]
  have hdropped : s.dropBuffer m.src = s := by simp [State.dropBuffer, hbuffer]
  simp [State.efythWrite, objExists_of_row hk hrow, hrow, hrw, hk, hfirst, State.firstPart, hdropped, hlast, State.efythPut, hends, hcommits]

/-! ### The six commands -/

theorem State.up_phase {s : State} (h : s.up = true) : s.boot.phase = .running := of_decide_eq_true h

theorem Assoc.find_erase {α : Type} (k : Nat) (l : List (Nat × α)) : (Assoc.erase k l).find? (fun e => e.1 == k) = none := by
  rw [Assoc.erase_eq_filter, List.find?_eq_none]
  intro e he
  simpa using (List.mem_filter.mp he).2

/-- The answer to a read (R391). -/
theorem State.efythRead_answers {s : State} {m : EfythMsg} {code : Nat} {b : List Byte}
    (h : (s.bump 0x1106 1).readObject m.hdr.index m.hdr.sub = (code, b)) :
    (s.bump 0x1106 1).answersFrom s ((s.bump 0x1106 1).efythRead m) m 5 0 code
      (if code = 0 then (b.drop m.hdr.offset).take 1024 else []) := by
  rw [State.efythRead, h]
  exact State.efythReply_answers s m 5 0 code _

/-- A buffer that goes is counted, and nothing else changes. -/
theorem State.dropBuffer_spec {s : State} {src : Nat} {b : Parts} (h : s.buffer src = some b) :
    (s.dropBuffer src).buffer src = none ∧ (s.dropBuffer src).cnt 0x1106 7 = min (s.cnt 0x1106 7 + 1) (2 ^ 64 - 1)
      ∧ s.dropBuffer src = { s with objs := (s.dropBuffer src).objs, efyth := (s.dropBuffer src).efyth } := by
  have hdropped : s.dropBuffer src
      = ({ s with efyth := { s.efyth with buffers := Assoc.erase src s.efyth.buffers } } : State).bump 0x1106 7 := by
    rw [State.dropBuffer, h]
  rw [hdropped]
  refine ⟨?_, State.bump_cnt_self _ _ _, rfl⟩
  exact congrArg (Option.map (·.2)) (Assoc.find_erase src s.efyth.buffers)

theorem execEfythWrite_running {dt : Nat} {s : State} (h : (s.elapse dt).boot.phase = .running) (m : EfythMsg) (aux : Aux) :
    execEfythWrite dt m aux s = .next ((s.elapse dt).efythIn 2 4 m (fun s => s.efythWrite m aux)) := by
  simp only [execEfythWrite, h]

/-- Settles O44: the checks pass, so each request is counted and its own answer goes out. -/
theorem efythIsAnswered : Obligations.EfythIsAnswered := by
  rintro dt m s _ _ rfl hup rfl hok hversion hdst htyp hdevice hformed hfresh hwaits
  have haccepts : (s.elapse dt).EfythAccepts m := ⟨hok, hversion, hdst, htyp, hdevice, hformed, hfresh, hwaits⟩
  have hread : exec (.efythReadRequest dt m) s = .next (((s.elapse dt).bump 0x1106 1).efythRead m) := by
    refine congrArg Host.Outcome.next ((if_pos (by rw [hup]; rfl)).trans ?_)
    exact State.efythIn_accepted haccepts 1 5 _ (fun h => absurd h (by decide))
  have hdiscover : (s.elapse dt).discoverable = true := by rw [State.discoverable, State.up_phase hup]
  have hwrite (hlisted : (s.elapse dt).unlisted m.src = false) (aux : Aux) :
      exec (.efythWrite dt m aux) s = .next (((s.elapse dt).bump 0x1106 1).efythWrite m aux) := by
    rw [← State.efythIn_accepted haccepts 2 4 (fun s => s.efythWrite m aux) (fun _ => hlisted)]
    exact execEfythWrite_running (State.up_phase hup) m aux
  refine ⟨fun b hb => ⟨_, hread, State.efythRead_answers hb⟩, fun code b hcode hb => ⟨_, hread, ?_⟩, ⟨_, ?_, State.efythReply_answers _ m 5 0 0 _⟩,
    fun hlisted => ⟨fun aux r hk hrow hro => ?_, ?_⟩, fun mac b hb hdue => ?_, fun n hn hdue => ?_⟩
  · have hanswers := State.efythRead_answers hb
    rwa [if_neg hcode] at hanswers
  · refine congrArg Host.Outcome.next ((if_pos hdiscover).trans ?_)
    exact State.efythIn_accepted haccepts 8 5 _ (fun h => absurd h (by decide))
  · rw [hwrite hlisted, State.efythWrite_readOnly hk hrow hro]
    exact ⟨_, rfl, State.efythReply_answers _ m 4 0 0x0804 []⟩
  · rintro aux r _ hk hrow hrw hfirst hlast hbuffer hends rfl
    rw [hwrite hlisted, State.efythWrite_once (s := (s.elapse dt).bump 0x1106 1) hk hrow hrw hfirst hlast hbuffer aux hends]
  · refine ⟨_, congrArg Host.Outcome.next ((State.whenUp_up _ hup).trans ?_), State.dropBuffer_spec hb⟩
    simp only [hb, if_pos hdue]
  · refine congrArg Host.Outcome.next ((State.whenUp_up _ hup).trans (if_pos ?_))
    rw [hn, Option.any_some]
    exact decide_eq_true hdue

end Sys2Proof.Machine
end

section
/-! PROOFS. Commits (O45): what stands while their writes are answered, the banks, and how a commit ends (R400, R401). -/

namespace Sys2Proof.Machine

/-! ### What stands while the writes of a commit are answered (R401) -/

/-- From s to t frames left and sources pended, and the commit's own state and the two banks stand. -/
structure State.CommitStands (s t : State) : Prop where
  frame : s.SignalFrame t
  commit : t.efyth.commit = s.efyth.commit
  failed : t.efyth.failedObjs = s.efyth.failedObjs
  bank0 : t.efyth.bank0 = s.efyth.bank0
  bank1 : t.efyth.bank1 = s.efyth.bank1
  pending : s.KeepsPending t

theorem State.CommitStands.refl (s : State) : s.CommitStands s := ⟨.refl s, rfl, rfl, rfl, rfl, .refl s⟩

theorem State.CommitStands.trans {s t v : State} (h : s.CommitStands t) (g : t.CommitStands v) : s.CommitStands v :=
  ⟨h.frame.trans g.frame, g.commit.trans h.commit, g.failed.trans h.failed, g.bank0.trans h.bank0, g.bank1.trans h.bank1,
    h.pending.trans g.pending⟩

theorem State.CommitStands.bank {s t : State} (h : s.CommitStands t) (k : Nat) : t.bank k = s.bank k := by
  rw [State.bank, State.bank, h.bank0, h.bank1]

/-- A step inside the frame that leaves the management port's state. -/
theorem State.CommitStands.of_efyth {s t : State} (h : s.SignalFrame t) (he : t.efyth = s.efyth) (hp : s.KeepsPending t) : s.CommitStands t :=
  ⟨h, by rw [he], by rw [he], by rw [he], by rw [he], hp⟩

theorem State.latchSignal_efyth (s : State) (n : Nat) (c : Option Nat) : (s.latchSignal n c).efyth = s.efyth := by
  unfold State.latchSignal
  dsimp only
  split <;> rfl

theorem State.startWake_efyth (s : State) : s.startWake.efyth = s.efyth := by
  unfold State.startWake
  split
  · rfl
  · split <;> rfl

theorem State.commitStands_stable {s : State} (hup : s.up = true) (n : Nat) : State.SignalStable n s.CommitStands where
  bump hk h := h.trans (.of_efyth (State.signalFrame_bump _ hk) rfl (State.bump_keepsPending _ _ _))
  sent _ h := h.trans (.of_efyth (.of_objs rfl rfl) rfl (.of_intr rfl))
  efyth _ h := h.trans ⟨.of_objs rfl rfl, rfl, rfl, rfl, rfl, .of_intr rfl⟩
  value _ _ _ h := h.trans (.of_efyth (.of_objs rfl rfl) rfl (.of_intr rfl))
  overflow _ _ h := h.trans (.of_efyth (.of_objs rfl rfl) rfl (.of_intr rfl))
  latch _ h := h.trans (.of_efyth (State.signalFrame_latchSignal _ _ _) (State.latchSignal_efyth _ _ _) (State.latchSignal_keepsPending _ _ _))
  session _ _ h := h.trans (.of_efyth (.of_objs rfl rfl) rfl (.of_intr rfl))
  wake {t} h := by
    have hwake := State.signalFrame_startWake (h.frame.signalsTo.up.trans hup)
    exact h.trans (.of_efyth hwake t.startWake_efyth t.startWake_keepsPending)

theorem State.efythReply_commitStands (s : State) (src : Nat) (q : EfythHdr) (level flags code : Nat) (p : List Byte) :
    s.CommitStands (s.efythReply src q level flags code p) :=
  ⟨(s.signalFrame_efythSend src 3 level (s.replyHdr q flags code) p).trans (.of_objs rfl rfl), rfl, rfl, rfl, rfl, .of_intr rfl⟩

/-- Answering a write leaves the commit. -/
theorem State.answerCommit_stands {s : State} (hup : s.up = true) (code : Nat) (w : Waiter) : s.CommitStands (s.answerCommit code w) := by
  cases w with
  | efyth src h c => exact s.efythReply_commitStands _ _ _ _ _ _
  | host n h =>
    unfold State.answerCommit
    dsimp only
    split
    · exact (State.commitStands_stable hup 0).hostTell (by decide) _ _ _ _ (.refl s)
    · exact .refl s
  | direct => exact .refl s

theorem State.answers_commitStand {s : State} (hup : s.up = true) (code : Nat) (ws : List Waiter) :
    s.CommitStands (ws.foldl (fun s w => s.answerCommit code w) s) :=
  List.foldlRecOn ws _ (motive := s.CommitStands) (.refl s) fun _ h w _ => h.trans (State.answerCommit_stands (h.frame.signalsTo.up.trans hup) code w)

/-! ### The banks -/

theorem State.commitBank_cases (s : State) : s.commitBank = 0 ∨ s.commitBank = 1 := by
  unfold State.commitBank
  split
  · exact .inl rfl
  · exact .inr rfl

theorem State.setBank_bank_self (s : State) (k : Nat) (b : List Byte) : (s.setBank k b).bank k = b := by
  unfold State.setBank State.bank
  split
  next h => rfl
  next h => rfl

theorem State.setBank_bank_other (s : State) {k j : Nat} (hk : (k = 0) ≠ (j = 0)) (b : List Byte) : (s.setBank j b).bank k = s.bank k := by
  unfold State.setBank State.bank
  split <;> split <;> simp_all

theorem State.writeBank_bank_self (s : State) (k : Nat) (b : List Byte) : (s.writeBank k b).bank k = b := s.setBank_bank_self k b

theorem State.writeBank_bank_other (s : State) {k j : Nat} (hk : (k = 0) ≠ (j = 0)) (b : List Byte) : (s.writeBank j b).bank k = s.bank k :=
  s.setBank_bank_other hk b

theorem State.setBank_frame (s : State) (k : Nat) (b : List Byte) : s.SignalFrame (s.setBank k b) := by
  unfold State.setBank
  split
  · exact .of_objs rfl rfl
  · exact .of_objs rfl rfl

theorem State.writeBank_frame (s : State) (k : Nat) (b : List Byte) : s.SignalFrame (s.writeBank k b) :=
  (s.setBank_frame k b).trans (.of_objs rfl rfl)

/-! ### The end of a commit (R401) -/

/-- The count and the generation of a commit, and the state of the banks where it is mended. -/
def State.counted (s : State) (gen : Nat) : State :=
  let v := (({ s with efyth := { s.efyth with commit := none } } : State).setCnt 0x2005 1 ((s.cnt 0x2005 1 + 1) % 2 ^ 32)).setCnt 0x2005 2 gen
  if v.cnt 0x2005 3 = 3 ∨ v.efyth.badBanks.isEmpty then v.setCnt 0x2005 3 0 else v

theorem State.counted_spec (s : State) (gen : Nat) :
    (s.counted gen).up = s.up ∧ (s.counted gen).mem = s.mem ∧ (s.counted gen).efyth.commit = none ∧ (∀ k, (s.counted gen).bank k = s.bank k)
      ∧ (s.counted gen).cnt 0x2005 1 = (s.cnt 0x2005 1 + 1) % 2 ^ 32 ∧ (s.counted gen).cnt 0x2005 2 = gen := by
  have hcount (v : State) : (v.setCnt 0x2005 2 gen).cnt 0x2005 2 = gen := State.setCnt_cnt_self _ _ _ _
  unfold State.counted
  dsimp only
  split
  · refine ⟨rfl, rfl, rfl, fun _ => rfl, ?_, ?_⟩
    · rw [State.setCnt_cnt_ne _ _ (by decide), State.setCnt_cnt_ne _ _ (by decide), State.setCnt_cnt_self]
    · rw [State.setCnt_cnt_ne _ _ (by decide), hcount]
  · refine ⟨rfl, rfl, rfl, fun _ => rfl, ?_, hcount _⟩
    rw [State.setCnt_cnt_ne _ _ (by decide), State.setCnt_cnt_self]

theorem State.endCommit_spec {s : State} (hup : s.up = true) (ws : List Waiter) (gen : Nat) :
    (∀ k, (s.endCommit ws gen).bank k = s.bank k) ∧ (s.endCommit ws gen).efyth.commit = none
      ∧ (s.endCommit ws gen).cnt 0x2005 1 = (s.cnt 0x2005 1 + 1) % 2 ^ 32 ∧ (s.endCommit ws gen).cnt 0x2005 2 = gen
      ∧ (s.endCommit ws gen).mem = s.mem := by
  obtain ⟨hrunning, hmem, hcommit, hbank, hone, htwo⟩ := s.counted_spec gen
  have hstands : (s.counted gen).CommitStands (s.endCommit ws gen) := State.answers_commitStand (hrunning.trans hup) 0 ws
  exact ⟨fun k => (hstands.bank k).trans (hbank k), hstands.commit.trans hcommit, (hstands.frame.cnt (by decide)).trans hone,
    (hstands.frame.cnt (by decide)).trans htwo, hstands.frame.signalsTo.mem.trans hmem⟩

/-- A commit whose bank fails twice: the bank is empty, the objects wait, and source 448 pends. -/
theorem State.failCommit_spec {s : State} (hup : s.up = true) (objs : List Nat) (ws : List Waiter) (k : Nat) :
    (s.failCommit objs ws k).bank k = [] ∧ (s.failCommit objs ws k).efyth.commit = none ∧ (s.failCommit objs ws k).efyth.failedObjs = objs
      ∧ (s.failCommit objs ws k).cnt 0x2005 3 = 3 ∧ ((s.failCommit objs ws k).sourceOf 448).pend = true
      ∧ (s.failCommit objs ws k).mem = s.mem := by
  let e : Efyth := { (s.setBank k []).efyth with
    commit := none, failedObjs := objs,
    badBanks := if (s.setBank k []).efyth.badBanks.contains k then (s.setBank k []).efyth.badBanks
      else (s.setBank k []).efyth.badBanks ++ [k] }
  let v : State := ({ s.setBank k [] with efyth := e } : State).setCnt 0x2005 3 3
  have hrunning : v.up = true := (s.setBank_frame k []).signalsTo.up.trans hup
  have hlatched := (State.commitStands_stable hrunning 448).signal none (fun _ => .refl v)
    (.of_efyth (v.signalFrame_latchSignal 448 none) (v.latchSignal_efyth 448 none) (v.latchSignal_keepsPending 448 none))
  have hanswers := State.answers_commitStand (hlatched.frame.signalsTo.up.trans hrunning) 0x070E ws
  have hstands : v.CommitStands (s.failCommit objs ws k) := hlatched.trans hanswers
  refine ⟨(hstands.bank k).trans (s.setBank_bank_self k []), hstands.commit, hstands.failed,
    (hstands.frame.cnt (by decide)).trans (State.setCnt_cnt_self _ _ _ _), hanswers.pending.pend 448 (State.signal_pend v none (by decide)),
    hstands.frame.signalsTo.mem.trans (s.setBank_frame k []).signalsTo.mem⟩

theorem State.completeCommit_fails {s : State} {l : List Nat} {ws : List Waiter} {rec_ : List Byte}
    (h : s.efyth.commit = some (l, ws, rec_)) : s.completeCommit 2 = s.failCommit l ws s.commitBank := by
  simp [State.completeCommit, h]

/-- The record reaches its bank, and for a calibration value both. -/
def State.saved (s : State) (l : List Nat) (rec_ : List Byte) : State :=
  if commitsBoth l then (s.writeBank s.commitBank rec_).writeBank (1 - s.commitBank) rec_ else s.writeBank s.commitBank rec_

theorem State.completeCommit_saves {s : State} {l : List Nat} {ws : List Waiter} {rec_ : List Byte} {bad : Nat}
    (h : s.efyth.commit = some (l, ws, rec_)) (hbad : bad < 2) :
    s.completeCommit bad = (s.saved l rec_).endCommit ws (leNat (rec_.take 4)) := by
  simp [State.completeCommit, h, hbad, State.saved]

theorem State.saved_spec (s : State) (l : List Nat) (rec_ : List Byte) :
    s.SignalFrame (s.saved l rec_) ∧ (s.saved l rec_).bank s.commitBank = rec_
      ∧ (commitsBoth l = true → (s.saved l rec_).bank (1 - s.commitBank) = rec_) := by
  have hother : (s.commitBank = 0) ≠ (1 - s.commitBank = 0) := by
    rcases s.commitBank_cases with h | h <;> simp [h]
  unfold State.saved
  split
  next hboth =>
    exact ⟨(s.writeBank_frame _ _).trans (State.writeBank_frame _ _ _),
      (State.writeBank_bank_other _ hother _).trans (s.writeBank_bank_self _ _), fun _ => State.writeBank_bank_self _ _ _⟩
  next hone => exact ⟨s.writeBank_frame _ _, s.writeBank_bank_self _ _, fun h => absurd h hone⟩

theorem exec_commitWindowClose_closes {dt n : Nat} {s : State} (hup : (s.elapse dt).up = true)
    (hsince : (s.elapse dt).efyth.gatherSince = some n) (hdue : n + 10 * ms ≤ (s.elapse dt).stamp) (hidle : (s.elapse dt).efyth.commit = none) :
    exec (.commitWindowClose dt) s = .next (s.elapse dt).closeWindow := by
  have hclosed : (s.elapse dt).efyth.commit.isNone = true := by rw [hidle]; rfl
  refine congrArg Host.Outcome.next ((State.whenUp_up _ hup).trans ?_)
  simp only [hsince, if_pos (And.intro hdue hclosed)]

/-- Settles O45: the window's record becomes the commit; its end writes the banks and counts, or empties the bank and keeps the objects. -/
theorem commitsSave : Obligations.CommitsSave := by
  rintro dt s _ rfl hup
  refine ⟨fun n hn hdue hnone => ⟨_, exec_commitWindowClose_closes hup hn hdue hnone, rfl, rfl, rfl, rfl, rfl⟩,
    fun l ws rec_ bad hcommit hbad => ?_, fun l ws rec_ hcommit => ?_⟩
  · obtain ⟨hframe, hbank, hboth⟩ := (s.elapse dt).saved_spec l rec_
    obtain ⟨hbanks, hdone, hcount, hgen, hmem⟩ := State.endCommit_spec (hframe.signalsTo.up.trans hup) ws (leNat (rec_.take 4))
    refine ⟨_, congrArg Host.Outcome.next ((State.whenUp_up _ hup).trans (State.completeCommit_saves hcommit hbad)),
      (hbanks _).trans hbank, fun h => (hbanks _).trans (hboth h), hdone, ?_, hgen, hmem.trans hframe.signalsTo.mem⟩
    rw [hcount, hframe.cnt (by decide)]
  · exact ⟨_, congrArg Host.Outcome.next ((State.whenUp_up _ hup).trans (State.completeCommit_fails hcommit)), State.failCommit_spec hup l ws _⟩

end Sys2Proof.Machine
end

section
/-! PROOFS. Interrupts (O46): what a signal notes of its source, the registers of a core, and the configuration (R411 to R431). -/

namespace Sys2Proof.Machine

/-! ### A signal notes its source (R412) -/

/-- What the signal of source n for context c, from s on, leaves of the source: it may be signalled again by the counts that its own
frames make, which keeps the first stamp. -/
structure State.SourceNoted (s : State) (n : Nat) (c : Option Nat) (t : State) : Prop where
  stamp : t.stamp = s.stamp
  last : (t.sourceOf n).last = s.stamp
  counted : (t.sourceOf n).count ≠ 0
  first : (t.sourceOf n).first = if (s.sourceOf n).count = 0 then s.stamp else (s.sourceOf n).first
  once : n < 352 → (t.sourceOf n).count = min 255 ((s.sourceOf n).count + 1) ∧ (t.sourceOf n).ctx = c

theorem State.SourceNoted.of_source {s t v : State} {n : Nat} {c : Option Nat} (h : s.SourceNoted n c t) (hstamp : v.stamp = t.stamp)
    (hsource : v.sourceOf n = t.sourceOf n) : s.SourceNoted n c v := by
  obtain ⟨hs, hlast, hcount, hfirst, honce⟩ := h
  exact ⟨hstamp.trans hs, by rw [hsource, hlast], by rwa [hsource], by rw [hsource, hfirst], by rwa [hsource]⟩

theorem State.latchSignal_sourceOf_self (s : State) (n : Nat) (c : Option Nat) :
    (s.latchSignal n c).sourceOf n
      = { pend := true, count := min 255 ((s.sourceOf n).count + 1),
          first := if (s.sourceOf n).count = 0 then s.stamp else (s.sourceOf n).first, last := s.stamp, ctx := c, epoch := c.elim 0 s.epoch } := by
  unfold State.latchSignal
  refine (State.setSourceOf_sourceOf_self _ n _).trans ?_
  by_cases hfull : (s.sourceOf n).count ≥ 255
  · rw [if_pos hfull]
    rfl
  · rw [if_neg hfull]

theorem State.latchSignal_sourceOf_ne (s : State) {n m : Nat} (c : Option Nat) (h : m ≠ n) :
    (s.latchSignal n c).sourceOf m = s.sourceOf m := by
  unfold State.latchSignal
  refine (State.setSourceOf_sourceOf_ne _ _ h).trans ?_
  split <;> rfl

theorem State.latchSignal_stamp (s : State) (n : Nat) (c : Option Nat) : (s.latchSignal n c).stamp = s.stamp := by
  unfold State.latchSignal
  dsimp only
  split <;> rfl

theorem State.latchSignal_notes (s : State) (n : Nat) (c : Option Nat) : s.SourceNoted n c (s.latchSignal n c) := by
  have hself := s.latchSignal_sourceOf_self n c
  refine ⟨s.latchSignal_stamp n c, by rw [hself], ?_, by rw [hself], fun _ => by rw [hself]; exact ⟨rfl, rfl⟩⟩
  rw [hself]
  dsimp only
  omega

/-- Another latch of a source above 352 keeps its first stamp, and notes the same stamp. -/
theorem State.SourceNoted.again {s t : State} {n : Nat} {c d : Option Nat} (h : s.SourceNoted n c t) (hn : 433 ≤ n) :
    s.SourceNoted n c (t.latchSignal n d) := by
  obtain ⟨hstamp, hlast, hcount, hfirst, honce⟩ := h
  have hself := t.latchSignal_sourceOf_self n d
  refine ⟨(t.latchSignal_stamp n d).trans hstamp, by rw [hself, hstamp], ?_, ?_, fun hlow => absurd hn (by omega)⟩
  · rw [hself]
    dsimp only
    omega
  · rw [hself, ← hfirst]
    exact if_neg hcount

theorem State.startWake_sourceOf (s : State) (n : Nat) : s.startWake.sourceOf n = s.sourceOf n := by
  unfold State.startWake
  split
  · rfl
  · split <;> rfl

theorem State.startWake_stamp (s : State) : s.startWake.stamp = s.stamp := by
  unfold State.startWake
  split
  · rfl
  · split <;> rfl

theorem State.sourceNoted_stable (s : State) (n : Nat) (c : Option Nat) : State.SignalStable n (s.SourceNoted n c) where
  bump _ h := h.of_source rfl rfl
  sent _ h := h.of_source rfl rfl
  efyth _ h := h.of_source rfl rfl
  value _ _ _ h := h.of_source rfl rfl
  overflow _ _ h := h.of_source rfl rfl
  latch {t m} hm h := by
    by_cases hsame : n = m
    · subst hsame
      exact h.again (by omega)
    · exact h.of_source (t.latchSignal_stamp m none) (t.latchSignal_sourceOf_ne none hsame)
  session _ _ h := h.of_source rfl rfl
  wake {t} h := h.of_source t.startWake_stamp (t.startWake_sourceOf n)

theorem State.signal_notes (s : State) {n : Nat} (c : Option Nat) (h : sourceDefined n = true) : s.SourceNoted n c (s.signal n c) :=
  (s.sourceNoted_stable n c).signal c (fun hundefined => absurd h (by simp [hundefined])) (s.latchSignal_notes n c)

/-! ### PEND_CLEAR (R413) -/

/-- One bit of a mask clears its source's pending bit, and no count. -/
def State.clearBit (w mask : Nat) (s : State) (b : Nat) : State :=
  if mask.testBit b && s.pend (64 * w + b) then s.setSourceOf (64 * w + b) { s.sourceOf (64 * w + b) with pend := false } else s

theorem State.clearBit_spec (s : State) (w mask b n : Nat) :
    (s.clearBit w mask b).pend n = (s.pend n && !(n == 64 * w + b && mask.testBit b))
      ∧ ((s.clearBit w mask b).sourceOf n).count = (s.sourceOf n).count := by
  unfold State.clearBit
  by_cases hclears : (mask.testBit b && s.pend (64 * w + b)) = true
  · rw [if_pos hclears]
    by_cases hn : n = 64 * w + b
    · subst hn
      rw [State.pend, State.setSourceOf_sourceOf_self]
      simp_all
    · rw [State.pend, State.setSourceOf_sourceOf_ne _ _ hn]
      simp [hn, State.pend]
  · rw [if_neg hclears]
    by_cases hn : n = 64 * w + b
    · subst hn
      cases hbit : mask.testBit b <;> simp_all
    · simp [hn]

theorem State.clearBit_rest (s : State) (w mask b : Nat) : s.clearBit w mask b = { s with intr := (s.clearBit w mask b).intr } := by
  unfold State.clearBit
  split <;> rfl

/-- The bits below i of a mask clear exactly their sources. -/
theorem State.clearBits_spec (s : State) (w mask i n : Nat) (hi : i ≤ 64) :
    let t := (List.range i).foldl (State.clearBit w mask) s
    t = { s with intr := t.intr } ∧ t.pend n = (s.pend n && !(n / 64 == w && decide (n % 64 < i) && mask.testBit (n % 64)))
      ∧ (t.sourceOf n).count = (s.sourceOf n).count := by
  induction i with
  | zero => simp
  | succ i ih =>
    obtain ⟨hrest, hpend, hcount⟩ := ih (by omega)
    rw [List.range_succ, List.foldl_append, List.foldl_cons, List.foldl_nil]
    generalize (List.range i).foldl (State.clearBit w mask) s = t at *
    obtain ⟨hbit, hkeeps⟩ := t.clearBit_spec w mask i n
    refine ⟨?_, ?_, hkeeps.trans hcount⟩
    · calc t.clearBit w mask i = { t with intr := (t.clearBit w mask i).intr } := t.clearBit_rest w mask i
        _ = { s with intr := (t.clearBit w mask i).intr } := by rw [hrest]
    · rw [hbit, hpend]
      by_cases hn : n = 64 * w + i
      · have hword : n / 64 = w := by omega
        have hplace : n % 64 = i := by omega
        simp [hn.symm, hword, hplace]
      · have hsame : (n / 64 == w && decide (n % 64 < i)) = (n / 64 == w && decide (n % 64 < i + 1)) := by
          rw [Bool.eq_iff_iff]
          simp only [Bool.and_eq_true, beq_iff_eq, decide_eq_true_eq]
          omega
        rw [hsame]
        simp [hn]

theorem State.clearPend_spec (s : State) (w mask : Nat) :
    s.clearPend w mask = { s with intr := (s.clearPend w mask).intr }
      ∧ ∀ n, (s.clearPend w mask).pend n = (s.pend n && !(n / 64 == w && mask.testBit (n % 64)))
          ∧ ((s.clearPend w mask).sourceOf n).count = (s.sourceOf n).count := by
  refine ⟨(s.clearBits_spec w mask 64 0 (Nat.le_refl 64)).1, fun n => ?_⟩
  obtain ⟨-, hpend, hcount⟩ := s.clearBits_spec w mask 64 n (Nat.le_refl 64)
  refine ⟨hpend.trans ?_, hcount⟩
  rw [decide_eq_true (Nat.mod_lt n (by decide)), Bool.and_true]

/-! ### The configuration (R431) -/

/-- A run of words of one length reads back word by word. -/
theorem slice_flatMap {α : Type} {f : α → List Byte} {k : Nat} (hf : ∀ x, (f x).length = k) {l : List α} {i : Nat} {x : α} (hx : l[i]? = some x) :
    slice (l.flatMap f) (k * i) k = f x := by
  induction l generalizing i with
  | nil => simp at hx
  | cons y l ih =>
    cases i with
    | zero =>
      obtain rfl : y = x := by simpa using hx
      have hfront : (f y ++ l.flatMap f).take k = f y := List.take_left' (hf y)
      simp [slice, hfront, hf, zeroBytes]
    | succ i =>
      have hrest : (f y ++ l.flatMap f).drop (k * (i + 1)) = (l.flatMap f).drop (k * i) := by
        rw [Nat.mul_succ, Nat.add_comm, ← List.drop_drop, List.drop_left' (hf y)]
      rw [← ih (i := i) (by simpa using hx), slice, slice, List.flatMap_cons, hrest]

theorem leNat_slice_configValue (b : List Byte) {n : Nat} (hn : n < 512) :
    leNat (slice (configValue b) (2 * n) 2)
      = leNat (slice (fitBytes 1024 b) (2 * n) 2) &&& (if n < 32 then 0xFFE0 else 0xBFE0) := by
  have hword : leNat (slice (fitBytes 1024 b) (2 * n) 2) < 65536 := by
    have := leNat_lt (slice (fitBytes 1024 b) (2 * n) 2)
    rwa [slice_length] at this
  have hheld : sourceWord n (leNat (slice (fitBytes 1024 b) (2 * n) 2)) < 256 ^ 2 := by
    unfold sourceWord
    exact lt_of_le_of_lt Nat.and_le_left (Nat.mod_lt _ (by decide))
  rw [configValue, slice_flatMap (fun i => leBytes_length 2 _) (List.getElem?_range hn), leNat_leBytes_of_lt hheld, sourceWord,
    Nat.mod_eq_of_lt hword]

/-- What is listed under every number of a list, zeros left out, reads back. -/
theorem Assoc.get_listed (f : Nat → Nat) (l : List Nat) (i : Nat) :
    Assoc.get 0 ((l.map (fun j => (j, f j))).filter (fun e => e.2 != 0)) i = if i ∈ l then f i else 0 := by
  induction l with
  | nil => rfl
  | cons j l ih =>
    by_cases hzero : f j = 0
    · by_cases hij : i = j
      · subst hij
        simp [hzero, ih]
      · simp [hzero, ih, hij]
    · simp only [List.map_cons, List.filter_cons, bne_iff_ne, ne_eq, hzero, not_false_eq_true, ↓reduceIte, Assoc.get, ih, List.mem_cons]
      by_cases hij : i = j
      · subst hij
        simp
      · simp [hij]

theorem State.countClamp_rest (s : State) (i : Nat) : s.countClamp i = { s with objs := (s.countClamp i).objs } := by
  unfold State.countClamp
  split <;> rfl

theorem State.setRwp_blob_self (s : State) (i k : Nat) (w : List Byte) : (s.setRwp i k (.blob w)).blob i k = w := by
  have hobj : (s.setRwp i k (.blob w)).obj i k = .blob w := State.setObj_obj_self s _ _ _
  rw [State.blob, hobj]

/-- The words that a stored table puts into force. -/
def configTable (w : List Byte) : Sparse Nat :=
  ((List.range 512).map (fun n => (n, leNat (slice w (2 * n) 2)))).filter (fun e => e.2 != 0)

theorem get_configTable (w : List Byte) {n : Nat} (hn : n < 512) : Assoc.get 0 (configTable w) n = leNat (slice w (2 * n) 2) := by
  unfold configTable
  rw [Assoc.get_listed (fun n => leNat (slice w (2 * n) 2)) (List.range 512) n, if_pos (List.mem_range.mpr hn)]

theorem State.loadConfig_eq (s : State) : s.loadConfig = { s with intr := { s.intr with config := configTable (s.blob 0x5002 1) } } := by
  unfold State.loadConfig configTable
  rfl

theorem State.setRwp_loadConfig (s : State) (w : List Byte) :
    (s.setRwp 0x5002 1 (.blob w)).loadConfig
      = { s.setRwp 0x5002 1 (.blob w) with intr := { s.intr with config := configTable w } } := by
  rw [State.loadConfig_eq, State.setRwp_blob_self]
  rfl

/-- The words that a write puts into force, and what else it changes. -/
theorem State.actConfig_spec (s : State) (b : List Byte) :
    (∀ n, n < 512 → (s.actConfig b).config n = leNat (slice (fitBytes 1024 b) (2 * n) 2) &&& (if n < 32 then 0xFFE0 else 0xBFE0))
      ∧ s.actConfig b = { s with
          objs := (s.actConfig b).objs, efyth := (s.actConfig b).efyth, intr := { s.intr with config := (s.actConfig b).intr.config } } := by
  have hwords (n : Nat) (hn : n < 512) := leNat_slice_configValue b hn
  unfold State.actConfig
  generalize configValue b = w at hwords ⊢
  dsimp only
  split
  · rw [State.setRwp_loadConfig]
    refine ⟨fun n hn => ?_, ?_⟩
    · rw [← hwords n hn, ← get_configTable w hn, State.config]
    · generalize configTable w = table
      rfl
  · rw [State.setRwp_loadConfig, s.countClamp_rest]
    refine ⟨fun n hn => ?_, ?_⟩
    · rw [← hwords n hn, ← get_configTable w hn, State.config]
    · generalize configTable w = table
      rfl

/-! ### Software sources (R411) -/

def softwareRow : ORow := ⟨0x5003, 1, 1, .u16, .cmd, .num 0, .spans [(480, 511)]⟩

theorem rowFor_software : rowFor 0x5003 1 = some softwareRow := by decide +kernel

theorem numNear_software {n : Nat} (hlow : 480 ≤ n) (hhigh : n ≤ 511) : numNear softwareRow n = n := by
  simp [numNear, softwareRow, OTy.isSigned, spansNear, spanNear]
  omega

theorem sourceDefined_software {n : Nat} (hlow : 480 ≤ n) (hhigh : n ≤ 511) : sourceDefined n = true := by
  have hall : ∀ n ∈ List.range 512, 480 ≤ n → sourceDefined n = true := by decide +kernel
  exact hall n (List.mem_range.mpr (by omega)) hlow

/-! ### The registers of a core (R413 to R417) -/

theorem exec_interruptSignal_up {dt n : Nat} {c : Option Nat} {s : State} (hup : (s.elapse dt).up = true) (hn : n < 512) :
    exec (.interruptSignal dt n c) s = .next ((s.elapse dt).signal n c) := by
  refine congrArg Host.Outcome.next (if_pos ?_)
  rw [State.canSignal, hup, Bool.true_or, Bool.true_and, decide_eq_true hn]

theorem exec_take_takes {dt k n : Nat} {s : State} (hup : (s.elapse dt).up = true) (hk : k < 4) (hn : n < 512) :
    exec (.take dt k n) s = .next ((s.elapse dt).takeSource k n) := by
  have hmod : n % 1024 = n := Nat.mod_eq_of_lt (by omega)
  refine congrArg Host.Outcome.next ((State.whenUp_up _ hup).trans ?_)
  rw [hmod, if_pos ⟨hk, hn⟩]

theorem State.takeSource_spec (s : State) (k n : Nat) :
    let t := s.takeSource k n
    (t.core k).takeInfo = (s.sourceOf n).takeInfo n ∧ (t.core k).takeFirst = (s.sourceOf n).first
      ∧ (t.core k).takeLast = (s.sourceOf n).last ∧ (t.sourceOf n).pend = false ∧ (t.sourceOf n).count = 0
      ∧ (∀ x, x ≠ n → t.sourceOf x = s.sourceOf x) ∧ t = { s with cores := t.cores, intr := t.intr } := by
  have hcore : (s.takeSource k n).core k = { s.core k with
      takeInfo := (s.sourceOf n).takeInfo n, takeFirst := (s.sourceOf n).first, takeLast := (s.sourceOf n).last } :=
    State.setCore_core_self s k _
  have hsource : (s.takeSource k n).sourceOf n = { s.sourceOf n with pend := false, count := 0 } := State.setSourceOf_sourceOf_self _ n _
  dsimp only
  rw [hcore, hsource]
  exact ⟨rfl, rfl, rfl, rfl, rfl, fun x hx => State.setSourceOf_sourceOf_ne _ _ hx, rfl⟩

theorem exec_interruptDelivery_enters {dt k n : Nat} {s : State} (hup : (s.elapse dt).up = true) (hk : k < 4)
    (hrunning : ((s.elapse dt).core k).running = true) (hnext : (s.elapse dt).nextSource k = some n) :
    exec (.interruptDelivery dt k) s
      = .next ((s.elapse dt).setCore k (((s.elapse dt).core k).enterHandler n (cfgFast ((s.elapse dt).config n)))) := by
  refine congrArg Host.Outcome.next ((State.whenUp_up _ hup).trans ?_)
  rw [State.deliver, if_pos ⟨hk, hrunning⟩, hnext]

theorem exec_endHandler_ends {dt k n : Nat} {s : State} (hup : (s.elapse dt).up = true) (hk : k < 4) (hn : n < 512) :
    exec (.endHandler dt k n) s = .next ((s.elapse dt).setCore k (((s.elapse dt).core k).endService n)) := by
  have hmod : n % 1024 = n := Nat.mod_eq_of_lt (by omega)
  refine congrArg Host.Outcome.next ((State.whenUp_up _ hup).trans ?_)
  rw [if_pos hk, hmod]

/-- The innermost handler ends. -/
theorem Core.endService_innermost {x : Core} {n p : Nat} {l : List (Nat × Nat)} (h : x.service = (n, p) :: l) :
    x.endService n = if x.inFast then { x with service := l, inFast := false } else { x with service := l, pc := p } := by
  simp [Core.endService, h]

theorem exec_setSource_signals {dt n : Nat} {s : State} (hup : (s.elapse dt).up = true) (hlow : 448 ≤ n) (hhigh : n ≤ 511) :
    exec (.setSource dt n) s = .next ((s.elapse dt).signal n none) := by
  have hmod : n % 1024 = n := Nat.mod_eq_of_lt (by omega)
  refine congrArg Host.Outcome.next ((State.whenUp_up _ hup).trans ?_)
  rw [hmod, State.setSoftware, if_pos ⟨hlow, hhigh⟩]

theorem exec_raiseSoftwareSource_signals {dt n : Nat} {s : State} (hup : (s.elapse dt).up = true) (hlow : 480 ≤ n) (hhigh : n ≤ 511) :
    exec (.raiseSoftwareSource dt n) s = .next ((s.elapse dt).signal n none) := by
  refine congrArg Host.Outcome.next ((State.whenUp_up _ hup).trans ?_)
  rw [State.actSoftware, State.clampNum_near rowFor_software (numNear_software hlow hhigh)]

/-- Settles O46: a signal notes its source and stays in its frame, and each register does what it says. -/
theorem interruptsAreTaken : Obligations.InterruptsAreTaken := by
  refine ⟨?_, ?_⟩
  · rintro dt s _ rfl hup
    refine ⟨fun n c hn hdef => ?_, fun k n hk hn => ⟨_, exec_take_takes hup hk hn, State.takeSource_spec _ k n⟩,
      fun w mask hw => ⟨_, congrArg Host.Outcome.next ((State.whenUp_up _ hup).trans (if_pos hw)), State.clearPend_spec _ w mask⟩,
      fun k n hk hrunning hnext => ⟨_, exec_interruptDelivery_enters hup hk hrunning hnext, rfl, State.setCore_core_self _ k _⟩,
      fun k n p l hk hn hservice => ⟨_, exec_endHandler_ends hup hk hn, rfl, ?_⟩⟩
    · obtain ⟨-, hlast, -, hfirst, honce⟩ := State.signal_notes (s.elapse dt) c hdef
      exact ⟨_, exec_interruptSignal_up hup hn, State.signal_pend _ c hdef, hlast, hfirst, honce, (State.signalFrame_signal hup n c).signalsTo⟩
    · rw [State.setCore_core_self, Core.endService_innermost hservice]
  · rintro dt s _ rfl hup
    refine ⟨fun n hlow hhigh hdef => ?_, fun n hlow hhigh => ?_, fun v hv => ?_, fun v hv => ?_, fun val => ?_⟩
    · exact ⟨_, exec_setSource_signals hup hlow hhigh, State.signal_pend _ none hdef, (State.signalFrame_signal hup n none).signalsTo⟩
    · exact ⟨_, exec_raiseSoftwareSource_signals hup hlow hhigh, State.signal_pend _ none (sourceDefined_software hlow hhigh),
        (State.signalFrame_signal hup n none).signalsTo⟩
    · refine congrArg Host.Outcome.next ((State.whenUp_up _ hup).trans (if_neg ?_))
      simp [Nat.testBit_zero, hv]
    · refine congrArg Host.Outcome.next ((State.whenUp_up _ hup).trans (if_pos ?_))
      simp [Nat.testBit_zero, hv]
    · exact ⟨_, congrArg Host.Outcome.next (State.whenUp_up _ hup), State.actConfig_spec _ val⟩

end Sys2Proof.Machine
end

section
/-! PROOFS. Performance counters, sampling and windows (O47, O48). -/

namespace Sys2Proof.Machine

/-! ### What a signal leaves of the counters and the sampling runs (R424, R428) -/

/-- From s to t the counters of bays, stacks and the reduce engine stand, and so does all of sampling and of the windows. -/
structure State.PerfStands (s t : State) : Prop where
  value : ∀ u k, u < 81 → k < 8 → t.perfValue u k = s.perfValue u k
  overflow : ∀ u, u < 81 → Assoc.get 0 t.perf.overflow u = Assoc.get 0 s.perf.overflow u
  rest : t.perf = { s.perf with values := t.perf.values, overflow := t.perf.overflow }

theorem State.PerfStands.of_perf {s t : State} (h : t.perf = s.perf) : s.PerfStands t :=
  ⟨fun u k _ _ => by rw [State.perfValue, State.perfValue, h], fun u _ => by rw [h], by rw [h]⟩

theorem State.PerfStands.trans {s t v : State} (h : s.PerfStands t) (g : t.PerfStands v) : s.PerfStands v :=
  ⟨fun u k hu hk => (g.value u k hu hk).trans (h.value u k hu hk), fun u hu => (g.overflow u hu).trans (h.overflow u hu), by
    rw [g.rest, h.rest]⟩

theorem State.PerfStands.samplingRun {s t : State} (h : s.PerfStands t) (n : Nat) : t.samplingRun n = s.samplingRun n := by
  rw [State.samplingRun, State.samplingRun, h.rest]

theorem State.latchSignal_perf (s : State) (n : Nat) (c : Option Nat) : (s.latchSignal n c).perf = s.perf := by
  unfold State.latchSignal
  dsimp only
  split <;> rfl

theorem State.startWake_perf (s : State) : s.startWake.perf = s.perf := by
  unfold State.startWake
  split
  · rfl
  · split <;> rfl

/-- Keys of counters of other units differ. -/
theorem perfKey_ne {u v k j : Nat} (hu : u < 81) (hk : k < 8) (hv : 81 ≤ v) : perfKey u k ≠ perfKey v j := by
  unfold perfKey
  omega

theorem State.perfStands_stable (s : State) (n : Nat) : State.SignalStable n s.PerfStands where
  bump _ h := h.trans (.of_perf rfl)
  sent _ h := h.trans (.of_perf rfl)
  efyth _ h := h.trans (.of_perf rfl)
  value _ _ hv h := h.trans ⟨fun _ _ hu hk => Assoc.get_set_ne _ _ _ (perfKey_ne hu hk hv), fun _ _ => rfl, rfl⟩
  overflow _ hv h := h.trans ⟨fun _ _ _ _ => rfl, fun _ hu => Assoc.get_set_ne _ _ _ (by omega), rfl⟩
  latch _ h := h.trans (.of_perf (State.latchSignal_perf _ _ _))
  session _ _ h := h.trans (.of_perf rfl)
  wake h := h.trans (.of_perf (State.startWake_perf _))

theorem State.signal_perfStands (s : State) (n : Nat) (c : Option Nat) : s.PerfStands (s.signal n c) :=
  (s.perfStands_stable n).signal c (fun _ => .of_perf rfl) (.of_perf (s.latchSignal_perf n c))

/-! ### Counters and their pairs (R424) -/

/-- A counter's overflow bit is latched, and its unit's source signals where irq is 1. -/
def State.overflowCounter (s : State) (u k : Nat) : State :=
  let t := { s with perf := { s.perf with overflow := Assoc.set 0 s.perf.overflow u (Assoc.get 0 s.perf.overflow u ||| 2 ^ k) } }
  if (s.perfConfig u k).testBit 31 then t.signal (352 + u) none else t

/-- The counter above an even one is chained to it. -/
def State.Chained (s : State) (u k : Nat) : Prop :=
  k % 2 = 0 ∧ (s.perfConfig u (k + 1)).testBit 49 = true ∧ (s.perfConfig u (k + 1)).testBit 48 = true

theorem State.addCounterBy_stays {sig : State → Nat → State} {s : State} {u k n : Nat} (f : Nat) (h : s.perfValue u k + n < 2 ^ 48) :
    State.addCounterBy sig (f + 1) s u k n = s.setPerfValue u k (s.perfValue u k + n) := by
  rw [State.addCounterBy]
  dsimp only
  rw [if_pos h, Nat.mod_eq_of_lt h]

theorem State.addCounterBy_wraps {s : State} {u k n : Nat} (f : Nat) (hwrap : 2 ^ 48 ≤ s.perfValue u k + n) (hfree : ¬ s.Chained u k) :
    State.addCounterBy (fun s n => s.signal n none) (f + 1) s u k n
      = (s.setPerfValue u k ((s.perfValue u k + n) % 2 ^ 48)).overflowCounter u k := by
  rw [State.addCounterBy]
  dsimp only
  rw [if_neg (Nat.not_lt.mpr hwrap), if_neg]
  · rfl
  · simpa [State.Chained, State.setPerfValue, State.perfConfig, and_assoc] using hfree

theorem State.addCounterBy_carries {s : State} {u k n : Nat} (f : Nat) (hwrap : 2 ^ 48 ≤ s.perfValue u k + n) (hchained : s.Chained u k) :
    State.addCounterBy (fun s n => s.signal n none) (f + 1) s u k n
      = State.addCounterBy (fun s n => s.signal n none) f (s.setPerfValue u k ((s.perfValue u k + n) % 2 ^ 48)) u (k + 1)
          ((s.perfValue u k + n) / 2 ^ 48) := by
  rw [State.addCounterBy]
  dsimp only
  rw [if_neg (Nat.not_lt.mpr hwrap), if_pos]
  simpa [State.Chained, State.setPerfValue, State.perfConfig, and_assoc] using hchained

theorem sourceDefined_counters {u : Nat} (h : u < 81) : sourceDefined (352 + u) = true := by
  revert u
  decide +kernel

/-- What the wrap of a counter says: its overflow bit, its source where irq is 1, and every value as it was. -/
theorem State.overflowCounter_spec (s : State) {u : Nat} (k : Nat) (hu : u < 81) :
    Assoc.get 0 (s.overflowCounter u k).perf.overflow u = Assoc.get 0 s.perf.overflow u ||| 2 ^ k
    ∧ ((s.perfConfig u k).testBit 31 = true → ((s.overflowCounter u k).sourceOf (352 + u)).pend = true)
    ∧ ((s.perfConfig u k).testBit 31 = false → (s.overflowCounter u k).intr = s.intr)
    ∧ (∀ j, j < 8 → (s.overflowCounter u k).perfValue u j = s.perfValue u j)
    ∧ (s.up = true → s.SignalsTo (s.overflowCounter u k)) := by
  unfold State.overflowCounter
  dsimp only
  generalize ht : ({ s with perf := { s.perf with
    overflow := Assoc.set 0 s.perf.overflow u (Assoc.get 0 s.perf.overflow u ||| 2 ^ k) } } : State) = t
  have hover : Assoc.get 0 t.perf.overflow u = Assoc.get 0 s.perf.overflow u ||| 2 ^ k := by rw [← ht]; exact Assoc.get_set_self _ _ _ _
  have hvalue (j : Nat) : t.perfValue u j = s.perfValue u j := by rw [← ht]; rfl
  have hto : s.SignalsTo t := by rw [← ht]; rfl
  have hintr : t.intr = s.intr := by rw [← ht]
  have htup : s.up = true → t.up = true := by rw [← ht]; exact id
  split
  next hirq =>
    have hstands := t.signal_perfStands (352 + u) none
    exact ⟨(hstands.overflow u hu).trans hover, fun _ => t.signal_pend none (sourceDefined_counters hu), fun h => absurd (hirq.symm.trans h) (by decide),
      fun j hj => (hstands.value u j hu hj).trans (hvalue j), fun hup => hto.trans (State.signalFrame_signal (htup hup) _ _).signalsTo⟩
  next hirq => exact ⟨hover, fun h => absurd h hirq, fun _ => hintr, fun j _ => hvalue j, fun _ => hto⟩

theorem State.setPerfValue_perfValue_self (s : State) (u k v : Nat) : (s.setPerfValue u k v).perfValue u k = v :=
  Assoc.get_set_self _ _ _ _

theorem State.setPerfValue_perfValue_ne (s : State) {u k j : Nat} (v : Nat) (h : j ≠ k) :
    (s.setPerfValue u k v).perfValue u j = s.perfValue u j :=
  Assoc.get_set_ne _ _ _ (by unfold perfKey; omega)

theorem unitCounters_le (u : Nat) : unitCounters u ≤ 8 := by
  unfold unitCounters
  split
  · exact Nat.le_refl 8
  · split <;> omega

/-- Settles O47: without a carry, by one counter alone, or by a carry into the counter above, which has none above it. -/
theorem counterPairsCarry : Obligations.CounterPairsCarry := by
  intro s u k n hu hk hn hv
  dsimp only
  have hk8 : k < 8 := Nat.lt_of_lt_of_le hk (unitCounters_le u)
  refine ⟨fun hstays => State.addCounterBy_stays 1 hstays, fun hfree hwrap => ?_, fun hchained hv' => ?_, fun w ev c hw => ?_⟩
  · rw [show s.addCounter u k n = _ from State.addCounterBy_wraps 1 hwrap hfree]
    have hmod : (s.perfValue u k + n) % 2 ^ 48 = s.perfValue u k + n - 2 ^ 48 := by omega
    obtain ⟨hover, hirq, hquiet, hvalue, -⟩ :=
      (s.setPerfValue u k ((s.perfValue u k + n) % 2 ^ 48)).overflowCounter_spec k hu
    exact ⟨(hvalue k hk8).trans ((State.setPerfValue_perfValue_self _ _ _ _).trans hmod), hover, hirq, hquiet⟩
  · have hk1 : k + 1 < 8 := by have := hchained.1; omega
    by_cases hwrap : s.perfValue u k + n < 2 ^ 48
    · rw [show s.addCounter u k n = _ from State.addCounterBy_stays 1 hwrap]
      rw [State.setPerfValue_perfValue_self, State.setPerfValue_perfValue_ne _ _ (by omega)]
      exact ⟨by omega, fun _ => rfl, fun h => absurd h (by omega)⟩
    · have hwrap : 2 ^ 48 ≤ s.perfValue u k + n := Nat.le_of_not_lt hwrap
      rw [show s.addCounter u k n = _ from State.addCounterBy_carries 1 hwrap hchained]
      have hone : (s.perfValue u k + n) / 2 ^ 48 = 1 := by omega
      rw [hone]
      generalize ht : s.setPerfValue u k ((s.perfValue u k + n) % 2 ^ 48) = t
      have hlow : t.perfValue u k = s.perfValue u k + n - 2 ^ 48 := by
        rw [← ht, State.setPerfValue_perfValue_self]
        omega
      have hhigh : t.perfValue u (k + 1) = s.perfValue u (k + 1) := by rw [← ht, State.setPerfValue_perfValue_ne _ _ (by omega)]
      have hlast : ¬ t.Chained u (k + 1) := fun h => by have := h.1; have := hchained.1; omega
      by_cases hcarry : t.perfValue u (k + 1) + 1 < 2 ^ 48
      · rw [State.addCounterBy_stays 0 hcarry, State.setPerfValue_perfValue_self, State.setPerfValue_perfValue_ne _ _ (by omega), hlow, hhigh]
        refine ⟨by omega, fun _ => ?_, fun h => absurd h (by omega)⟩
        rw [← ht]
        rfl
      · have hzero : (t.perfValue u (k + 1) + 1) % 2 ^ 48 = 0 := by omega
        rw [State.addCounterBy_wraps 0 (Nat.le_of_not_lt hcarry) hlast, hzero]
        have hsum : 2 ^ 96 ≤ s.perfValue u (k + 1) * 2 ^ 48 + s.perfValue u k + n ∧ (0 * 2 ^ 48 + (s.perfValue u k + n - 2 ^ 48)) % 2 ^ 96
            = (s.perfValue u (k + 1) * 2 ^ 48 + s.perfValue u k + n) % 2 ^ 96 := by omega
        obtain ⟨hover, hirq, hquiet, hvalue, -⟩ :=
          (t.setPerfValue u (k + 1) 0).overflowCounter_spec (k + 1) hu
        rw [hvalue k hk8, hvalue (k + 1) hk1, State.setPerfValue_perfValue_self, State.setPerfValue_perfValue_ne _ _ (Nat.ne_of_lt k.lt_succ_self),
          hlow]
        refine ⟨hsum.2, fun h => absurd hsum.1 (Nat.not_le.mpr h), fun _ => ?_⟩
        rw [← ht] at hover hirq hquiet ⊢
        exact ⟨hover, hirq, hquiet⟩
  · simp [perfCounts, hw]

/-! ### Counters, sampling runs and windows (R424, R427 to R432) -/

def counterResetRow : ORow := ⟨0x5102, 1, 1, .u8, .cmd, .num 0, .spans [(1, 1)]⟩

def samplingCopyRow : ORow := ⟨0x5121, 1, 1, .u8, .cmd, .num 0, .spans [(1, 1)]⟩

def readMarkRow : ORow := ⟨0x5120, 6, 6, .u32, .rw, .num 0, .spans [(0, 65535)]⟩

theorem rowFor_counterReset : rowFor 0x5102 1 = some counterResetRow := by decide +kernel

theorem rowFor_samplingCopy : rowFor 0x5121 1 = some samplingCopyRow := by decide +kernel

theorem rowFor_readMark : rowFor 0x5120 6 = some readMarkRow := by decide +kernel

theorem numNear_readMark {v : Nat} (h : v < 65536) : numNear readMarkRow v = v := by
  simp [numNear, readMarkRow, OTy.isSigned, spansNear, spanNear]
  omega

theorem Assoc.get_map_of_mem {α : Type} (d : α) (f : Nat → α) {l : List Nat} {i : Nat} (h : i ∈ l) :
    Assoc.get d (l.map (fun j => (j, f j))) i = f i := by
  induction l with
  | nil => cases h
  | cons j l ih =>
    by_cases hij : i = j
    · subst hij
      exact if_pos rfl
    · exact (if_neg hij).trans (ih ((List.mem_cons.mp h).resolve_left hij))

/-- A counter at its highest value wraps. -/
theorem State.wrapCounter_eq {s : State} {u k : Nat} (hen : (s.perfConfig u k).testBit 48 = true) (hev : bits (s.perfConfig u k) 47 32 ≠ 0)
    (hfree : ¬ s.Chained u k) :
    s.wrapCounter u k = ((s.setPerfValue u k (2 ^ 48 - 1)).setPerfValue u k 0).overflowCounter u k := by
  have htop : (s.setPerfValue u k (2 ^ 48 - 1)).perfValue u k = 2 ^ 48 - 1 := State.setPerfValue_perfValue_self _ _ _ _
  have hwraps := State.addCounterBy_wraps (s := s.setPerfValue u k (2 ^ 48 - 1)) (u := u) (k := k) (n := 1) 1 (by rw [htop]; decide) hfree
  rw [htop] at hwraps
  exact (if_pos (by simp [hen, hev])).trans hwraps

theorem State.setSamplingRun_rest (s : State) (n : Nat) (r : Sampling) : s.setSamplingRun n r = { s with perf := (s.setSamplingRun n r).perf } := by
  unfold State.setSamplingRun
  split <;> rfl

theorem State.setSamplingRun_samplingRun_self (s : State) (n : Nat) (r : Sampling) : (s.setSamplingRun n r).samplingRun n = r := by
  unfold State.setSamplingRun State.samplingRun
  split <;> rfl

theorem State.setSamplingRun_up (s : State) (n : Nat) (r : Sampling) : (s.setSamplingRun n r).up = s.up := by
  rw [State.setSamplingRun_rest]
  rfl

theorem exec_counterWrap_wraps {dt n k : Nat} {s : State} (hup : (s.elapse dt).up = true) (hn : n < 81) (hk : k < unitCounters n) :
    exec (.counterWrap dt n k) s = .next ((s.elapse dt).wrapCounter n k) :=
  congrArg Host.Outcome.next ((State.whenUp_up _ hup).trans (if_pos ⟨by omega, hk⟩))

theorem exec_counterReset_resets {dt : Nat} {s : State} (hup : (s.elapse dt).up = true) :
    exec (.counterReset dt 1) s
      = .next { s.elapse dt with perf := { (s.elapse dt).perf with values := [], overflow := [], lost := [] } } := by
  refine congrArg Host.Outcome.next ((State.whenUp_up _ hup).trans ?_)
  rw [State.actCounterReset, State.clampNum_near rowFor_counterReset (by decide)]

theorem exec_bandwidthWindowEnd_ends {dt : Nat} {traffic : List (Nat × Nat)} {s : State} (hup : (s.elapse dt).up = true)
    (hon : (s.elapse dt).perf.windowOn = true) (hend : (s.elapse dt).stamp % (s.elapse dt).windowUnits = 0)
    (hwhole : (s.elapse dt).perf.windowFrom + (s.elapse dt).windowUnits ≤ (s.elapse dt).stamp) :
    exec (.bandwidthWindowEnd dt traffic) s = .next ((s.elapse dt).endWindow traffic) :=
  congrArg Host.Outcome.next ((State.whenUp_up _ hup).trans (if_pos ⟨hon, hend, hwhole⟩))

/-- A window's end lists a record for every port, with the alarm and without it. -/
theorem State.endWindow_spec {s : State} (hup : s.up = true) (traffic : List (Nat × Nat)) :
    s.SignalsTo (s.endWindow traffic)
    ∧ ∀ i, i < 89 → Assoc.get (zeroBytes 32) (s.endWindow traffic).perf.windows i = windowRec s.stamp (nth (0, 0) traffic i) := by
  unfold State.endWindow
  dsimp only
  generalize hlisted : ({ s with perf := { s.perf with windows := _, nextBusiest := _ } } : State) = t
  have hto : s.SignalsTo t := by rw [← hlisted]; rfl
  have htup : t.up = true := by rw [← hlisted]; exact hup
  have hrec (i : Nat) (hi : i < 89) : Assoc.get (zeroBytes 32) t.perf.windows i = windowRec s.stamp (nth (0, 0) traffic i) := by
    rw [← hlisted]
    exact Assoc.get_map_of_mem _ (fun j => windowRec s.stamp (nth (0, 0) traffic j)) (List.mem_range.mpr hi)
  split
  · refine ⟨hto.trans (State.signalFrame_signal htup 438 none).signalsTo, fun i hi => ?_⟩
    rw [(t.signal_perfStands 438 none).rest]
    exact hrec i hi
  · exact ⟨hto, hrec⟩

/-- A run whose trace unit is free starts. -/
theorem State.startSampling_free {s : State} {n : Nat} (hstopped : (s.samplingRun n).state ≠ 1) (hfree : (s.resUnit (n + 1)).holder = none) :
    s.startSampling n = (s.grantUnit (n + 1) (.sampling n) 5).setSamplingRun n { (s.samplingRun n).empty with state := 1 } := by
  unfold State.startSampling
  rw [if_neg hstopped, State.requestUnit_free _ _ _ hfree]
  rfl

/-- An occurrence that ends its period, with the bay's last record old enough, is recorded. -/
theorem State.sample1_records {s : State} {o : Occurrence} {n : Nat} (hn : n = o.bay / 32) (hruns : (s.samplingRun n).state = 1)
    (hevent : o.event ≠ 0) (hwatched : runEvent (s.samplingRun n).config = o.event) (hall : runFilter (s.samplingRun n).config = false)
    (hperiod : Assoc.get 0 (s.samplingRun n).counts o.bay + 1 = runPeriod (s.samplingRun n).config)
    (hold : s.recentSample (s.samplingRun n) o.bay = false) :
    s.sample1 o = (s.setSamplingRun n { s.samplingRun n with counts := Assoc.set 0 (s.samplingRun n).counts o.bay 0 }).writeSample n o := by
  subst hn
  have hlast : ¬ Assoc.get 0 (s.samplingRun (o.bay / 32)).counts o.bay + 1 < runPeriod (s.samplingRun (o.bay / 32)).config := by omega
  have hagain (r : Sampling) : (s.setSamplingRun (o.bay / 32) r).recentSample (s.samplingRun (o.bay / 32)) o.bay = false := by
    rw [State.setSamplingRun_rest]
    exact hold
  unfold State.sample1
  dsimp only
  rw [if_pos (by simp [hruns, hevent, hwatched, hall]), if_neg hlast, hagain]
  rfl

/-- A record in a ring with room. -/
theorem State.writeSample_spec {s : State} (hup : s.up = true) (n : Nat) (o : Occurrence) (hroom : (s.samplingRun n).unread < 65536) :
    ((s.writeSample n o).samplingRun n).unread = (s.samplingRun n).unread + 1
    ∧ Assoc.get (zeroBytes 64) ((s.writeSample n o).samplingRun n).records (s.samplingRun n).writeIndex
        = s.sampleBytes o ((s.samplingRun n).recSeq % 2 ^ 32)
    ∧ ((s.writeSample n o).samplingRun n).writeIndex = ((s.samplingRun n).writeIndex + 1) % 65536
    ∧ (s.writeSample n o).cnt 0x5110 1 = min (s.cnt 0x5110 1 + 1) (2 ^ 64 - 1) ∧ s.SignalsTo (s.writeSample n o) := by
  have hfull : ¬ 65536 ≤ (s.samplingRun n).unread := Nat.not_le.mpr hroom
  unfold State.writeSample
  dsimp only
  rw [decide_eq_false hfull, if_neg Bool.false_ne_true]
  generalize hset : State.setSamplingRun s n _ = t
  have hrun := congrArg (State.samplingRun · n) hset
  rw [State.setSamplingRun_samplingRun_self] at hrun
  have hto : s.SignalsTo (t.bump 0x5110 1) := by
    rw [← hset, State.setSamplingRun_rest]
    rfl
  have hcnt : (t.bump 0x5110 1).cnt 0x5110 1 = min (s.cnt 0x5110 1 + 1) (2 ^ 64 - 1) := by
    rw [← hset, State.setSamplingRun_rest]
    exact State.bump_cnt_self _ _ _
  have htup : (t.bump 0x5110 1).up = true := hto.up ▸ hup
  have hunread : ((t.bump 0x5110 1).samplingRun n).unread = (s.samplingRun n).unread + 1 := by
    refine (congrArg Sampling.unread hrun.symm).trans ?_
    exact Nat.min_eq_right (by omega)
  have hrecord : Assoc.get (zeroBytes 64) ((t.bump 0x5110 1).samplingRun n).records (s.samplingRun n).writeIndex
        = s.sampleBytes o ((s.samplingRun n).recSeq % 2 ^ 32) := by
    refine (congrArg (fun r : Sampling => Assoc.get (zeroBytes 64) r.records (s.samplingRun n).writeIndex) hrun.symm).trans ?_
    exact Assoc.get_set_self _ _ _ _
  have hindex : ((t.bump 0x5110 1).samplingRun n).writeIndex = ((s.samplingRun n).writeIndex + 1) % 65536 :=
    congrArg Sampling.writeIndex hrun.symm
  split
  · rw [((t.bump 0x5110 1).signal_perfStands _ _).samplingRun n, (State.signalFrame_signal htup _ _).cnt (by decide)]
    exact ⟨hunread, hrecord, hindex, hcnt, hto.trans (State.signalFrame_signal htup _ _).signalsTo⟩
  · exact ⟨hunread, hrecord, hindex, hcnt, hto⟩

theorem State.sampleBytes_setSamplingRun (s : State) (n : Nat) (r : Sampling) (o : Occurrence) (q : Nat) :
    (s.setSamplingRun n r).sampleBytes o q = s.sampleBytes o q := by
  rw [State.setSamplingRun_rest]
  rfl

theorem State.setSamplingRun_signalsTo (s : State) (n : Nat) (r : Sampling) : s.SignalsTo (s.setSamplingRun n r) := by
  rw [State.setSamplingRun_rest]
  rfl

theorem State.setSamplingRun_cnt (s : State) (n : Nat) (r : Sampling) (i k : Nat) : (s.setSamplingRun n r).cnt i k = s.cnt i k := by
  rw [State.setSamplingRun_rest]
  rfl

theorem exec_sampleRecord_samples {dt : Nat} {o : Occurrence} {s : State} (hup : (s.elapse dt).up = true) (hbay : o.bay < 64) :
    exec (.sampleRecord dt o) s = .next ((s.elapse dt).sample1 o) :=
  congrArg Host.Outcome.next ((State.whenUp_up _ hup).trans (if_pos hbay))

/-- The read mark of the selected run frees what it passed. -/
theorem State.actReadMark_eq (s : State) {v : Nat} (hv : v < 65536) :
    s.actReadMark v = s.setSamplingRun s.selectedRun { s.samplingRun s.selectedRun with
      readMark := v, unread := ((s.samplingRun s.selectedRun).writeIndex + 65536 - v) % 65536, armed437 := true } := by
  rw [State.actReadMark, State.clampNum_near rowFor_readMark (numNear_readMark hv)]

theorem State.actSamplingCopy_eq (s : State) :
    s.actSamplingCopy 1 = s.writeBytes stagingBase (((s.samplingRun s.selectedRun).unreadRecords.flatMap id).take s.stagingBytes) := by
  rw [State.actSamplingCopy, State.clampNum_near rowFor_samplingCopy (by decide)]

/-- Settles O48: each command meets its check, and the state that it leads to says the rest. -/
theorem countersAndSamples : Obligations.CountersAndSamples := by
  refine ⟨?_, ?_⟩
  · rintro dt s _ rfl hup
    refine ⟨fun n k hn hk hen hown hev habove => ?_, exec_counterReset_resets hup, fun traffic hon hend hwhole => ?_⟩
    · have hfree : ¬ (s.elapse dt).Chained n k := by
        rintro ⟨heven, hchain, hcounts⟩
        rcases habove with hodd | hoff | hoff
        · omega
        · exact absurd (hchain.symm.trans hoff) (by decide)
        · exact absurd (hcounts.symm.trans hoff) (by decide)
      have hk8 := Nat.lt_of_lt_of_le hk (unitCounters_le n)
      have hset : (s.elapse dt).SignalsTo (((s.elapse dt).setPerfValue n k (2 ^ 48 - 1)).setPerfValue n k 0) := rfl
      refine ⟨_, exec_counterWrap_wraps hup hn hk, ?_⟩
      rw [State.wrapCounter_eq hen hev hfree]
      obtain ⟨hover, hirq, -, hvalue, hto⟩ := (((s.elapse dt).setPerfValue n k (2 ^ 48 - 1)).setPerfValue n k 0).overflowCounter_spec k hn
      exact ⟨(hvalue k hk8).trans (State.setPerfValue_perfValue_self _ _ _ _), hover, hirq, hset.trans (hto hup)⟩
    · exact ⟨_, exec_bandwidthWindowEnd_ends hup hon hend hwhole, State.endWindow_spec hup traffic⟩
  · rintro dt n s _ rfl hup
    refine ⟨fun hsel hstopped hfree => ?_, fun hsel => ?_, fun o hbay hn hruns hevent hwatched hall hperiod hold hroom => ?_,
      fun v hsel hv => ?_, congrArg Host.Outcome.next ((State.whenUp_up _ hup).trans (State.actSamplingCopy_eq _))⟩
    · refine ⟨_, congrArg Host.Outcome.next (State.whenUp_up _ hup), ?_⟩
      rw [hsel, State.startSampling_free hstopped hfree]
      refine ⟨State.setSamplingRun_samplingRun_self _ _ _, ?_⟩
      rw [State.setSamplingRun_rest]
      rfl
    · refine ⟨_, congrArg Host.Outcome.next (State.whenUp_up _ hup), ?_⟩
      rw [hsel]
      refine ⟨State.setSamplingRun_samplingRun_self _ _ _, ?_⟩
      rw [State.stopSampling, State.setSamplingRun_rest]
      rfl
    · refine ⟨_, exec_sampleRecord_samples hup hbay, ?_⟩
      rw [State.sample1_records hn hruns hevent hwatched hall hperiod hold]
      have hto := State.setSamplingRun_signalsTo (s.elapse dt) n
        { (s.elapse dt).samplingRun n with counts := Assoc.set 0 ((s.elapse dt).samplingRun n).counts o.bay 0 }
      obtain ⟨hunread, hrecord, hindex, hcnt, hframe⟩ := State.writeSample_spec (hto.up.trans hup) n o (by
        rw [State.setSamplingRun_samplingRun_self]
        exact hroom)
      rw [State.setSamplingRun_samplingRun_self] at hunread hrecord hindex
      rw [State.sampleBytes_setSamplingRun] at hrecord
      rw [State.setSamplingRun_cnt] at hcnt
      exact ⟨hunread, hrecord, hindex, hcnt, hto.trans hframe⟩
    · refine ⟨_, congrArg Host.Outcome.next (State.whenUp_up _ hup), ?_⟩
      rw [State.actReadMark_eq _ hv, hsel]
      exact ⟨State.setSamplingRun_samplingRun_self _ _ _, State.setSamplingRun_rest _ _ _⟩

end Sys2Proof.Machine
end

section
/-! PROOFS. Measurement slots (O59). -/

namespace Sys2Proof.Machine

/-! ### Measurement slots (R506) -/

/-- 33 bytes extend the slot that the first names. -/
theorem State.actExtend_eq (s : State) {k : Nat} {x : List Byte} (hk : k < 256) (hx : x.length = 32) :
    s.actExtend (BitVec.ofNat 8 k :: x) = { (if clampNat k 4 7 = k then s else s.countClamp 0x7812) with
      boot := { s.boot with slots := s.boot.slots.set (clampNat k 4 7) (sm3 (nth (zeroBytes 32) s.boot.slots (clampNat k 4 7) ++ x)) } } := by
  have hfit : fitBytes 33 (BitVec.ofNat 8 k :: x) = BitVec.ofNat 8 k :: x := by
    have hlength : (BitVec.ofNat 8 k :: x).length = 33 := by rw [List.length_cons, hx]
    rw [← hlength]
    exact fitBytes_self _
  have hfirst : (nth 0 (BitVec.ofNat 8 k :: x) 0).toNat = k := by
    simp [nth, BitVec.toNat_ofNat, Nat.mod_eq_of_lt hk]
  have hboot : (s.countClamp 0x7812).boot = s.boot := by rw [State.countClamp_rest]
  rw [State.actExtend, hfit, hfirst]
  simp only [List.length_cons, hx, and_true, List.drop_one, List.tail_cons]
  split
  · rfl
  · rw [hboot]

theorem exec_extendSlot_extends {dt : Nat} {b : List Byte} {s : State} (hup : (s.elapse dt).up = true) :
    exec (.extendSlot dt b) s = .next ((s.elapse dt).actExtend b) :=
  congrArg Host.Outcome.next (State.whenUp_up _ hup)

/-- A slot's extend between 4 and 7. -/
theorem State.actExtend_listed (s : State) {k : Nat} {x : List Byte} (hlow : 4 ≤ k) (hhigh : k ≤ 7) (hx : x.length = 32) :
    s.actExtend (BitVec.ofNat 8 k :: x)
      = { s with boot := { s.boot with slots := s.boot.slots.set k (sm3 (nth (zeroBytes 32) s.boot.slots k ++ x)) } } := by
  have hclamp : clampNat k 4 7 = k := by
    rw [clampNat, if_neg (Nat.not_lt.mpr hlow), if_neg (Nat.not_lt.mpr hhigh)]
  rw [State.actExtend_eq s (by omega) hx, if_pos hclamp, hclamp]

theorem step_extendSlot {dt k : Nat} {x : List Byte} {rest : List Instr} {s : State} (hup : s.up = true) (hlow : 4 ≤ k) (hhigh : k ≤ 7)
    (hx : x.length = 32) (hqueue : s.pending = .extendSlot dt (BitVec.ofNat 8 k :: x) :: rest) :
    step s = .next { s.elapse dt with
      pending := rest, boot := { s.boot with slots := s.boot.slots.set k (sm3 (nth (zeroBytes 32) s.boot.slots k ++ x)) } } := by
  rw [step, hqueue]
  refine (exec_extendSlot_extends (s := { s with pending := rest }) hup).trans ?_
  rw [State.actExtend_listed _ hlow hhigh hx]
  rfl

/-- Settles O59: the clamp in one extend, and two extends in the order of the queue. -/
theorem slotsExtend : Obligations.SlotsExtend := by
  refine ⟨?_, ?_⟩
  · rintro dt k x s _ rfl hup hk hx
    rw [exec_extendSlot_extends hup, State.actExtend_eq _ hk hx]
  · rintro dt k x y rest s _ rfl hup hlow hhigh hx hy hslots hqueue
    refine ⟨_, _, step_extendSlot hup hlow hhigh hx hqueue, step_extendSlot ?_ hlow hhigh hy rfl, rfl, ?_⟩
    · exact hup
    · have hin : k < s.boot.slots.length := by omega
      simp [nth, hin]

end Sys2Proof.Machine
end

section
/-! PROOFS. Warm reset's clearing, and power states (O52). -/

namespace Sys2Proof.Machine

/-! ### What a warm reset clears (R474, R494) -/

/-- From s to t sources were latched, with nothing told to anyone: only the sources and the signal counters moved. -/
structure State.Latched (s t : State) : Prop where
  rest : t = { s with intr := { s.intr with sources := t.intr.sources }, objs := t.objs }
  object : ∀ d k, k ∉ signalCounters → Assoc.get d t.objs k = Assoc.get d s.objs k

theorem State.Latched.refl (s : State) : s.Latched s := ⟨rfl, fun _ _ _ => rfl⟩

theorem State.Latched.trans {s t v : State} (h : s.Latched t) (g : t.Latched v) : s.Latched v :=
  ⟨by rw [g.rest, h.rest], fun d k hk => (g.object d k hk).trans (h.object d k hk)⟩

theorem State.Latched.cnt {s t : State} (h : s.Latched t) {i k : Nat} (hk : objKey i k ∉ signalCounters) : t.cnt i k = s.cnt i k :=
  congrArg ObjVal.toNat (h.object _ _ hk)

theorem State.Latched.config {s t : State} (h : s.Latched t) : t.intr.config = s.intr.config := by rw [h.rest]

theorem State.latchSignal_latched (s : State) (n : Nat) (c : Option Nat) : s.Latched (s.latchSignal n c) := by
  refine ⟨?_, (s.signalFrame_latchSignal n c).object⟩
  unfold State.latchSignal
  dsimp only
  split <;> rfl

/-- A source with no configuration is latched, and that is all. -/
theorem State.signal_latched {s : State} (h : s.intr.config = []) (n : Nat) (c : Option Nat) : s.Latched (s.signal n c) := by
  have hword (t : State) (ht : t.intr.config = []) (m : Nat) : t.config m = 0 := by rw [State.config, ht]; rfl
  have hlatch := s.latchSignal_latched n c
  have hconfig : (s.latchSignal n c).intr.config = [] := hlatch.config.trans h
  have hforward : (s.latchSignal n c).forwardSignal n c = (s.latchSignal n c, false) := by
    unfold State.forwardSignal
    rw [hword _ hconfig]
    cases c <;> rfl
  unfold State.signal
  split
  · exact .refl s
  · dsimp only
    rw [hforward]
    dsimp only
    rw [Bool.false_and, if_neg Bool.false_ne_true, hword _ hconfig, if_neg (by decide)]
    exact hlatch

theorem State.Latched.signalUnless {s t : State} (hconfig : s.intr.config = []) (h : s.Latched t) (p : Prop) [Decidable p] (n : Nat) :
    s.Latched (if p then t else t.signal n none) := by
  split
  · exact h
  · exact h.trans (State.signal_latched (h.config.trans hconfig) n none)

theorem State.signalDrops_latched {t : State} (h : t.intr.config = []) (s : State) : t.Latched (t.signalDrops s) := by
  have hlinks := List.foldlRecOn (List.range 32)
    (fun (v : State) n => if (s.link n).state = (v.link n).state then v else v.signal (160 + n) none) (motive := t.Latched) (.refl t)
    fun v hv n _ => hv.signalUnless h _ _
  have hports := List.foldlRecOn (List.range 16)
    (fun (v : State) n => if Assoc.get 0 s.ports n = Assoc.get 0 v.ports n then v else v.signal (192 + n) none) (motive := t.Latched) hlinks
    fun v hv n _ => hv.signalUnless h _ _
  exact List.foldlRecOn (List.range 2)
    (fun (v : State) n => if Assoc.get 0 s.hostPorts n = Assoc.get 0 v.hostPorts n then v else v.signal (208 + n) none)
    (motive := t.Latched) hports fun v hv n _ => hv.signalUnless h _ _

theorem State.warmClear_latched (s : State) : s.warmFields.Latched s.warmClear := State.signalDrops_latched rfl s

/-- What no warm reset leaves: contexts, sessions, engines, what the benches held. -/
structure State.WarmCleared (s : State) : Prop where
  ctxs : s.ctxs = []
  sessions : s.sessions = []
  engines : s.engines = []
  bench : ∀ a, a < benchEnd → s.byte a = 0

theorem State.warmClear_cleared (s : State) : s.warmClear.WarmCleared := by
  have h := s.warmClear_latched.rest
  have hbench (a : Nat) (ha : a < benchEnd) : s.warmFields.byte a = 0 := (s.closeAll.clearBench_byte a).trans (if_pos ha)
  exact ⟨by rw [h]; rfl, by rw [h]; rfl, by rw [h]; rfl, fun a ha => by rw [h]; exact hbench a ha⟩

theorem State.failTest_rest (s : State) (ran : Bool) : s.failTest ran = { s with objs := (s.failTest ran).objs } := by
  unfold State.failTest
  split <;> rfl

/-! ### Power states (R439 to R441) -/

/-- A bay as device P2 leaves it. -/
def State.sleepBay (s : State) (b : Nat) : State := s.setBay b { s.bay b with power := 2, waking := false, ballast := false }

theorem State.sleepBay_power (s : State) (b c : Nat) (h : b = c ∨ (s.bay b).power = 2) : ((s.sleepBay c).bay b).power = 2 := by
  by_cases hbc : b = c
  · subst hbc
    rw [State.sleepBay, State.setBay_bay_self]
  · rw [State.sleepBay, State.setBay_bay_ne _ _ hbc]
    exact h.resolve_left hbc

theorem State.foldl_sleepBay_power (l : List Nat) (s : State) (b : Nat) (h : b ∈ l ∨ (s.bay b).power = 2) :
    ((l.foldl State.sleepBay s).bay b).power = 2 := by
  induction l generalizing s with
  | nil => exact h.resolve_left (by simp)
  | cons c l ih =>
    refine ih _ ?_
    rcases h with hin | hslept
    · rcases List.mem_cons.mp hin with hbc | hin
      · exact .inr (s.sleepBay_power b c (.inl hbc))
      · exact .inl hin
    · exact .inr (s.sleepBay_power b c (.inr hslept))

/-- All bays asleep, benches and lofts lost. -/
def State.allAsleep (s : State) : State := (List.range 64).foldl State.sleepBay s.flushLofts.clearBench

/-- The device itself in P2. -/
def State.deviceAsleep (s : State) : State := { s with power := { s.power with device := 2, waking := false } }

theorem State.enterP2_eq (s : State) : s.enterP2 = s.allAsleep.deviceAsleep := rfl

theorem State.allAsleep_mem (s : State) : s.allAsleep.mem = s.clearBench.mem :=
  State.foldl_keeps State.mem (f := State.sleepBay) (fun _ _ => rfl) (List.range 64) s.flushLofts.clearBench

theorem State.allAsleep_objs (s : State) : s.allAsleep.objs = s.objs :=
  State.foldl_keeps State.objs (f := State.sleepBay) (fun _ _ => rfl) (List.range 64) s.flushLofts.clearBench

theorem State.allAsleep_power (s : State) {b : Nat} (hb : b < 64) : (s.allAsleep.bay b).power = 2 :=
  State.foldl_sleepBay_power _ _ b (.inl (List.mem_range.mpr hb))

theorem State.deviceAsleep_byte (s : State) (a : Nat) : s.deviceAsleep.byte a = s.byte a := rfl

theorem State.deviceAsleep_bay (s : State) (b : Nat) : s.deviceAsleep.bay b = s.bay b := rfl

theorem State.deviceAsleep_objs (s : State) : s.deviceAsleep.objs = s.objs := rfl

theorem State.deviceAsleep_device (s : State) : s.deviceAsleep.power.device = 2 := rfl

/-- Device P2: every bay in P2, no bench left. -/
theorem State.enterP2_spec (s : State) :
    s.enterP2.power.device = 2 ∧ s.enterP2.objs = s.objs ∧ (∀ b, b < 64 → (s.enterP2.bay b).power = 2)
    ∧ ∀ a, s.enterP2.byte a = if a < benchEnd then 0 else s.byte a := by
  rw [State.enterP2_eq, State.deviceAsleep_device, State.deviceAsleep_objs, State.allAsleep_objs]
  refine ⟨rfl, rfl, fun b hb => ?_, fun a => ?_⟩
  · rw [State.deviceAsleep_bay, State.allAsleep_power s hb]
  · rw [State.deviceAsleep_byte, State.byte, State.allAsleep_mem, ← State.clearBench_byte, State.byte]

def devicePowerRow : ORow := ⟨0x6003, 2, 2, .u8, .cmd, .num 0, .enum [0, 2, 3]⟩

theorem rowFor_devicePower : rowFor 0x6003 2 = some devicePowerRow := by decide +kernel

theorem State.clampNum_devicePower (s : State) {v : Nat} (hv : v = 0 ∨ v = 2 ∨ v = 3) : s.clampNum 0x6003 2 v = (s, v) := by
  refine State.clampNum_near rowFor_devicePower ?_
  rcases hv with rfl | rfl | rfl <;> decide

theorem State.actPower_p2 (s : State) :
    s.actPower 2 = if s.p2Refused then (s.setCnt 0x6003 3 0x0501, 0x0501) else ((s.setCnt 0x6003 3 0).enterP2, 0) := by
  rw [State.actPower, s.clampNum_devicePower (.inr (.inl rfl))]
  rfl

theorem State.actPower_p3 (s : State) : s.actPower 3 = ((s.setCnt 0x6003 3 0).enterP3, 0) := by
  rw [State.actPower, s.clampNum_devicePower (.inr (.inr rfl))]
  rfl

theorem State.actPower_wake (s : State) : s.actPower 0 = ((s.setCnt 0x6003 3 0).startWake, 0) := by
  rw [State.actPower, s.clampNum_devicePower (.inl rfl)]
  rfl

theorem State.enterP3_spec (s : State) :
    s.enterP3.power.device = 3 ∧ s.enterP3.boot.phase = .p3 ∧ s.enterP3.ctxs = [] ∧ s.enterP3.sessions = [] := by
  have hcleared := s.announce.flushLofts.warmClear_cleared
  have hrest := s.announce.flushLofts.warmClear.failTest_rest (s.fault.selfTest == 1)
  refine ⟨rfl, rfl, ?_, ?_⟩
  · exact (congrArg State.ctxs hrest).trans hcleared.ctxs
  · exact (congrArg State.sessions hrest).trans hcleared.sessions

theorem State.zeroBanks_bench (s : State) (b a : Nat) :
    (s.zeroBanks b 0xFFFFFFFF).byte a = if a / benchBytes = b ∧ a < benchEnd then 0 else s.byte a := by
  have hall (k : Nat) (hk : k < 32) : (0xFFFFFFFF : Nat).testBit k = true := by
    revert k
    decide
  rw [State.zeroBanks_byte]
  simp only [hall _ (Nat.mod_lt _ (by decide)), and_true]

theorem exec_deviceWakeRequest_running {dt : Nat} {s : State} (h : (s.elapse dt).boot.phase = .running) :
    exec (.deviceWakeRequest dt) s = .next ((s.elapse dt).actPower 0).1 := by
  show execDeviceWakeRequest dt s = _
  rw [execDeviceWakeRequest, h]

theorem exec_deviceWakeRequest_p3 {dt : Nat} {s : State} (h : (s.elapse dt).boot.phase = .p3) :
    exec (.deviceWakeRequest dt) s = .next (s.elapse dt).startWake := by
  show execDeviceWakeRequest dt s = _
  rw [execDeviceWakeRequest, h]

/-- A wake from device P2. -/
theorem State.startWake_asleep {s : State} (hup : s.up = true) (hdevice : s.power.device = 2) :
    ((s.setCnt 0x6003 3 0).startWake).power = { s.power with waking := true } ∧ ((s.setCnt 0x6003 3 0).startWake).cnt 0x6003 3 = 0
    ∧ (s.setCnt 0x6003 3 0).startWake
      = { s with objs := ((s.setCnt 0x6003 3 0).startWake).objs, power := ((s.setCnt 0x6003 3 0).startWake).power } := by
  have hphase : s.boot.phase ≠ .p3 := by rw [State.up_phase hup]; decide
  have hwakes : (s.setCnt 0x6003 3 0).startWake = { s.setCnt 0x6003 3 0 with power := { s.power with waking := true } } :=
    (if_neg hphase).trans (if_pos hdevice)
  have hcnt : (s.setCnt 0x6003 3 0).cnt 0x6003 3 = 0 := State.setCnt_cnt_self _ _ _ _
  rw [hwakes]
  exact ⟨rfl, hcnt, rfl⟩

/-- A wake from P3. -/
theorem State.startWake_p3 {s : State} (h : s.boot.phase = .p3) :
    s.startWake.boot = { s.boot with phase := .warmBoot } ∧ s.startWake.cnt 0x7101 2 = 0x0714
    ∧ s.startWake = { s with objs := s.startWake.objs, boot := s.startWake.boot,
                             intr := { s.intr with config := [], ordered := true, reason := 1 } } := by
  have hcause : ((s.setCnt 0x7101 2 0x0714).setCnt 0x7101 3 s.stamp).cnt 0x7101 2 = 0x0714 :=
    (State.setCnt_cnt_ne _ _ (by decide)).trans (State.setCnt_cnt_self _ _ _ _)
  rw [State.startWake, if_pos h]
  exact ⟨rfl, hcause, rfl⟩

/-- Settles O52: each command meets its check; what it leaves is said by the lemmas of the state that it enters. -/
theorem powerStatesChange : Obligations.PowerStatesChange := by
  rintro dt s _ rfl
  refine ⟨fun b hup hb hp0 hballast hwaking hwork => ?_, fun b hup hb hp1 hgranted hidle hheld hfloor => ?_, fun b hup hwaking => ?_,
    fun hup hwaking => ?_, fun hup hrefused => ?_, fun hup hgranted => ?_, fun hup => ?_, fun hup hdevice => ?_, fun hp3 => ?_,
    fun hup hauto hdevice hsince hgranted => ?_⟩
  · refine congrArg Host.Outcome.next ((State.whenUp_up _ hup).trans (if_pos ?_))
    simp [hp0, hb, hballast, hwaking, hwork]
  · refine ⟨_, congrArg Host.Outcome.next ((State.whenUp_up _ hup).trans (if_pos ?_)), ?_⟩
    · exact ⟨hp1, hb, by rw [hgranted]; rfl, hidle, by rw [hheld]; rfl, hfloor⟩
    · exact ⟨by rw [State.setBay_bay_self], rfl, (s.elapse dt).zeroBanks_bench b⟩
  · exact congrArg Host.Outcome.next ((State.whenUp_up _ hup).trans (if_pos hwaking))
  · exact congrArg Host.Outcome.next ((State.whenUp_up _ hup).trans (if_pos hwaking))
  · refine congrArg Host.Outcome.next ((State.whenUp_up _ hup).trans ?_)
    rw [State.actPower_p2, if_pos hrefused]
  · refine ⟨_, congrArg Host.Outcome.next (State.whenUp_up _ hup), ?_⟩
    rw [State.actPower_p2, if_neg (by rw [hgranted]; exact Bool.false_ne_true)]
    obtain ⟨hdevice, hobjs, hbays, hbyte⟩ := ((s.elapse dt).setCnt 0x6003 3 0).enterP2_spec
    refine ⟨hdevice, ?_, hbays, hbyte⟩
    exact (congrArg (fun o => (Assoc.get (.num 0) o (objKey 0x6003 3)).toNat) hobjs).trans (State.setCnt_cnt_self _ _ _ _)
  · refine ⟨_, congrArg Host.Outcome.next (State.whenUp_up _ hup), ?_⟩
    rw [State.actPower_p3]
    exact State.enterP3_spec _
  · refine ⟨_, exec_deviceWakeRequest_running (State.up_phase hup), ?_⟩
    rw [State.actPower_wake]
    exact State.startWake_asleep hup hdevice
  · exact ⟨_, exec_deviceWakeRequest_p3 hp3, State.startWake_p3 hp3⟩
  · refine ⟨_, congrArg Host.Outcome.next ((State.whenUp_up _ hup).trans (if_pos ?_)), ?_⟩
    · exact ⟨hauto, hdevice, hsince, by rw [hgranted]; rfl⟩
    · obtain ⟨hdevice, -, hbays, -⟩ := (s.elapse dt).enterP2_spec
      exact ⟨hdevice, hbays⟩

end Sys2Proof.Machine
end

section
/-! PROOFS. Boot (O57): what signals leave of it, its steps, and its commands (R492 to R500). -/

namespace Sys2Proof.Machine

/-! ### Log entries and pins through a view that no request changes (R477, R480) -/

namespace State.TimerBlind

variable {β : Type} {π : State → β}

theorem log (h : TimerBlind π) (s : State) (a : LogArgs) : π (s.log a) = π s := by
  have hentry := h.logEntry s a
  unfold State.log
  dsimp only
  split
  · have hfatal := (h.fault (s.logEntry a) { (s.logEntry a).fault with fatalUnacked := true }).trans hentry
    split
    · split
      · exact hfatal
      · exact (h.requestUnit _ _ _ _).trans hfatal
    · exact (h.requestUnit _ _ _ _).trans hfatal
  · exact hentry

theorem recoveryOn (h : TimerBlind π) (s : State) : π s.recoveryOn = π s := by
  unfold State.recoveryOn
  split
  · split
    · rfl
    · exact h.requestUnit s _ _ _
  · exact h.requestUnit s _ _ _

theorem recoveryOff (h : TimerBlind π) (s : State) : π s.recoveryOff = π s := by
  unfold State.recoveryOff
  dsimp only
  split
  · rfl
  · exact h.releaseUnit s _ _

theorem healthChanged (h : TimerBlind π) (s : State) (before : Nat) : π (s.healthChanged before) = π s := by
  unfold State.healthChanged
  split
  · rfl
  · exact h.signal s _ _

theorem deductPermanent (h : TimerBlind π) (s : State) (key points : Nat) : π (s.deductPermanent key points) = π s :=
  (h.healthChanged _ _).trans (h.fault s _)

theorem deduct (h : TimerBlind π) (s : State) (points : Nat) : π (s.deduct points) = π s := by
  unfold State.deduct
  dsimp only
  split
  · exact (h.objs _ _).trans (h.fault s _)
  · exact (h.healthChanged _ _).trans (h.fault s _)

theorem requestWindows (h : TimerBlind π) (s : State) : π s.requestWindows = π s :=
  (h.perf _ _).trans (h.requestTimer s _ _)

theorem requestJobPin (h : TimerBlind π) (s : State) (k : Nat) : π (s.requestJobPin k) = π s := by
  unfold State.requestJobPin
  split
  · dsimp only
    split
    · exact h.requestUnit s _ _ _
    · exact (h.setCnt _ _ _ _).trans (h.requestUnit s _ _ _)
  · rfl

end State.TimerBlind

/-! ### What the boot keeps (R492 to R496) -/

/-- A view that neither the frame of a signal nor a wake touches is kept by signals, in whatever power state. -/
theorem State.signal_keeps {β : Type} {π : State → β} (hto : ∀ s t : State, s.SignalsTo t → π t = π s)
    (hwake : ∀ s : State, π s.startWake = π s) (s : State) (n : Nat) (c : Option Nat) : π (s.signal n c) = π s := by
  have hsend (t : State) (n : Nat) (c : Option Nat) : π ((t.latchSignal n c).forwardSignal n c).1 = π t :=
    hto _ _ ((t.signalFrame_latchSignal n c).trans (State.signalFrame_forwardSignal _ n c)).signalsTo
  unfold State.signal
  split
  · rfl
  · dsimp only
    generalize hv : (if (_ && _ : Bool) = true then _ else _ : State) = v
    have hv' : π v = π s := by
      rw [← hv]
      split
      · exact (hsend _ _ _).trans (hsend _ _ _)
      · exact hsend _ _ _
    split
    · exact (hwake _).trans hv'
    · exact hv'

/-- A phase once a wake has been seen. -/
def Phase.awake (p : Phase) : Phase := if p = .p3 then .warmBoot else p

/-- What of the device a signal cannot touch even from P3: the boot, its phase up to a wake, and the pins. -/
def State.rom (s : State) : Boot × Pins := ({ s.boot with phase := s.boot.phase.awake }, s.pins)

theorem State.startWake_rom (s : State) : s.startWake.rom = s.rom := by
  unfold State.startWake
  split
  next h => simp only [State.rom, h]; rfl
  next => split <;> rfl

theorem State.signal_rom (s : State) (n : Nat) (c : Option Nat) : (s.signal n c).rom = s.rom :=
  State.signal_keeps (fun _ _ hto => by rw [State.rom, hto.boot, hto.pins, State.rom]) State.startWake_rom s n c

theorem State.timerBlind_rom : State.TimerBlind State.rom where
  signal := State.signal_rom
  objs _ _ := rfl
  perf _ _ := rfl
  fault _ _ := rfl
  res _ _ _ := rfl
  polling _ _ := rfl

theorem State.boot_of_rom {s t : State} (h : t.rom = s.rom) (hp3 : s.boot.phase ≠ .p3) (hwarm : s.boot.phase ≠ .warmBoot) :
    t.boot = s.boot := by
  have hboot : ({ t.boot with phase := t.boot.phase.awake } : Boot) = { s.boot with phase := s.boot.phase.awake } := congrArg Prod.fst h
  have hawake : t.boot.phase.awake = s.boot.phase := (congrArg Boot.phase hboot).trans (if_neg hp3)
  have hphase : t.boot.phase = s.boot.phase := by
    unfold Phase.awake at hawake
    split at hawake
    · exact absurd hawake.symm hwarm
    · exact hawake
  calc t.boot = { ({ t.boot with phase := t.boot.phase.awake } : Boot) with phase := t.boot.phase } := rfl
    _ = { ({ s.boot with phase := s.boot.phase.awake } : Boot) with phase := s.boot.phase } := by rw [hboot, hphase]
    _ = s.boot := rfl

theorem State.pins_of_rom {s t : State} (h : t.rom = s.rom) : t.pins = s.pins := congrArg Prod.snd h

theorem State.fuses_of_rom {s t : State} (h : t.rom = s.rom) : t.boot.fuses = s.boot.fuses := congrArg (fun r => r.1.fuses) h

theorem State.flash_of_rom {s t : State} (h : t.rom = s.rom) : t.boot.flash = s.boot.flash := congrArg (fun r => r.1.flash) h

theorem State.coldResets_of_rom {s t : State} (h : t.rom = s.rom) : t.boot.coldResets = s.boot.coldResets :=
  congrArg (fun r => r.1.coldResets) h

/-! ### The steps of a boot (R494, R496) -/

theorem State.rom_congr {s t : State} (hboot : t.boot = s.boot) (hpins : t.pins = s.pins) : t.rom = s.rom := by
  rw [State.rom, State.rom, hboot, hpins]

/-- Clocks are the dies' alone. -/
theorem State.applyClock_rest (s : State) (d : Nat) : s.applyClock d = { s with dies := (s.applyClock d).dies } := by
  unfold State.applyClock
  dsimp only
  split
  · rfl
  · split <;> rfl

theorem State.applyClocks_rest (s : State) : s.applyClocks = { s with dies := s.applyClocks.dies } := by
  unfold State.applyClocks
  generalize List.range 4 = l
  induction l generalizing s with
  | nil => rfl
  | cons d l ih => rw [List.foldl_cons, ih (s.applyClock d), s.applyClock_rest d]

theorem State.applyClock_rom (s : State) (d : Nat) : (s.applyClock d).rom = s.rom := by
  rw [State.applyClock_rest]
  exact State.rom_congr rfl rfl

theorem State.applyClocks_rom (s : State) : s.applyClocks.rom = s.rom := by
  rw [State.applyClocks_rest]
  exact State.rom_congr rfl rfl

theorem State.shedAtBoot_rom (s : State) : s.shedAtBoot.rom = s.rom := by
  unfold State.shedAtBoot
  split
  · rfl
  · refine (State.signal_rom _ _ _).trans ?_
    refine (State.timerBlind_rom.objs _ _).trans ?_
    exact State.applyClocks_rom _

theorem State.loadRecord_rom (s : State) (b : List Byte) : (s.loadRecord b).rom = s.rom :=
  List.foldlRecOn rwpObjs _ (motive := fun a : State × Nat => a.1.rom = s.rom) rfl fun _ ha _ _ => ha

theorem State.loadStore_rom (s : State) : s.loadStore.rom = s.rom := by
  unfold State.loadStore
  dsimp only
  split
  · rw [State.timerBlind_rom.setCnt, State.timerBlind_rom.setCnt, State.loadRecord_rom]
    rfl
  · rw [State.signal_rom, State.timerBlind_rom.setCnt, State.timerBlind_rom.setCnt]
    rfl

theorem State.noteFlash_rom (s : State) (flash : Option (List Byte)) : (s.noteFlash flash).rom = s.rom := by
  cases flash with
  | none => rfl
  | some img => exact State.rom_congr (State.setObj_boot _ _ _ _) (State.setObj_pins _ _ _ _)

theorem State.testUnits_rom (s : State) (good : List Nat) : (s.testUnits good).rom = s.rom := by
  unfold State.testUnits
  dsimp only
  rw [State.foldl_keeps State.rom]
  · exact State.rom_congr rfl rfl
  · intro t p
    split
    · rfl
    · exact State.rom_congr rfl rfl

theorem State.addWear_rom (s : State) (d n : Nat) : (s.addWear d n).rom = s.rom := by
  unfold State.addWear
  dsimp only
  split
  · refine (State.applyClock_rom _ _).trans ((State.timerBlind_rom.deductPermanent _ _ _).trans ((State.signal_rom _ _ _).trans rfl))
  · rfl

theorem State.disableLinks_rom (s : State) : s.disableLinks.rom = s.rom := by
  unfold State.disableLinks
  rw [State.foldl_keeps State.rom]
  intro t n
  split
  · exact State.signal_rom _ _ _
  · rfl

theorem State.rom_withPower (s : State) (p : Power) : ({ s with power := p } : State).rom = s.rom := rfl

theorem State.afterBoot_rom (s : State) : s.afterBoot.rom = s.rom := by
  have hwear : ((List.range 4).foldl (fun t d => State.addWear t d 600) s).rom = s.rom := by
    rw [State.foldl_keeps State.rom]
    exact fun t d => t.addWear_rom d 600
  unfold State.afterBoot
  dsimp only
  rw [State.disableLinks_rom, State.timerBlind_rom.requestJobPin, State.timerBlind_rom.requestJobPin, State.timerBlind_rom.requestWindows,
    State.rom_withPower]
  split
  · rfl
  · exact hwear

theorem State.zeroDevice_rom (s : State) (keep : Bool) :
    (s.zeroDevice keep).rom = ({ s with boot := { s.boot with staging := s.num 0x4806 1 } } : State).rom := by
  have hput (u : PageUse) (t : State) (p : Nat) :
      (if (t.hbmPage p).use = .free then t.setHbmPage p { t.hbmPage p with use := u } else t).rom = t.rom := by
    split
    · exact State.rom_congr rfl rfl
    · rfl
  unfold State.zeroDevice
  dsimp only
  rw [State.foldl_keeps State.rom (hput .firmware), State.foldl_keeps State.rom (hput .staging)]
  exact State.rom_congr rfl rfl

theorem State.zeroDevice_keeps (s : State) (keep : Bool) : (s.zeroDevice keep).boot.fuses = s.boot.fuses
    ∧ (s.zeroDevice keep).boot.coldResets = s.boot.coldResets ∧ (s.zeroDevice keep).pins = s.pins := by
  have hrom := s.zeroDevice_rom keep
  have hfuses := State.fuses_of_rom hrom
  have hpins := State.pins_of_rom hrom
  have hresets := State.coldResets_of_rom hrom
  exact ⟨hfuses, hresets, hpins⟩

/-- The state in which the firmware starts: its cores run the image. -/
def State.firmwareIn (s : State) (img : List Byte) : State :=
  let s := s.setObj 0x1003 2 (.num (imageVersion img))
  let s := s.setObj 0x1003 3 (.blob (imageDigest img))
  let s := s.setSlots (imageDigest img)
  let s := (s.loadConfig.loadSettings).leaveOrdered
  let s := { s with
    cores := (List.range 4).map (fun k => (k, { Core.zero with pc := imgNat img 16 4, running := true })),
    boot := { s.boot with phase := .running, image := img, deviceId := s.num 0x1004 1 / 8 * 8 + s.straps % 8,
                          fetched := [], got := [], requests := 0, restartWait := false },
    fault := { s.fault with watchdogOn := true, lastKick := s.stamp } }
  s.setCnt 0x7801 3 ((s.stamp - s.boot.bootStart) / ms)

theorem State.startFirmware_eq (s : State) (img : List Byte) : s.startFirmware img = (s.firmwareIn img).recoveryOff.afterBoot := rfl

/-- The settings of the store leave the boot. -/
theorem State.loadSettings_boot (s : State) : s.loadSettings.boot = s.boot := by
  unfold State.loadSettings
  dsimp only
  split <;> rfl

theorem State.loadSettings_pins (s : State) : s.loadSettings.pins = s.pins := by
  unfold State.loadSettings
  dsimp only
  split <;> rfl

/-- What the firmware finds of the boot. -/
theorem State.firmwareIn_boot (s : State) (img : List Byte) :
    (s.firmwareIn img).boot.phase = .running ∧ (s.firmwareIn img).boot.image = img ∧ (s.firmwareIn img).boot.fuses = s.boot.fuses
    ∧ (s.firmwareIn img).boot.coldResets = s.boot.coldResets ∧ (s.firmwareIn img).pins = s.pins := by
  unfold State.firmwareIn
  dsimp only
  generalize hv : State.loadConfig _ = v
  have hboot : v.boot.fuses = s.boot.fuses ∧ v.boot.coldResets = s.boot.coldResets ∧ v.pins = s.pins := by
    rw [← hv]
    exact ⟨rfl, rfl, rfl⟩
  obtain ⟨hfuses, hresets, hpins⟩ := hboot
  exact ⟨rfl, rfl, (congrArg Boot.fuses v.loadSettings_boot).trans hfuses, (congrArg Boot.coldResets v.loadSettings_boot).trans hresets,
    v.loadSettings_pins.trans hpins⟩

/-- The firmware runs. -/
theorem State.startFirmware_runs (s : State) (img : List Byte) :
    (s.startFirmware img).boot.phase = .running ∧ (s.startFirmware img).boot.image = img ∧ (s.startFirmware img).boot.fuses = s.boot.fuses
    ∧ (s.startFirmware img).boot.coldResets = s.boot.coldResets ∧ (s.startFirmware img).pins = s.pins := by
  obtain ⟨hphase, himage, hfuses, hresets, hpins⟩ := s.firmwareIn_boot img
  have hrom : (s.startFirmware img).rom = (s.firmwareIn img).rom := (State.afterBoot_rom _).trans (State.timerBlind_rom.recoveryOff _)
  have hboot := State.boot_of_rom hrom (by rw [hphase]; decide) (by rw [hphase]; decide)
  rw [hboot, State.pins_of_rom hrom]
  exact ⟨hphase, himage, hfuses, hresets, hpins⟩

/-- A recovery fetch runs. -/
theorem State.startRecovery_fetches (s : State) (code source : Nat) :
    (s.startRecovery code source).boot.phase = .recovery ∧ (s.startRecovery code source).boot.source = source
    ∧ (s.startRecovery code source).boot.fuses = s.boot.fuses ∧ (s.startRecovery code source).boot.coldResets = s.boot.coldResets
    ∧ (s.startRecovery code source).pins = s.pins := by
  have hrom : (((s.setCnt 0x7801 2 code).setCnt 0x7801 1 source).recoveryOn).rom = s.rom := State.timerBlind_rom.recoveryOn _
  have hfuses := State.fuses_of_rom hrom
  have hresets : (((s.setCnt 0x7801 2 code).setCnt 0x7801 1 source).recoveryOn).boot.coldResets = s.boot.coldResets :=
    State.coldResets_of_rom hrom
  have hpins := State.pins_of_rom hrom
  exact ⟨rfl, rfl, hfuses, hresets, hpins⟩

/-- An image that the checks pass runs; any other starts a recovery fetch. -/
theorem State.bootImage_spec (s : State) (img : List Byte) (keep : Bool) :
    (s.bootImage img keep).boot.phase = (if checkImage s.boot.fuses img = 0 then .running else .recovery)
    ∧ (checkImage s.boot.fuses img = 0 → (s.bootImage img keep).boot.image = img)
    ∧ (s.bootImage img keep).boot.fuses = s.boot.fuses ∧ (s.bootImage img keep).boot.coldResets = s.boot.coldResets
    ∧ (s.bootImage img keep).pins = s.pins := by
  unfold State.bootImage
  dsimp only
  split
  next hgood =>
    obtain ⟨hphase, himage, hfuses, hresets, hpins⟩ := ((s.setCnt 0x7801 1 s.boot.source).zeroDevice keep).startFirmware_runs img
    obtain ⟨hfuses', hresets', hpins'⟩ := (s.setCnt 0x7801 1 s.boot.source).zeroDevice_keeps keep
    exact ⟨hphase, fun _ => himage, hfuses.trans hfuses', hresets.trans hresets', hpins.trans hpins'⟩
  next hbad =>
    obtain ⟨hphase, -, hfuses, hresets, hpins⟩ := s.startRecovery_fetches (checkImage s.boot.fuses img) 1
    exact ⟨hphase, fun h => absurd h hbad, hfuses, hresets, hpins⟩

/-! ### Warm boot and cold boot (R494 to R496) -/

/-- The state in which a warm boot takes up its image. -/
def State.warmStart (s : State) : State :=
  let s := ((s.setObj 0x7801 1 (.num 0)).setCnt 0x7801 2 0).setObj 0x7820 2 (.blob (zeroBytes 384))
  { s with boot := { s.boot with source := 0, failCode := 0, bootStart := s.cnt 0x7101 3, debug := s.boot.debugNext, warm := true } }

theorem State.warmStart_keeps (s : State) :
    s.warmStart.boot.fuses = s.boot.fuses ∧ s.warmStart.boot.flash = s.boot.flash ∧ s.warmStart.pins = s.pins := by
  unfold State.warmStart
  simp only [State.setObj_boot, State.setCnt_boot, State.setObj_pins, State.setCnt_pins, and_self]

/-- What a warm boot finds before it starts: after P3 no HBM, the device in P0, and shed where SHED_N is low. -/
def State.warmFound (s : State) : State :=
  let s := if s.power.device = 3 then s.zeroRange hbmBase hbmEnd else s
  ({ s with power := { s.power with device := 0, waking := false } } : State).shedAtBoot

theorem State.warmFound_rom (s : State) : s.warmFound.rom = s.rom := by
  unfold State.warmFound
  dsimp only
  rw [State.shedAtBoot_rom, State.rom_withPower]
  split
  · rfl
  · rfl

theorem State.warmBoot_eq {s : State} (h : s.boot.phase = .warmBoot) :
    s.warmBoot = s.warmFound.warmStart.bootImage s.warmFound.warmStart.boot.flash true :=
  if_neg (by rw [h]; decide)

/-- A warm boot runs the flash's image where it is good. -/
theorem State.warmBoot_spec {s : State} (h : s.boot.phase = .warmBoot) :
    s.warmBoot.boot.phase = (if checkImage s.boot.fuses s.boot.flash = 0 then .running else .recovery) ∧ s.warmBoot.pins = s.pins := by
  have hrom := s.warmFound_rom
  obtain ⟨hfuses, hflash, hpins⟩ := s.warmFound.warmStart_keeps
  obtain ⟨hphase, -, -, -, hp⟩ := State.bootImage_spec s.warmFound.warmStart s.warmFound.warmStart.boot.flash true
  rw [State.warmBoot_eq h, hphase, hp, hfuses, hflash, hpins, State.fuses_of_rom hrom, State.flash_of_rom hrom, State.pins_of_rom hrom]
  exact ⟨rfl, rfl⟩

/-- A power-up's cause, and the log entry of a strap with no meaning. -/
def State.noteStart (s : State) : State :=
  let s := if s.cnt 0x7101 2 = 0 then s.setCnt 0x7101 2 0x0713 else s
  if bits s.straps 4 3 = 3 then s.log { code := 0x070C } else s

theorem State.noteStart_rom (s : State) : s.noteStart.rom = s.rom := by
  have hcause : (if s.cnt 0x7101 2 = 0 then s.setCnt 0x7101 2 0x0713 else s).rom = s.rom := by
    split
    · exact State.timerBlind_rom.setCnt _ _ _ _
    · rfl
  unfold State.noteStart
  dsimp only
  generalize (if s.cnt 0x7101 2 = 0 then s.setCnt 0x7101 2 0x0713 else s) = t at hcause
  split
  · rw [State.timerBlind_rom.log, hcause]
  · exact hcause

/-- The state in which the boot ROM has sampled and slots 0 and 2 are filled. -/
def State.romReady (s : State) (env : BootEnv) : State :=
  ((((s.sample env).enterOrdered 1).noteFlash env.flash).testUnits env.goodUnits).romSlots.shedAtBoot.noteStart

theorem State.bootRom_eq (s : State) (env : BootEnv) :
    s.bootRom env = if !env.rngPass then (s.romReady env).stopBoot
      else if (s.romReady env).bootStrap = 2 then (s.romReady env).holdBoot else (s.romReady env).bootFrom := rfl

/-- What the boot ROM has sampled. -/
structure State.Sampled (s : State) (env : BootEnv) (t : State) : Prop where
  phase : t.boot.phase = s.boot.phase
  straps : t.boot.straps = env.straps % 64
  fuses : t.boot.fuses = env.fuses.getD s.boot.fuses
  flash : t.boot.flash = env.flash.getD s.boot.flash
  coldResets : t.boot.coldResets = (s.boot.coldResets + 1) % 2 ^ 32
  resetN : t.pins.resetN = true

theorem State.sample_sampled (s : State) (env : BootEnv) : s.Sampled env (s.sample env) := ⟨rfl, rfl, rfl, rfl, rfl, rfl⟩

/-- A boot that starts in cold reset is not changed by what leaves its view. -/
theorem State.Sampled.of_rom {s t v : State} {env : BootEnv} (h : s.Sampled env t) (hcold : s.boot.phase = .coldReset) (hrom : v.rom = t.rom) :
    s.Sampled env v := by
  have hphase : t.boot.phase = .coldReset := h.phase.trans hcold
  have hboot : v.boot = t.boot := State.boot_of_rom hrom (by rw [hphase]; decide) (by rw [hphase]; decide)
  obtain ⟨h1, h2, h3, h4, h5, h6⟩ := h
  exact ⟨hboot ▸ h1, hboot ▸ h2, hboot ▸ h3, hboot ▸ h4, hboot ▸ h5, State.pins_of_rom hrom ▸ h6⟩

theorem State.romSlots_sampled {s t : State} {env : BootEnv} (h : s.Sampled env t) : s.Sampled env t.romSlots :=
  ⟨h.phase, h.straps, h.fuses, h.flash, h.coldResets, h.resetN⟩

theorem State.romReady_sampled {s : State} (env : BootEnv) (hcold : s.boot.phase = .coldReset) : s.Sampled env (s.romReady env) := by
  have hfound : s.Sampled env ((((s.sample env).enterOrdered 1).noteFlash env.flash).testUnits env.goodUnits) := by
    refine (s.sample_sampled env).of_rom hcold ?_
    rw [State.testUnits_rom, State.noteFlash_rom]
    rfl
  exact ((State.romSlots_sampled hfound).of_rom hcold (State.shedAtBoot_rom _)).of_rom hcold (State.noteStart_rom _)

theorem State.stopBoot_spec (s : State) :
    s.stopBoot.boot = { s.boot with phase := .rngStopped, rngBad := true } ∧ s.stopBoot.pins = s.pins := by
  have hrom : s.stopBoot.rom = ({ s with boot := { s.boot with phase := .rngStopped, rngBad := true } } : State).rom := by
    unfold State.stopBoot
    dsimp only
    rw [State.timerBlind_rom.requestUnit, State.foldl_keeps State.rom]
    exact fun t _ => (State.signal_rom _ _ _).trans (State.timerBlind_rom.objs _ _)
  have hboot := State.boot_of_rom hrom nofun nofun
  have hpins := State.pins_of_rom hrom
  exact ⟨hboot, hpins⟩

/-- Step 5 onward, as the strap says. -/
theorem State.bootFrom_spec (s : State) :
    s.bootFrom.boot.fuses = s.boot.fuses ∧ s.bootFrom.boot.coldResets = s.boot.coldResets ∧ s.bootFrom.pins = s.pins
    ∧ (s.bootStrap = 1 → s.bootFrom.boot.phase = .recovery ∧ s.bootFrom.boot.source = 2)
    ∧ (s.bootStrap ≠ 1 → checkImage s.boot.fuses s.boot.flash = 0 → s.bootFrom.boot.phase = .running ∧ s.bootFrom.boot.image = s.boot.flash) := by
  have hrom := s.loadStore_rom
  have hfuses := State.fuses_of_rom hrom
  have hflash := State.flash_of_rom hrom
  have hresets := State.coldResets_of_rom hrom
  have hpins := State.pins_of_rom hrom
  have hstraps : s.loadStore.boot.straps = s.boot.straps := congrArg (fun r => r.1.straps) hrom
  have hstrap : s.loadStore.bootStrap = s.bootStrap := by rw [State.bootStrap, State.bootStrap, State.straps, State.straps, hstraps]
  unfold State.bootFrom
  dsimp only
  rw [hstrap]
  split
  next h1 =>
    obtain ⟨hphase, hsource, hf, hr, hp⟩ := s.loadStore.startRecovery_fetches 0 2
    exact ⟨hf.trans hfuses, hr.trans hresets, hp.trans hpins, fun _ => ⟨hphase, hsource⟩, fun h => absurd h1 h⟩
  next h1 =>
    obtain ⟨hphase, himage, hf, hr, hp⟩ := s.loadStore.bootImage_spec s.loadStore.boot.flash false
    refine ⟨hf.trans hfuses, hr.trans hresets, hp.trans hpins, fun h => absurd h h1, fun _ hgood => ?_⟩
    have hgood' : checkImage s.loadStore.boot.fuses s.loadStore.boot.flash = 0 := by rw [hfuses, hflash]; exact hgood
    exact ⟨by rw [hphase, if_pos hgood'], (himage hgood').trans hflash⟩

/-! ### Boot commands (R493 to R499) -/

/-- The two strap bits lie within the six sampled ones. -/
theorem bits_straps (n : Nat) : bits (n % 64 % 64) 4 3 = bits n 4 3 := by
  simp only [bits, Nat.shiftRight_eq_div_pow]
  omega

theorem get_drawn (l : List Nat) (k c : Nat) (a : Sparse Nat) :
    Assoc.get 0 ((l.zipIdx k).foldl (fun a e => Assoc.set 0 a e.2 (e.1 % 65536)) a) c
      = if k ≤ c ∧ c < k + l.length then nth 0 l (c - k) % 65536 else Assoc.get 0 a c := by
  induction l generalizing k a with
  | nil => simp
  | cons x l ih =>
    rw [List.zipIdx_cons, List.foldl_cons, ih]
    by_cases hk : c = k
    · subst hk
      simp [nth]
    · by_cases hin : k + 1 ≤ c ∧ c < k + 1 + l.length
      · have hat : c - k = (c - (k + 1)) + 1 := by omega
        rw [if_pos hin, if_pos (by rw [List.length_cons]; omega), hat]
        rfl
      · rw [if_neg hin, if_neg (by rw [List.length_cons]; omega), Assoc.get_set_ne _ _ _ hk]

theorem State.drawEpochs_epoch (s : State) {l : List Nat} {c : Nat} (hc : c < l.length) (hmax : c < 4096) :
    (s.drawEpochs l).epoch c = nth 0 l c % 65536 := by
  have hdrawn := get_drawn (l.take 4096) 0 c []
  have hin : 0 ≤ c ∧ c < 0 + (l.take 4096).length := by
    rw [List.length_take]
    omega
  rw [if_pos hin] at hdrawn
  refine hdrawn.trans ?_
  simp [nth, hmax]

theorem exec_coldBoot_boots {dt : Nat} {env : BootEnv} {s : State} (hcold : (s.elapse dt).boot.phase = .coldReset) (hpower : env.powered = true)
    (href : (s.elapse dt).pins.refLost = false) :
    exec (.coldBoot dt env) s = .next (((s.elapse dt).bootRom env).drawEpochs (if env.rngPass then env.epochDraws else [])) :=
  congrArg Host.Outcome.next (if_pos ⟨hcold, hpower, href⟩)

/-- A cold boot, by what its ROM found. -/
theorem State.bootRom_spec {s : State} (env : BootEnv) (hcold : s.boot.phase = .coldReset) :
    let t := s.bootRom env
    t.boot.coldResets = (s.boot.coldResets + 1) % 2 ^ 32 ∧ t.boot.fuses = env.fuses.getD s.boot.fuses ∧ t.pins.resetN = true
    ∧ (env.rngPass = false → t.boot.phase = .rngStopped ∧ t.boot.rngBad = true)
    ∧ (env.rngPass = true → bits env.straps 4 3 = 2 → t.boot.phase = .hold)
    ∧ (env.rngPass = true → bits env.straps 4 3 = 1 → t.boot.phase = .recovery ∧ t.boot.source = 2)
    ∧ (env.rngPass = true → bits env.straps 4 3 = 0 → checkImage (env.fuses.getD s.boot.fuses) (env.flash.getD s.boot.flash) = 0 →
        t.boot.phase = .running ∧ t.boot.image = env.flash.getD s.boot.flash) := by
  obtain ⟨-, hstraps, hfuses, hflash, hresets, hpins⟩ := State.romReady_sampled env hcold
  have hstrap : (s.romReady env).bootStrap = if bits env.straps 4 3 = 3 then 0 else bits env.straps 4 3 := by
    rw [State.bootStrap, State.straps, hstraps, bits_straps]
  dsimp only
  rw [State.bootRom_eq]
  generalize s.romReady env = r at hstrap hfuses hflash hresets hpins
  cases hpass : env.rngPass
  · obtain ⟨hboot, hp⟩ := r.stopBoot_spec
    refine ⟨?_, ?_, ?_, fun _ => ⟨?_, ?_⟩, nofun, nofun, nofun⟩
    · exact (congrArg Boot.coldResets hboot).trans hresets
    · exact (congrArg Boot.fuses hboot).trans hfuses
    · exact (congrArg Pins.resetN hp).trans hpins
    · exact congrArg Boot.phase hboot
    · exact congrArg Boot.rngBad hboot
  · rw [if_neg (by decide)]
    by_cases h2 : r.bootStrap = 2
    · rw [if_pos h2]
      rw [h2] at hstrap
      refine ⟨hresets, hfuses, hpins, nofun, fun _ _ => rfl, fun _ h1 => ?_, fun _ h0 _ => ?_⟩
      · rw [h1] at hstrap
        exact absurd hstrap (by decide)
      · rw [h0] at hstrap
        exact absurd hstrap (by decide)
    · rw [if_neg h2]
      obtain ⟨hf, hr, hp, hrecover, hruns⟩ := r.bootFrom_spec
      refine ⟨hr.trans hresets, hf.trans hfuses, (congrArg Pins.resetN hp).trans hpins, nofun, fun _ hs => ?_, fun _ hs => hrecover ?_,
        fun _ hs hgood => ?_⟩
      · rw [hs] at hstrap
        exact absurd hstrap h2
      · rw [hstrap, hs]
        rfl
      · rw [← hflash]
        refine hruns ?_ ?_
        · rw [hstrap, hs]
          decide
        · rw [hfuses, hflash]
          exact hgood

/-- How BOOT_CTL leaves the hold: from the flash, by a recovery fetch, or not at all. -/
def State.leaveHold (s : State) (v : Nat) : State :=
  if v % 4 = 1 then s.loadStore.bootImage s.loadStore.boot.flash false
  else if v % 4 = 2 then s.loadStore.startRecovery 0 2
  else s

theorem exec_bootCtlUpdate_hold {dt v : Nat} {p : Placement} {s : State} (hhold : (s.elapse dt).boot.phase = .hold) :
    exec (.bootCtlUpdate dt v p) s = .next ((s.elapse dt).leaveHold v) := by
  refine congrArg Host.Outcome.next ((if_pos hhold).trans ?_)
  unfold State.leaveHold
  split
  next h1 => rw [if_pos h1]
  next h2 => rw [if_neg (by rw [h2]; decide), if_pos h2]
  next hn1 hn2 => rw [if_neg hn1, if_neg hn2]

/-- A request of a fetch counts, with its stamp. -/
theorem State.recoveryRequest_spec (s : State) :
    s.recoveryRequest.boot = { s.boot with requests := s.boot.requests + 1, requestStamp := s.stamp } ∧ s.recoveryRequest.mem = s.mem :=
  ⟨rfl, rfl⟩

theorem State.fetching_phase {s : State} (h : s.fetching = true) : s.boot.phase = .recovery ∨ s.boot.phase = .running := by
  unfold State.fetching at h
  split at h
  next hphase => exact .inl hphase
  next hphase => exact .inr hphase
  next => exact absurd h Bool.false_ne_true

/-- The request that a time-out makes, with the log entry of the thirtieth. -/
theorem State.retryRequest_spec {s : State} (h : s.fetching = true) :
    (if s.boot.requests = 30 then s.log { code := 0x070D } else s).recoveryRequest.boot
        = { s.boot with requests := s.boot.requests + 1, requestStamp := s.stamp }
    ∧ (if s.boot.requests = 30 then s.log { code := 0x070D } else s).recoveryRequest.mem = s.mem := by
  split
  · have hp3 : s.boot.phase ≠ .p3 := by rcases s.fetching_phase h with hr | hr <;> rw [hr] <;> decide
    have hwarm : s.boot.phase ≠ .warmBoot := by rcases s.fetching_phase h with hr | hr <;> rw [hr] <;> decide
    have hboot := State.boot_of_rom (State.timerBlind_rom.log s { code := 0x070D }) hp3 hwarm
    have hstand := s.log_standing { code := 0x070D }
    have hstamp : (s.log { code := 0x070D }).stamp = s.stamp := congrArg Prod.fst hstand
    obtain ⟨hb, hm⟩ := (s.log { code := 0x070D }).recoveryRequest_spec
    rw [hb, hm, hboot, hstamp, State.mem_of_standing hstand]
    exact ⟨rfl, rfl⟩
  · exact s.recoveryRequest_spec

/-- Settles O57: the ROM's ways, the hold's, and the fetch's requests. -/
theorem bootRuns : Obligations.BootRuns := by
  rintro dt s _ rfl
  refine ⟨fun env hcold hpower href => ?_, fun v p hhold => ⟨_, exec_bootCtlUpdate_hold hhold, ?_, ?_, ?_⟩, fun m htakes => ?_,
    fun hfetching hdue => ?_, fun hphase hwait hdue => ?_⟩
  · refine ⟨_, exec_coldBoot_boots hcold hpower href, ?_⟩
    obtain ⟨hresets, hfuses, hpins, hstops, hhold, hrecover, hruns⟩ := State.bootRom_spec env hcold
    refine ⟨hresets, hfuses, hpins, hstops, hhold, hrecover, fun hpass hstrap hgood => ?_⟩
    obtain ⟨hphase, himage⟩ := hruns hpass hstrap hgood
    refine ⟨hphase, himage, fun c hc hmax => ?_⟩
    rw [if_pos hpass]
    exact State.drawEpochs_epoch _ hc hmax
  · intro h1
    have hrom := (s.elapse dt).loadStore_rom
    rw [State.leaveHold, if_pos h1, (State.bootImage_spec _ _ _).1, State.fuses_of_rom hrom, State.flash_of_rom hrom]
  · intro h2
    rw [State.leaveHold, if_neg (by rw [h2]; decide), if_pos h2]
    exact (State.startRecovery_fetches _ 0 2).1
  · rintro (h0 | h3)
    · rw [State.leaveHold, if_neg (by rw [h0]; decide), if_neg (by rw [h0]; decide)]
    · rw [State.leaveHold, if_neg (by rw [h3]; decide), if_neg (by rw [h3]; decide)]
  · intro b hmore
    refine congrArg Host.Outcome.next ((if_pos htakes).trans ?_)
    exact if_neg (by rw [Bool.not_eq_true]; exact hmore)
  · exact ⟨_, congrArg Host.Outcome.next (if_pos ⟨hfetching, hdue⟩), State.retryRequest_spec hfetching⟩
  · exact ⟨_, congrArg Host.Outcome.next (if_pos ⟨hphase, hwait, hdue⟩), rfl, rfl⟩

end Sys2Proof.Machine
end

section
/-! PROOFS. Entry to resets, and what pends through them (R473, R474, R528). -/

namespace Sys2Proof.Machine

/-! ### Entry to warm and cold reset (R473, R474) -/

theorem State.stamp_of_standing {s t : State} (h : t.standing = s.standing) : t.stamp = s.stamp := congrArg Prod.fst h

theorem State.peerResetOn_standing (s : State) (n reset : Nat) : (s.peerResetOn n reset).standing = s.standing := by
  unfold State.peerResetOn
  dsimp only
  rw [State.bump_standing, State.onLink_standing]
  rfl

theorem State.peerResetTo_standing (s : State) (l : List Nat) (reset : Nat) : (s.peerResetTo l reset).standing = s.standing := by
  unfold State.peerResetTo
  rw [State.foldl_keeps State.standing]
  intro t d
  split
  · rfl
  · exact t.fabSend_standing _ _ _ _

theorem State.announce_standing (s : State) : s.announce.standing = s.standing := by
  unfold State.announce
  dsimp only
  rw [State.peerResetTo_standing, State.foldl_keeps State.standing]
  exact fun t n => t.peerResetOn_standing n t.deviceId

theorem State.loseDirty_stamp (s : State) (l : List LoftLine) : (s.loseDirty l).stamp = s.stamp := by
  have hblind : State.StoreBlind State.stamp := ⟨fun _ _ => rfl, fun _ _ => rfl⟩
  unfold State.loseDirty
  rw [State.foldl_keeps State.stamp]
  intro t x
  split
  · exact hblind.writeBytes t _ _
  · rfl

theorem State.warmFlush_stamp (s : State) : s.warmFlush.stamp = s.stamp := State.loseDirty_stamp _ _

theorem State.startDump_standing (s : State) (cause : Nat) : (s.startDump cause).standing = s.standing := by
  unfold State.startDump
  split
  · rw [State.log_standing, State.bump_standing, State.countRefusal_standing]
  · have hheld := s.requestUnit_standing 1 .crashDump 2
    dsimp only
    generalize (s.requestUnit 1 .crashDump 2).1 = t at hheld
    show (t.stamp, t.mem, t.ctxs, t.engines) = s.standing
    exact hheld

/-- The state in which a warm reset clears: announced, dumped, logged. -/
def State.warmLogged (s : State) (cause : Nat) (announced dump : Bool) : State :=
  let s := if announced then s.announce else s
  let s := s.warmFlush
  let s := if dump then s.startDump cause else s
  let s := (s.log { code := cause, severity := 4, unitKind := 8, action := 5 }).recoveryOn
  (s.setCnt 0x7101 2 cause).setCnt 0x7101 3 s.stamp

theorem State.enterWarmReset_eq {s : State} (h : s.boot.phase = .running ∨ s.boot.phase = .p3) (cause : Nat) (announced dump : Bool) :
    let v := s.warmLogged cause announced dump
    s.enterWarmReset cause announced dump
      = { v.warmClear.failTest (v.fault.selfTest == 1) with
          boot := { (v.warmClear.failTest (v.fault.selfTest == 1)).boot with phase := .warmBoot } } := by
  rcases h with h | h <;> rw [State.enterWarmReset, h] <;> rfl

theorem State.warmLogged_cause (s : State) (cause : Nat) (announced dump : Bool) :
    (s.warmLogged cause announced dump).cnt 0x7101 2 = cause ∧ (s.warmLogged cause announced dump).cnt 0x7101 3 = s.stamp := by
  have hannounced : (if announced = true then s.announce else s).stamp = s.stamp := by
    split
    · exact State.stamp_of_standing s.announce_standing
    · rfl
  unfold State.warmLogged
  dsimp only
  generalize (if announced = true then s.announce else s) = a at hannounced
  have hdumped : (if dump = true then a.warmFlush.startDump cause else a.warmFlush).stamp = s.stamp := by
    split
    · exact (State.stamp_of_standing (State.startDump_standing _ _)).trans (a.warmFlush_stamp.trans hannounced)
    · exact a.warmFlush_stamp.trans hannounced
  generalize (if dump = true then a.warmFlush.startDump cause else a.warmFlush) = b at hdumped
  have hlogged : (b.log { code := cause, severity := 4, unitKind := 8, action := 5 }).recoveryOn.stamp = s.stamp :=
    (State.stamp_of_standing ((State.recoveryOn_standing _).trans (State.log_standing _ _))).trans hdumped
  refine ⟨?_, ?_⟩
  · rw [State.setCnt_cnt_ne _ _ (by decide), State.setCnt_cnt_self]
  · rw [State.setCnt_cnt_self, hlogged]

/-- What the freeing of objects does not touch: the dictionary, the interrupt controller, the clock, the pins. -/
def State.abiding (s : State) : Sparse ObjVal × Intr × Clock × Pins := (s.objs, s.intr, s.clock, s.pins)

theorem State.freeObject_abiding (s : State) (id : Nat) : (s.freeObject id).abiding = s.abiding := by
  have hpages (o : Obj) : (s.freePages o).abiding = s.abiding := by
    unfold State.freePages
    split
    · exact State.foldl_keeps State.abiding (f := fun t p => State.zeroHbm t p) (fun _ _ => rfl) _ s
    · exact State.foldl_keeps State.abiding (f := fun t p => State.zeroSill t p) (fun _ _ => rfl) _ s
  exact hpages (s.object id)

theorem State.closeAll_abiding (s : State) : s.closeAll.clearBench.abiding = s.abiding := by
  have hsill (t : State) : t.warmSill.abiding = t.abiding := by
    unfold State.warmSill
    rw [State.foldl_keeps State.abiding]
    intro v e
    split
    · exact v.freeObject_abiding _
    · rfl
  exact hsill { s with stale := [] }

theorem State.closeAll_objs (s : State) : s.closeAll.clearBench.objs = s.objs := congrArg Prod.fst s.closeAll_abiding

theorem State.closeAll_intr (s : State) : s.closeAll.clearBench.intr = s.intr := congrArg (fun x => x.2.1) s.closeAll_abiding

theorem State.closeAll_clock (s : State) : s.closeAll.clearBench.clock = s.clock := congrArg (fun x => x.2.2.1) s.closeAll_abiding

theorem State.closeAll_pins (s : State) : s.closeAll.clearBench.pins = s.pins := congrArg (fun x => x.2.2.2) s.closeAll_abiding

/-- A count that no reset clears is kept. -/
theorem State.warmFields_cnt (s : State) {i k : Nat} (h : keptObject (objKey i k / 256) (objKey i k % 256) = true) :
    s.warmFields.cnt i k = s.cnt i k := by
  have hfilter := Assoc.get_filter_key (.num 0) s.closeAll.clearBench.objs (fun x => keptObject (x / 256) (x % 256)) (objKey i k)
  have hobjs : s.warmFields.objs = s.closeAll.clearBench.objs.filter (fun e => keptObject (e.1 / 256) (e.1 % 256)) := rfl
  rw [State.cnt, hobjs, hfilter, if_pos h, s.closeAll_objs, State.cnt]

/-- What a warm reset leaves: nothing of contexts, sessions, engines and benches, the cause and the stamp. -/
theorem State.enterWarmReset_spec {s : State} (h : s.boot.phase = .running ∨ s.boot.phase = .p3) (cause : Nat) (announced dump : Bool) :
    (s.enterWarmReset cause announced dump).boot.phase = .warmBoot ∧ (s.enterWarmReset cause announced dump).cnt 0x7101 2 = cause
    ∧ (s.enterWarmReset cause announced dump).cnt 0x7101 3 = s.stamp ∧ (s.enterWarmReset cause announced dump).WarmCleared := by
  obtain ⟨hcause, hstamp⟩ := s.warmLogged_cause cause announced dump
  rw [State.enterWarmReset_eq h]
  generalize s.warmLogged cause announced dump = v at hcause hstamp
  dsimp only
  generalize (v.fault.selfTest == 1) = ran
  have hcleared := v.warmClear_cleared
  have hrest := v.warmClear.failTest_rest ran
  have hkept (k : Nat) (hk : k = 2 ∨ k = 3) : (v.warmClear.failTest ran).cnt 0x7101 k = v.cnt 0x7101 k := by
    have hclear : v.warmClear.cnt 0x7101 k = v.cnt 0x7101 k := by
      rw [v.warmClear_latched.cnt (by rcases hk with rfl | rfl <;> decide), v.warmFields_cnt (by rcases hk with rfl | rfl <;> decide)]
    unfold State.failTest
    split
    · rw [State.setCnt_cnt_ne _ _ (by rcases hk with rfl | rfl <;> decide), State.setCnt_cnt_ne _ _ (by rcases hk with rfl | rfl <;> decide), hclear]
    · exact hclear
  have htest : (v.warmClear.failTest ran).WarmCleared := by
    rw [hrest]
    exact ⟨hcleared.ctxs, hcleared.sessions, hcleared.engines, hcleared.bench⟩
  exact ⟨rfl, (hkept 2 (.inl rfl)).trans hcause, (hkept 3 (.inr rfl)).trans hstamp, htest.ctxs, htest.sessions, htest.engines, htest.bench⟩

/-- What a cold reset leaves, by its cause. -/
theorem State.coldState_spec (s : State) (cause : Nat) :
    (s.coldState cause).boot.phase = .coldReset ∧ (s.coldState cause).cnt 0x7101 2 = cause ∧ (s.coldState cause).mem = []
    ∧ (s.coldState cause).stamp = 0 ∧ (s.coldState cause).ctxs = [] ∧ (s.coldState cause).pending = s.pending
    ∧ (s.coldState cause).sent = s.sent ∧ (s.coldState cause).boot.fuses = s.boot.fuses ∧ (s.coldState cause).boot.flash = s.boot.flash
    ∧ (s.coldState cause).pins = { Pins.reset with
        resetN := s.pins.resetN, pgSoc := s.pins.pgSoc, pgBeam := s.pins.pgBeam, shedN := s.pins.shedN, vrAlertN := s.pins.vrAlertN,
        refLost := s.pins.refLost, jtagTest := s.pins.jtagTest } :=
  ⟨rfl, State.setCnt_cnt_self _ _ _ _, rfl, rfl, rfl, rfl, rfl, rfl, rfl, rfl⟩

theorem State.enterColdReset_eq {s : State} (h : s.boot.phase ≠ .coldReset) (cause : Nat) : s.enterColdReset cause = s.coldState cause :=
  if_neg h

/-! ### What holds through requests and log entries (R51 to R58, R477) -/

/-- `P` holds through signals, counts, log entries, and every change of who holds what: requests and log entries keep it. -/
structure State.TimerStable (P : State → Prop) : Prop where
  signal {s : State} (n : Nat) (c : Option Nat) : P s → P (s.signal n c)
  objs {s : State} (o : Sparse ObjVal) : P s → P { s with objs := o }
  perf {s : State} (p : Perf) : P s → P { s with perf := p }
  fault {s : State} (f : FaultSt) : P s → P { s with fault := f }
  res {s : State} (r : Sparse ResUnit) (o : Nat) : P s → P { s with res := r, resOrder := o }
  polling {s : State} (p : Bool) : P s → P { s with sched := { s.sched with polling := p } }

namespace State.TimerStable

variable {P : State → Prop} {s : State}

theorem setCnt (h : TimerStable P) (i k n : Nat) (hs : P s) : P (s.setCnt i k n) := h.objs _ hs

theorem logEntry (h : TimerStable P) (a : LogArgs) (hs : P s) : P (s.logEntry a) := h.signal _ _ (h.fault _ hs)

theorem setResUnit (h : TimerStable P) (u : Nat) (x : ResUnit) (hs : P s) : P (s.setResUnit u x) := h.res _ s.resOrder hs

theorem grantUnit (h : TimerStable P) (u : Nat) (a : Asker) (level : Nat) (hs : P s) : P (s.grantUnit u a level) :=
  h.res _ _ (h.setResUnit u _ hs)

theorem countRefusal (h : TimerStable P) (u winner loser code : Nat) (hs : P s) : P (s.countRefusal u winner loser code) :=
  h.setCnt _ _ _ (h.setCnt _ _ _ (h.setCnt _ _ _ (h.setCnt _ _ _ (h.setCnt _ _ _ (h.setCnt _ _ _ hs)))))

theorem startPolling (h : TimerStable P) (hs : P s) : P s.startPolling := h.signal _ _ (h.setCnt _ _ _ (h.polling true hs))

theorem setSamplingRun (h : TimerStable P) (n : Nat) (r : Sampling) (hs : P s) : P (s.setSamplingRun n r) := by
  rw [State.setSamplingRun_rest]
  exact h.perf _ hs

theorem loseHooks (h : TimerStable P) (a : Asker) (hs : P s) : P (s.loseHooks a) := by
  cases a
  case sampling n => exact h.signal _ _ (h.setCnt _ _ _ (h.setSamplingRun n _ hs))
  case windows => exact h.logEntry _ (h.signal _ _ (h.setCnt _ _ _ (h.perf _ hs)))
  case remoteWait => exact h.logEntry _ (h.startPolling hs)
  case jobSignal => exact h.setCnt _ _ _ hs
  all_goals exact h.logEntry _ hs

theorem refuseHooks (h : TimerStable P) (a : Asker) (hs : P s) : P (s.refuseHooks a) := by
  cases a
  case sampling n => exact h.setSamplingRun n _ hs
  case windows => exact h.perf _ hs
  case remoteWait => exact h.startPolling hs
  case jobSignal => exact h.setCnt _ _ _ hs
  all_goals exact h.logEntry _ hs

theorem requestUnit (h : TimerStable P) (u : Nat) (a : Asker) (level : Nat) (hs : P s) : P (s.requestUnit u a level).1 := by
  unfold State.requestUnit
  split
  · exact h.grantUnit u a level hs
  · dsimp only
    split
    · exact hs
    · split
      · exact h.refuseHooks _ (h.grantUnit _ _ _ (h.setResUnit _ _ (h.countRefusal _ _ _ _ hs)))
      · split
        · exact h.loseHooks _ (h.grantUnit _ _ _ (h.setResUnit _ _ (h.countRefusal _ _ _ _ hs)))
        · exact h.countRefusal _ _ _ _ hs

theorem releaseUnit (h : TimerStable P) (u : Nat) (a : Asker) (hs : P s) : P (s.releaseUnit u a) := by
  unfold State.releaseUnit
  dsimp only
  split
  · split
    · exact h.setResUnit _ _ hs
    · exact hs
  · exact hs

theorem recoveryOn (h : TimerStable P) (hs : P s) : P s.recoveryOn := by
  unfold State.recoveryOn
  split
  · split
    · exact hs
    · exact h.requestUnit _ _ _ hs
  · exact h.requestUnit _ _ _ hs

theorem recoveryOff (h : TimerStable P) (hs : P s) : P s.recoveryOff := by
  unfold State.recoveryOff
  dsimp only
  split
  · exact hs
  · exact h.releaseUnit _ _ hs

theorem log (h : TimerStable P) (a : LogArgs) (hs : P s) : P (s.log a) := by
  have hentry := h.logEntry a hs
  unfold State.log
  dsimp only
  split
  · have hfatal := h.fault { (s.logEntry a).fault with fatalUnacked := true } hentry
    split
    · split
      · exact hfatal
      · exact h.requestUnit _ _ _ hfatal
    · exact h.requestUnit _ _ _ hfatal
  · exact hentry

theorem healthChanged (h : TimerStable P) (before : Nat) (hs : P s) : P (s.healthChanged before) := by
  unfold State.healthChanged
  split
  · exact hs
  · exact h.signal _ _ hs

theorem deductPermanent (h : TimerStable P) (key points : Nat) (hs : P s) : P (s.deductPermanent key points) :=
  h.healthChanged _ (h.fault _ hs)

theorem signalUnless (h : TimerStable P) (p : Prop) [Decidable p] (n : Nat) (hs : P s) : P (if p then s else s.signal n none) := by
  split
  · exact hs
  · exact h.signal _ _ hs

theorem signalDrops (h : TimerStable P) (v : State) (hs : P s) : P (s.signalDrops v) := by
  have hlinks := List.foldlRecOn (List.range 32)
    (fun (t : State) n => if (v.link n).state = (t.link n).state then t else t.signal (160 + n) none) (motive := P) hs
    fun t ht n _ => h.signalUnless _ _ ht
  have hports := List.foldlRecOn (List.range 16)
    (fun (t : State) n => if Assoc.get 0 v.ports n = Assoc.get 0 t.ports n then t else t.signal (192 + n) none) (motive := P) hlinks
    fun t ht n _ => h.signalUnless _ _ ht
  exact List.foldlRecOn (List.range 2)
    (fun (t : State) n => if Assoc.get 0 v.hostPorts n = Assoc.get 0 t.hostPorts n then t else t.signal (208 + n) none)
    (motive := P) hports fun t ht n _ => h.signalUnless _ _ ht

end State.TimerStable

/-- What pends goes on to pend. -/
theorem State.keepsPending_stable (s : State) : State.TimerStable s.KeepsPending where
  signal _ _ h := h.trans (State.signal_keepsPending _ _ _)
  objs _ h := h.trans (.of_intr rfl)
  perf _ h := h.trans (.of_intr rfl)
  fault _ h := h.trans (.of_intr rfl)
  res _ _ h := h.trans (.of_intr rfl)
  polling _ h := h.trans (.of_intr rfl)

/-! ### The hold of a lost reference clock (R528) -/

/-- What of a reset already under way is held: the chip's clock and the pins. -/
def State.beat (s : State) : Clock × Pins := (s.clock, s.pins)

theorem State.signal_beat (s : State) (n : Nat) (c : Option Nat) : (s.signal n c).beat = s.beat := by
  rw [State.beat, State.pins_of_rom (s.signal_rom n c), State.clock_of_network (s.signal_network n c), State.beat]

theorem State.timerBlind_beat : State.TimerBlind State.beat where
  signal := State.signal_beat
  objs _ _ := rfl
  perf _ _ := rfl
  fault _ _ := rfl
  res _ _ _ := rfl
  polling _ _ := rfl

theorem State.loseDirty_beat (s : State) (l : List LoftLine) : (s.loseDirty l).beat = s.beat := by
  have hblind : State.StoreBlind State.beat := ⟨fun _ _ => rfl, fun _ _ => rfl⟩
  unfold State.loseDirty
  rw [State.foldl_keeps State.beat]
  intro t x
  split
  · exact (State.timerBlind_beat.objs _ _).trans (hblind.writeBytes t _ _)
  · rfl

theorem State.loseDirty_intr (s : State) (l : List LoftLine) : (s.loseDirty l).intr = s.intr := by
  have hblind : State.StoreBlind State.intr := ⟨fun _ _ => rfl, fun _ _ => rfl⟩
  unfold State.loseDirty
  rw [State.foldl_keeps State.intr]
  intro t x
  split
  · exact hblind.writeBytes t _ _
  · rfl

/-- An unannounced reset without a dump leaves the clock and the pins until it clears. -/
theorem State.warmLogged_held (s : State) (cause : Nat) :
    (s.warmLogged cause false false).beat = s.beat ∧ s.KeepsPending (s.warmLogged cause false false) := by
  have hflush : s.warmFlush.beat = s.beat := State.loseDirty_beat { s with freeCtr := s.freeCtr + 1 } _
  have hintr : s.warmFlush.intr = s.intr := State.loseDirty_intr { s with freeCtr := s.freeCtr + 1 } _
  have hpend : s.KeepsPending s.warmFlush := .of_intr hintr
  have hstable := s.keepsPending_stable
  refine ⟨?_, hstable.setCnt _ _ _ (hstable.setCnt _ _ _ (hstable.recoveryOn (hstable.log _ hpend)))⟩
  unfold State.warmLogged
  dsimp only
  rw [State.timerBlind_beat.setCnt, State.timerBlind_beat.setCnt, State.timerBlind_beat.recoveryOn, State.timerBlind_beat.log]
  exact hflush

/-- The clearing of a warm reset leaves the clock's state, the pins and what pends. -/
theorem State.warmClear_held (s : State) :
    s.warmClear.clock.state = s.clock.state ∧ s.warmClear.pins = s.pins ∧ s.KeepsPending s.warmClear := by
  have hlatched := s.warmClear_latched
  have hclock : s.warmFields.clock = { s.closeAll.clearBench.clock with syncSent := none } := rfl
  have hpins : s.warmFields.pins = s.closeAll.clearBench.pins := rfl
  have hsources : s.warmFields.intr.sources = s.closeAll.clearBench.intr.sources := rfl
  have hpend : s.KeepsPending s.warmFields := ⟨fun n hn => by
    rw [State.sourceOf, hsources, s.closeAll_intr]
    exact hn⟩
  refine ⟨?_, ?_, s.keepsPending_stable.signalDrops s hpend⟩
  · rw [hlatched.rest, hclock, s.closeAll_clock]
  · rw [hlatched.rest, hpins, s.closeAll_pins]

/-- The state that a hold of the warm reset clears into, whatever ran. -/
def State.heldClear (s : State) : State :=
  match s.boot.phase with
  | .running | .p3 => s.enterWarmReset 0x0502 false false
  | _ => (s.log { code := 0x0502, severity := 4, unitKind := 8, action := 5 }).warmClear

theorem State.holdWarm_eq (s : State) :
    s.holdWarm = { (s.heldClear.setCnt 0x7101 2 0x0502).setCnt 0x7101 3 s.heldClear.stamp with
      boot := { s.heldClear.boot with phase := .warmHold } } := rfl

/-- What a hold keeps: the clock's state, the pins, what pends. -/
theorem State.heldClear_spec (s : State) :
    s.heldClear.clock.state = s.clock.state ∧ s.heldClear.pins = s.pins ∧ s.KeepsPending s.heldClear ∧ s.heldClear.WarmCleared := by
  have hentered (h : s.boot.phase = .running ∨ s.boot.phase = .p3) :
      (s.enterWarmReset 0x0502 false false).clock.state = s.clock.state ∧ (s.enterWarmReset 0x0502 false false).pins = s.pins
      ∧ s.KeepsPending (s.enterWarmReset 0x0502 false false) := by
    obtain ⟨hbeat, hpend⟩ := s.warmLogged_held 0x0502
    rw [State.enterWarmReset_eq h]
    generalize s.warmLogged 0x0502 false false = v at hbeat hpend
    obtain ⟨hstate, hpins, hpend'⟩ := v.warmClear_held
    have hrest := v.warmClear.failTest_rest (v.fault.selfTest == 1)
    dsimp only
    rw [hrest]
    exact ⟨hstate.trans (congrArg (fun x => x.1.state) hbeat), hpins.trans (congrArg Prod.snd hbeat), (hpend.trans hpend').trans (.of_intr rfl)⟩
  have hlogged : ∀ a : LogArgs, (s.log a).warmClear.clock.state = s.clock.state ∧ (s.log a).warmClear.pins = s.pins
      ∧ s.KeepsPending (s.log a).warmClear ∧ (s.log a).warmClear.WarmCleared := by
    intro a
    have hbeat := State.timerBlind_beat.log s a
    obtain ⟨hstate, hpins, hpend⟩ := (s.log a).warmClear_held
    exact ⟨hstate.trans (congrArg (fun x => x.1.state) hbeat), hpins.trans (congrArg Prod.snd hbeat),
      (s.keepsPending_stable.log a (.refl s)).trans hpend, (s.log a).warmClear_cleared⟩
  unfold State.heldClear
  split
  next h =>
    obtain ⟨hstate, hpins, hpend⟩ := hentered (.inl h)
    exact ⟨hstate, hpins, hpend, (State.enterWarmReset_spec (.inl h) 0x0502 false false).2.2.2⟩
  next h =>
    obtain ⟨hstate, hpins, hpend⟩ := hentered (.inr h)
    exact ⟨hstate, hpins, hpend, (State.enterWarmReset_spec (.inr h) 0x0502 false false).2.2.2⟩
  next => exact hlogged _

end Sys2Proof.Machine
end

section
/-! PROOFS. Pins, the reference clock, re-arming and paths (O60). -/

namespace Sys2Proof.Machine

/-! ### Pins, re-arming, paths (R37, R57, R521, R522, R528) -/

/-- The clock's state is as set, and PPS_OUT is the one pin that a state takes. -/
theorem State.setClockState_held (s : State) (n : Nat) :
    (s.setClockState n).clock.state = n ∧ (s.setClockState n).pins.refLost = s.pins.refLost ∧ s.KeepsPending (s.setClockState n) := by
  have hbeat (t : State) (k : Nat) : (t.signal k none).clock = t.clock := congrArg Prod.fst (t.signal_beat k none)
  have hpins (t : State) (k : Nat) : (t.signal k none).pins = t.pins := congrArg Prod.snd (t.signal_beat k none)
  by_cases hsame : s.clock.state = n
  · rw [State.setClockState, if_pos hsame]
    exact ⟨hsame, rfl, .refl s⟩
  · rw [State.setClockState, if_neg hsame]
    dsimp only
    generalize hset : ({ s with clock := { s.clock with state := n } } : State) = t
    have hstate : (t.signal 213 none).clock.state = n := by rw [hbeat, ← hset]
    have hpin : (t.signal 213 none).pins = s.pins := by rw [hpins, ← hset]
    have hpend : s.KeepsPending (t.signal 213 none) :=
      State.KeepsPending.trans (.of_intr (by rw [← hset])) (t.signal_keepsPending 213 none)
    generalize t.signal 213 none = v at hstate hpin hpend
    split
    · refine ⟨?_, ?_, ?_⟩
      · rw [hbeat]
        exact hstate
      · rw [hpins, ← hpin]
      · have hlow : s.KeepsPending { v with pins := { v.pins with ppsOut := false } } := hpend.trans (.of_intr rfl)
        exact hlow.trans (State.signal_keepsPending _ _ _)
    · exact ⟨hstate, by rw [hpin], hpend⟩

theorem exec_resetNAssert_resets {dt : Nat} {s : State} (h : (s.elapse dt).boot.phase ≠ .coldReset) :
    exec (.resetNAssert dt) s = .next (({ s.elapse dt with pins := { (s.elapse dt).pins with resetN := false } } : State).coldState 0x0711) :=
  congrArg Host.Outcome.next (if_neg h)

theorem exec_refclkLoss_holds {dt : Nat} {s : State} (hcold : (s.elapse dt).boot.phase ≠ .coldReset) (href : (s.elapse dt).pins.refLost = false) :
    exec (.refclkLoss dt) s
      = .next (((({ s.elapse dt with pins := { (s.elapse dt).pins with refLost := true } } : State).bump 0x7F04 3).signal 7 none).setClockState 5).holdWarm := by
  refine congrArg Host.Outcome.next ((if_neg ?_).trans (if_neg hcold))
  rw [href]
  exact Bool.false_ne_true

theorem State.holdWarm_spec (s : State) :
    s.holdWarm.boot.phase = .warmHold ∧ s.holdWarm.cnt 0x7101 2 = 0x0502 ∧ s.holdWarm.clock.state = s.clock.state
    ∧ s.holdWarm.pins = s.pins ∧ s.KeepsPending s.holdWarm ∧ s.holdWarm.WarmCleared := by
  obtain ⟨hstate, hpins, hpend, hctxs, hsessions, hengines, hbench⟩ := s.heldClear_spec
  rw [State.holdWarm_eq]
  generalize s.heldClear = t at hstate hpins hpend hctxs hsessions hengines hbench
  have hcause : ((t.setCnt 0x7101 2 0x0502).setCnt 0x7101 3 t.stamp).cnt 0x7101 2 = 0x0502 := by
    rw [State.setCnt_cnt_ne _ _ (by decide), State.setCnt_cnt_self]
  exact ⟨rfl, hcause, hstate, hpins, hpend.trans (.of_intr rfl), hctxs, hsessions, hengines, hbench⟩

theorem State.endHold_spec {s : State} (h : s.boot.phase = .warmHold) :
    s.endHold.pins = s.pins ∧ s.endHold.boot.phase = (if checkImage s.boot.fuses s.boot.flash = 0 then .running else .recovery) := by
  obtain ⟨hphase, hpins⟩ := State.warmBoot_spec (s := { s with boot := { s.boot with phase := .warmBoot } }) rfl
  rw [State.endHold, if_pos h]
  exact ⟨hpins, hphase⟩

def jobSignalRow (k : Nat) : ORow := ⟨0x7F03, k, k, .u16, .rwp, .num 0, .mask 0x81FF⟩

theorem rowFor_jobSignal {k : Nat} (hk : k = 1 ∨ k = 2) : rowFor 0x7F03 k = some (jobSignalRow k) := by
  rcases hk with rfl | rfl <;> decide +kernel

theorem State.clampNum_jobSignal (s : State) {k v : Nat} (hk : k = 1 ∨ k = 2) (hv : v = v &&& 0x81FF) : s.clampNum 0x7F03 k v = (s, v) :=
  State.clampNum_near (rowFor_jobSignal hk) hv.symm

theorem State.setRwp_num_self (s : State) (i k v : Nat) : (s.setRwp i k (.num v)).num i k = v := by
  have hobj : (s.setRwp i k (.num v)).obj i k = .num v := State.setObj_obj_self s _ _ _
  rw [State.num, hobj]
  rfl

theorem State.releaseUnit_free {s : State} {u : Nat} (h : (s.resUnit u).holder = none) (a : Asker) : s.releaseUnit u a = s := by
  unfold State.releaseUnit
  dsimp only
  rw [h]

/-- A job pin whose assignment signals is granted where it is free; else nothing is asked for. -/
theorem State.requestJobPin_free {s : State} {k : Nat} (hfree : (s.resUnit (202 + k)).holder = none) :
    ((s.num 0x7F03 (k + 1)).testBit 15 = true →
      ∃ h, ((s.requestJobPin k).resUnit (202 + k)).holder = some h ∧ h.asker = .jobSignal)
    ∧ s.requestJobPin k = { s with res := (s.requestJobPin k).res, resOrder := (s.requestJobPin k).resOrder } := by
  unfold State.requestJobPin
  dsimp only
  rw [State.requestUnit_free _ _ _ hfree]
  dsimp only
  rw [if_pos rfl]
  split
  · exact ⟨fun _ => ⟨_, State.grantUnit_holder _ _ _ _, rfl⟩, State.grantUnit_frame _ _ _ _⟩
  next hoff => exact ⟨fun h => absurd h hoff, rfl⟩

/-- A job signal is stored, and takes its free pin. -/
theorem State.actJobSignal_spec {s : State} {k v : Nat} (hk : k = 0 ∨ k = 1) (hv : v = v &&& 0x81FF)
    (hfree : (s.resUnit (202 + k)).holder = none) :
    (s.actJobSignal k v).num 0x7F03 (k + 1) = v
    ∧ (v.testBit 15 = true → ∃ h, ((s.actJobSignal k v).resUnit (202 + k)).holder = some h ∧ h.asker = .jobSignal)
    ∧ s.actJobSignal k v = { s with objs := (s.actJobSignal k v).objs, efyth := (s.actJobSignal k v).efyth, res := (s.actJobSignal k v).res,
                                    resOrder := (s.actJobSignal k v).resOrder } := by
  have hpin : k + 1 = 1 ∨ k + 1 = 2 := by omega
  have hacts : s.actJobSignal k v = ((s.setRwp 0x7F03 (k + 1) (.num v)).releaseUnit (202 + k) .jobSignal).requestJobPin k := by
    rw [State.actJobSignal, s.clampNum_jobSignal hpin hv]
  have hnum := s.setRwp_num_self 0x7F03 (k + 1) v
  have honly := s.objectsOnly_setRwp 0x7F03 (k + 1) (.num v)
  rw [hacts]
  generalize s.setRwp 0x7F03 (k + 1) (.num v) = t at hnum honly
  have hfree' : (t.resUnit (202 + k)).holder = none := by
    rw [honly]
    exact hfree
  rw [State.releaseUnit_free hfree']
  obtain ⟨hgranted, hframe⟩ := State.requestJobPin_free hfree'
  have hnum' : (t.requestJobPin k).num 0x7F03 (k + 1) = v := by
    rw [hframe]
    exact hnum
  refine ⟨hnum', fun hbit => hgranted (by rw [hnum]; exact hbit), ?_⟩
  rw [hframe, honly]

theorem State.rearmHooks_perf (s : State) (a : Asker) : s.rearmHooks a = { s with perf := (s.rearmHooks a).perf } := by
  cases a
  case sampling n => exact State.setSamplingRun_rest _ _ _
  all_goals rfl

/-- The first waiter of a free unit takes it. -/
theorem State.rearm_spec {s : State} {n : Nat} {w : Asker × Nat × Nat} (hfree : (s.resUnit n).holder = none) (hfirst : s.firstWaiter n = some w) :
    ∃ h, ((s.rearm n).resUnit n).holder = some h ∧ h.asker = w.1 ∧ h.level = w.2.1
      ∧ s.rearm n = { s with res := (s.rearm n).res, resOrder := (s.rearm n).resOrder, perf := (s.rearm n).perf } := by
  have hgoes : s.rearm n = ((s.forgetWaits w.1).grantUnit n w.1 w.2.1).rearmHooks w.1 := by
    rw [State.rearm, hfree, hfirst]
    rfl
  rw [hgoes, State.rearmHooks_perf]
  exact ⟨_, State.grantUnit_holder _ n w.1 w.2.1, rfl, rfl, rfl⟩

/-- A path that has no spare is down for good. -/
theorem State.losePath_down {s : State} {p : Nat} (h : s.cnt 0x2004 (p + 1) ≠ 2) :
    s.losePath p false = ((s.setCnt 0x2004 (p + 1) 2).signal 8 none).deductPermanent (pathKey p) 100 :=
  (if_neg h).trans (if_neg Bool.false_ne_true)

theorem objKey_path {p : Nat} (hp : p < 15) : objKey 0x2004 (p + 1) ∉ signalCounters ∧ objKey 0x2004 (p + 1) ≠ objKey 0x7101 2
    ∧ objKey 0x2004 (p + 1) ≠ objKey 0x7101 3 := by
  revert p
  decide

theorem State.signal_fault (s : State) (n : Nat) (c : Option Nat) : (s.signal n c).fault = s.fault := by
  refine State.signal_keeps (π := State.fault) (fun _ _ hto => ?_) (fun t => ?_) s n c
  · unfold State.SignalsTo at hto
    rw [hto]
  · unfold State.startWake
    split
    · rfl
    · split <;> rfl

theorem State.losePath_down_spec {s : State} {p : Nat} (hp : p < 15) (h : s.cnt 0x2004 (p + 1) ≠ 2) :
    (s.losePath p false).cnt 0x2004 (p + 1) = 2 ∧ ((s.losePath p false).sourceOf 8).pend = true
    ∧ Assoc.get 0 (s.losePath p false).fault.permanent (pathKey p) = 100 ∧ (s.losePath p false).mem = s.mem := by
  obtain ⟨hcounter, hcause, hstamp⟩ := objKey_path hp
  have hhealth (t : State) (before : Nat) : (t.healthChanged before).cnt 0x2004 (p + 1) = t.cnt 0x2004 (p + 1)
      ∧ (t.healthChanged before).fault = t.fault ∧ t.KeepsPending (t.healthChanged before) := by
    refine ⟨?_, ?_, t.keepsPending_stable.healthChanged before (.refl t)⟩
    · unfold State.healthChanged
      split
      · rfl
      · exact t.signal_cnt _ _ hcounter hcause hstamp
    · unfold State.healthChanged
      split
      · rfl
      · exact t.signal_fault _ _
  have hpend : (((s.setCnt 0x2004 (p + 1) 2).signal 8 none).sourceOf 8).pend = true := State.signal_pend _ none (by decide)
  have hcnt : ((s.setCnt 0x2004 (p + 1) 2).signal 8 none).cnt 0x2004 (p + 1) = 2 :=
    (State.signal_cnt _ _ _ hcounter hcause hstamp).trans (State.setCnt_cnt_self _ _ _ _)
  have hmem : ((s.setCnt 0x2004 (p + 1) 2).signal 8 none).mem = s.mem := State.mem_of_standing (State.signal_standing _ _ _)
  rw [State.losePath_down h]
  generalize (s.setCnt 0x2004 (p + 1) 2).signal 8 none = t at hpend hcnt hmem
  unfold State.deductPermanent
  dsimp only
  obtain ⟨hc, hf, hk⟩ := hhealth { t with fault := { t.fault with permanent := Assoc.set 0 t.fault.permanent (pathKey p) 100 } } t.health
  refine ⟨hc.trans hcnt, hk.pend 8 hpend, ?_, (State.mem_of_standing (State.healthChanged_standing _ _)).trans hmem⟩
  rw [hf]
  exact Assoc.get_set_self 0 t.fault.permanent (pathKey p) 100

/-- Settles O60: the resets by what they clear and hold, the grants by the free unit, a path by what it counts. -/
theorem pinsAct : Obligations.PinsAct := by
  rintro dt s _ rfl
  refine ⟨fun hcold => ⟨_, exec_resetNAssert_resets hcold, ?_⟩, fun hcold href => ⟨_, exec_refclkLoss_holds hcold href, ?_⟩,
    fun hhold => ⟨_, rfl, ?_⟩, fun k v hup hk hv hfree => ?_, rfl, fun n w hup hfree hfirst => ?_, fun p hup hp hstands => ⟨?_, ?_⟩⟩
  · obtain ⟨hphase, hcause, hmem, -, -, hpending, hsent, -, -, hpins⟩ :=
      State.coldState_spec { s.elapse dt with pins := { (s.elapse dt).pins with resetN := false } } 0x0711
    exact ⟨hphase, hcause, hpins, hmem, hpending, hsent⟩
  · generalize hlost : (({ s.elapse dt with pins := { (s.elapse dt).pins with refLost := true } } : State).bump 0x7F04 3) = t
    have href' : (t.signal 7 none).pins.refLost = true := by
      rw [State.pins_of_rom (t.signal_rom 7 none), ← hlost]
      rfl
    have hpend : ((t.signal 7 none).sourceOf 7).pend = true := t.signal_pend none (by decide)
    obtain ⟨hstate, href'', hkeeps⟩ := (t.signal 7 none).setClockState_held 5
    obtain ⟨hphase, hcause, hclock, hpins, hkeeps', hctxs, -, -, hbench⟩ := ((t.signal 7 none).setClockState 5).holdWarm_spec
    refine ⟨hphase, hcause, hclock.trans hstate, ?_, hkeeps'.pend 7 (hkeeps.pend 7 hpend), hctxs, hbench⟩
    rw [hpins, href'', href']
  · exact State.endHold_spec (s := { s.elapse dt with pins := { (s.elapse dt).pins with refLost := false } }) hhold
  · refine ⟨_, congrArg Host.Outcome.next ((State.whenUp_up _ hup).trans (if_pos hk)), ?_⟩
    rcases hk with rfl | rfl
    · exact State.actJobSignal_spec (.inl rfl) hv hfree
    · exact State.actJobSignal_spec (.inr rfl) hv hfree
  · obtain ⟨h, hholder, hasker, hlevel, hframe⟩ := State.rearm_spec hfree hfirst
    exact ⟨_, h, congrArg Host.Outcome.next (State.whenUp_up _ hup), hholder, hasker, hlevel, hframe⟩
  · exact congrArg Host.Outcome.next ((State.whenUp_up _ hup).trans ((if_pos hp).trans ((if_neg hstands).trans (if_pos rfl))))
  · exact ⟨_, congrArg Host.Outcome.next ((State.whenUp_up _ hup).trans (if_pos hp)), State.losePath_down_spec hp hstands⟩

end Sys2Proof.Machine
end

section
/-! PROOFS. Power (O49): what the limits leave, the ledger, the governor, the band and ballast (R436, R442 to R449). -/

namespace Sys2Proof.Machine

/-! ### What holds through the limits of Table 14-3 (R452 to R454) -/

theorem State.admitList_rest (s : State) (l : List Nat) (stopped : Bool) :
    s.admitList l stopped = { s with ctxs := (s.admitList l stopped).ctxs, objs := (s.admitList l stopped).objs } := by
  induction l generalizing s stopped with
  | nil => rfl
  | cons c l ih =>
    rw [State.admitList]
    split
    · rw [ih]
      rfl
    · dsimp only
      rw [ih]
      split <;> rfl

theorem State.admitTest_rest (s : State) : s.admitTest = { s with ctxs := s.admitTest.ctxs, objs := s.admitTest.objs } :=
  s.admitList_rest _ _

/-- What of the power no limit changes: the windows, the energies, the regulator's alert, and the edge junctions. -/
def Power.metered (p : Power) : List Rat × Rat × Rat × Rat × Bool × Int × Int :=
  (p.windows, p.ePackage, p.eIdle, p.eBallast, p.vrOver, p.edge0, p.edge1)

/-- The electrical limit's release before its cap ends: the cause is gone, and the limit rises by a step where one is due. -/
def State.released (s : State) : State :=
  let p := s.power
  let s := s.clearCause 1
  let p : Power := { s.power with
    elecStage1 := false, elecSince := none, above36Since := none, aboveAt1050 := none,
    elecClear := if p.elecStage1 then s.stamp else p.elecClear,
    elecLastStep := if p.elecStage1 then s.stamp else p.elecLastStep }
  let s := { s with power := p }
  if p.elec < 2100 ∧ p.elecLastStep + 100 * us ≤ s.stamp
  then ({ s with power := { p with elec := p.elec + 25, elecLastStep := s.stamp } } : State).applyClocks else s

/-- The end of the electrical limit's cap. -/
def State.uncapped (s : State) (ended : Bool) : State :=
  if ended then ({ s with power := { s.power with pElec := none } } : State).admitTest else s

theorem State.elecRelease_eq (s : State) : ∃ ended, s.elecRelease = s.released.uncapped ended := ⟨_, rfl⟩

/-- `P` holds through what a limit does: it signals, counts, takes ballast and clocks away, admits, and moves its own part of the power. -/
structure State.LimitStable (P : State → Prop) : Prop where
  signal {s : State} (n : Nat) (c : Option Nat) : P s → P (s.signal n c)
  count {s : State} (k : Nat) : k ≤ 7 → P s → P (s.bump 0x6040 k)
  ballast {s : State} : P s → P s.stopBallast
  clocks {s : State} : P s → P s.applyClocks
  admission {s : State} : P s → P s.admitTest
  power {s : State} (p : Power) : p.metered = s.power.metered → P s → P { s with power := p }

namespace State.LimitStable

variable {P : State → Prop} {s : State}

theorem noteClip (h : LimitStable P) (hs : P s) : P s.noteClip := h.count 1 (by decide) (h.ballast hs)

theorem enterShed (h : LimitStable P) (k : Nat) (hs : P s) : P (s.enterShed (some k)) := by
  have hoff := h.ballast hs
  refine h.clocks ?_
  dsimp only
  split
  · exact hoff
  · exact h.count 6 (by decide) (h.power _ rfl hoff)

theorem noteClear (h : LimitStable P) (hs : P s) : P s.noteClear := by
  unfold State.noteClear
  split
  · exact h.power _ rfl hs
  · exact hs

theorem clearCause (h : LimitStable P) (k : Nat) (hs : P s) : P (s.clearCause k) := by
  unfold State.clearCause
  split
  · exact h.noteClear (h.power _ rfl hs)
  · exact hs

theorem elecClip (h : LimitStable P) (hs : P s) : P s.elecClip := by
  unfold State.elecClip
  dsimp only
  generalize hmarked : ({ s with power := { s.power with elecStage1 := _, elecSince := _ } } : State) = t
  have ht : P t := by
    rw [← hmarked]
    exact h.power _ rfl hs
  have hfirst : P (if (!s.power.elecStage1) = true then (t.signal 6 none).bump 0x6040 2 else t) := by
    split
    · exact h.count 2 (by decide) (h.signal 6 none ht)
    · exact ht
  generalize (if (!s.power.elecStage1) = true then (t.signal 6 none).bump 0x6040 2 else t) = v at hfirst
  split
  · exact h.clocks (h.noteClip (h.power _ rfl hfirst))
  · exact hfirst

theorem elecCap (h : LimitStable P) (hs : P s) : P s.elecCap := by
  unfold State.elecCap
  dsimp only
  split
  · exact h.admission (h.count 7 (by decide) (h.power _ rfl hs))
  · exact hs

theorem elecShed (h : LimitStable P) (hs : P s) : P s.elecShed := by
  unfold State.elecShed
  dsimp only
  split
  · exact h.enterShed 1 (h.power _ rfl hs)
  · exact h.power _ rfl hs

theorem released (h : LimitStable P) (hs : P s) : P s.released := by
  have hcleared := h.clearCause 1 hs
  unfold State.released
  dsimp only
  refine iteInduction (motive := P) (fun _ => ?_) (fun _ => ?_)
  · exact h.clocks (h.power (s := s.clearCause 1) _ rfl hcleared)
  · exact h.power (s := s.clearCause 1) _ rfl hcleared

theorem elecRelease (h : LimitStable P) (hs : P s) : P s.elecRelease := by
  obtain ⟨ended, hended⟩ := s.elecRelease_eq
  rw [hended, State.uncapped]
  split
  · exact h.admission (h.power _ rfl (h.released hs))
  · exact h.released hs

theorem trackMean (h : LimitStable P) (hs : P s) : P s.trackMean := h.power _ rfl hs

theorem electrical (h : LimitStable P) (hs : P s) : P s.electrical := by
  unfold State.electrical
  dsimp only
  split
  · exact h.elecShed (h.elecCap (h.elecClip (h.trackMean hs)))
  · exact h.elecRelease (h.trackMean hs)

theorem shedDeep (h : LimitStable P) (hs : P s) : P s.shedDeep := by
  unfold State.shedDeep
  dsimp only
  split
  · exact hs
  · exact h.power _ rfl hs

theorem noteTherm (h : LimitStable P) (down first : Bool) (hs : P s) : P (s.noteTherm down first) := by
  have hfirst : P (if first = true then (s.signal 1 none).bump 0x6040 3 else s) := by
    split
    · exact h.count 3 (by decide) (h.signal 1 none hs)
    · exact hs
  unfold State.noteTherm
  dsimp only
  split
  · exact h.noteClip hfirst
  · exact hfirst

theorem thermCap (h : LimitStable P) (hs : P s) : P s.thermCap := by
  unfold State.thermCap
  dsimp only
  split
  · split
    · exact h.admission (h.count 7 (by decide) (h.power _ rfl hs))
    · exact hs
  · split
    · exact h.admission (h.power _ rfl hs)
    · exact hs

end State.LimitStable

/-! ### The ledger, the governor, the band and ballast (R436, R442 to R449) -/

/-- The windows and energies of the package, and memory. -/
def State.accounts (s : State) : (List Rat × Rat × Rat × Rat × Bool × Int × Int) × List Host.Cell := (s.power.metered, s.mem)

theorem State.SignalsTo.metered {s t : State} (h : s.SignalsTo t) : t.power.metered = s.power.metered := by
  unfold State.SignalsTo at h
  rw [h]
  rfl

theorem State.startWake_metered (s : State) : s.startWake.power.metered = s.power.metered := by
  unfold State.startWake
  split
  · rfl
  · split <;> rfl

theorem State.signal_metered (s : State) (n : Nat) (c : Option Nat) : (s.signal n c).power.metered = s.power.metered :=
  State.signal_keeps (π := fun s => s.power.metered) (fun _ _ h => h.metered) State.startWake_metered s n c

theorem State.signal_mem (s : State) (n : Nat) (c : Option Nat) : (s.signal n c).mem = s.mem := State.mem_of_standing (s.signal_standing n c)

/-- No limit moves the accounts or memory. -/
theorem State.accounts_stable (s : State) : State.LimitStable (fun t => t.accounts = s.accounts) where
  signal {t} n c h := (congrArg₂ Prod.mk (t.signal_metered n c) (t.signal_mem n c)).trans h
  count _ _ h := h
  ballast h := h
  clocks {t} h := by
    rw [State.applyClocks_rest]
    exact h
  admission {t} h := by
    rw [State.admitTest_rest]
    exact h
  power p hp h := (congrArg (Prod.mk · _) hp).trans h

theorem execLedgerWindow_up {dt : Nat} {est : Estimates} {s : State} (hup : (s.elapse dt).up = true) :
    exec (.ledgerWindow dt est) s = .next
      (if (s.elapse dt).bays.any (fun b => b.2.ballast) then (((s.elapse dt).addWindow est).noteResident).bump 0x6040 0x0C
        else ((s.elapse dt).addWindow est).noteResident).electrical.shedDeep :=
  congrArg Host.Outcome.next (State.whenUp_up _ hup)

theorem State.addWindow_spec (s : State) (e : Estimates) :
    (s.addWindow e).power.windows = (sumOf (s.shares e) (fun _ => true) * 1000 :: s.power.windows).take 1000
    ∧ (s.addWindow e).power.ePackage = s.power.ePackage + sumOf (s.shares e) (fun _ => true)
    ∧ (s.addWindow e).power.eIdle = s.power.eIdle + sumOf (s.shares e) (· == idleAccount)
    ∧ (s.addWindow e).power.eBallast = s.power.eBallast + sumOf (s.shares e) (· == ballastAccount) ∧ (s.addWindow e).mem = s.mem := by
  unfold State.addWindow
  dsimp only
  generalize hcharged : List.foldl _ (s.chargeContexts (s.shares e)) (List.range 4) = t
  have hpower : t.power = s.power := by
    rw [← hcharged, State.foldl_keeps State.power]
    · rfl
    · exact fun _ _ => rfl
  have hmem : t.mem = s.mem := by
    rw [← hcharged, State.foldl_keeps State.mem]
    · rfl
    · exact fun _ _ => rfl
  rw [hpower, hmem]
  exact ⟨rfl, rfl, rfl, rfl, rfl⟩

theorem State.noteResident_accounts (s : State) : s.noteResident.accounts = s.accounts := by
  unfold State.noteResident
  split <;> rfl

/-- A window goes through the limits with its accounts. -/
theorem State.windowLimits_accounts (s : State) (e : Estimates) (b : Bool) :
    (if b = true then ((s.addWindow e).noteResident).bump 0x6040 0x0C else (s.addWindow e).noteResident).electrical.shedDeep.accounts
      = (s.addWindow e).accounts := by
  have hresident := (s.addWindow e).noteResident_accounts
  refine ((s.addWindow e).accounts_stable.shedDeep ((s.addWindow e).accounts_stable.electrical ?_))
  split
  · exact hresident
  · exact hresident

/-! ### Current readings (R436, R443) -/

theorem State.correction_spec (s : State) (d : Nat) (i : Rat) :
    (∃ f, (s.correction d i).1 = { s with freeCtr := f }) ∧ 4 / 5 ≤ (s.correction d i).2 ∧ (s.correction d i).2 ≤ 5 / 4 := by
  have hclamp (k : Rat) : (4 / 5 : Rat) ≤ max (4 / 5) (min (5 / 4) k) ∧ max (4 / 5) (min (5 / 4) k) ≤ (5 / 4 : Rat) :=
    ⟨le_max_left _ _, max_le (by norm_num) (min_le_left _ _)⟩
  unfold State.correction
  dsimp only
  split
  · exact ⟨⟨_, rfl⟩, hclamp _⟩
  · exact ⟨⟨s.freeCtr, rfl⟩, hclamp _⟩

/-- A failed reading counts; the sixteenth in a row freezes the rail. -/
theorem exec_avsCurrentRead_fails {dt d : Nat} {s : State} (hup : (s.elapse dt).up = true) (hd : d < 4) :
    exec (.avsCurrentRead dt d none) s = .next
      (if 16 ≤ ((s.elapse dt).die d).failRun + 1 ∧ !((s.elapse dt).die d).frozen then
        (((s.elapse dt).bump 0x6040 0x0A).setDie d { (s.elapse dt).die d with failRun := ((s.elapse dt).die d).failRun + 1, frozen := true }).signal 4 none
      else ((s.elapse dt).bump 0x6040 0x0A).setDie d { (s.elapse dt).die d with failRun := ((s.elapse dt).die d).failRun + 1 }) :=
  congrArg Host.Outcome.next ((State.whenUp_up _ hup).trans (if_neg (Nat.not_lt.mpr (Nat.le_of_lt_succ hd))))

theorem State.signal_die (s : State) (n : Nat) (c : Option Nat) (d : Nat) : (s.signal n c).die d = s.die d := by
  refine State.signal_keeps (π := fun t => t.die d) (fun _ _ hto => ?_) (fun t => ?_) s n c
  · unfold State.SignalsTo at hto
    rw [hto]
    rfl
  · unfold State.startWake
    split
    · rfl
    · split <;> rfl

/-- What a failed reading counts and notes of its rail. -/
theorem State.failedRead_spec (s : State) (d : Nat) (x : Die) :
    let t := (s.bump 0x6040 0x0A).setDie d x
    t.die d = x ∧ t.cnt 0x6040 10 = min (s.cnt 0x6040 10 + 1) (2 ^ 64 - 1) ∧ ({ s with dies := t.dies } : State).SignalsTo t :=
  ⟨State.setDie_die_self _ _ _, State.bump_cnt_self _ _ _, rfl⟩

/-- The signal of a frozen rail leaves that as it is. -/
theorem State.failedRead_signals {s t : State} (hup : s.up = true) {d : Nat} {x : Die} {n : Nat}
    (h : t.die d = x ∧ t.cnt 0x6040 10 = n ∧ ({ s with dies := t.dies } : State).SignalsTo t) :
    (t.signal 4 none).die d = x ∧ (t.signal 4 none).cnt 0x6040 10 = n
    ∧ ({ s with dies := (t.signal 4 none).dies } : State).SignalsTo (t.signal 4 none) := by
  obtain ⟨hdie, hcnt, hto⟩ := h
  have hframe := State.signalFrame_signal (hto.up.trans hup) 4 none
  have hdies : (t.signal 4 none).dies = t.dies := by
    have hsignals := hframe.signalsTo
    unfold State.SignalsTo at hsignals
    rw [hsignals]
  rw [State.signal_die, hframe.cnt (by decide), hdies]
  exact ⟨hdie, hcnt, hto.trans hframe.signalsTo⟩

/-- The current of a raw reading, in mA. -/
def State.current (s : State) (d raw : Nat) : Rat :=
  frat (s.num 0x6111 (d + 1)) * (raw : Nat) + (toSigned 32 (s.num 0x6111 (d + 5)) : Int)

/-- A good reading of a live rail. -/
def State.readCurrent (s : State) (d raw : Nat) : State :=
  (s.correction d (s.current d raw)).1.setDie d { s.die d with
    failRun := 0, current := (s.current d raw).floor.toNat, kCorr := (s.correction d (s.current d raw)).2, beam10 := 0 }

theorem State.readCurrent_spec (s : State) (d raw : Nat) :
    let t := s.readCurrent d raw
    (t.die d).failRun = 0 ∧ (t.die d).beam10 = 0 ∧ (t.die d).current = (s.current d raw).floor.toNat
    ∧ 4 / 5 ≤ (t.die d).kCorr ∧ (t.die d).kCorr ≤ 5 / 4 ∧ t = { s with dies := t.dies, freeCtr := t.freeCtr } := by
  obtain ⟨⟨f, hdraw⟩, hlow, hhigh⟩ := s.correction_spec d (s.current d raw)
  dsimp only
  rw [State.readCurrent, State.setDie_die_self]
  refine ⟨rfl, rfl, rfl, hlow, hhigh, ?_⟩
  rw [hdraw]
  rfl

theorem exec_avsCurrentRead_reads {dt d raw : Nat} {s : State} (hup : (s.elapse dt).up = true) (hd : d < 4)
    (hlive : ((s.elapse dt).die d).frozen = false) :
    exec (.avsCurrentRead dt d (some raw)) s = .next ((s.elapse dt).readCurrent d raw) := by
  refine congrArg Host.Outcome.next ((State.whenUp_up _ hup).trans ((if_neg (Nat.not_lt.mpr (Nat.le_of_lt_succ hd))).trans ?_))
  exact if_neg (by rw [hlive]; exact Bool.false_ne_true)

/-! ### The governor, the band and ballast (R447 to R449) -/

/-- The governor's next value. -/
def State.governed (s : State) : Rat :=
  min (max s.meanWork (if s.num 0x6011 4 = 0 then 0 else if ((s.num 0x6011 3 : Nat) : Rat) = 0 then ((s.num 0x6011 2 : Nat) : Rat)
    else max ((s.num 0x6011 2 : Nat) : Rat) (s.power.g - ((s.num 0x6011 3 : Nat) : Rat) / 10)))
  (if ((s.num 0x6011 3 : Nat) : Rat) = 0 then s.govPower else min s.govPower (s.power.g + ((s.num 0x6011 3 : Nat) : Rat) / 10))

theorem State.governed_spec (s : State) :
    s.governed ≤ s.govPower
    ∧ ({ s with power := { s.power with g := s.governed } } : State) = { s with power := { s.power with g := s.governed } }
    ∧ (s.num 0x6011 3 = 0 → s.num 0x6011 4 = 0 → s.governed = min (max s.meanWork 0) s.govPower)
    ∧ (s.num 0x6011 3 = 0 → s.num 0x6011 4 ≠ 0 → s.governed = min (max s.meanWork ((s.num 0x6011 2 : Nat) : Rat)) s.govPower) := by
  refine ⟨?_, rfl, fun hrate hfloor => ?_, fun hrate hfloor => ?_⟩
  · refine (min_le_right _ _).trans ?_
    split
    · exact le_refl _
    · exact min_le_left _ _
  · rw [State.governed, hrate, if_pos hfloor, if_pos Nat.cast_zero]
  · rw [State.governed, hrate, if_neg hfloor, if_pos Nat.cast_zero, if_pos Nat.cast_zero]

theorem exec_governorUpdate_governs {dt : Nat} {s : State} (hup : (s.elapse dt).up = true) :
    exec (.governorUpdate dt) s = .next { s.elapse dt with power := { (s.elapse dt).power with g := (s.elapse dt).governed } } :=
  congrArg Host.Outcome.next (State.whenUp_up _ hup)

/-- The work exceeds 1.02 times the governor's value, or the package its ceiling. -/
def State.Overworked (s : State) : Prop :=
  (s.power.g * 51 / 50 < s.meanWork ∧ s.power.g * 51 / 50 < s.work10) ∨ ((s.num 0x6011 1 : Nat) : Rat) < s.mean1ms

theorem State.overworked_iff (s : State) :
    ((decide (s.power.g * 51 / 50 < s.meanWork) && decide (s.power.g * 51 / 50 < s.work10))
      || decide (((s.num 0x6011 1 : Nat) : Rat) < s.mean1ms)) = true ↔ s.Overworked := by
  simp [State.Overworked]

theorem exec_bandCheck_falls {dt n : Nat} {s : State} (hup : (s.elapse dt).up = true) (hover : (s.elapse dt).Overworked)
    (hband : 1050 < (s.elapse dt).power.band) :
    exec (.bandCheck dt n) s = .next
      (({ s.elapse dt with power := { (s.elapse dt).power with band := (s.elapse dt).power.band - 25 } } : State).noteClip).applyClocks :=
  congrArg Host.Outcome.next ((State.whenUp_up _ hup).trans ((if_pos ((State.overworked_iff _).mpr hover)).trans (if_neg (Nat.not_le.mpr hband))))

theorem exec_bandCheck_holds {dt n : Nat} {s : State} (hup : (s.elapse dt).up = true) (hover : (s.elapse dt).Overworked)
    (hband : (s.elapse dt).power.band ≤ 1050) : exec (.bandCheck dt n) s = .next ((s.elapse dt).bump 0x6040 11) :=
  congrArg Host.Outcome.next ((State.whenUp_up _ hup).trans ((if_pos ((State.overworked_iff _).mpr hover)).trans (if_pos hband)))

theorem exec_bandCheck_rises {dt n : Nat} {s : State} (hup : (s.elapse dt).up = true) (hover : ¬ (s.elapse dt).Overworked)
    (hrises : (s.elapse dt).stamp % 400000 = 0 ∧ (s.elapse dt).power.band < 2100 ∧ (s.elapse dt).meanWork ≤ (s.elapse dt).power.g * 51 / 50
      ∧ (s.elapse dt).work10 + (n : Nat) / 1000 ≤ (s.elapse dt).power.g * 51 / 50) :
    exec (.bandCheck dt n) s = .next
      ({ s.elapse dt with power := { (s.elapse dt).power with band := (s.elapse dt).power.band + 25 } } : State).applyClocks :=
  congrArg Host.Outcome.next ((State.whenUp_up _ hup).trans ((if_neg (fun h => hover ((State.overworked_iff _).mp h))).trans (if_pos hrises)))

theorem State.applyClocks_cnt (s : State) (i k : Nat) : s.applyClocks.cnt i k = s.cnt i k := by
  rw [State.applyClocks_rest]
  rfl

/-- A step of the clocks after a clip: dies, bays and the count of clips move, the power is as set. -/
theorem State.noteClip_applyClocks (s : State) :
    s.noteClip.applyClocks.power = s.power ∧ s.noteClip.applyClocks.cnt 0x6040 1 = min (s.cnt 0x6040 1 + 1) (2 ^ 64 - 1)
    ∧ s.noteClip.applyClocks
      = { s with objs := s.noteClip.applyClocks.objs, bays := s.noteClip.applyClocks.bays, dies := s.noteClip.applyClocks.dies } := by
  have hcounted : s.noteClip.cnt 0x6040 1 = min (s.cnt 0x6040 1 + 1) (2 ^ 64 - 1) := s.stopBallast.bump_cnt_self 0x6040 1
  have hclip : s.noteClip = { s with objs := s.noteClip.objs, bays := s.noteClip.bays } := rfl
  refine ⟨?_, (State.applyClocks_cnt _ _ _).trans hcounted, ?_⟩
  · rw [State.applyClocks_rest]
    rfl
  · rw [State.applyClocks_rest, hclip]

/-- A bay that ballast has taken. -/
def State.takeBallast (s : State) (b : Nat) : State := s.setBay b { s.bay b with ballast := true, power := 0 }

/-- A bay that is woken for ballast. -/
def State.rouseBay (s : State) (b : Nat) : State := s.setBay b { s.bay b with waking := true }

/-- What ballast has of a bay. -/
def State.Ballasts (s : State) (b : Nat) : Prop := (s.bay b).ballast = true ∧ (s.bay b).power = 0

theorem State.rouseBay_ballasts {s : State} {b : Nat} (h : s.Ballasts b) (c : Nat) : (s.rouseBay c).Ballasts b := by
  unfold State.Ballasts State.rouseBay
  by_cases hbc : b = c
  · subst hbc
    rw [State.setBay_bay_self]
    exact h
  · rw [State.setBay_bay_ne _ _ hbc]
    exact h

theorem State.takeBallast_ballasts {s : State} {b c : Nat} (h : b = c ∨ s.Ballasts b) : (s.takeBallast c).Ballasts b := by
  unfold State.Ballasts State.takeBallast
  by_cases hbc : b = c
  · subst hbc
    rw [State.setBay_bay_self]
    exact ⟨rfl, rfl⟩
  · rw [State.setBay_bay_ne _ _ hbc]
    exact h.resolve_left hbc

theorem State.foldl_takeBallast (l : List Nat) (s : State) (b : Nat) (h : b ∈ l ∨ s.Ballasts b) : (l.foldl State.takeBallast s).Ballasts b := by
  induction l generalizing s with
  | nil => exact h.resolve_left (by simp)
  | cons c l ih =>
    refine ih _ ?_
    rcases h with hin | htaken
    · rcases List.mem_cons.mp hin with hbc | hin
      · exact .inr (State.takeBallast_ballasts (.inl hbc))
      · exact .inl hin
    · exact .inr (State.takeBallast_ballasts (.inr htaken))

theorem State.foldl_bays {f : State → Nat → State} (hf : ∀ t b, f t b = { t with bays := (f t b).bays }) (l : List Nat) (s : State) :
    l.foldl f s = { s with bays := (l.foldl f s).bays } := by
  induction l generalizing s with
  | nil => rfl
  | cons b l ih => rw [List.foldl_cons, ih, hf s b]

/-- The bays that are taken are in ballast, and the ones woken beside them change nothing of it. -/
theorem State.ballasted_spec (s : State) (taken : List Nat) (woken : State → List Nat) :
    let t := taken.foldl State.takeBallast s
    let v := (woken t).foldl State.rouseBay t
    v = { s with bays := v.bays } ∧ ∀ b ∈ taken, v.Ballasts b := by
  dsimp only
  have htaken := State.foldl_bays (f := State.takeBallast) (fun _ _ => rfl) taken s
  refine ⟨?_, fun b hb => ?_⟩
  · generalize taken.foldl State.takeBallast s = t at htaken
    have hwoken := State.foldl_bays (f := State.rouseBay) (fun _ _ => rfl) (woken t) t
    rw [hwoken, htaken]
  · exact List.foldlRecOn _ State.rouseBay (motive := fun t => t.Ballasts b) (State.foldl_takeBallast taken s b (.inl hb))
      fun t ht c _ => t.rouseBay_ballasts ht c

/-- The bays to wake beyond the ones at hand. -/
def State.toWake (n : Nat) (s : State) : List Nat :=
  (ballastOrder.filter (fun b => !(s.bay b).out && (s.bay b).power == 2 && !(s.bay b).waking)).take n

/-- The bays that ballast asks for. -/
def State.ballastDemand (s : State) (n : Nat) : Nat := ((s.power.g - s.work10) / ((n : Nat) / 1000) + 1 / 2 : Rat).floor.toNat

theorem exec_ballastUpdate_takes {dt n : Nat} {s : State} (hup : (s.elapse dt).up = true) (hon : (s.elapse dt).num 0x6011 4 ≠ 0)
    (hclip : (s.elapse dt).clipReasons = 0) (hn : n ≠ 0) :
    exec (.ballastUpdate dt n) s = .next
      (let t := ((s.elapse dt).ballastBays.take ((s.elapse dt).ballastDemand n)).foldl State.takeBallast (s.elapse dt).stopBallast
       (State.toWake ((s.elapse dt).ballastDemand n - (s.elapse dt).ballastBays.length) t).foldl State.rouseBay t) := by
  refine congrArg Host.Outcome.next ((State.whenUp_up _ hup).trans ((if_neg ?_).trans ?_))
  · rw [hclip]
    simp [hon, hn]
  · rfl

/-- Settles O49: the accounts through the limits, the readings, the governor's bounds, the band's steps, and the bays that ballast takes. -/
theorem powerIsGoverned : Obligations.PowerIsGoverned := by
  refine ⟨?_, ?_⟩
  · rintro dt s _ rfl hup
    refine ⟨fun est total htotal => ?_, fun d hd => ?_, fun d raw hd hlive => ?_, ?_⟩
    · subst htotal
      refine ⟨_, execLedgerWindow_up hup, ?_⟩
      have haccounts := (s.elapse dt).windowLimits_accounts est ((s.elapse dt).bays.any (fun b => b.2.ballast))
      obtain ⟨hwindows, hpackage, hidle, hballast, hmem⟩ := (s.elapse dt).addWindow_spec est
      refine ⟨?_, ?_, ?_, ?_, ?_⟩
      · exact (congrArg (fun a => a.1.1) haccounts).trans hwindows
      · exact (congrArg (fun a => a.1.2.1) haccounts).trans hpackage
      · exact (congrArg (fun a => a.1.2.2.1) haccounts).trans hidle
      · exact (congrArg (fun a => a.1.2.2.2.1) haccounts).trans hballast
      · exact (congrArg Prod.snd haccounts).trans hmem
    · refine ⟨_, exec_avsCurrentRead_fails hup hd, ?_⟩
      split
      · obtain ⟨hdie, hcnt, hto⟩ := State.failedRead_signals hup ((s.elapse dt).failedRead_spec d
          { (s.elapse dt).die d with failRun := ((s.elapse dt).die d).failRun + 1, frozen := true })
        exact ⟨by rw [hdie], hcnt, fun _ => by rw [hdie], hto⟩
      next hfew =>
        obtain ⟨hdie, hcnt, hto⟩ := (s.elapse dt).failedRead_spec d
          { (s.elapse dt).die d with failRun := ((s.elapse dt).die d).failRun + 1 }
        refine ⟨by rw [hdie], hcnt, fun hmany => ?_, hto⟩
        rw [hdie]
        by_contra hlive
        exact hfew ⟨by omega, by simpa using hlive⟩
    · exact ⟨_, exec_avsCurrentRead_reads hup hd hlive, (s.elapse dt).readCurrent_spec d raw⟩
    · exact ⟨_, exec_governorUpdate_governs hup, State.governed_spec _⟩
  · rintro dt n s _ top rfl hup htop
    subst htop
    refine ⟨fun hover hband => ?_, fun hover hband => ?_, fun hmean hstamp hband hwork hfits => ?_, fun hoff => ?_, fun hon hclip hn => ?_⟩
    · obtain ⟨hpower, hcnt, hframe⟩ := State.noteClip_applyClocks
        { s.elapse dt with power := { (s.elapse dt).power with band := (s.elapse dt).power.band - 25 } }
      refine ⟨_, exec_bandCheck_falls hup hover hband, hpower, hcnt, ?_⟩
      rw [hframe]
    · exact exec_bandCheck_holds hup hover hband
    · have hcalm : ¬ (s.elapse dt).Overworked := by
        rintro (⟨hwork', -⟩ | hmean')
        · exact absurd hwork (not_le.mpr hwork')
        · exact absurd hmean (not_le.mpr hmean')
      refine ⟨_, exec_bandCheck_rises hup hcalm ⟨hstamp, hband, hwork, hfits⟩, ?_⟩
      rw [State.applyClocks_rest]
      exact ⟨rfl, rfl⟩
    · exact congrArg Host.Outcome.next ((State.whenUp_up _ hup).trans (if_pos (.inl hoff)))
    · obtain ⟨hframe, htaken⟩ := (s.elapse dt).stopBallast.ballasted_spec
        ((s.elapse dt).ballastBays.take ((s.elapse dt).ballastDemand n))
        (State.toWake ((s.elapse dt).ballastDemand n - (s.elapse dt).ballastBays.length))
      exact ⟨_, exec_ballastUpdate_takes hup hon hclip hn, hframe, htaken⟩

end Sys2Proof.Machine
end

section
/-! PROOFS. Thermal limits (O50): junctions, trips and what they hold (R437, R452, R454). -/

namespace Sys2Proof.Machine

/-! ### Junctions (R452) -/

/-- A view of a die that its clock and voltage are no part of. -/
theorem State.applyClock_die_keeps {β : Type} {π : Die → β}
    (hπ : ∀ (x : Die) (clock : Nat) (settle : Bool) (voltage : Nat), π { x with clock := clock, settle := settle, voltage := voltage } = π x)
    (s : State) (d e : Nat) : π ((s.applyClock d).die e) = π (s.die e) := by
  have hset (clock : Nat) (settle : Bool) (voltage : Nat) :
      π ((s.setDie d { s.die d with clock := clock, settle := settle, voltage := voltage }).die e) = π (s.die e) := by
    by_cases hde : e = d
    · subst hde
      rw [State.setDie_die_self, hπ]
    · rw [State.setDie_die_ne _ _ hde]
  unfold State.applyClock
  dsimp only
  split
  · exact hset _ _ _
  · split
    · exact hset _ _ _
    · exact hset _ _ _

theorem State.applyClocks_die_keeps {β : Type} {π : Die → β} (hπ : ∀ (s : State) d e, π ((s.applyClock d).die e) = π (s.die e)) (s : State)
    (e : Nat) : π (s.applyClocks.die e) = π (s.die e) := by
  unfold State.applyClocks
  rw [State.foldl_keeps (fun t => π (t.die e))]
  exact fun t d => hπ t d e

/-- From s to t the junctions are j, the edge junctions e0 and e1, and memory and the boot stand. -/
structure State.Reads (s : State) (j : Nat → Int) (e0 e1 : Int) (t : State) : Prop where
  junction : ∀ d, (t.die d).junction = j d
  mem : t.mem = s.mem
  boot : t.boot = s.boot
  edge0 : t.power.edge0 = e0
  edge1 : t.power.edge1 = e1

theorem State.SignalsTo.dies {s t : State} (h : s.SignalsTo t) : t.dies = s.dies := by
  unfold State.SignalsTo at h
  rw [h]

theorem State.signal_boot {s : State} (h : s.up = true) (n : Nat) (c : Option Nat) : (s.signal n c).boot = s.boot :=
  (State.signalFrame_signal h n c).signalsTo.boot

theorem State.reads_stable {s : State} (hup : s.up = true) (j : Nat → Int) (e0 e1 : Int) : State.LimitStable (s.Reads j e0 e1) where
  signal {t} n c h := by
    have htup : t.up = true := by rw [State.up, h.boot]; exact hup
    have hedge := t.signal_metered n c
    exact ⟨fun d => by rw [State.signal_die, h.junction], (t.signal_mem n c).trans h.mem, (State.signal_boot htup n c).trans h.boot,
      (congrArg (fun x => x.2.2.2.2.2.1) hedge).trans h.edge0, (congrArg (fun x => x.2.2.2.2.2.2) hedge).trans h.edge1⟩
  count _ _ h := ⟨h.junction, h.mem, h.boot, h.edge0, h.edge1⟩
  ballast h := ⟨h.junction, h.mem, h.boot, h.edge0, h.edge1⟩
  clocks {t} h := by
    have hjunction (d : Nat) := (t.applyClocks_die_keeps (State.applyClock_die_keeps (π := Die.junction) fun _ _ _ _ => rfl) d).trans (h.junction d)
    rw [State.applyClocks_rest] at hjunction ⊢
    exact ⟨hjunction, h.mem, h.boot, h.edge0, h.edge1⟩
  admission {t} h := by
    rw [State.admitTest_rest]
    exact ⟨h.junction, h.mem, h.boot, h.edge0, h.edge1⟩
  power p hp h := ⟨h.junction, h.mem, h.boot, (congrArg (fun x => x.2.2.2.2.2.1) hp).trans h.edge0,
    (congrArg (fun x => x.2.2.2.2.2.2) hp).trans h.edge1⟩

section
variable {s t : State} {j : Nat → Int} {e0 e1 : Int}

theorem State.Reads.setDie (h : s.Reads j e0 e1 t) (d : Nat) (tj : Int) {x : Die} (hx : x.junction = tj) :
    s.Reads (Function.update j d tj) e0 e1 (t.setDie d x) := by
  refine ⟨fun e => ?_, h.mem, h.boot, h.edge0, h.edge1⟩
  by_cases hde : e = d
  · subst hde
    rw [State.setDie_die_self, Function.update_self, hx]
  · rw [State.setDie_die_ne _ _ hde, Function.update_of_ne hde, h.junction]

theorem State.Reads.sampleDie (hup : s.up = true) (h : s.Reads j e0 e1 t) (d : Nat) (tj : Int) :
    s.Reads (Function.update j d tj) e0 e1 (t.sampleDie d tj) := by
  have hstable := State.reads_stable hup (Function.update j d tj) e0 e1
  unfold State.sampleDie
  dsimp only
  refine hstable.noteTherm _ _ (iteInduction (motive := s.Reads (Function.update j d tj) e0 e1) (fun _ => ?_) (fun _ => ?_))
  · exact hstable.clearCause _ (h.setDie d tj rfl)
  · exact h.setDie d tj rfl

theorem State.Reads.sampleEdge (hup : s.up = true) (h : s.Reads j e0 e1 t) (t0 t1 : Int) : s.Reads j t0 t1 (t.sampleEdge t0 t1) := by
  unfold State.sampleEdge
  dsimp only
  exact (State.reads_stable hup j t0 t1).noteTherm _ _ ⟨h.junction, h.mem, h.boot, rfl, rfl⟩

end

theorem nth_map_range (n : Nat) (f : Nat → Int) {i : Nat} (h : i < n) : nth 0 ((List.range n).map f) i = f i := by
  simp [nth, h]

/-- The junctions of the four dies after a sample. -/
def State.newJunctions (s : State) (tj : List Int) : Nat → Int :=
  Function.update (Function.update (Function.update (Function.update (fun d => (s.die d).junction) 0 (nth 0 tj 0)) 1 (nth 0 tj 1))
    2 (nth 0 tj 2)) 3 (nth 0 tj 3)

theorem State.newJunctions_eq (s : State) (tj : List Int) {d : Nat} (hd : d < 4) : s.newJunctions tj d = nth 0 tj d := by
  unfold State.newJunctions
  interval_cases d <;> simp [Function.update]

/-- The device after a sample of its six junctions, before the edge limit acts. -/
def State.sampledAll (s : State) (tj : List Int) : State :=
  let top := tj.foldl max (nth 0 tj 0)
  let s := (List.range 4).foldl (fun s d => s.sampleDie d (nth 0 tj d)) s
  let s := s.sampleEdge (nth 0 tj 4) (nth 0 tj 5)
  let s := { s with power := { s.power with maxJunction := max s.power.maxJunction top, cMaxTj := some (s.power.cMaxTj.elim top (fun x => max x top)) } }
  s.thermCap.applyClocks

theorem exec_junctionSample_samples {dt : Nat} {raw : List Int} {s : State} (hup : (s.elapse dt).up = true) :
    let tj := (List.range 6).map (fun i => nth 0 raw i + toSigned 32 ((s.elapse dt).num 0x6110 (i + 1)))
    exec (.junctionSample dt raw) s = .next
      (if 105000 ≤ max (nth 0 tj 4) (nth 0 tj 5) then ((s.elapse dt).sampledAll tj).enterWarmReset 0x0503 true true
        else (s.elapse dt).sampledAll tj) :=
  congrArg Host.Outcome.next (State.whenUp_up _ hup)

theorem State.sampledAll_reads {s : State} (hup : s.up = true) (tj : List Int) :
    s.Reads (s.newJunctions tj) (nth 0 tj 4) (nth 0 tj 5) (s.sampledAll tj) := by
  have hstart : s.Reads (fun d => (s.die d).junction) s.power.edge0 s.power.edge1 s := ⟨fun _ => rfl, rfl, rfl, rfl, rfl⟩
  have hdies := (((hstart.sampleDie hup 0 (nth 0 tj 0)).sampleDie hup 1 (nth 0 tj 1)).sampleDie hup 2 (nth 0 tj 2)).sampleDie hup 3 (nth 0 tj 3)
  have hstable := State.reads_stable hup (s.newJunctions tj) (nth 0 tj 4) (nth 0 tj 5)
  exact hstable.clocks (hstable.thermCap (hstable.power _ rfl (hdies.sampleEdge hup _ _)))

/-! ### Trips (R454) -/

/-- What a trip notes of a die. -/
def Die.trip (x : Die) : Bool × Bool × Nat := (x.gated, x.tripped, x.tripSince)

theorem State.applyClocks_trip (s : State) (e : Nat) : (s.applyClocks.die e).trip = (s.die e).trip :=
  s.applyClocks_die_keeps (State.applyClock_die_keeps fun _ _ _ _ => rfl) e

/-- Entry to shed for a cause, before the clocks follow. -/
def State.shedFor (s : State) (k : Nat) : State :=
  if s.stopBallast.power.shedCauses.contains k then s.stopBallast
  else ({ s.stopBallast with power := { s.stopBallast.power with
    shed := true, shedCauses := s.stopBallast.power.shedCauses ++ [k] } } : State).bump 0x6040 6

theorem State.enterShed_eq (s : State) (k : Nat) : s.enterShed (some k) = (s.shedFor k).applyClocks := rfl

theorem State.shedFor_spec (s : State) (k : Nat) :
    k ∈ (s.shedFor k).power.shedCauses ∧ (s.shedFor k).mem = s.mem ∧ (s.shedFor k).dies = s.dies
    ∧ ∀ j, objKey 0x6040 j ≠ objKey 0x6040 6 → (s.shedFor k).cnt 0x6040 j = s.cnt 0x6040 j := by
  unfold State.shedFor
  split
  next hin => exact ⟨List.contains_iff_mem.mp hin, rfl, rfl, fun _ _ => rfl⟩
  next => exact ⟨List.mem_append_right _ (List.mem_singleton.mpr rfl), rfl, rfl, fun _ hj => State.setCnt_cnt_ne _ _ hj⟩

/-- Shed for a cause: the cause stands, the dies' trips and every other count are as they were. -/
theorem State.enterShed_spec (s : State) (k : Nat) :
    k ∈ (s.enterShed (some k)).power.shedCauses ∧ (s.enterShed (some k)).mem = s.mem
    ∧ (∀ e, ((s.enterShed (some k)).die e).trip = (s.die e).trip)
    ∧ ∀ j, objKey 0x6040 j ≠ objKey 0x6040 6 → (s.enterShed (some k)).cnt 0x6040 j = s.cnt 0x6040 j := by
  obtain ⟨hcause, hmem, hdies, hcnt⟩ := s.shedFor_spec k
  have hdie (e : Nat) : ((s.shedFor k).applyClocks.die e).trip = (s.die e).trip := by
    rw [State.applyClocks_trip, State.die, hdies]
    rfl
  rw [State.enterShed_eq]
  refine ⟨?_, ?_, hdie, fun j hj => (State.applyClocks_cnt _ _ _).trans (hcnt j hj)⟩
  · rw [State.applyClocks_rest]
    exact hcause
  · rw [State.applyClocks_rest]
    exact hmem

theorem State.signal_shedCauses (s : State) (n : Nat) (c : Option Nat) : (s.signal n c).power.shedCauses = s.power.shedCauses := by
  refine State.signal_keeps (π := fun t => t.power.shedCauses) (fun _ _ hto => ?_) (fun t => ?_) s n c
  · unfold State.SignalsTo at hto
    rw [hto]
  · unfold State.startWake
    split
    · rfl
    · split <;> rfl

theorem State.whenSafe_up {s : State} (h : s.up = true) (f : State → State) : s.whenSafe f = f s := by
  unfold State.whenSafe
  rw [State.up_phase h]

/-- A die as a trip leaves it. -/
def Die.tripAt (x : Die) (now : Nat) : Die := { x with gated := true, tripped := true, tripSince := now, therm := { x.therm with limit := 1050 } }

theorem exec_thermalTrip_trips {dt d : Nat} {s : State} (hup : (s.elapse dt).up = true) (hd : d < 4) (hgated : ((s.elapse dt).die d).gated = false) :
    exec (.thermalTrip dt d) s = .next
      (((((s.elapse dt).setDie d (((s.elapse dt).die d).tripAt (s.elapse dt).stamp)).enterShed (some (tripCause d))).bump 0x6040 4).signal 2 none) := by
  refine congrArg Host.Outcome.next ((State.whenSafe_up hup _).trans (if_neg ?_))
  rw [hgated]
  simp
  omega

theorem State.trip_spec (s : State) (d : Nat) :
    let t := (((s.setDie d ((s.die d).tripAt s.stamp)).enterShed (some (tripCause d))).bump 0x6040 4).signal 2 none
    (t.die d).gated = true ∧ (t.die d).tripped = true ∧ (t.die d).tripSince = s.stamp ∧ tripCause d ∈ t.power.shedCauses
    ∧ t.cnt 0x6040 4 = min (s.cnt 0x6040 4 + 1) (2 ^ 64 - 1) ∧ (t.sourceOf 2).pend = true ∧ t.mem = s.mem := by
  obtain ⟨hcause, hmem, hdies, hcnt⟩ := (s.setDie d ((s.die d).tripAt s.stamp)).enterShed_spec (tripCause d)
  have htrip : ((((s.setDie d ((s.die d).tripAt s.stamp)).enterShed (some (tripCause d)))).die d).trip = (true, true, s.stamp) := by
    rw [hdies, State.setDie_die_self]
    rfl
  generalize (s.setDie d ((s.die d).tripAt s.stamp)).enterShed (some (tripCause d)) = v at hcause hmem hcnt htrip
  have hcount : (v.bump 0x6040 4).cnt 0x6040 4 = min (s.cnt 0x6040 4 + 1) (2 ^ 64 - 1) := by
    rw [State.bump_cnt_self, hcnt 4 (by decide)]
    rfl
  dsimp only
  rw [State.signal_die, State.signal_shedCauses, State.signal_cnt _ _ _ (by decide) (by decide) (by decide), State.signal_mem]
  exact ⟨congrArg Prod.fst htrip, congrArg (fun x => x.2.1) htrip, congrArg (fun x => x.2.2) htrip, hcause, hcount,
    State.signal_pend _ none (by decide), hmem⟩

theorem State.timerBlind_dies : State.TimerBlind State.dies where
  signal s n c := by
    refine State.signal_keeps (π := State.dies) (fun _ _ hto => hto.dies) (fun t => ?_) s n c
    unfold State.startWake
    split
    · rfl
    · split <;> rfl
  objs _ _ := rfl
  perf _ _ := rfl
  fault _ _ := rfl
  res _ _ _ := rfl
  polling _ _ := rfl

theorem State.recoveryOn_die (s : State) (d : Nat) : s.recoveryOn.die d = s.die d := by
  rw [State.die, State.timerBlind_dies.recoveryOn, State.die]

/-- A reset of a die ends by holding it in reset. -/
theorem State.resetDie_ends (s : State) (d cause : Nat) :
    ∃ v : State, s.resetDie d cause = (v.setDie d { v.die d with inReset := true }).recoveryOn := by
  unfold State.resetDie
  exact ⟨_, rfl⟩

theorem State.resetDie_inReset (s : State) (d cause : Nat) : ((s.resetDie d cause).die d).inReset = true := by
  obtain ⟨v, hv⟩ := s.resetDie_ends d cause
  rw [hv, State.recoveryOn_die, State.setDie_die_self]

theorem State.lowered_spec {s : State} {d : Nat} (h : (s.die d).inReset = true) :
    ((s.setDie d { s.die d with voltage := 600 }).die d).inReset = true ∧ ((s.setDie d { s.die d with voltage := 600 }).die d).voltage = 600 := by
  rw [State.setDie_die_self]
  exact ⟨h, rfl⟩

theorem State.dieResetFor_live {s : State} {d : Nat} (h : s.dieReset d = false) (cause : Nat) :
    s.dieResetFor d cause = (s.log { code := cause, severity := 2, unitKind := 2, unit := d, action := 3 }).resetDie d cause :=
  if_neg (by rw [h]; exact Bool.false_ne_true)

theorem exec_tripHoldTimeout_resets {dt d : Nat} {s : State} (hup : (s.elapse dt).up = true) (htripped : ((s.elapse dt).die d).tripped = true)
    (hsince : ((s.elapse dt).die d).tripSince + 100 * ms ≤ (s.elapse dt).stamp) (hreset : (s.elapse dt).dieReset d = false) :
    exec (.tripHoldTimeout dt d) s = .next
      (((s.elapse dt).dieResetFor d 0x0204).setDie d { ((s.elapse dt).dieResetFor d 0x0204).die d with voltage := 600 }) := by
  refine congrArg Host.Outcome.next ((State.whenUp_up _ hup).trans (if_pos ?_))
  rw [htripped, hreset, decide_eq_true hsince]
  rfl

/-- A die whose trip was held is in reset. -/
theorem State.dieResetFor_inReset {s : State} {d : Nat} (h : s.dieReset d = false) (cause : Nat) : ((s.dieResetFor d cause).die d).inReset = true := by
  rw [State.dieResetFor_live h]
  exact State.resetDie_inReset _ _ _

/-- A sample below the edge's limit (R452). -/
theorem junctionSample_below {dt : Nat} {raw : List Int} {s : State} (hup : (s.elapse dt).up = true) {tj : Nat → Int}
    (htj : tj = fun i => nth 0 raw i + toSigned 32 ((s.elapse dt).num 0x6110 (i + 1))) (h4 : tj 4 < 105000) (h5 : tj 5 < 105000) :
    exec (.junctionSample dt raw) s = .next ((s.elapse dt).sampledAll ((List.range 6).map tj)) := by
  rw [exec_junctionSample_samples hup, ← htj]
  refine congrArg Host.Outcome.next (if_neg ?_)
  rw [nth_map_range 6 _ (by decide), nth_map_range 6 _ (by decide)]
  omega

/-- A sample at the edge's limit or above it (R452). -/
theorem junctionSample_above {dt : Nat} {raw : List Int} {s : State} (hup : (s.elapse dt).up = true) {tj : Nat → Int}
    (htj : tj = fun i => nth 0 raw i + toSigned 32 ((s.elapse dt).num 0x6110 (i + 1))) (hhot : 105000 ≤ tj 4 ∨ 105000 ≤ tj 5) :
    exec (.junctionSample dt raw) s = .next (((s.elapse dt).sampledAll ((List.range 6).map tj)).enterWarmReset 0x0503 true true) := by
  rw [exec_junctionSample_samples hup, ← htj]
  refine congrArg Host.Outcome.next (if_pos ?_)
  rw [nth_map_range 6 _ (by decide), nth_map_range 6 _ (by decide)]
  omega

/-- What a sample leaves below the edge's limit. -/
theorem State.sampledAll_spec {s : State} (hup : s.up = true) (tj : Nat → Int) :
    (∀ d, d < 4 → ((s.sampledAll ((List.range 6).map tj)).die d).junction = tj d)
    ∧ (s.sampledAll ((List.range 6).map tj)).power.edge0 = tj 4 ∧ (s.sampledAll ((List.range 6).map tj)).power.edge1 = tj 5
    ∧ (s.sampledAll ((List.range 6).map tj)).mem = s.mem := by
  have hreads := State.sampledAll_reads hup ((List.range 6).map tj)
  refine ⟨fun d hd => (hreads.junction d).trans ((State.newJunctions_eq _ _ hd).trans (nth_map_range 6 _ (by omega))),
    hreads.edge0.trans (nth_map_range 6 _ (by decide)), hreads.edge1.trans (nth_map_range 6 _ (by decide)), hreads.mem⟩

/-- Settles O50: a sample through the limits, and a trip by what it gates and sheds. -/
theorem thermalLimitsAct : Obligations.ThermalLimitsAct := by
  rintro dt s _ rfl hup
  refine ⟨fun raw tj htj => ?_, fun d hd hsettle => ?_,
    fun d hd hgated => ⟨_, exec_thermalTrip_trips hup hd hgated, State.trip_spec _ d⟩,
    fun d hd htripped hsince hreset => ⟨_, exec_tripHoldTimeout_resets hup htripped hsince hreset,
      State.lowered_spec (State.dieResetFor_inReset hreset _)⟩⟩
  · by_cases hhot : 105000 ≤ tj 4 ∨ 105000 ≤ tj 5
    · obtain ⟨hphase, hcause, -, -⟩ := State.enterWarmReset_spec
        (.inl ((congrArg Boot.phase (State.sampledAll_reads hup ((List.range 6).map tj)).boot).trans (State.up_phase hup))) 0x0503 true true
      exact ⟨_, junctionSample_above hup htj hhot, fun h4 h5 => by omega, fun _ => ⟨hphase, hcause⟩⟩
    · exact ⟨_, junctionSample_below hup htj (by omega) (by omega), fun _ _ => State.sampledAll_spec hup tj, fun h => absurd h hhot⟩
  · refine congrArg Host.Outcome.next ((State.whenUp_up _ hup).trans (if_pos ?_))
    rw [hsettle, decide_eq_true hd]
    rfl

end Sys2Proof.Machine
end

section
/-! PROOFS. What resets, faults and lost links spare (R281, R298, R473). -/

namespace Sys2Proof.Machine

/-! ### What resets and faults spare (R281, R298, R473): the pins and the boot, the dies, the states of the links, the bays out of
service and out of reset, ordered delivery, the dump that is written and the self-test, and two counts of their own -/

/-- The count of lost rails and the self-test's state. -/
def sparedCounts : List Nat := [objKey 0x6040 9, objKey 0x7104 2]

/-- From `s` to `t`, pins, boot, dies, the states of links, ordered delivery, the dump and the self-test stand; no bay comes back into service or goes into reset. -/
structure State.Spares (s t : State) : Prop where
  rom : t.rom = s.rom
  dies : t.dies = s.dies
  counts : ∀ i k, objKey i k ∈ sparedCounts → t.cnt i k = s.cnt i k
  links : ∀ n, (t.link n).state = (s.link n).state
  out : ∀ b, (s.bay b).out = true → (t.bay b).out = true
  live : ∀ b, (s.bay b).inReset = false → (t.bay b).inReset = false
  ordered : s.boot.phase = .running → t.intr.ordered = s.intr.ordered
  faults : (t.fault.dumping, t.fault.selfTest) = (s.fault.dumping, s.fault.selfTest)

/-- Whatever `o` yields, the state in it spares what `s` has. -/
def State.Yields {α : Type} (s : State) (π : α → State) (o : Option α) : Prop := ∀ a, o = some a → s.Spares (π a)

set_option Elab.async false

variable {s₀ s t v : State}

theorem State.Spares.refl (s : State) : s.Spares s := ⟨rfl, rfl, fun _ _ _ => rfl, fun _ => rfl, fun _ => id, fun _ => id, fun _ => rfl, rfl⟩

theorem State.Spares.dumping (h : s.Spares t) : t.fault.dumping = s.fault.dumping := congrArg Prod.fst h.faults

theorem State.Spares.selfTest (h : s.Spares t) : t.fault.selfTest = s.fault.selfTest := congrArg Prod.snd h.faults

theorem State.Spares.pins (h : s.Spares t) : t.pins = s.pins := State.pins_of_rom h.rom

/-- A device that runs goes on running. -/
theorem State.Spares.running (h : s.Spares t) (hr : s.boot.phase = .running) : t.boot.phase = .running := by
  have hboot := State.boot_of_rom h.rom (by rw [hr]; decide) (by rw [hr]; decide)
  rw [hboot, hr]

theorem State.Spares.trans (h : s.Spares t) (g : t.Spares v) : s.Spares v :=
  ⟨g.rom.trans h.rom, g.dies.trans h.dies, fun i k hk => (g.counts i k hk).trans (h.counts i k hk), fun n => (g.links n).trans (h.links n), fun b x => g.out b (h.out b x),
    fun b x => g.live b (h.live b x), fun hr => (g.ordered (h.running hr)).trans (h.ordered hr), g.faults.trans h.faults⟩

section
variable {pending : List Instr} {sent : List Sent} {mem : List Host.Cell} {stamp freeCtr : Nat} {hbm : Sparse HbmPage} {sill : Sparse SillPage}
    {copies : List Copy} {loft : Sparse (List LoftLine)} {interleave : Sparse Nat} {stale : List StaleEntry}
    {copyQueue : Sparse (List Nat)} {objects : Sparse Obj} {nextObj : Nat} {engines : Sparse Engine} {res : Sparse ResUnit} {resOrder : Nat}
    {ctxs : Sparse Ctx} {epochs : Sparse Nat} {sched : Sched} {ports hostPorts : Sparse Nat} {fab : Fabric}
    {sessions : Sparse Session} {clock : Clock} {efyth : Efyth} {intr : Intr} {cores : Sparse Core} {perf : Perf} {power : Power} {fault : FaultSt}

/-- A change of anything else. -/
theorem State.Spares.keep (h : s₀.Spares s) (hf : (fault.dumping, fault.selfTest) = (s.fault.dumping, s.fault.selfTest) := by rfl)
    (hi : intr.ordered = s.intr.ordered := by rfl) : s₀.Spares
    { s with
      pending, sent, mem, stamp, freeCtr, hbm, sill, copies, loft, interleave, stale, copyQueue, objects, nextObj, engines, res,
      resOrder, ctxs, epochs, sched, ports, hostPorts, fab, sessions, clock, efyth, intr, cores, perf, power, fault } :=
  ⟨h.rom, h.dies, h.counts, h.links, h.out, h.live, fun hr => hi.trans (h.ordered hr), hf.trans h.faults⟩

end

theorem State.Spares.ite {c : Prop} {_ : Decidable c} (h : s₀.Spares s) (g : s₀.Spares t) : s₀.Spares (if c then s else t) := by
  split <;> assumption

theorem State.Spares.fst {β : Type} {b : β} (h : s₀.Spares s) : s₀.Spares (s, b).1 := h

theorem State.Spares.elim {α : Type} {o : Option α} {f : α → State} (h : s₀.Spares s) (hf : ∀ a, s₀.Spares (f a)) :
    s₀.Spares (o.elim s f) := by
  cases o with
  | none => exact h
  | some a => exact hf a

theorem State.Spares.iteFst {β : Type} {c : Prop} {_ : Decidable c} {a b : State × β} (h : s₀.Spares a.1) (g : s₀.Spares b.1) :
    s₀.Spares (if c then a else b).1 := by
  split <;> assumption

/-- What each round of a fold spares, the fold spares; `π` is the state in what is folded. -/
theorem State.Spares.foldlOn {α β : Type} (π : β → State) {f : β → α → β} (hf : ∀ b x, s₀.Spares (π b) → s₀.Spares (π (f b x)))
    {l : List α} {b : β} (h : s₀.Spares (π b)) : s₀.Spares (π (l.foldl f b)) := by
  induction l generalizing b with
  | nil => exact h
  | cons x l ih => exact ih (hf b x h)

theorem State.Spares.foldl {α : Type} {f : State → α → State} (hf : ∀ s x, s₀.Spares s → s₀.Spares (f s x)) {l : List α}
    (h : s₀.Spares s) : s₀.Spares (l.foldl f s) :=
  State.Spares.foldlOn id hf h

theorem State.Spares.foldlFst {α γ : Type} {f : State × γ → α → State × γ} (hf : ∀ b x, s₀.Spares b.1 → s₀.Spares (f b x).1)
    {l : List α} {b : State × γ} (h : s₀.Spares b.1) : s₀.Spares (l.foldl f b).1 :=
  State.Spares.foldlOn Prod.fst hf h

/-! What is written without a change of the rest -/

theorem State.Spares.setCnt (h : s₀.Spares s) {idx sub n : Nat} (hk : objKey idx sub ∉ sparedCounts := by decide) :
    s₀.Spares (s.setCnt idx sub n) :=
  ⟨h.rom, h.dies, fun i k hs => (State.setCnt_cnt_ne s n (fun he => hk (he ▸ hs))).trans (h.counts i k hs), h.links, h.out, h.live, h.ordered, h.faults⟩

theorem State.Spares.bumpBy (h : s₀.Spares s) {idx sub n : Nat} (hk : objKey idx sub ∉ sparedCounts := by decide) :
    s₀.Spares (s.bumpBy idx sub n) := .setCnt h hk

theorem State.Spares.bump (h : s₀.Spares s) {idx sub : Nat} (hk : objKey idx sub ∉ sparedCounts := by decide) :
    s₀.Spares (s.bump idx sub) := .bumpBy h hk

theorem State.Spares.setRwp (h : s₀.Spares s) {idx sub : Nat} {x : ObjVal} (hk : objKey idx sub ∉ sparedCounts := by decide) :
    s₀.Spares (s.setRwp idx sub x) :=
  ⟨h.rom, h.dies, fun i k hs => (State.setRwp_cnt_ne s x (fun he => hk (he ▸ hs))).trans (h.counts i k hs), h.links, h.out, h.live, h.ordered, h.faults⟩

theorem State.Spares.push (h : s₀.Spares s) {m : Sent} : s₀.Spares (s.push m) := h.keep

theorem State.Spares.setCtx (h : s₀.Spares s) {c : Nat} {x : Ctx} : s₀.Spares (s.setCtx c x) := h.keep

theorem State.Spares.modCtx (h : s₀.Spares s) {c : Nat} {f : Ctx → Ctx} : s₀.Spares (s.modCtx c f) := .setCtx h

theorem State.Spares.setEngine (h : s₀.Spares s) {e : Nat} {x : Engine} : s₀.Spares (s.setEngine e x) := h.keep

theorem State.Spares.setHbmPage (h : s₀.Spares s) {p : Nat} {x : HbmPage} : s₀.Spares (s.setHbmPage p x) := h.keep

theorem State.Spares.setSillPage (h : s₀.Spares s) {p : Nat} {x : SillPage} : s₀.Spares (s.setSillPage p x) := h.keep

theorem State.Spares.setObject (h : s₀.Spares s) {o : Nat} {x : Obj} : s₀.Spares (s.setObject o x) := h.keep

theorem State.Spares.setPerfValue (h : s₀.Spares s) {u k x : Nat} : s₀.Spares (s.setPerfValue u k x) := h.keep

/-- A link that keeps its state. -/
theorem State.Spares.setLink (h : s₀.Spares s) {n : Nat} {x : Link} (hx : x.state = (s.link n).state := by rfl) : s₀.Spares (s.setLink n x) := by
  refine ⟨h.rom, h.dies, h.counts, fun m => Eq.trans ?_ (h.links m), h.out, h.live, h.ordered, h.faults⟩
  by_cases hm : m = n
  · subst hm
    rw [State.setLink_link_self, hx]
  · rw [State.setLink_link_ne _ _ hm]

/-- A bay that neither comes back into service nor goes into reset. -/
theorem State.Spares.setBay (h : s₀.Spares s) {b : Nat} {x : Bay} (hout : (s.bay b).out = true → x.out = true := by exact id)
    (hlive : (s.bay b).inReset = false → x.inReset = false := by exact id) : s₀.Spares (s.setBay b x) := by
  refine ⟨h.rom, h.dies, h.counts, h.links, fun e he => ?_, fun e he => ?_, h.ordered, h.faults⟩
  · by_cases hm : e = b
    · subst hm
      rw [State.setBay_bay_self]
      exact hout (h.out e he)
    · rw [State.setBay_bay_ne _ _ hm]
      exact h.out e he
  · by_cases hm : e = b
    · subst hm
      rw [State.setBay_bay_self]
      exact hlive (h.live e he)
    · rw [State.setBay_bay_ne _ _ hm]
      exact h.live e he

/-! Signals (R411) -/

theorem State.Spares.latchSignal (h : s₀.Spares s) {n : Nat} {c : Option Nat} : s₀.Spares (s.latchSignal n c) := by
  unfold State.latchSignal
  exact .bump (.keep (.ite (.bump h) h))

theorem State.Spares.startWake (h : s₀.Spares s) : s₀.Spares s.startWake := by
  have hrom := s.startWake_rom
  unfold State.startWake at hrom ⊢
  split
  next hp3 =>
    rw [if_pos hp3] at hrom
    have hcount : s₀.Spares ((s.setCnt 0x7101 2 0x0714).setCnt 0x7101 3 s.stamp) := .setCnt (.setCnt h)
    exact ⟨hrom.trans h.rom, hcount.dies, hcount.counts, hcount.links, hcount.out, hcount.live,
      fun hr => absurd (h.running hr) (by rw [hp3]; decide), hcount.faults⟩
  next => exact .ite h.keep h

/-- A counter of signals is no spared count. -/
theorem not_spared_of_signalCounter {k : Nat} (h : k ∈ signalCounters) : k ∉ sparedCounts := by
  revert k
  decide

/-- What every part of a signal spares, a signal spares. -/
theorem State.spares_stable (s₀ : State) : State.SignalStable 0 s₀.Spares where
  bump hk h := h.bump (not_spared_of_signalCounter hk)
  sent _ h := h.keep
  efyth _ h := h.keep
  value _ _ _ h := h.keep
  overflow _ _ h := h.keep
  latch _ h := h.latchSignal
  session _ _ h := h.keep
  wake h := h.startWake

theorem State.Spares.signal (h : s₀.Spares s) {n : Nat} {c : Option Nat} : s₀.Spares (s.signal n c) :=
  (s₀.spares_stable.of_ne (by decide) n).signal c (fun _ => h) h.latchSignal

theorem State.Spares.completionEvent (h : s₀.Spares s) {c : Nat} {d : Done} {seq : Nat} : s₀.Spares (s.completionEvent c d seq) := by
  have hsent (l : List Nat) (r : EventRec) :
      s₀.Spares (l.foldl (fun (a : State × Bool) n => ((a.1.eventTo n r s.stamp).1, a.2 || (a.1.eventTo n r s.stamp).2)) (s, false)).1 :=
    State.Spares.foldlFst (f := fun a n => ((a.1.eventTo n r s.stamp).1, a.2 || (a.1.eventTo n r s.stamp).2))
      (fun b n hb => s₀.spares_stable.eventTo n r s.stamp (s := b.1) hb) (.fst h)
  unfold State.completionEvent
  exact .ite (.signal (hsent _ _)) (hsent _ _)

theorem State.Yields.none {α : Type} {π : α → State} : s₀.Yields π none := fun _ e => nomatch e

theorem State.Yields.some {α : Type} {π : α → State} {a : α} (h : s₀.Spares (π a)) : s₀.Yields π (some a) := fun _ e => by cases e; exact h

/-! The rest of the machine, in the model's order -/

theorem State.Spares.setByte (h : s₀.Spares s) {a : Nat} {b : Byte} : s₀.Spares (s.setByte a b) := h.keep

theorem State.Spares.writeBytes (h : s₀.Spares s) {a : Nat} {l : List Byte} : s₀.Spares (s.writeBytes a l) := by
  induction l generalizing s a with
  | nil => exact h
  | cons b l ih => exact ih (.setByte h)

theorem State.Spares.zeroRange (h : s₀.Spares s) {lo hi : Nat} : s₀.Spares (s.zeroRange lo hi) :=
  h.keep

theorem State.Spares.loadRange (h : s₀.Spares s) {lo : Nat} {l : Sparse Nat} : s₀.Spares (s.loadRange lo l) :=
  .foldl (fun _ _ h' => .setByte h') h

theorem State.Spares.zeroBanks (h : s₀.Spares s) {bay mask : Nat} : s₀.Spares (s.zeroBanks bay mask) :=
  h.keep

theorem State.Spares.addCounterBy (h : s₀.Spares s) {sig : State → Nat → State} {f u k n : Nat}
    (hsig : ∀ t x, s₀.Spares t → s₀.Spares (sig t x)) : s₀.Spares (State.addCounterBy sig f s u k n) := by
  induction f generalizing s k n with
  | zero => exact h
  | succ f ih => exact .ite (.setPerfValue h) (.ite (ih (.setPerfValue h)) (.ite (hsig _ _ (.keep (.setPerfValue h))) (.keep (.setPerfValue h))))

theorem State.Spares.countEventBy (h : s₀.Spares s) {sig : State → Nat → State} {u ev n : Nat} {c : Option Nat}
    (hsig : ∀ t x, s₀.Spares t → s₀.Spares (sig t x)) : s₀.Spares (State.countEventBy sig s u ev n c) :=
  .ite h (.foldl (fun _ _ h' => .ite (.addCounterBy h' hsig) h') h)

theorem State.Spares.logEntry (h : s₀.Spares s) {a : LogArgs} : s₀.Spares (s.logEntry a) := .signal h.keep

theorem State.Spares.setResUnit (h : s₀.Spares s) {u : Nat} {x : ResUnit} : s₀.Spares (s.setResUnit u x) := h.keep

theorem State.Spares.countRefusal (h : s₀.Spares s) {u winner loser code : Nat} : s₀.Spares (s.countRefusal u winner loser code) :=
  .setCnt (.setCnt (.setCnt (.setCnt (.setCnt (.setCnt h (by
    unfold sparedCounts objKey resNumber
    simp only [List.mem_cons, List.not_mem_nil, or_false, not_or]
    split
    · omega
    · split <;> omega))))))

theorem State.Spares.setSamplingRun (h : s₀.Spares s) {n : Nat} {r : Sampling} : s₀.Spares (s.setSamplingRun n r) := .ite h.keep h.keep

theorem State.Spares.startPolling (h : s₀.Spares s) : s₀.Spares s.startPolling := .signal (.bump h.keep)

theorem State.Spares.loseHooks (h : s₀.Spares s) {a : Asker} : s₀.Spares (s.loseHooks a) := by
  unfold State.loseHooks
  split
  · exact .signal (.bump (.setSamplingRun h))
  · exact .logEntry (.signal (.bump h.keep))
  · exact .logEntry (.startPolling h)
  · exact .setCnt h
  · exact .logEntry h
  · exact .logEntry h
  · exact .logEntry h
  · exact .logEntry h
  · exact .logEntry h
  · exact .logEntry h
  · exact .logEntry h
  · exact .logEntry h
  · exact .logEntry h

theorem State.Spares.refuseHooks (h : s₀.Spares s) {a : Asker} : s₀.Spares (s.refuseHooks a) := by
  unfold State.refuseHooks
  split
  · exact .setSamplingRun h
  · exact h.keep
  · exact .startPolling h
  · exact .setCnt h
  · exact .logEntry h
  · exact .logEntry h
  · exact .logEntry h
  · exact .logEntry h
  · exact .logEntry h
  · exact .logEntry h
  · exact .logEntry h
  · exact .logEntry h
  · exact .logEntry h

theorem State.Spares.grantUnit (h : s₀.Spares s) {u : Nat} {a : Asker} {level : Nat} : s₀.Spares (s.grantUnit u a level) :=
  .keep (.setResUnit h)

theorem State.Spares.requestUnit (h : s₀.Spares s) {u : Nat} {a : Asker} {level : Nat} : s₀.Spares (s.requestUnit u a level).1 := by
  unfold State.requestUnit
  split
  · exact .fst (.grantUnit h)
  · exact .iteFst (.fst h) (.iteFst (.fst (.refuseHooks (.grantUnit (.setResUnit (.countRefusal h))))) (.iteFst (.fst (.loseHooks
      (.grantUnit (.setResUnit (.countRefusal h))))) (.fst (.countRefusal h))))

theorem State.Spares.releaseUnit (h : s₀.Spares s) {u : Nat} {a : Asker} : s₀.Spares (s.releaseUnit u a) := by
  unfold State.releaseUnit
  dsimp only
  split
  · exact .ite (.setResUnit h) h
  · exact h

theorem State.Spares.requestTimer (h : s₀.Spares s) {a : Asker} {level : Nat} : s₀.Spares (s.requestTimer a level).1 := by
  unfold State.requestTimer
  split
  · exact .fst (.grantUnit h)
  · split
    · exact .fst (.requestUnit h)
    · exact .fst (.countRefusal h)

theorem State.Spares.recoveryOn (h : s₀.Spares s) : s₀.Spares s.recoveryOn := by
  unfold State.recoveryOn
  split
  · exact .ite h (.requestUnit h)
  · exact .requestUnit h

theorem State.Spares.log (h : s₀.Spares s) {a : LogArgs} : s₀.Spares (s.log a) := by
  unfold State.log
  refine .ite ?_ (.logEntry h)
  dsimp only
  split
  · exact .ite (.keep (.logEntry h)) (.requestUnit (.keep (.logEntry h)))
  · exact .requestUnit (.keep (.logEntry h))

theorem State.Spares.healthChanged (h : s₀.Spares s) {before : Nat} : s₀.Spares (s.healthChanged before) := .ite h (.signal h)

theorem State.Spares.deduct (h : s₀.Spares s) {points : Nat} : s₀.Spares (s.deduct points) := .ite (.bump h.keep) (.healthChanged
    h.keep)

theorem State.Spares.deductPermanent (h : s₀.Spares s) {key points : Nat} : s₀.Spares (s.deductPermanent key points) :=
  .healthChanged h.keep

theorem State.Spares.countEvent (h : s₀.Spares s) {u ev n : Nat} {c : Option Nat} : s₀.Spares (s.countEvent u ev n c) :=
  .countEventBy h (fun _ _ h' => .signal h')

theorem State.Spares.setLoftSet (h : s₀.Spares s) {k : Nat} {l : List LoftLine} : s₀.Spares (s.setLoftSet k l) := h.keep

theorem State.Spares.loftWrite (h : s₀.Spares s) {u : LoftUse} {a : Nat} {l : List Byte} : s₀.Spares (s.loftWrite u a l) :=
  .foldl (fun _ _ h' => .setLoftSet h') h

theorem State.Spares.storeAt (h : s₀.Spares s) {u : LoftUse} {a : Nat} {l : List Byte} : s₀.Spares (s.storeAt u a l) :=
  .writeBytes (.ite (.loftWrite h) h)

theorem State.Spares.coreWrite (h : s₀.Spares s) {a : Nat} {l : List Byte} : s₀.Spares (s.coreWrite a l) := .storeAt h

theorem State.Spares.coreWriteNat (h : s₀.Spares s) {a n v : Nat} : s₀.Spares (s.coreWriteNat a n v) := .coreWrite h

theorem State.Spares.dropLines (h : s₀.Spares s) {p : LoftLine → Bool} : s₀.Spares (s.dropLines p) := h.keep

theorem State.Spares.loseDirty (h : s₀.Spares s) {l : List LoftLine} : s₀.Spares (s.loseDirty l) := by
  unfold State.loseDirty
  refine .foldl (fun _ _ h' => ?_) h
  split
  · exact .bump (.writeBytes h')
  · exact h'

theorem State.Spares.dropCopy (h : s₀.Spares s) {sill : Nat} : s₀.Spares (s.dropCopy sill) := h.keep

theorem State.Spares.storeBytes (h : s₀.Spares s) {c a : Nat} {l : List Byte} : s₀.Spares (s.storeBytes c a l) :=
  .foldlFst (fun _ _ h' => .fst (.storeAt h')) (.fst h)

theorem State.Spares.copyOnWrite (h : s₀.Spares s) {c a n : Nat} : s₀.Spares (s.copyOnWrite c a n) := by
  unfold State.copyOnWrite
  split
  · exact h
  · exact .ite (.bump (.modCtx h)) h

theorem State.Spares.putBytes (h : s₀.Spares s) {c a : Nat} {l : List Byte} : s₀.Spares (s.putBytes c a l) :=
  .copyOnWrite (.storeBytes h)

theorem State.Spares.retireHbm (h : s₀.Spares s) {p : Nat} : s₀.Spares (s.retireHbm p) :=
  .ite h (.log (.deduct (.setRwp (.bump (.setHbmPage h)))))

theorem State.Spares.putSave (h : s₀.Spares s) {x : Ctx} {o : Nat} {l : List Byte} : s₀.Spares (s.putSave x o l) :=
  .foldl (fun _ _ h' => .ite h' (.setByte h')) h

theorem State.Spares.putTable (h : s₀.Spares s) {x : Ctx} {o n : Nat} {l : List (Nat × List Byte)} : s₀.Spares (s.putTable x o n l) :=
  .foldl (fun _ _ h' => .putSave h') h

theorem State.Spares.saveParked (h : s₀.Spares s) {c : Nat} : s₀.Spares (s.saveParked c) := .ite (.putTable (.zeroRange h)) h

theorem State.Spares.admitList (h : s₀.Spares s) {l : List Nat} {stopped : Bool} : s₀.Spares (s.admitList l stopped) := by
  induction l generalizing s stopped with
  | nil => exact h
  | cons c l ih => exact .ite (ih (.setCtx h)) (ih (.ite h (.bump (.setCtx h))))

theorem State.Spares.admitTest (h : s₀.Spares s) : s₀.Spares s.admitTest := .admitList h

theorem State.Spares.arriveOpen (h : s₀.Spares s) {c : Nat} : s₀.Spares (s.arriveOpen c) := .ite (.admitTest (.setCtx h)) h

theorem State.Spares.track (h : s₀.Spares s) {c : Nat} : s₀.Spares (s.track c) :=
  .ite (.setCtx (.arriveOpen h)) (.ite (.setCtx (.arriveOpen h)) (.arriveOpen h))

theorem State.Spares.finish (h : s₀.Spares s) {c : Nat} {d : Done} : s₀.Spares (s.finish c d) :=
  .track (.ite (.completionEvent (.ite (.bump (.bump (.ite (.putBytes (.setCtx h)) (.setCtx h)))) (.bump (.ite (.putBytes (.setCtx h))
      (.setCtx h))))) (.ite (.bump (.bump (.ite (.putBytes (.setCtx h)) (.setCtx h)))) (.bump (.ite (.putBytes (.setCtx h)) (.setCtx
      h)))))

theorem State.Spares.finishRun (h : s₀.Spares s) {r : Run} {code : Nat} {aborted : Bool} : s₀.Spares (s.finishRun r code aborted) :=
  .finish h

theorem State.Spares.clearEngine (h : s₀.Spares s) {e : Nat} {p : Run → Bool} : s₀.Spares (s.clearEngine e p) := .setEngine h

theorem State.Spares.armTimer (h : s₀.Spares s) : s₀.Spares s.armTimer := by
  unfold State.armTimer
  refine .ite ?_ (.ite h (.ite (.requestTimer h) (.startPolling (.requestTimer h))))
  split
  · exact .releaseUnit h.keep
  · exact h.keep

theorem State.Spares.wakeParked (h : s₀.Spares s) {c : Nat} {sel : Parked → Bool} {stamp code : Nat} : s₀.Spares (s.wakeParked c sel
    stamp code) := by
  unfold State.wakeParked
  exact .armTimer (.track (.saveParked (.ite (.bumpBy (.bumpBy (.bumpBy (.bumpBy (.setCtx h))))) (.signal (.bumpBy (.bumpBy (.bumpBy
      (.bumpBy (.setCtx h)))))))))

theorem State.Spares.expireHeads (h : s₀.Spares s) : s₀.Spares s.expireHeads :=
  .foldl (fun _ _ h' => .ite h' (.track (.signal (.bumpBy (.foldl (fun _ _ h'' => .modCtx h'') h'))))) h

theorem State.Spares.fillSlot (h : s₀.Spares s) {c m : Nat} {a : FillArgs} : s₀.Spares (s.fillSlot c m a) := by
  unfold State.fillSlot
  exact .wakeParked (.ite (.bump (.setCtx (.ite (.bump (.expireHeads h)) (.expireHeads h)))) (.setCtx (.ite (.bump (.expireHeads h))
      (.expireHeads h))))

theorem State.Spares.sendCodewords (h : s₀.Spares s) {n : Nat} {l : List (List Nat)} : s₀.Spares (s.sendCodewords n l) := by
  induction l generalizing s with
  | nil => exact h
  | cons c l ih => exact ih (.push (.setLink h))

theorem State.Spares.startOnLink (h : s₀.Spares s) {n ty : Nat} {hd : FabHdr} {p : List Byte} : s₀.Spares (s.startOnLink n ty hd p) :=
  .sendCodewords (.countEvent (.push (.setLink h)))

theorem State.Spares.onLink (h : s₀.Spares s) {n ty : Nat} {hd : FabHdr} {p : List Byte} : s₀.Spares (s.onLink n ty hd p) :=
  .ite (.startOnLink h) (.setLink h)

theorem State.Spares.onPort (h : s₀.Spares s) {p d ty : Nat} {hd : FabHdr} {l : List Byte} : s₀.Spares (s.onPort p d ty hd l) :=
  .countEvent (.push h)

theorem State.Spares.route (h : s₀.Spares s) {d ty : Nat} {hd : FabHdr} {p : List Byte} : s₀.Spares (s.route d ty hd p).1 :=
  .iteFst (.fst (.onLink h.keep)) (.iteFst (.fst h) (.fst (.onPort h.keep)))

theorem State.Spares.findLeader (h : s₀.Spares s) : s₀.Spares s.findLeader := .ite h.keep h

theorem State.Spares.fabSend (h : s₀.Spares s) {d ty : Nat} {hd : FabHdr} {p : List Byte} : s₀.Spares (s.fabSend d ty hd p).1 :=
  .iteFst (.fst h) (.fst (.bump (.route h.keep)))

theorem State.Spares.routeAll (h : s₀.Spares s) {d ty : Nat} {l : List (FabHdr × List Byte)} : s₀.Spares (s.routeAll d ty l) :=
  .foldl (fun _ _ h' => .bump (.route h')) h

theorem State.Spares.sendCommand (h : s₀.Spares s) {d ty : Nat} {l : List (FabHdr × List Byte)} : s₀.Spares (s.sendCommand d ty l).1 :=
  .iteFst (.fst h) (.fst (.routeAll h.keep))

theorem State.Spares.dropPages (h : s₀.Spares s) {c queue : Nat} {p : PageOut → Bool} : s₀.Spares (s.dropPages c queue p) := h.keep

theorem State.Spares.sendContribution (h : s₀.Spares s) {c d slot : Nat} {p : Preamble} {data : List Byte} : s₀.Spares
    (s.sendContribution c d slot p data) :=
  .fabSend h

theorem State.Spares.sendAborts (h : s₀.Spares s) {c slot kind opcode lost srcSlot : Nat} : s₀.Spares (s.sendAborts c slot kind
    opcode lost srcSlot) :=
  .ite h (.foldl (fun _ _ h' => .sendContribution h') (.setCtx h))

theorem State.Spares.endParked (h : s₀.Spares s) {c code : Nat} {aborted : Bool} : s₀.Spares (s.endParked c code aborted) := by
  unfold State.endParked
  refine .foldl (fun _ _ h' => ?_) (.setCtx h)
  split
  · exact .finishRun h'
  · exact .ite (.finish (.setCtx h')) h'

theorem State.Spares.endRuns (h : s₀.Spares s) {c code : Nat} {aborted : Bool} : s₀.Spares (s.endRuns c code aborted) :=
  .foldl (fun _ _ h' => .finishRun (.clearEngine h')) h

theorem State.Spares.abandonAs (h : s₀.Spares s) {c cause : Nat} {override : Option Nat} : s₀.Spares (s.abandonAs c cause override)
    := by
  unfold State.abandonAs
  dsimp only
  split
  · exact .log h
  · exact .log (.bump (.foldl (fun _ _ h' => .sendAborts h') (.endParked (.endRuns (.setCtx h)))))

theorem State.Spares.abandon (h : s₀.Spares s) {c cause : Nat} : s₀.Spares (s.abandon c cause) := .abandonAs h

theorem State.Spares.endRemote (h : s₀.Spares s) {c q slot code : Nat} : s₀.Spares (s.endRemote c q slot code).1 := by
  unfold State.endRemote
  split
  · exact .fst (.ite (.abandon (.finishRun (.clearEngine h))) (.finishRun (.clearEngine h)))
  · exact .iteFst (.fst (.wakeParked h)) (.fst h)

theorem State.Spares.memberLost (h : s₀.Spares s) {c slotNo : Nat} {m : Cmd} {lost : Nat} : s₀.Spares (s.memberLost c slotNo m lost)
    := by
  unfold State.memberLost
  dsimp only
  refine .abandon (.sendAborts (.bump (.signal (.fillSlot ?_))))
  split
  · exact .finishRun (.clearEngine h)
  · split
    · split
      · exact .finishRun (.modCtx h)
      · exact .modCtx h
    · exact h

theorem State.Spares.enterPeerReset (h : s₀.Spares s) {d : Nat} : s₀.Spares (s.enterPeerReset d) :=
  .ite h (.foldl (fun _ _ h' => .foldl (fun _ _ h'' => .ite (.memberLost h'') h'') h') (.foldl (fun _ _ h' => .ite (.fillSlot h') h')
      (.foldl (fun _ _ h' => .wakeParked h') (.foldl (fun _ _ h' => .finishRun (.clearEngine h')) (.signal (.findLeader h.keep))))))

theorem State.Spares.prefRecord (h : s₀.Spares s) {c b code : Nat} : s₀.Spares (s.prefRecord c b code) := .ite h (.putBytes (.setCtx
    h))

theorem State.Spares.prefDone (h : s₀.Spares s) {c b : Nat} : s₀.Spares (s.prefDone c b) := by
  unfold State.prefDone
  exact .track (.bump (.modCtx h))

theorem State.Spares.endPref (h : s₀.Spares s) {c b code : Nat} {f : Flight} : s₀.Spares (s.endPref c b code f) :=
  .prefDone (.ite (.prefRecord h) h)

theorem State.Spares.endFlights (h : s₀.Spares s) {b code : Nat} : s₀.Spares (s.endFlights b code) :=
  .foldl (fun _ _ h' => .foldl (fun _ _ h'' => .endPref h'') (.ite h' (.modCtx h'))) h

theorem State.Spares.bayOut (h : s₀.Spares s) {b : Nat} : s₀.Spares (s.bayOut b) :=
  .ite h (.log (.deductPermanent (.zeroBanks (.keep (.setBay (.endFlights h) (fun _ => rfl))))))

theorem State.Spares.killRuns (h : s₀.Spares s) {l : List Nat} : s₀.Spares (s.killRuns l) :=
  .foldl (fun _ _ h' => .finishRun (.clearEngine h')) h

theorem State.Spares.loseCounters (h : s₀.Spares s) {units : List Nat} : s₀.Spares (s.loseCounters units) := h.keep

theorem State.Spares.abandonAll (h : s₀.Spares s) {l : List Nat} {cause : Nat} : s₀.Spares (s.abandonAll l cause) :=
  .foldl (fun _ _ h' => .abandon h') h

theorem State.Spares.loseLoft (h : s₀.Spares s) {d : Nat} : s₀.Spares (s.loseLoft d) := .dropLines (.loseDirty h)

theorem State.Spares.nextSuspect (h : s₀.Spares s) {b : Nat} : s₀.Spares (s.nextSuspect b) := by
  unfold State.nextSuspect
  refine .ite h ?_
  split
  · exact .recoveryOn (.log (.bump (.setBay h)))
  · exact .ite (.setBay h) (.ite (.bayOut (.deduct (.setBay h))) (.deduct (.setBay h)))

theorem State.Spares.recoveryOff (h : s₀.Spares s) : s₀.Spares s.recoveryOff := .ite h (.releaseUnit h)

theorem State.Spares.takeSill (h : s₀.Spares s) {obj n : Nat} : s₀.Yields Prod.fst (s.takeSill obj n) := by
  induction n generalizing s with
  | zero => exact .some h
  | succ n ih =>
    unfold State.takeSill
    split
    · exact .none
    · split
      · exact .none
      · next a ha => exact .some (ih (.setSillPage h) a ha)

theorem State.Spares.allocSill (h : s₀.Spares s) {obj : Nat} {own : Option Nat} {n : Nat} :
    s₀.Yields Prod.fst (s.allocSill obj own n) := by
  unfold State.allocSill
  split
  · exact .none
  · exact .takeSill h

theorem State.Spares.zeroHbm (h : s₀.Spares s) {p : Nat} : s₀.Spares (s.zeroHbm p) := .setHbmPage h

theorem State.Spares.zeroSill (h : s₀.Spares s) {p : Nat} : s₀.Spares (s.zeroSill p) := .setSillPage (.dropCopy h)

theorem State.Spares.freePages (h : s₀.Spares s) {o : Obj} : s₀.Spares (s.freePages o) :=
  .ite (.foldl (fun _ _ h' => .zeroHbm h') h) (.foldl (fun _ _ h' => .zeroSill h') h)

theorem State.Spares.freeObject (h : s₀.Spares s) {id : Nat} : s₀.Spares (s.freeObject id) := .setObject (.freePages h)

theorem State.Spares.noteStale (h : s₀.Spares s) {c a : Nat} : s₀.Spares (s.noteStale c a) := by
  unfold State.noteStale
  split
  · exact h
  · exact h.keep

theorem State.Spares.changePte (h : s₀.Spares s) {c a : Nat} {f : Nat → Nat} : s₀.Spares (s.changePte c a f) := by
  unfold State.changePte
  dsimp only
  split
  · exact h
  · exact .coreWriteNat (.noteStale h)

theorem State.Spares.listSill (h : s₀.Spares s) {p : Nat} : s₀.Spares (s.listSill p) := by
  unfold State.listSill
  exact .log (.deduct (.setRwp (.bump h)))

theorem State.Spares.moveSill (h : s₀.Spares s) {id i p : Nat} : s₀.Spares (s.moveSill id i p) := by
  unfold State.moveSill
  refine .ite h ?_
  split
  · exact h
  · exact .zeroSill (.foldl (fun _ _ h' => .changePte h') (.setObject (.setSillPage (.loadRange h))))

theorem State.Spares.retireSill (h : s₀.Spares s) {p : Nat} : s₀.Spares (s.retireSill p) := by
  unfold State.retireSill
  refine .ite h (.ite (.setSillPage (.ite h (.listSill (.setSillPage h)))) (.ite ?_ (.ite h (.listSill (.setSillPage h)))))
  split
  · exact .moveSill (.ite h (.listSill (.setSillPage h)))
  · exact .ite h (.listSill (.setSillPage h))

theorem State.Spares.fillSill (h : s₀.Spares s) {pages : List Nat} {b : List Byte} : s₀.Spares (s.fillSill pages b) :=
  .foldl (fun _ _ h' => .writeBytes h') h

theorem State.Spares.sealPages (h : s₀.Spares s) {pages : List Nat} {obj maps : Nat} : s₀.Spares (s.sealPages pages obj maps) :=
  .foldl (fun _ _ h' => .setSillPage h') h

theorem State.Spares.moveRetiring (h : s₀.Spares s) {id : Nat} : s₀.Spares (s.moveRetiring id) :=
  .ite h (.foldl (fun _ _ h' => .ite (.moveSill h') h') h)

theorem State.Spares.peerResetOn (h : s₀.Spares s) {n reset : Nat} : s₀.Spares (s.peerResetOn n reset) := .bump (.onLink h.keep)

theorem State.Spares.peerResetTo (h : s₀.Spares s) {l : List Nat} {reset : Nat} : s₀.Spares (s.peerResetTo l reset) :=
  .foldl (fun _ _ h' => .ite h' (.fabSend h')) h

theorem State.Spares.announce (h : s₀.Spares s) : s₀.Spares s.announce := .peerResetTo (.foldl (fun _ _ h' => .peerResetOn h') h)

theorem State.Spares.keepDump (h : s₀.Spares s) {content : List Byte} : s₀.Spares (s.keepDump content) := by
  conv in State.keepDump => delta State.keepDump
  extract_lets -underBinder +onlyGivenNames id
  generalize ho : s.allocSill _ _ _ = o
  cases o with
  | none => exact .log h
  | some a =>
    refine .log (.bump (.setCnt (.setCnt (.foldl (fun _ _ h' => .freeObject h') (.keep (.moveRetiring ?_))))))
    exact .setObject (.sealPages (.fillSill (.allocSill h a ho)))

theorem State.Spares.retireTested (h : s₀.Spares s) {p : Nat} : s₀.Spares (s.retireTested p) := .ite (.retireHbm h) (.retireSill h)

theorem State.Spares.failImage (h : s₀.Spares s) {c : Nat} : s₀.Spares (s.failImage c) := by
  unfold State.failImage
  split
  · exact h
  · exact .signal (.bump (.modCtx (.dropPages (.elim h (fun _ => .freeObject h)))))

theorem State.Spares.sendPage (h : s₀.Spares s) {c d queue slot : Nat} {p : PagePre} {data : List Byte} : s₀.Spares (s.sendPage c d
    queue slot p data).1 :=
  .iteFst (.fst h) (.fst (.keep (.sendCommand h)))

theorem State.Spares.pumpForwards (h : s₀.Spares s) {f c : Nat} : s₀.Spares (State.pumpForwards f s c) := by
  induction f generalizing s with
  | zero => exact h
  | succ f ih =>
    unfold State.pumpForwards
    refine .ite h ?_
    split
    · exact h
    · split
      · exact ih (.modCtx h)
      · exact .ite h (.ite (ih (.modCtx h)) (ih (.modCtx (.bump (.sendPage h)))))

theorem State.Spares.forwardEnd (h : s₀.Spares s) {c slot : Nat} : s₀.Spares (s.forwardEnd c slot) :=
  .pumpForwards (.modCtx (.dropPages h))

theorem State.Spares.rechain (h : s₀.Spares s) {d : Nat} : s₀.Spares (s.rechain d) :=
  .foldl (fun _ _ h' => .ite (.pumpForwards (.modCtx h')) h') h

theorem State.Spares.refetch (h : s₀.Spares s) {d : Nat} : s₀.Spares (s.refetch d) := .foldl (fun _ _ h' => .setObject h') h

theorem State.Spares.dropFilling (h : s₀.Spares s) {device : Nat} {p : Nat → Bool} : s₀.Spares (s.dropFilling device p) :=
  .foldl (fun _ _ h' => .freeObject h') h

theorem State.Spares.peerReset (h : s₀.Spares s) {d : Nat} : s₀.Spares (s.peerReset d) := by
  unfold State.peerReset
  refine .foldl (fun _ _ h' => ?_) (.rechain (.refetch (.dropFilling (.enterPeerReset h))))
  split
  · exact .ite (.failImage h') h'
  · exact h'

theorem State.Spares.checkPeer (h : s₀.Spares s) {d : Nat} : s₀.Spares (s.checkPeer d) :=
  .ite h (.ite (.peerResetTo (.peerReset h)) (.peerReset h))

theorem State.Spares.collRefused (h : s₀.Spares s) {c slot code : Nat} : s₀.Spares (s.collRefused c slot code).1 := by
  unfold State.collRefused
  split
  · exact .fst (.finishRun (.clearEngine h))
  · split
    · exact .fst (.elim (.modCtx h) (fun _ => .finishRun (.modCtx h)))
    · exact .fst h

theorem State.Spares.noPath (h : s₀.Spares s) {ty : Nat} {hd : FabHdr} : s₀.Spares (s.noPath ty hd) :=
  .ite h (.ite (.collRefused h) (.ite (.ite (.failImage h) (.forwardEnd h)) (.endRemote h)))

theorem State.Spares.reroute (h : s₀.Spares s) {m : Nat × FabHdr × List Byte} : s₀.Spares (s.reroute m) :=
  .ite (.route h) (.noPath (.route h))

end Sys2Proof.Machine
end

section
/-! PROOFS. Shed, regulators, power-good and wear (O51). -/

namespace Sys2Proof.Machine

/-! ### Shed by the pin (R454) -/

/-- Of the power, a signal moves a wake only. -/
theorem State.signal_power {β : Type} {π : Power → β} (hπ : ∀ (p : Power) (w : Bool), π { p with waking := w } = π p) (s : State) (n : Nat)
    (c : Option Nat) : π (s.signal n c).power = π s.power := by
  refine State.signal_keeps (π := fun t => π t.power) (fun v t hto => ?_) (fun t => ?_) s n c
  · unfold State.SignalsTo at hto
    rw [hto]
    exact hπ _ _
  · unfold State.startWake
    split
    · exact hπ _ _
    · split
      · exact hπ _ _
      · rfl

theorem State.signal_pins (s : State) (n : Nat) (c : Option Nat) : (s.signal n c).pins = s.pins := State.pins_of_rom (s.signal_rom n c)

/-- SHED_N low on a device that is not in cold reset, and that had not heard it. -/
theorem exec_shedNAssert_sheds {dt : Nat} {s : State} (hcold : (s.elapse dt).boot.phase ≠ .coldReset) (hpin : (s.elapse dt).power.shedPin = false) :
    exec (.shedNAssert dt) s = .next
      (((({ s.elapse dt with pins := { (s.elapse dt).pins with shedN := false } } : State).enterShed none).bump 0x6040 5).signal 3 none) := by
  have hlow : ¬ (s.elapse dt).power.shedPin = true := by rw [hpin]; exact Bool.false_ne_true
  generalize hv : s.elapse dt = v at hcold hlow
  show Host.Outcome.next _ = _
  rw [hv]
  refine congrArg Host.Outcome.next ?_
  dsimp only
  split
  next hphase => exact absurd hphase hcold
  next => exact if_neg hlow

theorem exec_shedNAssert_cold {dt : Nat} {s : State} (hcold : (s.elapse dt).boot.phase = .coldReset) :
    exec (.shedNAssert dt) s = .next { s.elapse dt with pins := { (s.elapse dt).pins with shedN := false } } := by
  generalize hv : s.elapse dt = v at hcold
  show Host.Outcome.next _ = _
  rw [hv]
  refine congrArg Host.Outcome.next ?_
  dsimp only
  rw [hcold]

/-- The pin's shed moves the shed state, ballast and clocks, and no more. -/
theorem State.enterShed_pin (s : State) :
    s.enterShed none = { s with
      bays := s.stopBallast.bays, dies := (s.enterShed none).dies, power := { s.power with shed := true, shedPin := true } } := by
  have heq : s.enterShed none = ({ s.stopBallast with power := { s.power with shed := true, shedPin := true } } : State).applyClocks := rfl
  rw [heq]
  exact State.applyClocks_rest _

theorem State.pinShed_spec (s : State) :
    let t := ((s.enterShed none).bump 0x6040 5).signal 3 none
    t.pins = s.pins ∧ t.power.shed = true ∧ t.power.shedPin = true ∧ t.cnt 0x6040 5 = min (s.cnt 0x6040 5 + 1) (2 ^ 64 - 1)
    ∧ (t.sourceOf 3).pend = true ∧ t.mem = s.mem := by
  have hpower := State.signal_power (π := fun p => (p.shed, p.shedPin)) (fun _ _ => rfl) ((s.enterShed none).bump 0x6040 5) 3 none
  have hcount : ((s.enterShed none).bump 0x6040 5).cnt 0x6040 5 = min (s.cnt 0x6040 5 + 1) (2 ^ 64 - 1) := by
    rw [State.bump_cnt_self, State.enterShed_pin]
    rfl
  dsimp only
  rw [State.signal_pins, State.signal_cnt _ _ _ (by decide) (by decide) (by decide), hcount, State.signal_mem]
  rw [State.enterShed_pin] at hpower ⊢
  exact ⟨rfl, congrArg Prod.fst hpower, congrArg Prod.snd hpower, rfl, State.signal_pend _ none (by decide), rfl⟩

/-- The device as the end of shed leaves it, before the clocks follow. -/
def State.unshed (s : State) : State :=
  { s with power := { s.power with shed := false, shedL3 := false, shedOver := none, g := s.meanWork } }

theorem exec_shedEnd_ends {dt : Nat} {s : State} (hup : (s.elapse dt).up = true) (hshed : (s.elapse dt).power.shed = true)
    (hpin : (s.elapse dt).power.shedPin = false) (hcauses : (s.elapse dt).power.shedCauses = [])
    (hclear : (s.elapse dt).power.shedClearSince + 10 * ms ≤ (s.elapse dt).stamp) :
    exec (.shedEnd dt) s = .next (s.elapse dt).unshed.applyClocks.admitTest := by
  refine congrArg Host.Outcome.next ((State.whenUp_up _ hup).trans (if_pos ?_))
  rw [hshed, hpin, hcauses, decide_eq_true hclear]
  rfl

theorem State.unshed_spec (s : State) :
    s.unshed.applyClocks.admitTest.power = s.unshed.power ∧ s.unshed.applyClocks.admitTest.mem = s.mem := by
  rw [State.admitTest_rest, State.applyClocks_rest]
  exact ⟨rfl, rfl⟩

/-! ### Regulators (R455) -/

/-- The alert of a regulator stands as it was noted: the pins, memory, source 4, its count, and the over-current. -/
structure State.Alerted (p : Pins) (m : List Host.Cell) (n : Nat) (oc : Bool) (t : State) : Prop where
  pins : t.pins = p
  mem : t.mem = m
  pend : (t.sourceOf 4).pend = true
  count : t.cnt 0x6040 8 = n
  current : t.power.vrOver = oc

theorem State.alerted_stable (p : Pins) (m : List Host.Cell) (n : Nat) (oc : Bool) : State.LimitStable (State.Alerted p m n oc) where
  signal {t} k c h := ⟨(t.signal_pins k c).trans h.pins, (t.signal_mem k c).trans h.mem, (t.signal_keepsPending k c).pend 4 h.pend,
    (t.signal_cnt k c (by decide) (by decide) (by decide)).trans h.count, (t.signal_power (π := Power.vrOver) (fun _ _ => rfl) k c).trans h.current⟩
  count {t} k hk h := ⟨h.pins, h.mem, h.pend, (State.bump_cnt_ne t (by unfold objKey; omega)).trans h.count, h.current⟩
  ballast h := ⟨h.pins, h.mem, h.pend, h.count, h.current⟩
  clocks {t} h := by
    obtain ⟨dies, hdies⟩ : ∃ dies, t.applyClocks = { t with dies } := ⟨_, t.applyClocks_rest⟩
    rw [hdies]
    exact ⟨h.pins, h.mem, h.pend, h.count, h.current⟩
  admission {t} h := by
    have hcount := (t.admitList_cnt t.waitingOpens false (by decide)).trans h.count
    change t.admitTest.cnt 0x6040 8 = n at hcount
    obtain ⟨ctxs, objs, hrest⟩ : ∃ ctxs objs, t.admitTest = { t with ctxs, objs } := ⟨_, _, t.admitTest_rest⟩
    rw [hrest] at hcount ⊢
    exact ⟨h.pins, h.mem, h.pend, hcount, h.current⟩
  power q hq h := ⟨h.pins, h.mem, h.pend, h.count, (congrArg (fun x => x.2.2.2.2.1) hq).trans h.current⟩

/-- The alert as it is noted, before its status acts. -/
def State.vrNoted (s : State) : State :=
  (({ s with pins := { s.pins with vrAlertN := false } } : State).signal 4 none).bump 0x6040 8

theorem State.vrNoted_alerted (s : State) :
    State.Alerted { s.pins with vrAlertN := false } s.mem (min (s.cnt 0x6040 8 + 1) (2 ^ 64 - 1)) s.power.vrOver s.vrNoted := by
  generalize hlow : ({ s with pins := { s.pins with vrAlertN := false } } : State) = v
  have hnoted : s.vrNoted = (v.signal 4 none).bump 0x6040 8 := by
    rw [State.vrNoted, hlow]
  have hcount : (v.signal 4 none).cnt 0x6040 8 = s.cnt 0x6040 8 := by
    rw [State.signal_cnt _ _ _ (by decide) (by decide) (by decide), ← hlow]
    rfl
  have hpend : ((v.signal 4 none).sourceOf 4).pend = true := State.signal_pend v none (by decide)
  have hpins : (v.signal 4 none).pins = { s.pins with vrAlertN := false } := by
    rw [State.signal_pins, ← hlow]
  have hmem : (v.signal 4 none).mem = s.mem := by
    rw [State.signal_mem, ← hlow]
  have hover : (v.signal 4 none).power.vrOver = s.power.vrOver := by
    rw [State.signal_power (π := Power.vrOver) (fun _ _ => rfl), ← hlow]
  rw [hnoted]
  refine ⟨hpins, hmem, hpend, ?_, hover⟩
  rw [State.bump_cnt_self, hcount]

theorem exec_vrAlert_acts {dt : Nat} {st : VrStatus} {s : State} (hup : (s.elapse dt).up = true) :
    exec (.vrAlert dt st) s = .next ((s.elapse dt).vrNoted.vrStatus st) := by
  have hphase := State.up_phase hup
  generalize hv : s.elapse dt = v at hup hphase
  have hnoted : v.vrNoted.up = true := by
    rw [State.up, show v.vrNoted.boot = v.boot from State.signal_boot (s := { v with pins := { v.pins with vrAlertN := false } }) hup 4 none]
    exact hup
  have hcold : ¬ v.boot.phase = .coldReset := by rw [hphase]; decide
  show Host.Outcome.next _ = _
  rw [hv]
  exact congrArg Host.Outcome.next ((if_neg hcold).trans (State.whenSafe_up hnoted _))

/-- What a status does beside the alert itself. -/
theorem State.Alerted.vrStatus {s : State} {p : Pins} {m : List Host.Cell} {n : Nat} {oc : Bool} (h : State.Alerted p m n oc s) (st : VrStatus) :
    (∃ o, State.Alerted p m n o (s.vrStatus st)) ∧ (st = .overCurrent → (s.vrStatus st).power.vrOver = true)
    ∧ (∀ d, st = .overTemperature d → d ∈ (s.vrStatus st).power.vrDies) ∧ (st = .underVoltage → 2 ∈ (s.vrStatus st).power.shedCauses) := by
  cases st with
  | overCurrent =>
    have hover := (State.alerted_stable p m n true).electrical (s := { s with power := { s.power with vrOver := true } })
      ⟨h.pins, h.mem, h.pend, h.count, rfl⟩
    exact ⟨⟨true, hover⟩, fun _ => hover.current, nofun, nofun⟩
  | overTemperature d =>
    refine ⟨⟨oc, h.pins, h.mem, h.pend, h.count, h.current⟩, nofun, fun e he => ?_, nofun⟩
    cases he
    exact List.mem_eraseDups.mpr (List.mem_append_right _ (List.mem_singleton.mpr rfl))
  | underVoltage =>
    have hshed : s.vrStatus .underVoltage = s.enterShed (some 2) := rfl
    rw [hshed]
    exact ⟨⟨oc, (State.alerted_stable p m n oc).enterShed 2 h⟩, nofun, nofun, fun _ => (s.enterShed_spec 2).1⟩
  | other => exact ⟨⟨oc, h⟩, nofun, nofun, nofun⟩

/-- A cause of shed that is taken away moves the causes and their stamp only. -/
theorem State.clearCause_spec (s : State) (k : Nat) :
    s.clearCause k = { s with power := (s.clearCause k).power } ∧ (s.clearCause k).power.vrOver = s.power.vrOver
    ∧ (s.clearCause k).power.vrDies = s.power.vrDies ∧ k ∉ (s.clearCause k).power.shedCauses := by
  unfold State.clearCause
  split
  next =>
    have hgone : k ∉ s.power.shedCauses.filter (· != k) := fun h => by simp at h
    unfold State.noteClear
    split
    · exact ⟨rfl, rfl, rfl, hgone⟩
    · exact ⟨rfl, rfl, rfl, hgone⟩
  next hout => exact ⟨rfl, rfl, rfl, fun h => hout (List.contains_iff_mem.mpr h)⟩

theorem State.vrAlertEnds_spec (s : State) :
    let t := ({ s with pins := { s.pins with vrAlertN := true }, power := { s.power with vrOver := false, vrDies := [] } } : State).clearCause 2
    t.pins = { s.pins with vrAlertN := true } ∧ t.power.vrOver = false ∧ t.power.vrDies = [] ∧ 2 ∉ t.power.shedCauses
    ∧ t = { s with pins := t.pins, power := t.power } := by
  obtain ⟨hrest, hover, hdies, hcause⟩ :=
    ({ s with pins := { s.pins with vrAlertN := true }, power := { s.power with vrOver := false, vrDies := [] } } : State).clearCause_spec 2
  exact ⟨by rw [hrest], hover, hdies, hcause, by rw [hrest]⟩

/-! ### Power-good and wear (R455, R533) -/

/-- A die's reset spares all but the die that it resets. -/
theorem State.resetDie_spares (s : State) (d cause : Nat) :
    ∃ v x, s.Spares v ∧ s.resetDie d cause = (v.setDie d x).recoveryOn := by
  unfold State.resetDie
  dsimp only
  generalize hbays : List.foldl _ _ (rangeFrom (16 * d) 16) = v
  have hv : s.Spares v := by
    rw [← hbays]
    exact .foldl (fun _ _ h' => .setBay (.endFlights (.zeroBanks h'))) (.loseLoft (.killRuns (.abandonAll (.refl s))))
  exact ⟨_, _, .loseCounters (.keep hv), rfl⟩

theorem State.dieResetFor_pins_rails {s : State} {d : Nat} (h : s.dieReset d = false) (cause : Nat) :
    (s.dieResetFor d cause).pins = s.pins ∧ (s.dieResetFor d cause).cnt 0x6040 9 = s.cnt 0x6040 9 := by
  rw [State.dieResetFor_live h]
  generalize hlog : s.log _ = v
  have hv : s.Spares v := by
    rw [← hlog]
    exact .log (.refl s)
  obtain ⟨w, x, hw, hreset⟩ := v.resetDie_spares d cause
  have hon := State.Spares.recoveryOn (.refl (w.setDie d x))
  rw [hreset, hon.pins, hon.counts 0x6040 9 (by decide)]
  exact ⟨hw.pins.trans hv.pins, (hw.counts 0x6040 9 (by decide)).trans (hv.counts 0x6040 9 (by decide))⟩

theorem exec_pgBeamLoss_resets {dt d : Nat} {s : State} (hup : (s.elapse dt).up = true) (hd : d < 4) :
    exec (.pgBeamLoss dt d) s = .next
      ((((({ s.elapse dt with pins := { (s.elapse dt).pins with pgBeam := (s.elapse dt).pins.pgBeam.set d false } } : State).dieResetFor d 0x0204).bump
        0x6040 9)).signal 5 none) := by
  have hphase := State.up_phase hup
  generalize hv : s.elapse dt = v at hup hphase
  generalize hlow : ({ v with pins := { v.pins with pgBeam := v.pins.pgBeam.set d false } } : State) = t
  have htup : t.up = true := by
    rw [← hlow]
    exact hup
  have hlost : t.loseRail d = t.dieResetFor d 0x0204 := by
    unfold State.loseRail
    rw [State.up_phase htup]
  show Host.Outcome.next _ = _
  rw [hv, hlow]
  refine congrArg Host.Outcome.next ((if_pos hd).trans ((State.whenSafe_up htup _).trans ?_))
  rw [hlost]

theorem State.lostRail_spec {s : State} {d : Nat} (h : s.dieReset d = false) :
    let t := ((s.dieResetFor d 0x0204).bump 0x6040 9).signal 5 none
    t.pins = s.pins ∧ (t.die d).inReset = true ∧ (t.sourceOf 5).pend = true ∧ t.cnt 0x6040 9 = min (s.cnt 0x6040 9 + 1) (2 ^ 64 - 1) := by
  obtain ⟨hpins, hrails⟩ := State.dieResetFor_pins_rails h 0x0204
  have hreset := State.dieResetFor_inReset h 0x0204
  generalize s.dieResetFor d 0x0204 = v at hpins hrails hreset
  dsimp only
  rw [State.signal_pins, State.signal_die, State.signal_cnt _ _ _ (by decide) (by decide) (by decide), State.bump_cnt_self, hrails]
  exact ⟨hpins, hreset, State.signal_pend _ none (by decide), rfl⟩

theorem exec_pgSocLoss_resets {dt : Nat} {s : State} (hcold : (s.elapse dt).boot.phase ≠ .coldReset) :
    exec (.pgSocLoss dt) s = .next
      (({ s.elapse dt with pins := { (s.elapse dt).pins with pgSoc := false } } : State).coldState 0x0712) :=
  congrArg Host.Outcome.next (State.enterColdReset_eq (s := { s.elapse dt with pins := { (s.elapse dt).pins with pgSoc := false } }) hcold _)

theorem State.applyClock_wear (s : State) (d e : Nat) : ((s.applyClock d).die e).wearSeconds = (s.die e).wearSeconds :=
  s.applyClock_die_keeps (π := Die.wearSeconds) (fun _ _ _ _ => rfl) d e

/-- Wear adds to the seconds of its die. -/
theorem State.addWear_spec (s : State) (d n : Nat) :
    (s.addWear d n).mem = s.mem ∧ ∀ e, ((s.addWear d n).die e).wearSeconds = (s.die e).wearSeconds + (if e = d then n else 0) := by
  have hset (t : State) (x : Die) (hx : x.wearSeconds = (t.die d).wearSeconds) (e : Nat) :
      ((t.setDie d x).die e).wearSeconds = (t.die e).wearSeconds := by
    by_cases he : e = d
    · subst he
      rw [State.setDie_die_self, hx]
    · rw [State.setDie_die_ne _ _ he]
  have hadd (e : Nat) : ((s.setDie d { s.die d with wearSeconds := (s.die d).wearSeconds + n }).die e).wearSeconds
      = (s.die e).wearSeconds + (if e = d then n else 0) := by
    by_cases he : e = d
    · subst he
      rw [State.setDie_die_self, if_pos rfl]
    · rw [State.setDie_die_ne _ _ he, if_neg he, Nat.add_zero]
  unfold State.addWear
  dsimp only
  generalize hv : s.setDie d { s.die d with wearSeconds := (s.die d).wearSeconds + n } = v at hadd
  have hmem : v.mem = s.mem := by rw [← hv]; rfl
  generalize nth 2100 _ d = cap
  split
  · generalize hcap : v.stopBallast.setDie d { v.stopBallast.die d with wear := cap } = w
    have hw (e : Nat) : (w.die e).wearSeconds = (v.die e).wearSeconds := by
      rw [← hcap]
      exact hset v.stopBallast { v.stopBallast.die d with wear := cap } rfl e
    have hwmem : w.mem = v.mem := by rw [← hcap]; rfl
    refine ⟨?_, fun e => ?_⟩
    · rw [State.applyClock_rest]
      exact (State.mem_of_standing (State.deductPermanent_standing _ _ _)).trans ((State.signal_mem _ _ _).trans (hwmem.trans hmem))
    · rw [State.applyClock_wear, State.die, State.timerBlind_dies.deductPermanent, ← State.die, State.signal_die, hw, hadd]
  · exact ⟨hmem, hadd⟩

theorem State.wearAll_spec (s : State) (l : List Nat) :
    let t := (List.range 4).foldl (fun s d => s.addWear d (nth 0 l d)) s
    t.mem = s.mem ∧ ∀ d, d < 4 → (t.die d).wearSeconds = (s.die d).wearSeconds + nth 0 l d := by
  have hrange : List.range 4 = [0, 1, 2, 3] := rfl
  rw [hrange]
  simp only [List.foldl_cons, List.foldl_nil]
  refine ⟨?_, fun d hd => ?_⟩
  · rw [(State.addWear_spec _ _ _).1, (State.addWear_spec _ _ _).1, (State.addWear_spec _ _ _).1, (State.addWear_spec _ _ _).1]
  · rw [(State.addWear_spec _ _ _).2, (State.addWear_spec _ _ _).2, (State.addWear_spec _ _ _).2, (State.addWear_spec _ _ _).2]
    interval_cases d <;> rfl

/-- Settles O51: shed by its pin and its end, regulators, power-good and wear. -/
theorem shedAndRegulators : Obligations.ShedAndRegulators := by
  refine ⟨?_, ?_⟩
  · rintro dt s _ rfl
    refine ⟨fun hcold hpin => ?_, exec_shedNAssert_cold, rfl, fun hup hshed hpin hcauses hclear => ?_⟩
    · obtain ⟨hpins, hshed, hlow, hcount, hpend, hmem⟩ := State.pinShed_spec { s.elapse dt with pins := { (s.elapse dt).pins with shedN := false } }
      exact ⟨_, exec_shedNAssert_sheds hcold hpin, congrArg Pins.shedN hpins, hshed, hlow, hcount, hpend, hmem⟩
    · obtain ⟨hpower, hmem⟩ := (s.elapse dt).unshed_spec
      exact ⟨_, exec_shedEnd_ends hup hshed hpin hcauses hclear, congrArg Power.shed hpower, congrArg Power.shedL3 hpower,
        congrArg Power.g hpower, hmem⟩
  · rintro dt s _ rfl
    refine ⟨fun st hup => ?_, ⟨_, rfl, State.vrAlertEnds_spec _⟩, fun d hd hup hreset => ?_, fun hcold => ?_, fun l hup =>
      ⟨_, congrArg Host.Outcome.next (State.whenUp_up _ hup), State.wearAll_spec _ l⟩⟩
    · obtain ⟨⟨oc, halert⟩, hover, hdies, hlow⟩ := (s.elapse dt).vrNoted_alerted.vrStatus st
      exact ⟨_, exec_vrAlert_acts hup, congrArg Pins.vrAlertN halert.pins, halert.pend, halert.count, halert.mem, hover, hdies, hlow⟩
    · obtain ⟨hpins, hin, hpend, hcount⟩ := State.lostRail_spec
        (s := { s.elapse dt with pins := { (s.elapse dt).pins with pgBeam := (s.elapse dt).pins.pgBeam.set d false } }) hreset
      exact ⟨_, exec_pgBeamLoss_resets hup hd, congrArg Pins.pgBeam hpins, hin, hpend, hcount⟩
    · obtain ⟨hphase, hcause, hmem, -, hctxs, hpending, -, -, -, hpins⟩ :=
        ({ s.elapse dt with pins := { (s.elapse dt).pins with pgSoc := false } } : State).coldState_spec 0x0712
      exact ⟨_, exec_pgSocLoss_resets hcold, hphase, hcause, congrArg Pins.pgSoc hpins, hmem, hctxs, hpending⟩

end Sys2Proof.Machine
end

section
/-! PROOFS. Resets of every domain, and their ends (O55). -/

namespace Sys2Proof.Machine

/-! ### Resets of a bay and of a die (R473) -/

theorem State.clampUnit_within {u last : Nat} (h : u ≤ last) (s : State) : s.clampUnit u last = (s, u) := if_pos h

theorem exec_bayReset_resets {dt b : Nat} {s : State} (hup : (s.elapse dt).up = true) (hb : b < 64) (hlive : (s.elapse dt).benchInReset b = false) :
    exec (.bayReset dt b) s = .next
      (((s.elapse dt).log { code := 0x0710, severity := 2, unitKind := 1, unit := b, action := 3 }).resetBay b 0x0710) := by
  refine congrArg Host.Outcome.next ((State.whenUp_up _ hup).trans ?_)
  unfold State.actBayReset
  rw [State.clampUnit_within (by omega)]
  exact if_neg (by rw [hlive]; exact Bool.false_ne_true)

/-- A reset of a bay ends by losing its bench and holding it in reset. -/
theorem State.resetBay_ends (s : State) (b cause : Nat) :
    ∃ (v : State) (x : Bay), s.resetBay b cause = ((v.zeroBanks b 0xFFFFFFFF).loseCounters [b]).setBay b x ∧ x.inReset = true := by
  unfold State.resetBay
  exact ⟨_, _, rfl, rfl⟩

theorem State.resetBay_spec (s : State) (b cause : Nat) :
    ((s.resetBay b cause).bay b).inReset = true ∧ ∀ a, a / benchBytes = b → a < benchEnd → (s.resetBay b cause).byte a = 0 := by
  obtain ⟨v, x, hreset, hx⟩ := s.resetBay_ends b cause
  rw [hreset]
  refine ⟨by rw [State.setBay_bay_self, hx], fun a hbench hend => ?_⟩
  exact (v.zeroBanks_bench b a).trans (if_pos ⟨hbench, hend⟩)

theorem exec_beamDieReset_resets {dt d : Nat} {s : State} (hup : (s.elapse dt).up = true) (hd : d < 4) :
    exec (.beamDieReset dt d) s = .next ((s.elapse dt).dieResetFor d 0x0710) := by
  refine congrArg Host.Outcome.next ((State.whenUp_up _ hup).trans ?_)
  unfold State.actDieReset
  rw [State.clampUnit_within (by omega)]

/-! ### Resets of ports and links (R533) -/

/-- A host port that is not disabled goes Down. -/
theorem State.setHostPort_down (s : State) (p : Nat) : Assoc.get 0 (s.setHostPort p 0).hostPorts p = 0 := by
  unfold State.setHostPort
  simp only [zero_ne_one, false_and, if_false]
  split
  next h => exact h
  next =>
    generalize (if (0 : Nat) = 2 then s else _ : State) = v
    rw [State.hostPorts_of_network (State.signal_network _ _ _)]
    exact Assoc.get_set_self 0 v.hostPorts p 0

/-- A purlin port that is not disabled goes Down. -/
theorem State.setPort_down (s : State) (p : Nat) : Assoc.get 0 (s.setPort p 0).ports p = 0 := by
  unfold State.setPort
  simp only [zero_ne_one, false_and, if_false]
  split
  next h => exact h
  next =>
    generalize (if (0 : Nat) = 2 then s else _ : State) = v
    rw [State.ports_of_network (State.signal_network _ _ _)]
    exact Assoc.get_set_self 0 v.ports p 0

theorem State.setLinkState_state (s : State) (n : Nat) (l : Link) (st : Nat) : ((s.setLinkState n l st).link n).state = st := by
  unfold State.setLinkState
  dsimp only
  split
  · rw [State.setLink_link_self]
  · rw [State.link_of_network (State.signal_network _ _ _), State.setLink_link_self]

/-- A link that leaves its state is in its new one, whatever its messages do. -/
theorem State.dropLink_state (s : State) (n st : Nat) : ((s.dropLink n st).link n).state = st := by
  unfold State.dropLink
  dsimp only
  generalize hset : s.setLinkState n _ st = v
  have hstate : (v.link n).state = st := by
    rw [← hset, State.setLinkState_state]
  refine (State.Spares.links (s := v) ?_ n).trans hstate
  have hcount : v.Spares (if st = 0 then v.bump 0x4010 7 else v) := .ite (.bump (.refl v)) (.refl v)
  refine .foldl (fun _ _ h' => .reroute h') ?_
  split
  · exact hcount
  · exact .setLink hcount

/-- A link that lends no lane goes Down alone. -/
theorem State.linkDown_state {s : State} {n : Nat} (h : (s.link n).lent = []) : ((s.linkDown n).link n).state = 0 := by
  have hleaves : s.linkDown n = if (s.link n).isUp then (s.dropLink n 0).checkPeer ((s.dropLink n 0).linkPeer n) else s.dropLink n 0 := by
    unfold State.linkDown State.linkLeaves
    dsimp only
    rw [h, List.map_nil, List.eraseDups_nil, List.foldl_nil]
  rw [hleaves]
  split
  · exact (State.Spares.links (.checkPeer (.refl (s.dropLink n 0))) n).trans (s.dropLink_state n 0)
  · exact s.dropLink_state n 0

theorem exec_edgeLinkReset_resets {dt i : Nat} {s : State} (hup : (s.elapse dt).up = true) (hi : i < 50) :
    exec (.edgeLinkReset dt i) s = .next ((s.elapse dt).resetEdge i) := by
  refine congrArg Host.Outcome.next ((State.whenUp_up _ hup).trans ?_)
  dsimp only
  rw [State.clampUnit_within (by omega)]

theorem State.resetEdge_spec (s : State) (i : Nat) :
    (i < 2 → Assoc.get 0 s.hostPorts i ≠ 3 → Assoc.get 0 (s.resetEdge i).hostPorts i = 0)
    ∧ (2 ≤ i → i < 18 → Assoc.get 0 s.ports (i - 2) ≠ 3 → Assoc.get 0 (s.resetEdge i).ports (i - 2) = 0)
    ∧ (18 ≤ i → i < 50 → (s.link (i - 18)).state ≠ 0 → (s.link (i - 18)).state ≠ 8 → (s.link (i - 18)).lent = [] →
        ((s.resetEdge i).link (i - 18)).state = 0) := by
  unfold State.resetEdge
  refine ⟨fun hhost henabled => ?_, fun hlow hport henabled => ?_, fun hlow _ _ henabled halone => ?_⟩
  · rw [if_pos hhost, if_neg henabled]
    exact s.setHostPort_down i
  · rw [if_neg (by omega), if_pos hport, if_neg henabled]
    exact s.setPort_down (i - 2)
  · rw [if_neg (by omega), if_neg (by omega), if_neg henabled]
    exact State.linkDown_state halone

/-! ### Warm and cold reset, and the end of a reset (R473, R474, R496) -/

theorem exec_coldReset_resets {dt : Nat} {s : State} (hup : (s.elapse dt).up = true) :
    exec (.coldReset dt) s = .next ((s.elapse dt).announce.enterColdReset 0x0710) :=
  congrArg Host.Outcome.next (State.whenUp_up _ hup)

/-- What is announced before a cold reset leaves the boot. -/
theorem State.announce_boot {s : State} (h : s.up = true) : s.announce.boot = s.boot :=
  State.boot_of_rom (State.Spares.announce (.refl s)).rom (by rw [State.up_phase h]; decide) (by rw [State.up_phase h]; decide)

theorem State.coldReset_spec {s : State} (h : s.up = true) :
    let t := s.announce.enterColdReset 0x0710
    t.boot.phase = .coldReset ∧ t.cnt 0x7101 2 = 0x0710 ∧ t.mem = [] ∧ t.stamp = 0 ∧ t.ctxs = []
    ∧ t.boot.fuses = s.boot.fuses ∧ t.boot.flash = s.boot.flash := by
  have hboot := State.announce_boot h
  have hcold : s.announce.boot.phase ≠ .coldReset := by
    rw [hboot, State.up_phase h]
    decide
  obtain ⟨hphase, hcause, hmem, hstamp, hctxs, -, -, hfuses, hflash, -⟩ := s.announce.coldState_spec 0x0710
  dsimp only
  rw [State.enterColdReset_eq hcold]
  exact ⟨hphase, hcause, hmem, hstamp, hctxs, hfuses.trans (congrArg Boot.fuses hboot), hflash.trans (congrArg Boot.flash hboot)⟩

/-- A bay out of reset takes the next suspect, and stays out of reset. -/
theorem State.bayBack_spec {s : State} {b : Nat} (h : (s.bay b).inReset = true) :
    ((s.bayBack b).bay b).inReset = false ∧ (s.bayBack b).pending = s.pending := by
  have hback : s.bayBack b = (s.setBay b { s.bay b with inReset := false, idleSince := s.stamp }).nextSuspect b := if_pos h
  generalize hset : s.setBay b { s.bay b with inReset := false, idleSince := s.stamp } = v at hback
  have hlive : (v.bay b).inReset = false := by rw [← hset, State.setBay_bay_self]
  have hpending : v.pending = s.pending := by rw [← hset]; rfl
  rw [hback]
  exact ⟨(State.Spares.nextSuspect (.refl v)).live b hlive, (State.Follows.nextSuspect (.refl v)).queue.trans hpending⟩

theorem State.Spares.bayBack {s₀ s : State} (h : s₀.Spares s) {b : Nat} : s₀.Spares (s.bayBack b) :=
  .ite (.nextSuspect (.setBay h (hout := id) (hlive := fun _ => rfl) (x := { s.bay b with inReset := false, idleSince := s.stamp }))) h

theorem State.dieBack_live {s : State} {d : Nat} (h : (s.die d).inReset = true) : ((s.dieBack d).die d).inReset = false := by
  unfold State.dieBack
  rw [if_pos h]
  dsimp only
  generalize hset : State.setDie _ d _ = v
  have hlive : (v.die d).inReset = false := by rw [← hset, State.setDie_die_self]
  have hdies := (State.Spares.recoveryOff (.foldl (f := State.bayBack) (fun _ _ h' => .bayBack h') (l := rangeFrom (16 * d) 16) (.refl v))).dies
  rw [State.die, hdies]
  exact hlive

theorem exec_resetComplete_boots {dt n : Nat} {p : Placement} {s : State} (hdump : (s.elapse dt).dumpWaits = false) :
    exec (.resetComplete dt 4 n p) s = .next (s.elapse dt).warmBoot := by
  have hdone : (s.elapse dt).completeReset 4 n = if (s.elapse dt).dumpWaits then s.elapse dt else (s.elapse dt).warmBoot := rfl
  refine congrArg Host.Outcome.next (hdone.trans (if_neg ?_))
  rw [hdump]
  exact Bool.false_ne_true

/-- Settles O55: each domain by its entry or its end. -/
theorem resetsBeginAndEnd : Obligations.ResetsBeginAndEnd := by
  rintro dt s _ rfl
  refine ⟨fun b hup hb hlive => ⟨_, exec_bayReset_resets hup hb hlive, State.resetBay_spec _ b _⟩,
    fun d hup hd hlive => ⟨_, exec_beamDieReset_resets hup hd, State.dieResetFor_inReset hlive _⟩, fun i hup => ?_, fun hup => ?_,
    fun hup => ⟨_, exec_coldReset_resets hup, State.coldReset_spec hup⟩, fun b p hup hreset => ?_, fun d p hup hreset => ?_,
    fun n p hphase hdump => ?_⟩
  · by_cases hi : i < 50
    · exact ⟨_, exec_edgeLinkReset_resets hup hi, (s.elapse dt).resetEdge_spec i⟩
    · exact ⟨_, rfl, fun h => absurd (h.trans (by decide)) hi, fun _ h => absurd (h.trans (by decide)) hi, fun _ h => absurd h hi⟩
  · obtain ⟨hphase, hcause, hstamp, hcleared⟩ := State.enterWarmReset_spec (.inl (State.up_phase hup)) 0x0710 true true
    exact ⟨_, congrArg Host.Outcome.next (State.whenUp_up _ hup), hphase, hcause, hstamp, hcleared.ctxs, hcleared.sessions, hcleared.engines,
      hcleared.bench⟩
  · exact ⟨_, congrArg Host.Outcome.next (State.whenUp_up _ hup), State.bayBack_spec hreset⟩
  · exact ⟨_, congrArg Host.Outcome.next (State.whenUp_up _ hup), State.dieBack_live hreset⟩
  · exact ⟨_, exec_resetComplete_boots hdump, (State.warmBoot_spec hphase).1⟩

end Sys2Proof.Machine
end

section
/-! PROOFS. Crash dumps, health, admission and the self-test (O56). -/

namespace Sys2Proof.Machine

/-! ### Crash dumps (R477 to R480) -/

theorem State.clampNum_dump (s : State) : s.clampNum 0x7004 4 1 = (s, 1) :=
  State.clampNum_near (r := ⟨0x7004, 4, 4, .u8, .cmd, .num 0, .spans [(1, 1)]⟩) (by decide +kernel) rfl

theorem State.clampNum_dumpCopy (s : State) {n : Nat} (hn : n < 4) : s.clampNum 0x7004 3 n = (s, n) := by
  refine State.clampNum_near (r := ⟨0x7004, 3, 3, .u8, .cmd, .num 0, .spans [(0, 3)]⟩) (by decide +kernel) ?_
  interval_cases n <;> rfl

/-- A dump that starts holds the device in ordered delivery from its stamp. -/
theorem State.startDump_spec {s : State} (h : s.fault.dumping = none) (cause : Nat) :
    (s.startDump cause).fault.dumping = some s.stamp ∧ (s.startDump cause).intr.ordered = true ∧ (s.startDump cause).mem = s.mem := by
  have hstart : s.startDump cause = ({ (s.requestUnit 1 .crashDump 2).1 with fault := { (s.requestUnit 1 .crashDump 2).1.fault with
      dumping := some (s.requestUnit 1 .crashDump 2).1.stamp, dumpWritten := false,
      dumpItems := (s.requestUnit 1 .crashDump 2).1.dumpItems } } : State).enterOrdered 3 := by
    refine if_neg ?_
    rw [h]
    exact Bool.false_ne_true
  have hstanding := State.startDump_standing s cause
  rw [hstart] at hstanding ⊢
  have hstamp := State.stamp_of_standing hstanding
  exact ⟨congrArg some hstamp, rfl, State.mem_of_standing hstanding⟩

theorem exec_crashDumpStart_starts {dt : Nat} {s : State} (hup : (s.elapse dt).up = true) (hnone : (s.elapse dt).fault.dumping = none) :
    exec (.crashDumpStart dt) s = .next { (s.elapse dt).startDump 0x0401 with
      fault := { ((s.elapse dt).startDump 0x0401).fault with dumpWritten := ((s.elapse dt).startDump 0x0401).fault.dumping.isSome } } := by
  refine congrArg Host.Outcome.next ((State.whenUp_up _ hup).trans ?_)
  unfold State.actDump State.dumpBusy
  rw [State.clampNum_dump, hnone]
  rfl

theorem exec_crashDumpSealed_ends {dt : Nat} {b : List Byte} {s : State} (h : (s.elapse dt).fault.dumping.isSome = true) :
    exec (.crashDumpSealed dt b) s = .next ((s.elapse dt).endDump b) :=
  congrArg Host.Outcome.next (if_pos h)

/-- The device once its dump is sealed, before the dump is kept. -/
def State.undumped (s : State) : State := { s with fault := { s.fault with dumping := none, dumpItems := [] } }

/-- The end of a dump keeps it, lets its unit go, and signals. -/
theorem State.endDump_ends (s : State) (b : List Byte) :
    ∃ v, s.undumped.Spares v ∧ s.endDump b = (if v.up && v.fault.selfTest != 1 then v.leaveOrdered else v).signal 452 none := by
  unfold State.endDump
  exact ⟨_, .releaseUnit (.keepDump (.refl s.undumped)), rfl⟩

/-- A sealed dump no longer runs, and its source pends. -/
theorem State.endDump_spec (s : State) (b : List Byte) :
    (s.endDump b).fault.dumping = none ∧ ((s.endDump b).sourceOf 452).pend = true := by
  obtain ⟨v, hv, hend⟩ := s.endDump_ends b
  rw [hend, State.signal_fault]
  refine ⟨?_, State.signal_pend _ none (by decide)⟩
  split
  · exact hv.dumping
  · exact hv.dumping

theorem exec_crashDumpCopy_copies {dt n : Nat} {o : Nat} {s : State} (hup : (s.elapse dt).up = true) (hn : n < 4)
    (ho : (s.elapse dt).fault.dumps[n]? = some o) :
    exec (.crashDumpCopy dt n) s = .next ((s.elapse dt).coreWrite stagingBase
      (((((s.elapse dt).object o).pages.flatMap (fun p => (s.elapse dt).readBytes (sillPageAddr p) pageBytes)).take
        ((s.elapse dt).object o).length).take (s.elapse dt).stagingBytes)) := by
  refine congrArg Host.Outcome.next ((State.whenUp_up _ hup).trans ?_)
  unfold State.actDumpCopy
  rw [State.clampNum_dumpCopy _ hn]
  dsimp only
  rw [ho]

/-! ### The fatal acknowledgement, health and admission (R481 to R483, R486) -/

theorem State.clampNum_fatalAck (s : State) : s.clampNum 0x7003 1 1 = (s, 1) :=
  State.clampNum_near (r := ⟨0x7003, 1, 1, .u8, .cmd, .num 0, .spans [(1, 1)]⟩) (by decide +kernel) rfl

theorem State.releaseUnit_rest (s : State) (u : Nat) (a : Asker) : s.releaseUnit u a = { s with res := (s.releaseUnit u a).res } := by
  unfold State.releaseUnit
  dsimp only
  split
  · split <;> rfl
  · rfl

theorem State.actFatalAck_eq (s : State) :
    s.actFatalAck 1 = ({ s with fault := { s.fault with fatalUnacked := false } } : State).releaseUnit 200 .faultIndication := by
  unfold State.actFatalAck
  rw [State.clampNum_fatalAck]

theorem State.actFatalAck_spec (s : State) :
    (s.actFatalAck 1).fault = { s.fault with fatalUnacked := false }
    ∧ s.actFatalAck 1 = { s with fault := (s.actFatalAck 1).fault, res := (s.actFatalAck 1).res } := by
  have hrest := State.releaseUnit_rest { s with fault := { s.fault with fatalUnacked := false } } 200 .faultIndication
  rw [← State.actFatalAck_eq] at hrest
  refine ⟨congrArg State.fault hrest, ?_⟩
  rw [hrest]

theorem exec_healthRestoreTick_restores {dt : Nat} {s : State} (hpoints : (s.elapse dt).fault.transient ≠ 0)
    (hdue : (s.elapse dt).fault.lastRestore + 36 * sec ≤ (s.elapse dt).stamp) :
    exec (.healthRestoreTick dt) s = .next (({ s.elapse dt with fault := { (s.elapse dt).fault with
      transient := (s.elapse dt).fault.transient - 1, lastRestore := (s.elapse dt).fault.lastRestore + 36 * sec } } : State).healthChanged
        (s.elapse dt).health) := by
  refine congrArg Host.Outcome.next (if_neg ?_)
  rintro (h | h)
  · exact hpoints h
  · exact absurd hdue (Nat.not_le.mpr h)

theorem State.healthChanged_spec (s : State) (before : Nat) : (s.healthChanged before).fault = s.fault ∧ (s.healthChanged before).mem = s.mem := by
  unfold State.healthChanged
  split
  · exact ⟨rfl, rfl⟩
  · exact ⟨State.signal_fault _ _ _, State.signal_mem _ _ _⟩

theorem State.clampNum_admission (s : State) {v : Nat} (hv : v < 2) : s.clampNum 0x7103 1 v = (s, v) := by
  refine State.clampNum_near (r := ⟨0x7103, 1, 1, .u8, .rwp, .num 0, .enum [0, 1]⟩) (by decide +kernel) ?_
  interval_cases v <;> rfl

theorem State.setRwp_rest (s : State) (i k : Nat) (v : ObjVal) :
    s.setRwp i k v = { s with objs := (s.setRwp i k v).objs, efyth := (s.setRwp i k v).efyth } := rfl

theorem exec_admissionStateWrite_writes {dt v : Nat} {s : State} (hup : (s.elapse dt).up = true) (hv : v < 2) :
    exec (.admissionStateWrite dt v) s = .next ((s.elapse dt).setRwp 0x7103 1 (.num v)) := by
  refine congrArg Host.Outcome.next ((State.whenUp_up _ hup).trans ?_)
  unfold State.actAdmission
  rw [State.clampNum_admission _ hv]

/-! ### The self-test (R486) -/

theorem State.clampNum_selfTest (s : State) : s.clampNum 0x7104 1 1 = (s, 1) :=
  State.clampNum_near (r := ⟨0x7104, 1, 1, .u8, .cmd, .num 0, .spans [(1, 1)]⟩) (by decide +kernel) rfl

/-- The device as a self-test starts: the bays in P0, ordered delivery on. -/
def State.testStarted (s : State) : State :=
  let s := (s.setSelfTest 1).enterOrdered 4
  { s with bays := Assoc.mapVals Bay.inService (fun _ b => { b with power := 0, waking := false }) s.bays }

theorem exec_selfTestStart_starts {dt : Nat} {s : State} (hup : (s.elapse dt).up = true) (hidle : (s.elapse dt).fault.selfTest ≠ 1) :
    exec (.selfTestStart dt) s = .next (if (s.elapse dt).testRefused then (s.elapse dt).setSelfTest 4 else (s.elapse dt).testStarted.recoveryOn) := by
  refine congrArg Host.Outcome.next ((State.whenUp_up _ hup).trans ?_)
  unfold State.actSelfTest
  rw [State.clampNum_selfTest]
  dsimp only
  rw [if_neg hidle]
  split <;> rfl

theorem State.setSelfTest_spec (s : State) (v : Nat) :
    (s.setSelfTest v).fault.selfTest = v ∧ (s.setSelfTest v).cnt 0x7104 2 = v ∧ (s.setSelfTest v).mem = s.mem :=
  ⟨rfl, State.setCnt_cnt_self _ _ _ _, rfl⟩

theorem State.recoveryOn_mem (s : State) : s.recoveryOn.mem = s.mem := State.mem_of_standing s.recoveryOn_standing

theorem State.testStarted_spec {s : State} (hup : s.up = true) :
    s.testStarted.recoveryOn.mem = s.mem ∧ s.testStarted.recoveryOn.fault.selfTest = 1 ∧ s.testStarted.recoveryOn.cnt 0x7104 2 = 1
    ∧ s.testStarted.recoveryOn.intr.ordered = true := by
  have hon := State.Spares.recoveryOn (.refl s.testStarted)
  obtain ⟨htest, hcount, hmem⟩ := s.setSelfTest_spec 1
  rw [State.recoveryOn_mem, hon.selfTest, hon.counts 0x7104 2 (by decide), hon.ordered (State.up_phase hup)]
  exact ⟨hmem, htest, hcount, rfl⟩

/-- A bay that failed is out of service. -/
theorem State.bayOut_out (s : State) (b : Nat) : ((s.bayOut b).bay b).out = true := by
  unfold State.bayOut
  split
  next hout => exact hout
  next =>
    dsimp only
    generalize hset : State.setBay _ b _ = v
    have hv : (v.bay b).out = true := by rw [← hset, State.setBay_bay_self]
    exact (State.Spares.log (.deductPermanent (.zeroBanks (.keep (.refl v))))).out b hv

theorem State.foldl_bayOut (l : List Nat) (s : State) {b : Nat} (h : b ∈ l ∨ (s.bay b).out = true) :
    ((l.foldl State.bayOut s).bay b).out = true := by
  induction l generalizing s with
  | nil => exact h.resolve_left (List.not_mem_nil)
  | cons c l ih =>
    refine ih (s.bayOut c) ?_
    rcases h with hmem | hout
    · rcases List.mem_cons.mp hmem with rfl | hmem
      · exact .inr (s.bayOut_out _)
      · exact .inl hmem
    · exact .inr ((State.Spares.bayOut (.refl s)).out b hout)

/-- The failed bays and pages taken away, and health restored where the test passed. -/
def State.tested (s : State) (bays pages : List Nat) (ok : Bool) : State :=
  let s := (bays.filter (fun b => decide (b < 64))).foldl State.bayOut s
  let s := pages.foldl State.retireTested s
  if ok then ({ s with fault := { s.fault with transient := 0 } } : State).healthChanged s.health else s

/-- The result of a self-test as it is noted, and the end of ordered delivery where no dump runs. -/
def State.testEnded (s : State) (ok : Bool) (failed : List Byte) : State :=
  let s := s.setSelfTest (if ok then 2 else 3)
  let s := (s.setObj 0x7104 3 (.blob failed)).setCnt 0x7104 4 s.stamp
  if s.fault.dumping.isNone then s.leaveOrdered else s

theorem exec_selfTestComplete_ends {dt : Nat} {bays hbms sills paths pages : List Nat} {s : State} (hup : (s.elapse dt).up = true)
    (hruns : (s.elapse dt).fault.selfTest = 1) :
    exec (.selfTestComplete dt bays hbms sills paths pages) s = .next
      ((((s.elapse dt).tested bays pages (bays.isEmpty && hbms.isEmpty && paths.isEmpty)).testEnded (bays.isEmpty && hbms.isEmpty && paths.isEmpty)
        (leBytes 16 (failedBits bays hbms sills paths))).recoveryOff.signal 451 none) := by
  refine congrArg Host.Outcome.next ((State.whenUp_up _ hup).trans (if_neg ?_))
  rw [hruns]
  decide

theorem State.Spares.tested {s₀ s : State} (h : s₀.Spares s) {bays pages : List Nat} {ok : Bool} : s₀.Spares (s.tested bays pages ok) := by
  have hgone := State.Spares.foldl (f := State.retireTested) (fun _ _ h' => .retireTested h') (l := pages)
    (State.Spares.foldl (f := State.bayOut) (fun _ _ h' => .bayOut h') (l := bays.filter (fun b => decide (b < 64))) h)
  unfold State.tested
  exact .ite (.healthChanged hgone.keep) hgone

theorem State.tested_out (s : State) {bays pages : List Nat} {ok : Bool} {b : Nat} (hb : b ∈ bays) (h64 : b < 64) :
    ((s.tested bays pages ok).bay b).out = true := by
  have hout := State.foldl_bayOut (bays.filter (fun b => decide (b < 64))) s (.inl (List.mem_filter.mpr ⟨hb, decide_eq_true h64⟩))
  unfold State.tested
  dsimp only
  generalize (bays.filter (fun b => decide (b < 64))).foldl State.bayOut s = v at hout
  have hgone := State.Spares.foldl (f := State.retireTested) (fun _ _ h' => .retireTested h') (l := pages) (.refl v)
  exact (State.Spares.ite (.healthChanged hgone.keep) hgone).out b hout

theorem State.testEnded_spec (s : State) (ok : Bool) (failed : List Byte) :
    (s.testEnded ok failed).fault.selfTest = (if ok then 2 else 3) ∧ (∀ b, (s.testEnded ok failed).bay b = s.bay b)
    ∧ (s.fault.dumping = none → (s.testEnded ok failed).intr.ordered = false) ∧ (s.testEnded ok failed).boot = s.boot := by
  unfold State.testEnded
  generalize (if ok then 2 else 3) = result
  dsimp only
  obtain ⟨objs, hnoted⟩ : ∃ objs, ((s.setSelfTest result).setObj 0x7104 3 (.blob failed)).setCnt 0x7104 4 (s.setSelfTest result).stamp
      = { s with objs, fault := { s.fault with selfTest := result } } := ⟨_, rfl⟩
  rw [hnoted]
  split
  · exact ⟨rfl, fun _ => rfl, fun _ => rfl, rfl⟩
  next h => exact ⟨rfl, fun _ => rfl, fun hnone => absurd (congrArg Option.isNone hnone) h, rfl⟩

theorem State.selfTestEnd_spec {s : State} (hup : s.up = true) (bays pages : List Nat) (ok : Bool) (failed : List Byte) :
    let t := ((s.tested bays pages ok).testEnded ok failed).recoveryOff.signal 451 none
    t.fault.selfTest = (if ok then 2 else 3) ∧ (∀ b ∈ bays, b < 64 → (t.bay b).out = true)
    ∧ (s.fault.dumping = none → t.intr.ordered = false) ∧ (t.sourceOf 451).pend = true := by
  have htested := State.Spares.tested (.refl s) (bays := bays) (pages := pages) (ok := ok)
  have hout (b : Nat) (hb : b ∈ bays) (h64 : b < 64) := s.tested_out (pages := pages) (ok := ok) hb h64
  generalize s.tested bays pages ok = v at htested hout
  obtain ⟨htest, hbay, hordered, hboot⟩ := v.testEnded_spec ok failed
  generalize v.testEnded ok failed = w at htest hbay hordered hboot
  have hlast : w.Spares (w.recoveryOff.signal 451 none) := .signal (.recoveryOff (.refl w))
  have hrun : w.boot.phase = .running := by
    rw [hboot]
    exact htested.running (State.up_phase hup)
  refine ⟨hlast.selfTest.trans htest, fun b hb h64 => hlast.out b ?_, fun hnone => ?_, State.signal_pend _ none (by decide)⟩
  · rw [hbay]
    exact hout b hb h64
  · exact (hlast.ordered hrun).trans (hordered (htested.dumping.trans hnone))

/-- Settles O56: each command by what it leaves. -/
theorem dumpsAndTestsRun : Obligations.DumpsAndTestsRun := by
  rintro dt s _ rfl
  refine ⟨fun hup hnone => ?_, fun b hsome => ⟨_, exec_crashDumpSealed_ends hsome, (s.elapse dt).endDump_spec b⟩,
    fun n o hup hn ho => exec_crashDumpCopy_copies hup hn ho,
    fun hup => ⟨_, congrArg Host.Outcome.next (State.whenUp_up _ hup), (s.elapse dt).actFatalAck_spec⟩, fun hpoints hdue => ?_,
    fun v hup hv => ⟨_, exec_admissionStateWrite_writes hup hv, State.setRwp_num_self _ _ _ _, State.setRwp_rest _ _ _ _⟩, fun hup hidle => ?_,
    fun bays hbms sills paths pages hup hruns => ⟨_, exec_selfTestComplete_ends hup hruns, State.selfTestEnd_spec hup _ _ _ _⟩⟩
  · obtain ⟨hdump, hordered, hmem⟩ := State.startDump_spec hnone 0x0401
    exact ⟨_, exec_crashDumpStart_starts hup hnone, hdump, congrArg Option.isSome hdump, hordered, hmem⟩
  · refine ⟨_, exec_healthRestoreTick_restores hpoints hdue, ?_⟩
    rw [(State.healthChanged_spec _ _).1, (State.healthChanged_spec _ _).2]
    exact ⟨rfl, rfl, rfl⟩
  · refine ⟨_, exec_selfTestStart_starts hup hidle, ?_⟩
    cases hrefused : (s.elapse dt).testRefused with
    | true =>
      obtain ⟨htest, hcount, hmem⟩ := (s.elapse dt).setSelfTest_spec 4
      exact ⟨hmem, fun _ => ⟨htest, hcount⟩, nofun⟩
    | false =>
      obtain ⟨hmem, htest, hcount, hordered⟩ := State.testStarted_spec hup
      exact ⟨hmem, nofun, fun _ => ⟨htest, hcount, hordered⟩⟩

end Sys2Proof.Machine
end
